-- ==== Sys2Proof/Word.lean ====
section
/-!
DEFINITION. The words of the model: bytes, byte strings in little-endian order (00_scope.md R5), bit fields of a word.
Nothing here follows a rule that a test could show wrong but R5's byte order; every computed field meaning stands under Machine/.
-/
namespace Sys2Proof

/-- One byte. -/
abbrev Byte := BitVec 8

/-- A byte string: digests, keys, records (00_scope.md R5). -/
abbrev Bytes := List Byte

end Sys2Proof
end

