-- ==== Sys2Proof/Syntax.lean ====
section
/-!
DEFINITION. The commands of the block: one constructor of `Instr` per row of spec/opcode_table.json, with the row's operands.
Physical inputs (sensor readings, conditioned bits, self-test findings) are operands of the command that meets them.
-/
namespace Sys2Proof

/-- What the cells of a source group resolve, a word a resolve cycle of 200 MHz, bit i of cell i, oldest first (04_noise.md R84 to R86; log 42). -/
abbrev RawBits := List (BitVec 16)

/-- The halves of the logic die (00_scope.md "Names and numbering"). -/
inductive Half where
  | west
  | east
  deriving DecidableEq, Repr

/-- The dictionary paths and their codes 0, 1, 2; code 3 is the device itself (10_parameter_dictionary.md R275). -/
inductive Path where
  | bar0
  | i3c
  | vdm
  | device
  deriving DecidableEq, Repr

/-- The two MCTP paths (10_parameter_dictionary.md R280). -/
inductive Mctp where
  | i3c
  | vdm
  deriving DecidableEq, Repr

/-- A dictionary message body of MCTP (10_parameter_dictionary.md R281); the command row fixes COMMAND. -/
structure Request where
  /-- the vendor ID of the message is the device's (R280). -/
  vendorOk : Bool
  protocol : BitVec 8
  tag : BitVec 8
  status : BitVec 8
  index : BitVec 16
  sub : BitVec 8
  reserved7 : BitVec 8
  offset : BitVec 32
  length : BitVec 16
  reserved14 : BitVec 16
  data : Bytes
  deriving DecidableEq, Repr

/-- What the SRAM test of a start finds in a slice (08_memory_fabric_clocks.md R216). -/
structure SliceTest where
  slice : Fin 512
  /-- spare rows, of 64, and spare column groups, of 8, that its repair uses. -/
  rows : Fin 65
  groups : Fin 9
  /-- faulty 256 B lines beyond the spares, by their number in the slice. -/
  lines : List (Fin 32768)
  deriving DecidableEq, Repr

/-- What one start finds: straps, self-test, training and the margin measurement (13_reset_startup_recovery.md R347, R351, R352, R354). -/
structure StartInputs where
  /-- power was applied since the device last ran: a cold start (13 R344). -/
  powered : Bool
  /-- I3C_SA[1:0] at the deassertion of PERST# (16 R404). -/
  i3cSa : BitVec 2
  /-- the flash answers (16 R403). -/
  flashAnswers : Bool
  /-- the booted image's own self-test passes at step 3 (13 R350). -/
  imageSelfTest : Bool
  /-- the sealed identity state matches its digest (12 R320). -/
  identityOk : Bool
  /-- the rails came up in order (16 R400). -/
  railsInOrder : Bool
  /-- slot A's, slot B's bytes or boot key record have changed since they were written: check 1, 2, 3 or 7 fails (15 R383). -/
  damagedA : Bool
  damagedB : Bool
  /-- a half whose regulator acknowledges none of three voltage writes, at step 4 (false) or at step 8 (true) (16 R399). -/
  avsFail : Option (Half × Bool)
  /-- physical Spindles that mismatch, each with the stages in which it does: 0 product, 1 to 4 T1 to T4, 5 accumulation, 6 local store (13 R351). -/
  spindleFails : List (Nat × List (Fin 7))
  /-- physical Bobbins that fail (13 R352). -/
  bobbinFails : List Nat
  /-- Distaffs that fail (13 R352). -/
  distaffFails : List Nat
  /-- slices whose SRAM test found faults (08 R216). -/
  sram : List SliceTest
  /-- LPDDR5X controllers whose training failed, one bit each (08 R228). -/
  lpTrainFails : BitVec 8
  /-- V_dom in mV of each domain (rows) at 1/1, 3/4, 1/2, 1/4 (columns), in domain order (11 R305). -/
  vdom : List (List Nat)
  /-- the keep store cannot be read (13 R354 bit 8). -/
  keepFault : Bool
  /-- a FATAL record arises during steps 3 to 9 (13 R354 bit 10). -/
  fatalDuring : Bool
  /-- dictionary requests on the MCTP over I3C path from step 3 to step 9, each with the step, counted from 3, that it arrives in, and its COMMAND (10 R285). -/
  early : List (Fin 7 × Nat × Request)
  deriving DecidableEq, Repr

/-- What a faulting host-memory read served (09_host_interface.md R264). -/
inductive HostRead where
  /-- the submission entry of the ring's oldest unread entry. -/
  | entry (r : Fin 64)
  /-- the hank header read before the pick. -/
  | header (r : Fin 64)
  /-- the hank region read at the pick, by the starting Distaff. -/
  | region
  /-- a host buffer read by the word that Distaff `d` has issued with list index `w`. -/
  | buffer (d : Fin 8) (w : Nat)
  /-- a dictionary transfer of a BAR0 slot (10 R279). -/
  | transfer (slot : Fin 16)
  deriving DecidableEq, Repr

/-- Which noise wait reaches the hold timeout (04_noise.md R98 to R103). -/
inductive NoiseWait where
  /-- the start wait of an Open ANNEAL or SAMPLE (R100). -/
  | openStart
  /-- a hold of one half (R101). -/
  | hold (h : Half)
  /-- an Open exchange, at a settle point or by an EXCHANGE word on `d` (R98). -/
  | openExchange (d : Fin 8)
  /-- a device-drawn key wanted by Distaff `d` (R99). -/
  | deviceKey (d : Fin 8)
  /-- NOISE.RAW in its CONDITIONED form on `d` (R99). -/
  | raw (d : Fin 8)
  /-- a signature or decapsulation of the root of trust (R103). -/
  | rootOfTrust
  deriving DecidableEq, Repr

/-- Whose queued dictionary request is served next (10_parameter_dictionary.md R284). -/
inductive Requester where
  | slot (s : Fin 16)
  | mctp (p : Mctp)
  deriving DecidableEq, Repr

/-- The IEEE 1149.1 instructions (16_electrical_package.md R405). -/
inductive Tap where
  | bypass
  | idcode
  | samplePreload
  | extest
  | clamp
  | highz
  deriving DecidableEq, Repr

/-- An instruction of the test access port, and what is then shifted through TDI into the boundary-scan register, none where it is not shifted
(16_electrical_package.md R405). -/
structure TapScan where
  instruction : Tap
  tdi : Option (BitVec 29)
  deriving DecidableEq, Repr

/-- The memories whose words carry check bits (08_memory_fabric_clocks.md R214, R219, R226). -/
inductive Store where
  | sram
  | lpddr
  | spindle
  | bobbin
  | distaff
  deriving DecidableEq, Repr

/-- An operand, and whether the flash programs what the command has the device write there (15_image_update.md R384). -/
structure Flashed (α : Type) where
  on : α
  ok : Bool
  deriving DecidableEq, Repr

/-- An MSI-X table entry as it stands when it is unmasked: message address and data; the entries masked since, and the function's MSI-X Enable bit
(09_host_interface.md R249; log 6). -/
structure MsixEntry where
  address : BitVec 64
  data : BitVec 32
  masked : List (Fin 2048)
  enable : Bool
  deriving DecidableEq, Repr

/-- SR-IOV Control beside VF Enable: ARI Capable Hierarchy, and NumVFs (09_host_interface.md R244; log 6). -/
structure VfControl where
  ari : Bool
  numVfs : Fin 16
  deriving DecidableEq, Repr

/-- Errors in memory words (08_memory_fabric_clocks.md R214, R219, R226; log 43). -/
structure WordErrors where
  /-- words of a scrub access that hold an error, and whether it is uncorrectable: slice k, word j as 8k + j. -/
  struck : List (Fin 64 × Bool)
  /-- errors that have struck words elsewhere and wait for a read: memory, word number, uncorrectable. -/
  fresh : List (Store × Nat × Bool)
  deriving DecidableEq, Repr

/-- What training and the host's enumeration leave when a link is up (09_host_interface.md R241, R246). -/
structure PcieSetup where
  /-- the rate code less one. -/
  speed : Fin 5
  /-- Max Payload Size 128, 256 or 512 B: its log2 less 7. -/
  maxPayload : Fin 3
  /-- Max Read Request Size 128 to 4,096 B: its log2 less 7. -/
  maxRead : Fin 6
  ecrcGenerate : Bool
  ecrcCheck : Bool
  /-- the PF's power state is D3hot. -/
  d3hot : Bool
  /-- base addresses of the PF's BAR0, BAR2 and BAR4 and of the VFs' BAR0 and BAR4. -/
  bars : List (BitVec 64)
  deriving DecidableEq, Repr

/-- The commands. Each docstring names the row of spec/opcode_table.json. -/
inductive Instr where
  /-- COLD_POWER_ON_START. -/
  | coldPowerOnStart (i : StartInputs)
  /-- PERST_ASSERT. -/
  | perstAssert
  /-- HOT_RESET. -/
  | hotReset (i : StartInputs)
  /-- FUNCTION_LEVEL_RESET of one function. -/
  | functionLevelReset (fn : Fin 16)
  /-- SUPPLY_SAG: CAUSE bits of 11 R314 and whether VKEEP carries the save to its header. -/
  | supplySag (cause : BitVec 4) (saved : Bool)
  /-- THERMTRIP: the sensor and its reading in °C. -/
  | thermtrip (sensor : Fin 12) (celsius : Int)
  /-- FATAL_STOP: CAUSE 0 to 4 of 13 R410, the half, the Distaff, the address, and whether the save completes. -/
  | fatalStop (cause : Fin 5) (half : Option Half) (distaff : Fin 8) (address : BitVec 64) (saved : Bool)
  /-- AVS_WRITE_TIMEOUT of a voltage write to a half's rail. -/
  | avsWriteTimeout (h : Half)
  /-- LINK_UP: log2 of the lanes (0, 2, 3, 4), the rate, and what enumeration sets. -/
  | linkUp (log2Width : Fin 5) (setup : PcieSetup)
  /-- ENABLE_RING: a RING_CTRL write with ENABLE set. -/
  | enableRing (fn : Fin 16) (r : Fin 64) (ctrl : BitVec 32)
  /-- DISABLE_RING: a RING_CTRL write with ENABLE clear. -/
  | disableRing (fn : Fin 16) (r : Fin 64) (ctrl : BitVec 32)
  /-- SQ_DOORBELL. -/
  | sqDoorbell (fn : Fin 16) (r : Fin 64) (d : BitVec 32)
  /-- CQ_HEAD. -/
  | cqHead (fn : Fin 16) (r : Fin 64) (h : BitVec 32)
  /-- ABORT: `wide` for an aligned 64-bit write. -/
  | abort (fn : Fin 16) (r : Fin 64) (wide : Bool) (v : BitVec 64)
  /-- REGISTER_WRITE: a BAR0 write of 4 or 8 bytes at an offset. -/
  | registerWrite (fn : Fin 16) (offset : BitVec 20) (wide : Bool) (v : BitVec 64)
  /-- BAR2_ACCESS: a write of `data`, or a read of `len` bytes when `data` is none. -/
  | bar2Access (offset : BitVec 41) (len : Nat) (data : Option Bytes)
  /-- MSIX_UNMASK of a table entry. -/
  | msixUnmask (fn : Fin 16) (e : Fin 2048) (entry : MsixEntry)
  /-- SUBMISSION_ENTRY_READ of the ring's oldest unread entry. -/
  | submissionEntryRead (r : Fin 64)
  /-- HOST_READ_FAULT: what was read, KIND 0 to 3 of 08 R217, address and length. -/
  | hostReadFault (what : HostRead) (kind : Fin 4) (address : BitVec 64) (length : BitVec 32)
  /-- HANK_PICK. -/
  | hankPick
  /-- HANK_START. -/
  | hankStart
  /-- UNIT_ACQUIRE for the hank of a Distaff. -/
  | unitAcquire (d : Fin 8)
  /-- WORD_COMPLETE of the issued word with list index `w`. -/
  | wordComplete (d : Fin 8) (w : Nat)
  /-- HANK_FINISH of the hank of a Distaff, or of waiting completions of a ring. -/
  | hankFinish (r : Fin 64) (d : Fin 8)
  /-- BARRIER. -/
  | barrier (d : Fin 8)
  /-- WAIT_SEQ. -/
  | waitSeq (d : Fin 8)
  /-- WAIT_SEQ_TIMEOUT. -/
  | waitSeqTimeout (d : Fin 8)
  /-- SIGNAL. -/
  | signal (d : Fin 8)
  /-- LEDGER_MARK. -/
  | ledgerMark (d : Fin 8)
  /-- DEBUG_TRIGGER. -/
  | debugTrigger (d : Fin 8)
  /-- LOAD. -/
  | load (d : Fin 8)
  /-- STORE. -/
  | store (d : Fin 8)
  /-- COPY. -/
  | copy (d : Fin 8)
  /-- GATHER. -/
  | gather (d : Fin 8)
  /-- STATE_SAVE. -/
  | stateSave (d : Fin 8)
  /-- STATE_RESTORE. -/
  | stateRestore (d : Fin 8)
  /-- MAC_ACC. -/
  | macAcc (d : Fin 8)
  /-- MAC_END. -/
  | macEnd (d : Fin 8)
  /-- SPLIT_K. -/
  | splitK (d : Fin 8)
  /-- ACC_OPEN. -/
  | accOpen (d : Fin 8)
  /-- ACC_CLOSE. -/
  | accClose (d : Fin 8)
  /-- ACC_PRELOAD. -/
  | accPreload (d : Fin 8)
  /-- ACC_PAIR. -/
  | accPair (d : Fin 8)
  /-- DRAIN_PLAIN. -/
  | drainPlain (d : Fin 8)
  /-- DRAIN_MAX. -/
  | drainMax (d : Fin 8)
  /-- DRAIN_EXPSUM. -/
  | drainExpsum (d : Fin 8)
  /-- DRAIN_SUM. -/
  | drainSum (d : Fin 8)
  /-- DRAIN_READOUT of the oldest drain a Distaff has issued. -/
  | drainReadout (d : Fin 8)
  /-- DEBUG_PEEK. -/
  | debugPeek (d : Fin 8)
  /-- VEC_ADD. -/
  | vecAdd (d : Fin 8)
  /-- VEC_SUB. -/
  | vecSub (d : Fin 8)
  /-- VEC_MUL. -/
  | vecMul (d : Fin 8)
  /-- VEC_FMA. -/
  | vecFma (d : Fin 8)
  /-- VEC_DIV. -/
  | vecDiv (d : Fin 8)
  /-- VEC_SQRT. -/
  | vecSqrt (d : Fin 8)
  /-- VEC_MAX. -/
  | vecMax (d : Fin 8)
  /-- VEC_MIN. -/
  | vecMin (d : Fin 8)
  /-- VEC_EXP. -/
  | vecExp (d : Fin 8)
  /-- VEC_CVT. -/
  | vecCvt (d : Fin 8)
  /-- VEC_RSUM. -/
  | vecRsum (d : Fin 8)
  /-- VEC_RMAX. -/
  | vecRmax (d : Fin 8)
  /-- COUPLE_LOAD. -/
  | coupleLoad (d : Fin 8)
  /-- STATE_INIT. -/
  | stateInit (d : Fin 8)
  /-- SCHED_LOAD. -/
  | schedLoad (d : Fin 8)
  /-- ANNEAL. -/
  | anneal (d : Fin 8)
  /-- SAMPLE. -/
  | sample (d : Fin 8)
  /-- EXCHANGE. -/
  | exchange (d : Fin 8)
  /-- ENERGY. -/
  | energy (d : Fin 8)
  /-- NOISE_SEED. -/
  | noiseSeed (d : Fin 8)
  /-- NOISE_RAW, with what the named group's cells resolved. -/
  | noiseRaw (d : Fin 8) (raw : RawBits)
  /-- OPEN_NOISE_START_WAIT_END. -/
  | openNoiseStartWaitEnd
  /-- OPEN_EVALUATION: Spindle, cell, accumulator slot and the cycle of the decision. -/
  | openEvaluation (l : Fin 128) (cell : Fin 1024) (slot : Fin 8) (cycle : Nat)
  /-- ARBITER_WINDOW of a half's commit arbiter. -/
  | arbiterWindow (h : Half)
  /-- FLIP_TOKEN_APPLY: a Spindle applies the next token of an arbiter. -/
  | flipTokenApply (l : Fin 128) (h : Half)
  /-- SPILL_COLUMN_STREAM of the oldest unbuffered commit of an arbiter. -/
  | spillColumnStream (h : Half)
  /-- SETTLE_POINT. -/
  | settlePoint
  /-- CF_POSITION_RESOLVE of a ply. -/
  | cfPositionResolve (ply : Fin 64)
  /-- CF_WINDOW_RETIRE of a ply. -/
  | cfWindowRetire (ply : Fin 64)
  /-- RESTIR: a Spindle's lane, or the exchange lane, and what the cells of its stir register's source group have resolved since. -/
  | restir (l : Fin 128) (lane : Fin 128) (exchangeLane : Bool) (raw : RawBits)
  /-- HEALTH_WINDOW_END: what the group's cells have resolved since the cycle in which the window before ended, and the conditioned bits of that cycle that
  followed its end. -/
  | healthWindowEnd (g : Fin 137) (raw : RawBits) (lead : List Bool)
  /-- NOISE_TIMEOUT. -/
  | noiseTimeout (w : NoiseWait)
  /-- ROT_RESEED, with what the cells of GR have resolved. -/
  | rotReseed (raw : RawBits)
  /-- ROT_BLOCKED. -/
  | rotBlocked
  /-- CONDITIONING_WRITE. -/
  | conditioningWrite (p : Path) (g : Fin 137) (v : BitVec 8)
  /-- PERMIT_GRANT. -/
  | permitGrant
  /-- PERMIT_TIMEOUT of the request at the head of the queue. -/
  | permitTimeout
  /-- POWER_SAMPLE: P, P_W, P_E in W and, at a 100 µs point, Tj_W and Tj_E in 0.01 °C. -/
  | powerSample (p pw pe : Nat) (tj : Option (Int × Int))
  /-- RATIO_EVALUATION. -/
  | ratioEvaluation
  /-- RATIO_STEP_UP of a half whose rail has settled. -/
  | ratioStepUp (h : Half)
  /-- MARGIN_REPLAN: a write to 0x6100.01. -/
  | marginReplan (p : Path) (v : BitVec 8)
  /-- REPLAN_MEASURE with the V_dom rows measured. -/
  | replanMeasure (vdom : List (List Nat))
  /-- UNIT_FAULT: a Spindle or a Bobbin, its physical number, the stage 0 to 6 of 13 R410. -/
  | unitFault (bobbin : Bool) (unit : Fin 136) (stage : Fin 7)
  /-- SHAPE_REMAP of a half at its boundary. -/
  | shapeRemap (h : Half)
  /-- SRAM_SCRUB_ACCESS of a slice group. -/
  | sramScrubAccess (sg : Fin 64) (errors : WordErrors)
  /-- LP_PATROL_SCRUB of the 64-bit word at an LPDDR5X address, with the error it holds and whether it is uncorrectable. -/
  | lpPatrolScrub (address : BitVec 40) (struck : Option Bool)
  /-- DICT_WRITE. -/
  | dictWrite (p : Path) (index : BitVec 16) (sub : BitVec 8) (v : BitVec 64)
  /-- SELECT_WRITE. -/
  | selectWrite (slot : Fin 16) (v : BitVec 32)
  /-- VALUE_READ: `wide` for a 64-bit read, and whether the flash programs what a write before it asks. -/
  | valueRead (slot : Fin 16) (wide : Flashed Bool)
  /-- VALUE_WRITE: `wide` for a 64-bit write. -/
  | valueWrite (slot : Fin 16) (wide : Bool) (v : BitVec 64)
  /-- STATUS_READ, and whether the flash programs what a write before it asks. -/
  | statusRead (slot : Flashed (Fin 16))
  /-- XFER_ENTRY_TO_HOST of LEN bytes. -/
  | xferEntryToHost (slot : Fin 16) (len : BitVec 13)
  /-- XFER_HOST_TO_ENTRY of LEN bytes. -/
  | xferHostToEntry (slot : Fin 16) (len : BitVec 13)
  /-- READ. -/
  | read (p : Mctp) (q : Request)
  /-- WRITE. -/
  | write (p : Mctp) (q : Request)
  /-- READ_BYTES. -/
  | readBytes (p : Mctp) (q : Request)
  /-- WRITE_BYTES. -/
  | writeBytes (p : Mctp) (q : Request)
  /-- GET_INFO. -/
  | getInfo (p : Mctp) (q : Request)
  /-- SET_ENDPOINT_ID. -/
  | setEndpointId (p : Mctp) (eid : BitVec 8)
  /-- GET_ENDPOINT_ID. -/
  | getEndpointId (p : Mctp)
  /-- GET_MCTP_VERSION_SUPPORT. -/
  | getMctpVersionSupport (p : Mctp)
  /-- GET_MESSAGE_TYPE_SUPPORT. -/
  | getMessageTypeSupport (p : Mctp)
  /-- GET_VENDOR_DEFINED_MSG_SUPPORT. -/
  | getVendorDefinedMsgSupport (p : Mctp)
  /-- SETTINGS_FLUSH. -/
  | settingsFlush (p : Path) (v : BitVec 8)
  /-- SETTINGS_FLUSH_TIMER. -/
  | settingsFlushTimer
  /-- SETTINGS_RESTORE. -/
  | settingsRestore (p : Path) (v : BitVec 32)
  /-- POWER_BUDGET_WRITE: POWER_BUDGET, or THERMAL_LIMIT when `thermal`. -/
  | powerBudgetWrite (p : Path) (thermal : Bool) (v : BitVec 16)
  /-- DEBUG_ENABLE_WRITE. -/
  | debugEnableWrite (p : Path) (v : BitVec 8)
  /-- TEST_SHAPE_WRITE. -/
  | testShapeWrite (p : Path) (v : BitVec 8)
  /-- ATTEST_REQUEST. -/
  | attestRequest (p : Path) (v : BitVec 8)
  /-- SEAL_RING. -/
  | sealRing (p : Path) (v : BitVec 8)
  /-- SIGNATURE_COMPLETE of the request at the head of the signing queue. -/
  | signatureComplete
  /-- CKPT_KEY_WRITE. -/
  | ckptKeyWrite (p : Path) (fn : Fin 16) (key : Bytes)
  /-- FREEZE of class E, or T when `classT`. -/
  | freeze (p : Path) (classT : Bool)
  /-- THAW of class E, or T when `classT`. -/
  | thaw (p : Path) (classT : Bool)
  /-- FREEZE_LIMIT_EXPIRY. -/
  | freezeLimitExpiry (classT : Bool)
  /-- MIRROR_CLEAR. -/
  | mirrorClear (p : Path) (v : BitVec 32)
  /-- EVENT_RECORD_ARRIVE: the next record on VC1. -/
  | eventRecordArrive
  /-- REGISTER_MATCH_CAPTURE: the register of SELECTOR[0] of set `k` as it stands. -/
  | registerMatchCapture (k : Fin 16) (register : BitVec 64)
  /-- CAPTURE_END of set `k`. -/
  | captureEnd (k : Fin 16)
  /-- BEGIN. -/
  | begin (p : Path)
  /-- ERASE_DONE: whether the erase succeeded. -/
  | eraseDone (ok : Bool)
  /-- IMAGE_BLOCK: offset, bytes, and whether the program and read-back succeeded. -/
  | imageBlock (p : Path) (offset : BitVec 32) (data : Bytes) (ok : Bool)
  /-- VERIFY. -/
  | verify (p : Path)
  /-- CANCEL. -/
  | cancel (p : Path)
  /-- ARM, and whether the flash programs its records. -/
  | arm (p : Flashed Path)
  /-- CONFIRM. -/
  | confirm (p : Path)
  /-- DISARM. -/
  | disarm (p : Path)
  /-- CF_SPECULATIVE_EVALUATION of a ply's visit position. -/
  | cfSpeculativeEvaluation (ply : Fin 64) (position : Nat)
  /-- ARBITER_POINTER_MOVE. -/
  | arbiterPointerMove
  /-- DICT_REQUEST_SERVICE, and whether the flash programs what the request asks. -/
  | dictRequestService (q : Flashed Requester)
  /-- SETTINGS_REWRITE_DONE. -/
  | settingsRewriteDone
  /-- STAGE_VERIFY_DONE. -/
  | stageVerifyDone
  /-- VF_ENABLE: a write of SR-IOV Control. -/
  | vfEnable (enable : Bool) (control : VfControl)
  /-- SETDASA: the dynamic address assigned. -/
  | setdasa (address : BitVec 7)
  /-- ENTDAA: the dynamic address assigned. -/
  | entdaa (address : BitVec 7)
  /-- RSTDAA. -/
  | rstdaa
  /-- TAP_INSTRUCTION. -/
  | tapInstruction (t : TapScan)
  /-- TRST_DEASSERTION. -/
  | trstDeassertion (i : StartInputs)
  /-- VDD_IO_LOSS. -/
  | vddIoLoss
  deriving DecidableEq, Repr

end Sys2Proof
end

