-- ==== Sys2Proof/Config.lean ====
section
/-!
DEFINITION. What an image or a part fixes and the manual does not (10_parameter_dictionary.md R268, 12 R319, 15 R380), and the free values.
Every opaque constant is uninterpreted: no proof can see its value.
-/
namespace Sys2Proof.Config

/-- The k-th free value of a run: a time, a measurement or undefined data that the manual leaves open (log 2). -/
opaque freeValue : Nat → BitVec 64

/-- Byte k of SERIAL 0x1000.10, less 0x20, mod 95 (10 R269, R291). -/
opaque serialByte : Nat → Byte

/-- The PCI vendor ID of the device's configuration space (10 R280). -/
opaque vendorId : BitVec 16

/-- IMAGE_VERSION of the image the part leaves the factory with (15 R380). -/
opaque factoryVersion : BitVec 32

/-- Minor schema version of that image; the major version is 1 (10 R268). -/
opaque factorySchemaMinor : BitVec 16

/-- Byte k of SHAKE256 of the signed body of that image (15 R395 SLOT_INFO). -/
opaque factoryBodyByte : Nat → Byte

/-- Byte k of the content key K of that image (15 R381). -/
opaque factoryKeyByte : Nat → Byte

/-- Byte k of the digest fused in image key slot j (15 R382). -/
opaque imageKeyByte : Nat → Nat → Byte

/-- Byte k of the device certificate at 0x1000.20 (12 R319). -/
opaque certificateByte : Nat → Byte

/-- Byte k of the Falcon-1024 signature of a message, the i-th signature of the run (12 R318; log 11). -/
opaque signatureByte : Nat → Bytes → Nat → Byte

/-- Falcon-1024 verification: public key, message, signature (15 R383; log 11). -/
opaque falconVerify : Bytes → Bytes → Bytes → Bool

/-- Byte k of ML-KEM-1024.Decaps(dk, ciphertext) (15 R381; log 11). -/
opaque decapsByte : Bytes → Nat → Byte

/-- Byte k of the checkpoint key the root of trust derives from its fuses (12 R336). -/
opaque fuseKeyByte : Nat → Byte

/-- TRIGGER_CATALOGUE 0x7800.30 (14 R374): its records beside LAST_TOKEN, and UKIND, WIDTH, REG and name byte j of record i. -/
opaque catalogueCount : Nat
opaque catalogueKind : Nat → Nat
opaque catalogueWidth : Nat → Nat
opaque catalogueReg : Nat → BitVec 20
opaque catalogueName : Nat → Nat → Byte

/-- The I3C provisional ID, 48 bits, and the characteristics registers BCR and DCR (16 R404). -/
opaque i3cPid : BitVec 48
opaque i3cBcr : BitVec 8
opaque i3cDcr : BitVec 8

/-- Byte `offset` of the sections of the i-th checkpoint written, whose layout the manual does not give (12 R334; log 13). -/
opaque checkpointByte : Nat → Nat → Byte

/-- Sign of the maximum and minimum of two zeros of opposite sign, by the sign of the first (05 R140, 07 R200; log 15). -/
opaque zeroMaxNegative : Bool → Bool
opaque zeroMinNegative : Bool → Bool

/-- Entries that no table of the manual lists and that a settings migration from the image of one version and schema to that of another carries (0), defaults
(1) or drops (2) (15 R392; log 12). -/
opaque migrationExtra : BitVec 32 → BitVec 32 → BitVec 32 → BitVec 32 → Nat → Nat

/-- The version bytes of an MCTP version entry (10 R280; log 7). -/
opaque mctpVersion : BitVec 32

/-- The vendor command set field of Get Vendor Defined Message Support (10 R280; log 7). -/
opaque mctpCommandSet : BitVec 16

/-- T_fx and β_fx of a temperature, and SWEEPS, of a schedule step that R43 refuses and that was written after SCHED.LOAD had read it (02 R43; log 22). -/
opaque badTfx : BitVec 32 → Nat
opaque badBfx : BitVec 32 → Nat
opaque badSweeps : BitVec 32 → Nat

end Sys2Proof.Config
end

