-- ==== Sys2Proof/Machine/State.lean ====
section
/-!
DEFINITION. The state of the OLF-9610-L640: everything the spec gives the device, as plain data, and the state right after reset.
Each field's docstring says its width, the rule of spec/ that names it and its reset value.
-/
namespace Sys2Proof.Machine

/-- Byte memory as (address, byte) pairs, addresses strictly rising, no listed byte equal to what an unlisted address reads as. -/
abbrev Mem := List Host.Cell

/-- A sparse table by number, in the same canonical form. -/
abbrev Sparse (α : Type) := List (Nat × α)

/-- A value for each half. -/
structure Halves (α : Type) where
  w : α
  e : α
  deriving DecidableEq, Repr

/-- The value of one half. -/
def Halves.get {α : Type} (x : Halves α) : Half → α
  | .west => x.w
  | .east => x.e

/-- Replaces the value of one half. -/
def Halves.set {α : Type} (x : Halves α) (h : Half) (v : α) : Halves α :=
  match h with
  | .west => ⟨v, x.e⟩
  | .east => ⟨x.w, v⟩

/-- A class E record as it is made, before RSEQ and stamp (14 R365). -/
structure Notice where
  type : Nat
  severity : Nat
  hank : Bool
  source : Nat
  sourceSeq : Nat
  payload : Bytes
  deriving DecidableEq, Repr

/-- A stored record with its header fields (14 R365, R376). -/
structure Record where
  note : Notice
  mirrored : Bool
  rseq : Nat
  stamp : BitVec 64
  boot : BitVec 32
  deriving DecidableEq, Repr

/-- Rails, pins and the phase of the device (13 R344 to R347, 16 R396 to R401). -/
inductive Phase where
  /-- PERST# asserted, or start-up not yet run. -/
  | reset
  /-- start-up has ended; START_STATE tells how (13 R353). -/
  | ready
  /-- halted by a sag save (11 R313). -/
  | haltedSag
  /-- halted by a fatal stop (13 R358). -/
  | haltedFatal
  deriving DecidableEq, Repr

structure Board where
  /-- the phase of the device; 13 R344 to R347; reset: PERST# asserted. -/
  phase : Phase
  /-- PERST#, true when asserted, 1 bit; 16 R396; reset true. -/
  perst : Bool
  /-- power was lost since the last start, 1 bit: the next start is cold; 13 R344; reset true. -/
  coldNext : Bool
  /-- sag detection is off until PERST# is deasserted, 1 bit: a save was taken while PERST# was asserted; 13 R346; reset false. -/
  sagOff : Bool
  /-- ALERT#, true when asserted by a save, 1 bit; 11 R304; reset false. -/
  alertSave : Bool
  /-- THERMTRIP#, true when asserted, latched until VDD_IO is removed, 1 bit; 16 R407; reset false. -/
  thermtrip : Bool
  /-- LPDDR5X packages in self-refresh, 1 bit; 08 R229; reset false. -/
  selfRefresh : Bool
  /-- EXTEST, CLAMP or HIGHZ was used while PERST# was deasserted, 1 bit; 16 R405; reset false. -/
  tapMisused : Bool
  /-- the instruction in the test access port; 16 R405; reset IDCODE (PRESUMED, log 29: IEEE 1149.1). -/
  tap : Tap
  /-- boundary-scan drives the pins, 1 bit; 16 R405; reset false. -/
  tapDrives : Bool
  /-- the boundary-scan register, one cell for each of the 29 signals beside the PCIe pairs; 16 R405, R409; reset 0 (DESIGN CHOICE, log 3). -/
  boundary : BitVec 29
  /-- the output latches of the boundary-scan cells, which SAMPLE/PRELOAD and EXTEST load and EXTEST and CLAMP drive; 16 R405; reset 0 (DESIGN CHOICE, log 3). -/
  boundaryOut : BitVec 29
  /-- I3C_SA[1:0] as sampled, 2 bits; 16 R404; reset 0 (DESIGN CHOICE, log 3: sampled at every start). -/
  i3cSa : BitVec 2
  /-- the I3C dynamic address, 7 bits, none until assigned; 16 R404; reset none. -/
  i3cDynamic : Option (BitVec 7)
  /-- PCIe lanes trained, 0 before link-up; 09 R242; reset 0. -/
  linkWidth : Nat
  /-- PCIe rate code 1 to 5, 0 before link-up; 09 R242; reset 0. -/
  linkSpeed : Nat
  deriving DecidableEq, Repr

/-- One PCIe function: MSI-X of BAR4 (09 R244, R249). -/
structure Function where
  /-- MSI-X enabled, 1 bit; 09 R249; reset false (PRESUMED, log 6: the PCIe reset value). -/
  msixEnabled : Bool
  /-- message address [63:0] and data [95:64] of each table entry; 09 R249; reset 0 (PRESUMED, log 6). -/
  table : Sparse (BitVec 96)
  /-- MSI-X entries that are not masked, 2,048 bits as a list of numbers; 09 R249; reset none, every entry masked (PRESUMED, log 6). -/
  unmasked : List Nat
  /-- pending MSI-X bits, 2,048 bits as a list of numbers; 09 R249; reset none. -/
  pending : List Nat
  deriving DecidableEq, Repr

/-- The configuration space that the host's enumeration sets (09 R241, R246). -/
structure Pcie where
  /-- Max Payload Size in bytes; 09 R241; reset 128 (PRESUMED, log 6: the PCIe reset value). -/
  maxPayload : Nat
  /-- Max Read Request Size in bytes; 09 R241; reset 512 (PRESUMED, log 6). -/
  maxRead : Nat
  /-- ECRC generation is enabled, 1 bit; 09 R241; reset false. -/
  ecrcGenerate : Bool
  /-- ECRC checking is enabled, 1 bit; 09 R241; reset false. -/
  ecrcCheck : Bool
  /-- the PF is in D3hot, 1 bit; 09 R241; reset false, D0 (PRESUMED, log 6). -/
  d3hot : Bool
  /-- AER's uncorrectable error status of the PF, 32 bits; 09 R241; reset 0 (PRESUMED, log 6). -/
  aer : BitVec 32
  /-- base addresses: BAR0, BAR2 and BAR4 of the PF, BAR0 and BAR4 of the VFs, 64 bits each; 09 R246; reset 0 (PRESUMED, log 6). -/
  bars : List (BitVec 64)
  deriving DecidableEq, Repr

/-- A submission entry as read (09 R252). -/
structure Entry where
  hankAddr : Nat
  hankLen : Nat
  irqSel : Nat
  tag : BitVec 64
  deriving DecidableEq, Repr

/-- A draw record of a ledger entry (12 R326). -/
structure DrawRec where
  word : Nat
  key : Nat
  classes : Nat
  stream : Nat
  first : Nat
  last : Nat
  plies : Nat
  deriving DecidableEq, Repr

/-- What a completion record and ledger entry carry of a finished hank (09 R257, 12 R325, R326). -/
structure Ending where
  status : Nat
  cause : Nat
  distaff : Nat
  flags : Nat
  holdCount : Nat
  lagWE : Nat
  lagEW : Nat
  epoch : Nat
  evRef : Nat
  runCycles : BitVec 64
  domain : Nat
  permitWait : BitVec 32
  mode : Nat
  cfLevel : Nat
  ledgerFlags : Nat
  shapeW : Nat
  shapeE : Nat
  hankDigest : Bytes
  ckptGen : Nat
  restoredGen : Nat
  results : List (Nat × Nat × Nat × Bytes)
  marks : List (Nat × Nat × Bytes)
  keys : List Bytes
  draws : List DrawRec
  /-- host-memory outputs, as place and length in host memory; 09 R265. -/
  hostOuts : List (Nat × Nat)
  noIrq : Bool
  /-- no completion record and no message: aborted by a function-level reset (09 R265). -/
  silent : Bool
  deriving DecidableEq, Repr

/-- How far an accepted hank has come (09 R252 to R260). -/
inductive HankStage where
  | accepted
  | waiting
  | picked
  | running
  | finished
  deriving DecidableEq, Repr

/-- An accepted hank whose completion record is not written (09 R254 to R259). -/
structure Hank where
  seq : Nat
  stage : HankStage
  entry : Entry
  ceiling : Nat
  noIrq : Bool
  /-- picked at any time: HOLD_LIMIT counts from it (09 R260). -/
  wasPicked : Bool
  /-- the largest SIGNAL value written so far; 07 R188, R189. -/
  signalled : Nat
  /-- cause of an abort that came while it waited for a Distaff (09 R262, R265). -/
  abortWith : Option Nat
  ending : Option Ending
  deriving DecidableEq, Repr

structure Ring where
  /-- SQ_BASE, 64 bits; 09 R250; reset 0. -/
  sqBase : BitVec 64
  /-- CQ_BASE, 64 bits; 09 R250; reset 0. -/
  cqBase : BitVec 64
  /-- RING_STATUS.ENABLED and RING_CTRL.ENABLE, 1 bit; 09 R250; reset 0. -/
  enabled : Bool
  /-- RING_CTRL.LOG2_DEPTH, 4 bits; 09 R250; reset 4. -/
  log2Depth : Nat
  /-- RING_STATUS.FAULT, 1 bit; 09 R250, R264; reset 0. -/
  fault : Bool
  /-- SQ_ACCEPTED, 32 bits; 09 R250; reset 0. -/
  sqAccepted : BitVec 32
  /-- CQ_TAIL, 32 bits; 09 R250; reset 0. -/
  cqTail : BitVec 32
  /-- CQ_HEAD, 32 bits; 09 R250; reset 0. -/
  cqHead : BitVec 32
  /-- IGNORED.BAD_HEAD, 16 bits saturating; 09 R250, R255; reset 0. -/
  badHead : Nat
  /-- IGNORED.BAD_DOORBELL, 16 bits saturating; 09 R250, R254; reset 0. -/
  badDoorbell : Nat
  /-- SEQ_BASE, 48 bits; 09 R250; reset 0. -/
  seqBase : Nat
  /-- next sequence number, 48 bits; 09 R256; reset 1. -/
  nextSeq : Nat
  /-- accepted hanks without a completion record, oldest first; 09 R254, R259; reset none. -/
  hanks : List Hank
  /-- advance d_k; 09 R260; reset 0. -/
  advance : Nat
  /-- allowance, non-zero only under the pointer; 09 R260; reset 0. -/
  allowance : Nat
  /-- RING_PROGRESS.SEQ, 48 bits; 07 R188; reset 0. -/
  progSeq : Nat
  /-- RING_PROGRESS.VALUE, 16 bits; 07 R188; reset 0. -/
  progVal : Nat
  /-- statuses of completed hanks, newest first, for REQUIRE_OK; 07 R189; reset none. -/
  done : List (Nat × Nat)
  /-- ledger CHAIN_HEAD, 32 B; 12 R323; reset zero (DESIGN CHOICE, log 3: set at every start). -/
  chainHead : Bytes
  /-- ledger CHAIN_INDEX, 64 bits; 12 R323; reset 0. -/
  chainIndex : Nat
  /-- ledger GENESIS, 32 B; 12 R323; reset zero (DESIGN CHOICE, log 3: set at every start). -/
  genesis : Bytes
  /-- sequence number of the last ledger entry, 48 bits; 12 R322; reset 0. -/
  lastLedgerSeq : Nat
  /-- LAST_SEAL, up to 1,472 B; 12 R329; reset empty. -/
  lastSeal : Bytes
  /-- SEAL_COUNT, 32 bits; 12 R329; reset 0. -/
  sealCount : Nat
  /-- entry count at the last seal; 11 R314; reset 0. -/
  entriesAtSeal : Nat
  /-- an automatic seal waits after a failure; 12 R330; reset false. -/
  autoSealHeld : Bool
  /-- first CHAIN_INDEX not written while a function-level reset of the PF ends the ring's hanks; 12 R328; reset none. -/
  gap : Option Nat
  deriving DecidableEq, Repr

structure Dispatcher where
  /-- the dispatch pointer, a ring number; 09 R260; reset 0. -/
  pointer : Nat
  /-- the picked hank that waits for a Distaff: ring and sequence number; 09 R260; reset none. -/
  picked : Option (Nat × Nat)
  /-- picks made so far, which order acquisition; 07 R183; reset 0. -/
  dispatched : Nat
  deriving DecidableEq, Repr

/-- The header fields of a hank (07 R172). -/
structure Header where
  format : Nat
  nBuf : Nat
  mode : Nat
  cfLevel : Nat
  ring : Nat
  ceiling : Nat
  seedPolicy : Nat
  nInstr : Nat
  flags : Nat
  ckptSpace : Nat
  ckptBase : Nat
  ckptLength : Nat
  seedKey : Bytes
  deriving DecidableEq, Repr

/-- A buffer descriptor (07 R173). -/
structure Buffer where
  space : Nat
  kind : Nat
  verify : Bool
  base : Nat
  length : Nat
  digest : Bytes
  deriving DecidableEq, Repr

/-- Why a word or hank failed: status, cause and the record EVENT_REF names (07 R185). -/
structure Failure where
  status : Nat
  cause : Nat
  evRef : Nat
  deriving DecidableEq, Repr

/-- A word that is issued and not complete (07 R184 to R186). -/
structure Issued where
  index : Nat
  /-- its permits are granted, or it needs none. -/
  granted : Bool
  /-- its effect has been made. -/
  ran : Bool
  /-- it has reached its start and waits for noise (04 R99). -/
  noiseWait : Bool
  /-- that wait has met NOISE_HOLD and is counted (04 R98). -/
  noiseHeld : Bool
  failure : Option Failure
  /-- output buffers of an ANNEAL or SAMPLE that has read its parameter record (02 R53): they stay its own until it completes. -/
  outs : Option (List Nat) := none
  deriving DecidableEq, Repr

/-- A split reduction between SPLIT.K and its drain (07 R196). -/
structure Split where
  base : Nat
  slot : Nat
  parts : Nat
  /-- additions to an Open FP slot by parts that share a host with an earlier part, per cell in FP32 bits: the host takes them in part order (06 R161). -/
  logs : List (Nat × List (List Nat))
  deriving DecidableEq, Repr

/-- The statistics of one ply (02 R46, R48). -/
structure PlyStat where
  ladderSlot : Nat
  flips : Nat
  tanglesHalf : Nat
  tanglesSeam : Nat
  noiseHolds : Nat
  exchTries : Nat
  exchAccepts : Nat
  bestEnergy : Int
  bestStep : Nat
  bestSweep : Nat
  /-- the variables at +1 of the best state. -/
  best : List Nat
  deriving DecidableEq, Repr

/-- An anneal problem of a hank (02, 03, 07 R201 to R207). -/
structure Problem where
  /-- n, 2 to 1,048,576; 02 R24. -/
  n : Nat
  /-- FORM 0 INT4, 1 INT8, 2 CB4 uniform, 3 CB4 host; 07 R201. -/
  form : Nat
  qubo : Bool
  /-- M as the exact fraction mNum / mDen; 02 R28. -/
  mNum : Nat
  mDen : Nat
  /-- OFFSET in energy units; 02 R27. -/
  offset : Int
  /-- buffer index of the coupling store; 03 R59. -/
  dst : Nat
  /-- converted host codebook entries, 16 for each block of 256 rows; 02 R31. -/
  codebook : List Int
  /-- row weights A_i; 02 R35. -/
  rowWeight : List Nat
  /-- P; 07 R202; 0 before STATE.INIT. -/
  plies : Nat
  /-- the variables at +1, as p * n_pad + i, ascending; 03 R57. -/
  spins : List Nat
  /-- per ply; 02 R46, R48. -/
  stats : List PlyStat
  /-- schedule buffer index and L; 07 R203. -/
  sched : Nat
  steps : Nat
  /-- the ladder multipliers, FP32 bits; 07 R203. -/
  ladder : List (BitVec 32)
  /-- step and sweep to resume at; 12 R341. -/
  resumeStep : Nat
  resumeSweep : Nat
  /-- passes of the step each half had completed; 12 R341. -/
  resumePasses : Halves Nat
  /-- trace entries written; 12 R334. -/
  tracePos : Nat
  /-- entries have been dropped (TRACE_TRUNC); 02 R49, 06 R165. -/
  traceCut : Bool
  deriving DecidableEq, Repr

/-- A read of host memory by a word that returns a fault: its word, KIND of 08 R217, first address and length (09 R264). -/
structure BadRead where
  word : Nat
  kind : Nat
  address : Nat
  length : Nat
  deriving DecidableEq, Repr

/-- A hank in execution on a Distaff (07 R171 to R190). -/
structure Run where
  ring : Nat
  seq : Nat
  owner : Nat
  /-- dispatch order; 07 R183. -/
  order : Nat
  header : Header
  bufs : List Buffer
  /-- the instruction list; 07 R171. -/
  words : List (BitVec 128)
  hankDigest : Bytes
  /-- list index of the next word to issue. -/
  next : Nat
  issued : List Issued
  /-- the unit set is acquired; 07 R183. -/
  acquired : Bool
  /-- logical Spindles and Bobbins of the set still held. -/
  spindles : List Nat
  bobbins : List Nat
  /-- the device-drawn header key is still to be drawn; 04 R99. -/
  keyPending : Bool
  /-- keys put in force, in order; 04 R107. -/
  keys : List Bytes
  /-- index of the key in force. -/
  keyIndex : Option Nat
  /-- keys of the attempt before a unit fault, taken again in order; 04 R107, 13 R361. -/
  reuse : List Bytes
  problems : Vector (Option Problem) 4
  splits : List Split
  marks : List (Nat × Nat × Bytes)
  /-- draw records; 12 R326. -/
  draws : List DrawRec
  failure : Option (Nat × Failure)
  aborted : Option Nat
  /-- host memory may no longer be touched: a function-level reset (09 R265). -/
  noHost : Bool
  noisePaused : Bool
  budgetLimited : Bool
  intOverflow : Bool
  debugOn : Bool
  holdCount : Nat
  lagWE : Nat
  lagEW : Nat
  waitedPermit : Bool
  /-- a unit fault stopped it for re-execution; 13 R359. -/
  faulted : Bool
  /-- a unit fault has met this attempt; 13 R362. -/
  faultMet : Bool
  /-- the earliest word of it that has met an uncorrectable read; 13 R362. -/
  eccMet : Option (Nat × Failure)
  /-- HANKS_REJECTED has counted it; 07 R210. -/
  rejected : Bool
  reExecuted : Bool
  /-- RSEQ of the SHAPE_CHANGE record of the re-execution; 0 for none. -/
  shapeRef : Nat
  saving : Bool
  ckptGen : Nat
  restoredGen : Nat
  /-- stopped before execution: by the checks of R179, a VERIFY mismatch or an abort before the first word (12 R328). -/
  atRead : Bool
  /-- the read that faults, while HOST_READ_FAULT runs its word, and none in every state between commands; the model's own (log 30). -/
  bad : Option BadRead
  /-- shape epoch and shapes at the dispatch; 06 R153. -/
  epoch : Nat
  shapes : Halves Nat
  deriving DecidableEq, Repr

structure Distaff where
  /-- in service; 13 R352; reset true (DISTAFF_STATUS 0xFF, 13 R364). -/
  inService : Bool
  /-- the hank in execution; 01 R19; reset none. -/
  run : Option Run
  deriving DecidableEq, Repr

/-- A stream register (05 R138): kind tag 0 UNSET, 1 FP, 2 INT. -/
structure Stream where
  /-- the kind, 2 bits: 0 UNSET, 1 FP, 2 INT; 05 R138; reset 0. -/
  tag : Nat
  /-- M per row: FP32 bits, or a 64-bit integer; 05 R138; reset empty, as UNSET. -/
  m : List Int
  /-- L per row: FP32 bits; 05 R138; reset empty, as UNSET. -/
  l : List Int
  /-- S per row: FP32 bits, or a 64-bit integer; 05 R138; reset empty, as UNSET. -/
  s : List Int
  /-- the position count POS, 25 bits; 05 R138; reset 0. -/
  pos : Nat
  /-- the OVERRUN flag, 1 bit; 05 R138; reset false. -/
  overrun : Bool
  deriving DecidableEq, Repr

structure Spindle where
  /-- the 8 lanes of the 1,024 cells, 40 bits each (32 and the guard), by lane and cell; 05 R124, R127; reset 0 (DESIGN CHOICE, log 3). -/
  lanes : Vector (Sparse (BitVec 40)) 8
  /-- skein flags PINF, NINF, QNAN per cell, 3 bits; 05 R122; reset 0. -/
  flags : Sparse (BitVec 3)
  /-- kind of the group open at each slot, 0 FP, 1 INT; 05 R123; reset none open. -/
  open_ : Vector (Option Bool) 8
  /-- sticky overflow flag of each slot, 8 bits; 05 R124; reset false. -/
  overflow : Vector Bool 8
  /-- EWIN, signed; 05 R127; reset 0. -/
  ewin : Int
  /-- PCOUNT, up to 2^40; 05 R127; reset 0. -/
  pcount : Nat
  /-- the pair: which physical lane is the fill side and whether the drain side is drained; 05 R125; reset none. -/
  pair : Option (Bool × Bool)
  /-- stream registers, 8; 05 R138; reset UNSET. -/
  streams : Vector Stream 8
  /-- fields-valid mark: the problem whose fields the slots hold; 03 R57; reset none. -/
  mark : Option Nat
  /-- function of the last hank that held the unit, none when no hank has; 08 R220; reset none. -/
  lastOwner : Option Nat
  /-- to be cleared at the next acquisition; 09 R265; reset false. -/
  clearNext : Bool
  /-- the hank that holds the unit: ring and sequence number; 01 R20; reset none. -/
  holder : Option (Nat × Nat)
  deriving DecidableEq, Repr

structure Bobbin where
  /-- function of the last hank that held the unit, none when no hank has; 08 R220; reset none. -/
  lastOwner : Option Nat
  /-- to be cleared at the next acquisition; 09 R265; reset false. -/
  clearNext : Bool
  /-- the hank that holds the unit; 01 R20; reset none. -/
  holder : Option (Nat × Nat)
  deriving DecidableEq, Repr

/-- A drain whose read-out has not ended (05 R135): Distaff, word index, Spindle, slot, CLR. -/
structure Drain where
  distaff : Nat
  word : Nat
  spindle : Nat
  slot : Nat
  clear : Bool
  deriving DecidableEq, Repr

/-- A MAC.* whose groups may still be in a Spindle's tree (05 R126, R137): its word, the lane its products land in, and the Spindle as it stood before it. -/
structure InTree where
  distaff : Nat
  word : Nat
  bits : Nat
  spindle : Nat
  lane : Nat
  before : Spindle
  deriving DecidableEq, Repr

structure Units where
  /-- the 128 logical Spindles; 00 R10, 05; each at its reset value, see the Spindle fields. -/
  spindles : Vector Spindle 128
  /-- the 32 logical Bobbins; 00 R10. -/
  bobbins : Vector Bobbin 32
  /-- class of each physical Spindle: 0 fault-free, 1 T4, 2 T3, 3 retired; 13 R351, R364; reset 0. -/
  classes : Vector Nat 136
  /-- physical Spindle hosting each logical one, 0xFF none; 06 R154; reset P0 to P63, P68 to P131 (DESIGN CHOICE, log 3). -/
  hosts : Vector Nat 128
  /-- units spared out for margin: Bobbin or Spindle, physical number; 11 R307; reset none. -/
  spared : List (Bool × Nat)
  /-- retired physical Bobbins, 34 bits; 13 R352, R364; reset none. -/
  bobbinRetired : List Nat
  /-- physical Bobbin carrying each logical one, 0xFF none; 06 R154; reset BP0 to BP15, BP17 to BP32 (DESIGN CHOICE, log 3). -/
  bobbinHosts : Vector Nat 32
  /-- drains whose read-out has not ended, oldest first; 05 R135; reset none. -/
  drains : List Drain
  /-- MAC.* words whose groups may still be in a tree, oldest first; 05 R126, R137; reset none. -/
  tree : List InTree
  /-- unit faults not yet remapped: Bobbin or Spindle, physical number, class; 13 R360; reset none. -/
  faults : List (Bool × Nat × Nat)
  /-- SHAPE_EPOCH 0x1000.04, 32 bits; 06 R170; reset 0. -/
  epoch : Nat
  /-- SHAPE_W and SHAPE_E, 8 bits each, 0xFF out of service; 06 R170; reset 0. -/
  shape : Halves Nat
  /-- UNITS_W and UNITS_E, H of R151; 06 R170; reset 68. -/
  working : Halves Nat
  /-- FOLD_W and FOLD_E; 06 R170; reset 1. -/
  fold : Halves Nat
  /-- NARROW_W and NARROW_E; 06 R170; reset 1. -/
  narrow : Halves Nat
  /-- a change of TEST_SHAPE waits for the next quiesced boundary; 06 R157; reset false. -/
  testPending : Bool
  /-- LAST_TOKEN of each commit arbiter, 32 bits; 03 R61, 14 R374; reset 0 (DESIGN CHOICE, log 3). -/
  lastToken : Halves (BitVec 32)
  deriving DecidableEq, Repr

structure Memory where
  /-- SRAM, 4 GiB of bytes; 08 R211; reset: unlisted reads 0x00 (DESIGN CHOICE, log 4). -/
  sram : Mem
  /-- LPDDR5X, 640 GiB of bytes; 08 R225; reset: unlisted reads 0x00 (DESIGN CHOICE, log 4). -/
  lp : Mem
  /-- host memory of function f at f * 2^64 + address; 09 R244; outside the device (DESIGN CHOICE, log 4). -/
  host : Mem
  /-- Spindle local stores, logical L at L * 2^20; 08 R219; reset: unlisted reads 0x00 (DESIGN CHOICE, log 4). -/
  spindle : Mem
  /-- Bobbin local stores, logical BL at BL * 2^19; 08 R219; reset: unlisted reads 0x00 (DESIGN CHOICE, log 4). -/
  bobbin : Mem
  /-- Distaff local stores, 256 KiB each, D at D * 2^18; 01 R12, 08 R219; reset: unlisted reads 0x00 (DESIGN CHOICE, log 4). -/
  distaff : Mem
  /-- poisoned 64-bit words: space 0 SRAM, 1 LPDDR5X, 3 Spindle, 4 Bobbin, 5 Distaff store, and word number; 08 R214; reset none. -/
  poison : List (Nat × Nat)
  /-- words that hold an error not yet met: space, word number, uncorrectable; 08 R214; reset none. -/
  upsets : List (Nat × Nat × Bool)
  /-- SRAM_CE 0x5000.03, 32 bits saturating; 08 R214; reset 0. -/
  sramCe : Nat
  /-- SRAM_UE 0x5000.04, 32 bits saturating; 08 R214; reset 0. -/
  sramUe : Nat
  /-- LP_CE 0x5010.01, 32 bits saturating; 08 R226; reset 0. -/
  lpCe : Nat
  /-- LP_UE 0x5010.02, 32 bits saturating; 08 R226; reset 0. -/
  lpUe : Nat
  /-- next 64 B access of the scrubber of each slice group, as an offset in the slice; 08 R215; reset 0. -/
  scrub : Vector Nat 64
  /-- SRAM_REPAIRS 0x5000.06, 32 bits; 08 R216; reset 0. -/
  repairs : Nat
  /-- SRAM_REMAPPED 0x5000.07, lines of the remap store in use, 0 to 1,024; 08 R216; reset 0. -/
  remapped : Nat
  /-- the 256 B lines that the remap store serves, by number SRAM address / 256; 08 R216; reset none. -/
  remapLines : List Nat
  /-- LP_TRAIN_FAIL 0x5010.04, 8 bits; 08 R228; reset 0. -/
  trainFail : BitVec 8
  /-- LP_TRAIN_TIME 0x5010.06, 32 bits; 08 R228; reset 0. -/
  trainTime : BitVec 32
  /-- LP_TRAIN_RESULT 0x5010.05, 32 KiB, as the number of the free value its bytes begin at (log 2); 08 R228; reset none, empty (DESIGN CHOICE, log 3). -/
  trainResults : Option Nat
  /-- LS_CLEARS 0x5020.04, 32 bits saturating; 08 R220; reset 0. -/
  lsClears : Nat
  deriving DecidableEq, Repr

/-- A source group (04 R84 to R94). -/
structure Group where
  /-- STATE 0 WARMING, 1 HEALTHY, 2 FAILED, 3 RETIRED; 04 R90; reset 0. -/
  state : Nat
  /-- BIAS of the last window, 16 bits; 04 R89; reset 0. -/
  bias : BitVec 16
  /-- CORR of the last window, 16 bits; 04 R89; reset 0. -/
  corr : BitVec 16
  /-- FAILS, 16 bits saturating; 04 R91; reset 0. -/
  fails : Nat
  /-- PASS_RUN, 8 bits saturating; 04 R91; reset 0. -/
  passRun : Nat
  /-- consecutive passing windows in the present state; 04 R90; reset 0. -/
  streak : Nat
  deriving DecidableEq, Repr

/-- One Woad lane in Open mode (04 R97). -/
structure LaneKey where
  /-- the lane's key, 256 bits; 04 R97; reset 0 (DESIGN CHOICE, log 3: loaded at the start of every Open word). -/
  key : BitVec 256
  /-- outputs made under the key, the counter of Woad; 04 R97; reset 0. -/
  outputs : Nat
  /-- the cycle the present output was made in; 04 R96; reset 0 (the model's own). -/
  cycle : Nat
  /-- the present output, 128 bits; 04 R96; reset 0 (the model's own). -/
  out : BitVec 128
  /-- words of the present output that an evaluation has taken, 8 bits; 04 R96; reset 0 (the model's own). -/
  used : BitVec 8
  /-- 256 outputs have been made since the last re-stir, 1 bit; 04 R97; reset false. -/
  due : Bool
  deriving DecidableEq, Repr

structure Noise where
  /-- the 137 groups, G0 to G135 and GR; 04 R84; see the Group fields. -/
  groups : Vector Group 137
  /-- HALF_STATE_W and _E: 0 WARMING, 1 READY, 2 HOLD; 04 R92, R110; reset 0. -/
  half : Halves Nat
  /-- the half has reached its ready threshold since reset; 04 R92; reset false. -/
  wasReady : Halves Bool
  /-- HOLDS_W and HOLDS_E, 32 bits saturating; 04 R105, R110; reset 0. -/
  holds : Halves Nat
  /-- a hold timer of the half runs; 04 R101; reset false. -/
  holdTimer : Halves Bool
  /-- stir registers of the physical Spindles, 256 bits; 04 R95; reset 0 (DESIGN CHOICE, log 3). -/
  stir : Vector (BitVec 256) 136
  /-- keys the lanes of each physical Spindle loaded at the last Open start, 256 bits; 04 R97; reset 0 (DESIGN CHOICE, log 3). -/
  loaded : Vector (BitVec 256) 136
  /-- the place of each Spindle group in the round robin over the stir registers it feeds; 04 R95; reset 0. -/
  turn : Vector Nat 136
  /-- Woad lanes that have made an output since, by physical Spindle * 128 + lane; 04 R97; reset none. -/
  lanes : List (Nat × LaneKey)
  /-- the exchange lane; 04 R98; reset key and outputs 0 (DESIGN CHOICE, log 3). -/
  exchange : LaneKey
  /-- the root-of-trust generator has been seeded; 04 R103; reset false. -/
  rotSeeded : Bool
  /-- the root-of-trust generator is blocked; 04 R103; reset false. -/
  rotBlocked : Bool
  /-- the generator's seed, 64 B; 04 R103; reset zero (DESIGN CHOICE, log 3: not used before the first seeding). -/
  rotSeed : Bytes
  /-- ROT_SINCE_RESEED 0x3800.0B, 32 bits; 04 R103; reset 0. -/
  rotOutputs : Nat
  deriving DecidableEq, Repr

/-- A request of an Open evaluation (03 R69). -/
structure FlipRequest where
  ply : Nat
  var : Nat
  up : Bool
  /-- cycle of the decision. -/
  cycle : Nat
  staleHalf : Bool
  staleSeam : Bool
  deriving DecidableEq, Repr

/-- A committed flip in flight (03 R61), with the column buffers it holds (03 R67). -/
structure Token where
  ply : Nat
  var : Nat
  up : Bool
  half : Half
  cseq : Nat
  /-- the column is in its buffers, or the store is SRAM-resident. -/
  buffered : Bool
  /-- the first of the column buffers that hold it; 03 R67. -/
  buffer : Nat := 0
  /-- Spindles that have applied the token. -/
  applied : List Nat
  deriving DecidableEq, Repr

/-- A pending Colourfast evaluation (03 R80): the new value, whether it may still be final, and the ply's commit number at the time. -/
structure Evaluation where
  ply : Nat
  position : Nat
  var : Nat
  up : Bool
  commit : Nat
  valid : Bool
  deriving DecidableEq, Repr

/-- The walk of one ply through its visit order (03 R76, R80, R81). -/
structure Walk where
  /-- sweeps of the step retired. -/
  sweep : Nat
  /-- the next position to resolve. -/
  position : Nat
  /-- windows of the sweep retired. -/
  retired : Nat
  /-- the commit number of the ply. -/
  commits : Nat
  deriving DecidableEq, Repr

/-- A running ANNEAL or SAMPLE (02 R44, R50; 03 R68 to R81). -/
structure AnnealRun where
  distaff : Nat
  word : Nat
  problem : Nat
  colourfast : Bool
  sample : Bool
  /-- waiting for both halves to be NOISE_READY; 04 R100. -/
  startWait : Bool
  /-- that wait has met NOISE_HOLD and is counted; 04 R100. -/
  waitHeld : Bool
  /-- a decision has been taken: a hold is one of 04 R101, no longer of the start wait (R100). -/
  decided : Bool
  rule : Nat
  dist : Nat
  permuted : Bool
  stream : Nat
  tangleGuard : Bool
  /-- the first step or sweep count of the run, and the present one: the step t, or the sweeps c that a SAMPLE has completed. -/
  first : Nat
  step : Nat
  /-- T_END, or BURN + K × INTERVAL. -/
  last : Nat
  /-- RESUME: it goes on where a checkpoint stood; 12 R341. -/
  resumed : Bool
  /-- SWEEPS of the present step, 1 in a SAMPLE. -/
  sweeps : Nat
  /-- the present step, or the present sweep's end, exchanges; 02 R44, R50. -/
  exch : Bool
  /-- cumulative sweep count at the present step's energy point; 02 R49. -/
  cum : Nat
  states8 : Bool
  traceStride : Nat
  traceCount : Nat
  traceTrunc : Bool
  /-- output buffers: FINAL, BEST, SUMMARY, TRACE, FINAL8, BEST8; for SAMPLE M1, M2, SUMMARY, FINAL. -/
  outs : List Nat
  temp : BitVec 32
  burn : Nat
  interval : Nat
  exchEvery : Nat
  mask : BitVec 64
  second : Bool
  outFp : Bool
  w0 : Nat
  nw : Nat
  /-- an exchange has drawn a word; 12 R326. -/
  exchDrew : Bool
  /-- T_fx and β_fx per ply; 02 R37. -/
  tfx : List Nat
  bfx : List Nat
  /-- Open: passes completed in this step, and slots whose turn in the present pass has come, as Spindle × 8192 + slot number; per half. -/
  passes : Halves Nat
  seen : Halves (List Nat)
  /-- Open: requests of the present and the previous arbiter window. -/
  arriving : Halves (List FlipRequest)
  deciding : Halves (List FlipRequest)
  /-- pacing left over from the last window, in 1/3072 cycle of the slower half; 03 R64. -/
  pace : Halves Nat
  tokens : Halves (List Token)
  /-- Colourfast: one walk for each ply and the pending evaluations. -/
  walks : List Walk
  evals : List Evaluation
  /-- a token crossed from West to East, from East to West; 03 R75. -/
  crossed : Halves Bool
  /-- a STATE.SAVE with PAUSE waits for the next settle point: its word index. -/
  savePending : Option Nat
  deriving DecidableEq, Repr

/-- A permit request (11 R295): Distaff, word, draw in 0.1 W. -/
structure Permit where
  distaff : Nat
  word : Nat
  draw : Nat
  deriving DecidableEq, Repr

structure Steward where
  /-- waiting requests, oldest first; 11 R296; reset none. -/
  queue : List Permit
  /-- granted requests; 11 R295; reset none. -/
  granted : List Permit
  /-- the pick reservation: ring and ceiling; 11 R300; reset none. -/
  reservation : Option (Nat × Nat)
  /-- RATIO_W and RATIO_E: 0 for 1/1, 1 for 3/4, 2 for 1/2, 3 for 1/4; 08 R240; reset 0. -/
  ratio : Halves Nat
  /-- a ratio to rise to once the rail has settled, and the ceiling that moved (0 budget, 1 thermal, 2 cap, 3 plan); 08 R239; reset none. -/
  rising : Halves (Option (Nat × Nat))
  /-- VDD_W_MV and VDD_E_MV as set; 08 R240; reset 800 (nominal of R239). -/
  vdd : Halves Nat
  /-- the ceiling that moved last, as RATIO_CHANGE codes it; 11 R303; reset 0 (the model's own). -/
  moved : Halves Nat
  /-- RATIO_CAP as the last evaluation found it; 11 R303; reset 0 (the model's own). -/
  lastCap : Halves Nat
  /-- MAX_RATIO as the last evaluation found it; 11 R303; reset 0 (the model's own). -/
  lastMax : Halves Nat
  /-- thermal ceilings T_h; 11 R303; reset 1/1. -/
  thermal : Halves Nat
  /-- budget ceilings B_h; 11 R303; reset 1/1. -/
  budget : Halves Nat
  /-- consecutive cool evaluations; 11 R303; reset 0. -/
  cool : Halves Nat
  /-- MEASURED_DRAW P in W; 11 R302; reset 0 (DESIGN CHOICE, log 3). -/
  p : Nat
  /-- P_W and P_E in W; 11 R302; reset 0 (DESIGN CHOICE, log 3). -/
  ph : Halves Nat
  /-- TJ_W and TJ_E in 0.01 °C; 11 R302; reset 0 (DESIGN CHOICE, log 3). -/
  tj : Halves Int
  /-- PERMIT_TIMEOUTS 0x6000.0B, 32 bits saturating; 11 R298; reset 0. -/
  timeouts : Nat
  /-- halves out of service for want of a ratio or by an AVSBus failure; 11 R306, 16 R399; reset false. -/
  out : Halves Bool
  /-- failed attempts of the AVSBus voltage write in progress; 16 R399; reset 0. -/
  avsTries : Halves Nat
  /-- a replan is in progress: REPLAN_STATE 0x6100.02 is not 0; 11 R309; reset 0. -/
  replan : Nat
  /-- plan voltages in mV at each ratio, empty before the first plan; 11 R306; reset none. -/
  plan : Halves (List Nat)
  /-- PLAN_COUNT 0x6100.07, 32 bits; 11 R317; reset 0 (DESIGN CHOICE, log 3). -/
  planCount : Nat
  /-- PLAN_DELTA_MV 0x6100.0A, 32 bits; 11 R317; reset 0. -/
  planDelta : Int
  /-- PLAN_DETAIL 0x6100.09: V_dom rows; 11 R317; reset empty (DESIGN CHOICE, log 3). -/
  planDetail : List (List Nat)
  deriving DecidableEq, Repr

/-- A journal record (10 R288). -/
structure JournalRec where
  jseq : Nat
  index : Nat
  sub : Nat
  path : Nat
  old : BitVec 64
  new : BitVec 64
  rwp : Bool
  flushed : Bool
  deriving DecidableEq, Repr

/-- One BAR0 window slot (10 R276). -/
structure Slot where
  /-- SELECT, 32 bits; 10 R276; reset 0. -/
  select : BitVec 32
  /-- STATUS TYPE and ACCESS in bits [7:0], as SELECT last set them; 10 R276, R278; reset 0. -/
  kind : Nat
  /-- STATUS.CODE, 8 bits; 10 R276; reset 0. -/
  code : Nat
  /-- XFER_ADDR, 64 bits; 10 R276; reset 0. -/
  xferAddr : BitVec 64
  /-- XFER_OFFSET, 32 bits; 10 R276; reset 0. -/
  xferOffset : BitVec 32
  /-- the outstanding write (value) or transfer (DIR, LEN); STATUS.BUSY is 1 while one stands; 10 R278; reset none. -/
  busy : Option (Sum (BitVec 64) (Bool × Nat))
  deriving DecidableEq, Repr

/-- An MCTP response (10 R281, R282). -/
structure Response where
  command : Nat
  tag : BitVec 8
  status : Nat
  index : BitVec 16
  sub : BitVec 8
  /-- OFFSET: of READ_BYTES and WRITE_BYTES, otherwise zero. -/
  offset : BitVec 32
  data : Bytes
  deriving DecidableEq, Repr

structure MctpEnd where
  /-- endpoint ID, 8 bits; 10 R280; reset 0 (PRESUMED, log 7: the null EID of MCTP). -/
  eid : BitVec 8
  /-- queued requests with their COMMAND, at most 8; 10 R284; reset none. -/
  queue : List (Nat × Request)
  /-- responses sent, oldest first; 10 R284; reset none. -/
  out : List Response
  /-- control responses sent, as bytes, oldest first; 10 R280; reset none. -/
  control : List Bytes
  deriving DecidableEq, Repr

/-- One copy of a settings area whose digest matches (15 R391): SCHEMA_VERSION, COPY_SEQ, JSEQ, and the values that are not at their defaults. -/
structure Settings where
  schema : BitVec 32
  copySeq : Nat
  jseq : Nat
  values : List (Nat × BitVec 64)
  deriving DecidableEq, Repr

/-- A settings area: its two copies, none for a copy with no matching digest (15 R391). -/
structure Area where
  copy0 : Option Settings
  copy1 : Option Settings
  deriving DecidableEq, Repr

structure Dictionary where
  /-- RW and RWP scalars by index * 256 + subindex, an absent one at its default; 10 R269, R270; reset defaults. -/
  values : Sparse (BitVec 64)
  /-- the change journal, oldest first, at most 256; 10 R288; reset empty. -/
  journal : List JournalRec
  /-- JOURNAL_SEQ 0x1000.07, 32 bits; 10 R288; reset 0 (none since manufacture). -/
  jseq : Nat
  /-- a rewrite of the settings area is in progress; 10 R287; reset false. -/
  flushing : Bool
  /-- the JSEQ the running rewrite will hold; 10 R287; reset 0. -/
  flushJseq : Nat
  /-- the RWP values the running rewrite writes; 10 R287, 15 R391; reset none. -/
  flushValues : List (Nat × BitVec 64)
  /-- another rewrite follows the running one: a write of SETTINGS_FLUSH or a BEGIN came meanwhile; 10 R287; reset false. -/
  flushAgain : Bool
  /-- JSEQ and entry of each journalled RWP change that is not in flash, whose count is SETTINGS_PENDING; 10 R287; reset none. -/
  unflushed : List (Nat × Nat)
  /-- settings area of slot A, of slot B marked by SETTINGS_RESTORE; 10 R287, 15 R393; reset false (none since manufacture). -/
  restoreMark : Halves Bool
  /-- the settings areas of slots A and B; 15 R391; reset no valid copy (DESIGN CHOICE, log 3). -/
  areas : Halves Area
  /-- the 16 BAR0 slots; 10 R276; see the Slot fields. -/
  slots : Vector Slot 16
  /-- slots whose request waits, in arrival order; 10 R284; reset none. -/
  bar0 : List Nat
  /-- the endpoint on I3C; 10 R280. -/
  i3c : MctpEnd
  /-- the endpoint on PCIe VDM; 10 R280. -/
  vdm : MctpEnd
  /-- IGNORED_DOORBELLS 0x2000.07, 32 bits saturating; 09 R267; reset 0. -/
  ignoredDoorbells : Nat
  /-- BAR2_DROPPED 0x2000.09, 32 bits saturating; 09 R267; reset 0. -/
  bar2Dropped : Nat
  /-- HOST_ACCESS_ERRORS 0x2000.0A, 32 bits saturating; 09 R267; reset 0. -/
  hostErrors : Nat
  /-- HANKS_REJECTED 0x2010.10, 32 bits saturating; 07 R210; reset 0. -/
  hanksRejected : Nat
  /-- WINDOW_FAULTS 0x4010.01, 32 bits saturating; 05 R145; reset 0. -/
  windowFaults : Nat
  /-- INT_OVERFLOWS 0x4010.02, 32 bits saturating; 05 R145; reset 0. -/
  intOverflows : Nat
  /-- PAIR_DISCARDS 0x4010.03, 32 bits saturating; 05 R145; reset 0. -/
  pairDiscards : Nat
  /-- STREAM_OVERRUNS 0x4010.04, 32 bits saturating; 05 R145; reset 0. -/
  streamOverruns : Nat
  /-- LAST_SEAM_LAG_WE and _EW, 16 bits; 03 R83; reset 0. -/
  lastLag : Halves Nat
  /-- CKPT_KEY of each function as written since reset, 32 B; 12 R343; reset not written. -/
  ckptKeys : Vector (Option Bytes) 16
  /-- ATTEST_NONCE 0x7000.01, 32 B; 12 R343; reset zero. -/
  attestNonce : Bytes
  /-- SEAL_NONCE 0x7000.05, 32 B; 12 R343; reset zero. -/
  sealNonce : Bytes
  /-- TRIGGER_SET 0x7810.00 to .0F, 320 B each; 14 R374; reset zero. -/
  triggers : Vector Bytes 16
  deriving DecidableEq, Repr

/-- A running capture (14 R375): its trigger set and the values sampled, as they stood at the trigger, cause, source hank, matching RSEQ. -/
structure Capture where
  set_ : Bytes
  values : Bytes
  domain : Nat
  cause : Nat
  hank : Option (Nat × Nat)
  rseq : Nat
  deriving DecidableEq, Repr

structure Recorder where
  /-- records made and still on VC1, oldest first; 14 R366; reset none. -/
  inbox : List Notice
  /-- records made since the start; a record's RSEQ is its number; 14 R366; reset 0. -/
  made : Nat
  /-- records that have reached the recorder, E_NEXT_RSEQ less 1; 14 R366, R377; reset 0. -/
  arrived : Nat
  /-- the class E buffer, oldest first; 14 R368; reset empty. -/
  stored : List Record
  /-- E_DROPS by severity, 32 bits saturating; 14 R377; reset 0. -/
  drops : Vector Nat 4
  /-- class E is frozen, 1 bit; 14 R371; reset false. -/
  eFrozen : Bool
  /-- class T is frozen, 1 bit; 14 R371; reset false. -/
  tFrozen : Bool
  /-- E_FROZEN_LOST, 32 bits saturating; 14 R377; reset 0. -/
  eLost : Nat
  /-- T_FROZEN_LOST, 32 bits saturating; 14 R377; reset 0. -/
  tLost : Nat
  /-- class E records lost in the present freeze, 64 bits; 14 R372; reset 0. -/
  eLostNow : Nat
  /-- class T records lost in the present freeze, 64 bits; 14 R372; reset 0. -/
  tLostNow : Nat
  /-- T_MISSED, 32 bits saturating; 14 R375; reset 0. -/
  tMissed : Nat
  /-- class T snapshots, oldest first; 14 R376; reset empty. -/
  snaps : List Record
  /-- class T's own count; 14 R376; reset 0. -/
  tMade : Nat
  /-- running captures by set; 14 R375; reset none. -/
  captures : Vector (Option Capture) 16
  /-- last result of each set's register comparison; 14 R375; reset false. -/
  matched : Vector Bool 16
  /-- ERROR and FATAL records of this start in the save buffer, oldest first; 11 R311; reset empty. -/
  saveBuffer : List Record
  deriving DecidableEq, Repr

/-- A ring's row of a save area (11 R314). -/
structure RingSave where
  enabled : Bool
  owner : Nat
  accepted : BitVec 32
  tail : BitVec 32
  head : BitVec 32
  seqBase : Nat
  nextSeq : Nat
  deriving DecidableEq, Repr

/-- A Distaff's RUNNING row of a save area (11 R314). -/
structure RunSave where
  ring : Nat
  saving : Bool
  ckptSpace : Nat
  seq : Nat
  ckptBase : Nat
  ckptLength : Nat
  deriving DecidableEq, Repr

/-- A save area of the keep store (11 R314). -/
structure Save where
  cause : Nat
  ratios : Halves Nat
  saveSeq : Nat
  powerOn : Nat
  jseq : Nat
  vdd : Halves Nat
  rings : List RingSave
  /-- chain head, entry count, last sequence, entries at last seal per ring. -/
  ledger : List (Bytes × Nat × Nat × Nat)
  running : List (Option RunSave)
  groupStates : List (BitVec 32)
  halves : Halves Nat
  holds : Halves Nat
  journal : List JournalRec
  records : List Record
  deriving DecidableEq, Repr

structure Keep where
  /-- save area 0, none while incomplete or never written; 11 R314; reset none. -/
  area0 : Option Save
  /-- save area 1, none while incomplete or never written; 11 R314; reset none. -/
  area1 : Option Save
  /-- the last save did not reach its header; 11 R313; reset false. -/
  torn : Bool
  /-- saves since manufacture, 32 bits; 11 R314; reset 0. -/
  saveSeq : Nat
  /-- the exposed save of KEEP_REPORT; 11 R315; reset none. -/
  report : Option Save
  /-- KEEP_STATE 0x6000.40; 11 R316; reset 0. -/
  state : Nat
  /-- SAVE_SEQ reported at the previous start, kept by the root of trust; 13 R355; reset 0. -/
  reportedSeq : Nat
  /-- the FATAL mirror, oldest first; 14 R373; reset empty. -/
  mirror : List Record
  /-- place of the oldest mirrored record in the circle of 1,040,384 B; 14 R373; reset 0 (none since manufacture). -/
  mirrorFirst : Nat
  /-- the index copy in force, the second one when true; 14 R373; reset false (none since manufacture). -/
  mirrorIndex : Bool
  /-- the offsets of the other index copy: the oldest record and past the newest; 14 R373; reset 0 (none since manufacture). -/
  mirrorOther : Nat × Nat
  /-- the newest mirror write may still be under way, 1 bit; 14 R373; reset false. -/
  mirrorOpen : Bool
  /-- stored margin plan: V_h(r) of both halves, and the units it spared out; 11 R307, R308; reset none. -/
  plan : Option (Halves (List Nat) × List (Bool × Nat))
  /-- CKPT_GEN_MAX 0x7030.11, 64 bits; 12 R337; reset 0 (none since manufacture). -/
  genMax : Nat
  /-- RESET_COUNT 0x7000.08, 32 bits; 12 R323; reset 0 (none since manufacture). -/
  resetCount : Nat
  /-- POWER_ON_COUNT 0x6000.45, 32 bits; 11 R316; reset 0 (none since manufacture). -/
  powerOn : Nat
  deriving DecidableEq, Repr

/-- A signing request (12 R321): 0 attestation, 1 requested seal, 2 automatic seal of a ring. -/
structure SignRequest where
  kind : Nat
  ring : Nat
  body : Bytes
  deriving DecidableEq, Repr

structure Identity where
  /-- IDENTITY_STATE 0x1000.22: 1 usable, 2 unavailable; 12 R320; reset 1 (DESIGN CHOICE, log 3: set at every start). -/
  state : Nat
  /-- ATTEST_STATE 0x7000.03; 12 R322; reset 0. -/
  attestState : Nat
  /-- ATTEST_REPORT 0x7000.04, 4,480 B; 12 R322; reset empty. -/
  report : Bytes
  /-- signing requests, oldest first; 12 R321; reset none. -/
  queue : List SignRequest
  /-- SEAL_FAILURES 0x7000.09, 32 bits saturating; 12 R330; reset 0. -/
  sealFailures : Nat
  deriving DecidableEq, Repr

/-- What the header of a verified image says (15 R380). -/
structure ImageInfo where
  cfLevel : Nat
  svn : Nat
  version : BitVec 32
  schema : BitVec 32
  stepping : BitVec 16
  length : Nat
  keyIndex : Nat
  revoke : BitVec 4
  bodyDigest : Bytes
  deriving DecidableEq, Repr

/-- One image slot of the flash (15 R378). -/
structure FlashSlot where
  /-- the image written to it, which passed checks 1, 2, 3 and 7. -/
  image : Option ImageInfo
  /-- the content key K that its boot key record seals; 15 R381; none without a record. -/
  bootKey : Option Bytes
  /-- its bytes or its boot key record have changed since: one of those checks fails; 15 R383. -/
  damaged : Bool
  deriving DecidableEq, Repr

/-- A control record whose digest matches (15 R379). -/
structure Control where
  seq : Nat
  /-- false for slot A, true for slot B. -/
  confirmed : Bool
  trial : Option Bool
  count : Nat
  window : Nat
  deriving DecidableEq, Repr

structure Image where
  /-- slot A; 15 R378; reset: the factory image (image-specific constants of Config). -/
  slotA : FlashSlot
  /-- slot B; 15 R378; reset erased. -/
  slotB : FlashSlot
  /-- copy 0 of the control record, none where its digest does not match; 15 R378, R379; reset slot A confirmed, no trial (DESIGN CHOICE, log 38). -/
  copy0 : Option Control
  /-- copy 1 of the control record; 15 R378, R379; reset none (DESIGN CHOICE, log 38). -/
  copy1 : Option Control
  /-- ACTIVE_SLOT 0x1100.02, none before a start boots one; 15 R395; reset none. -/
  active : Option Bool
  /-- what the header of the running image says, none before a start boots one; 15 R380, R394; reset none. -/
  running : Option ImageInfo
  /-- the trial image runs; 15 R387; reset false. -/
  trialRunning : Bool
  /-- MIN_SVN 0x1100.07, 0 to 64; 15 R382; reset 0 (DESIGN CHOICE, log 3). -/
  minSvn : Nat
  /-- revoked key slots, 4 fuses; 15 R382; reset none. -/
  revoked : BitVec 4
  /-- STAGE_STATE 0x1100.11; 15 R395; reset 0. -/
  stage : Nat
  /-- STAGE_ERROR 0x1100.12; 15 R395; reset 0. -/
  error : Nat
  /-- bytes of the staged image in the inactive slot; 15 R385; reset erased. -/
  staged : Sparse Byte
  /-- received blocks, STAGE_MAP; 15 R385; reset none. -/
  blocks : List Nat
  /-- STAGE_RECEIVED 0x1100.14, bytes received; 15 R395; reset 0. -/
  received : Nat
  /-- the image verified at staging and its content key K; 15 R381; reset none. -/
  held : Option (ImageInfo × Bytes)
  /-- MIGRATION_REPORT: carried, defaulted, dropped; 15 R392; reset 0 (DESIGN CHOICE, log 3). -/
  migration : Nat × Nat × Nat
  deriving DecidableEq, Repr

structure Start where
  /-- START_STATE 0x1010.01; 13 R353; reset 0. -/
  state : Nat
  /-- LAST_RESET 0x1010.02; 13 R364; reset 0 (DESIGN CHOICE, log 3: set at every start). -/
  lastReset : Nat
  /-- START_TIME 0x1010.03, 32 bits; 13 R347; reset 0 (DESIGN CHOICE, log 3: set at every start). -/
  time : BitVec 32
  /-- START_LIMIT_CAUSE 0x1010.04, 16 bits; 13 R354; reset 0. -/
  cause : BitVec 16
  /-- LOST_REPORT 0x1010.08, records of 32 B; 13 R355; reset empty. -/
  lost : List Bytes
  /-- LOST_STATE 0x1010.09; 13 R356; reset 0. -/
  lostState : Nat
  /-- RE_EXECUTIONS 0x1010.0A, 32 bits saturating; 13 R361; reset 0. -/
  reExecutions : Nat
  /-- FAULTS 0x1010.0B, 32 bits saturating; 13 R359; reset 0. -/
  faults : Nat
  /-- the SRAM has been repaired in this start, so that the class E buffer is there, 1 bit; 14 R368; reset false. -/
  repaired : Bool
  deriving DecidableEq, Repr

/-- What a checkpoint holds (12 R334). -/
structure Snapshot where
  header : Bytes
  mode : Nat
  hankDigest : Bytes
  bufs : List Buffer
  problems : Vector (Option Problem) 4
  /-- logical Spindle, its registers, its local store from address 0. -/
  spindles : List (Nat × Spindle × Mem)
  bobbins : List (Nat × Mem)
  sram : List (Nat × Mem)
  keys : List Bytes
  keyIndex : Option Nat
  gen : Nat
  sealKey : Bytes
  deriving DecidableEq, Repr

/-- What the checkpoint with a header and these section bytes holds, where no save of the run wrote it: another run's or another part's; none where they hold no
saved state. The manual gives no byte layout (12 R334; log 13). -/
opaque foreignSnapshot : Bytes → Bytes → Option Snapshot

structure Outputs where
  /-- MSI-X messages sent: function and entry, oldest first; 09 R249 (an output); reset none. -/
  msix : List (Nat × Nat)
  /-- data of the last completed host read, 64 bits; the model's own (log 8); reset 0. -/
  reply : BitVec 64
  /-- bytes of the last BAR2 read; 09 R248; the model's own (log 8); reset none. -/
  bar2 : Bytes
  /-- the Poisoned bit of the last BAR2 read, 1 bit; 09 R248; the model's own (log 8); reset false. -/
  bar2Poisoned : Bool
  /-- free values taken so far; the model's own (DESIGN CHOICE, log 2); reset 0. -/
  free : Nat
  /-- every checkpoint written, whose bytes STATE.RESTORE recognises; the model's own (log 13); reset none. -/
  saved : List Snapshot
  deriving DecidableEq, Repr

/-- The machine. -/
structure State where
  /-- commands that wait, first in first out; the model's own; reset empty. -/
  pending : List Instr
  board : Board
  /-- PF and VF 1 to VF 15; 09 R244. -/
  functions : Vector Function 16
  /-- VF Enable, 1 bit; 09 R244; reset false (PRESUMED, log 6: the PCIe reset value). -/
  vfEnable : Bool
  /-- ARI Capable Hierarchy, 1 bit; 09 R244; reset false (PRESUMED, log 6: the PCIe reset value). -/
  ari : Bool
  /-- NumVFs, 0 to 15; 09 R244; reset 0 (PRESUMED, log 6: the PCIe reset value). -/
  numVfs : Nat
  pcie : Pcie
  /-- the 64 rings; 09 R247. -/
  rings : Vector Ring 64
  dispatcher : Dispatcher
  /-- D0 to D7; 01 R12. -/
  distaffs : Vector Distaff 8
  units : Units
  mem : Memory
  noise : Noise
  /-- the ANNEAL or SAMPLE that runs; 03 R54; reset none. -/
  anneal : Option AnnealRun
  steward : Steward
  dict : Dictionary
  recorder : Recorder
  keep : Keep
  ident : Identity
  image : Image
  start : Start
  out : Outputs
  deriving DecidableEq, Repr

/-- Why a command stops the model. -/
inductive Fault where
  /-- A command whose operands name nothing on the device (Sys2Proof.Instr.wf is false): raised by the meanings that take free numbers or
  byte strings; safe, since no such command exists at the device's boundary. -/
  | malformedCommand
  deriving DecidableEq, Repr

/-- Why a command has no meaning. -/
inductive Refusal where
  /-- A row of the table without a meaning yet, raised by exec's arm; safe. -/
  | notModelled (mnemonic : String)
  deriving DecidableEq, Repr

/-- 32 zero bytes. -/
def zero32 : Bytes := List.replicate 32 0

/-- The board at reset: rails in range, PERST# still asserted. -/
def Board.reset : Board :=
  { phase := .reset, perst := true, coldNext := true, sagOff := false, alertSave := false, thermtrip := false,
    selfRefresh := false, tapMisused := false, tap := .idcode, tapDrives := false, boundary := 0, boundaryOut := 0, i3cSa := 0, i3cDynamic := none,
    linkWidth := 0, linkSpeed := 0 }

/-- A function with nothing configured: what a function-level reset leaves too (09 R265). -/
def Function.reset : Function := { msixEnabled := false, table := [], unmasked := [], pending := [] }

def Pcie.reset : Pcie :=
  { maxPayload := 128, maxRead := 512, ecrcGenerate := false, ecrcCheck := false, d3hot := false, aer := 0, bars := List.replicate 5 0 }

def Ring.reset : Ring :=
  { sqBase := 0, cqBase := 0, enabled := false, log2Depth := 4, fault := false, sqAccepted := 0, cqTail := 0, cqHead := 0,
    badHead := 0, badDoorbell := 0, seqBase := 0, nextSeq := 1, hanks := [], advance := 0, allowance := 0,
    progSeq := 0, progVal := 0, done := [], chainHead := zero32, chainIndex := 0, genesis := zero32, lastLedgerSeq := 0,
    lastSeal := [], sealCount := 0, entriesAtSeal := 0, autoSealHeld := false, gap := none }

/-- A stream register that no drain has set (05 R138). -/
def Stream.unset : Stream := { tag := 0, m := [], l := [], s := [], pos := 0, overrun := false }

def Spindle.reset : Spindle :=
  { lanes := Vector.replicate 8 [], flags := [], open_ := Vector.replicate 8 none, overflow := Vector.replicate 8 false, ewin := 0, pcount := 0, pair := none,
    streams := Vector.replicate 8 Stream.unset, mark := none, lastOwner := none, clearNext := false, holder := none }

def Bobbin.reset : Bobbin := { lastOwner := none, clearNext := false, holder := none }

def Units.reset : Units :=
  { spindles := Vector.replicate 128 Spindle.reset, bobbins := Vector.replicate 32 Bobbin.reset,
    classes := Vector.replicate 136 0, hosts := Vector.ofFn (fun l => if l.val < 64 then l.val else l.val + 4),
    spared := [], bobbinRetired := [], bobbinHosts := Vector.ofFn (fun b => if b.val < 16 then b.val else b.val + 1),
    drains := [], tree := [], faults := [], epoch := 0, shape := ⟨0, 0⟩, working := ⟨68, 68⟩, fold := ⟨1, 1⟩, narrow := ⟨1, 1⟩,
    testPending := false, lastToken := ⟨0, 0⟩ }

def Memory.reset : Memory :=
  { sram := [], lp := [], host := [], spindle := [], bobbin := [], distaff := [], poison := [], upsets := [], sramCe := 0, sramUe := 0,
    lpCe := 0, lpUe := 0, scrub := Vector.replicate 64 0, repairs := 0, remapped := 0, remapLines := [], trainFail := 0, trainTime := 0, trainResults := none,
    lsClears := 0 }

def Group.reset : Group := { state := 0, bias := 0, corr := 0, fails := 0, passRun := 0, streak := 0 }

def LaneKey.reset : LaneKey := { key := 0, outputs := 0, cycle := 0, out := 0, used := 0, due := false }

def Noise.reset : Noise :=
  { groups := Vector.replicate 137 Group.reset, half := ⟨0, 0⟩, wasReady := ⟨false, false⟩, holds := ⟨0, 0⟩,
    holdTimer := ⟨false, false⟩, stir := Vector.replicate 136 0, loaded := Vector.replicate 136 0, turn := Vector.replicate 136 0, lanes := [], exchange := LaneKey.reset, rotSeeded := false,
    rotBlocked := false, rotSeed := [], rotOutputs := 0 }

def Steward.reset : Steward :=
  { queue := [], granted := [], reservation := none, ratio := ⟨0, 0⟩, rising := ⟨none, none⟩, vdd := ⟨800, 800⟩,
    moved := ⟨0, 0⟩, lastCap := ⟨0, 0⟩, lastMax := ⟨0, 0⟩,
    thermal := ⟨0, 0⟩, budget := ⟨0, 0⟩, cool := ⟨0, 0⟩, p := 0, ph := ⟨0, 0⟩, tj := ⟨0, 0⟩, timeouts := 0,
    out := ⟨false, false⟩, avsTries := ⟨0, 0⟩, replan := 0, plan := ⟨[], []⟩, planCount := 0, planDelta := 0, planDetail := [] }

def Slot.reset : Slot := { select := 0, kind := 0, code := 0, xferAddr := 0, xferOffset := 0, busy := none }

def MctpEnd.reset : MctpEnd := { eid := 0, queue := [], out := [], control := [] }

def Dictionary.reset : Dictionary :=
  { values := [], journal := [], jseq := 0, flushing := false, flushJseq := 0, flushValues := [], flushAgain := false, unflushed := [],
    restoreMark := ⟨false, false⟩, areas := ⟨⟨none, none⟩, ⟨none, none⟩⟩,
    slots := Vector.replicate 16 Slot.reset, bar0 := [], i3c := MctpEnd.reset, vdm := MctpEnd.reset, ignoredDoorbells := 0,
    bar2Dropped := 0, hostErrors := 0, hanksRejected := 0, windowFaults := 0, intOverflows := 0, pairDiscards := 0,
    streamOverruns := 0, lastLag := ⟨0, 0⟩, ckptKeys := Vector.replicate 16 none, attestNonce := zero32,
    sealNonce := zero32, triggers := Vector.replicate 16 (List.replicate 320 0) }

def Recorder.reset : Recorder :=
  { inbox := [], made := 0, arrived := 0, stored := [], drops := Vector.replicate 4 0, eFrozen := false, tFrozen := false,
    eLost := 0, tLost := 0, eLostNow := 0, tLostNow := 0, tMissed := 0, snaps := [], tMade := 0,
    captures := Vector.replicate 16 none, matched := Vector.replicate 16 false, saveBuffer := [] }

def Keep.reset : Keep :=
  { area0 := none, area1 := none, torn := false, saveSeq := 0, report := none, state := 0, reportedSeq := 0, mirror := [], mirrorFirst := 0, mirrorIndex := false, mirrorOther := (0, 0), mirrorOpen := false,
    plan := none, genMax := 0, resetCount := 0, powerOn := 0 }

def Identity.reset : Identity := { state := 1, attestState := 0, report := [], queue := [], sealFailures := 0 }

/-- The image a part leaves the factory with: slot A, confirmed, Colourfast level 1 (15 R379, R394). -/
def ImageInfo.factory : ImageInfo :=
  { cfLevel := 1, svn := 0, version := Config.factoryVersion, schema := 1#16 ++ Config.factorySchemaMinor, stepping := 0x0101,
    length := 8192, keyIndex := 0, revoke := 0, bodyDigest := (List.range 32).map Config.factoryBodyByte }

/-- The content key of that image. -/
def factoryKey : Bytes := (List.range 32).map Config.factoryKeyByte

/-- The control record a part leaves the factory with (15 R379). -/
def Control.factory : Control := { seq := 0, confirmed := false, trial := none, count := 0, window := 0 }

/-- A slot that the flash holds nothing in (15 R384). -/
def FlashSlot.erased : FlashSlot := { image := none, bootKey := none, damaged := false }

def Image.reset : Image :=
  { slotA := { image := some ImageInfo.factory, bootKey := some factoryKey, damaged := false }, slotB := FlashSlot.erased,
    copy0 := some Control.factory, copy1 := none, active := none, running := none, trialRunning := false,
    minSvn := 0, revoked := 0, stage := 0, error := 0, staged := [], blocks := [], received := 0, held := none, migration := (0, 0, 0) }

def Start.reset : Start :=
  { state := 0, lastReset := 0, time := 0, cause := 0, lost := [], lostState := 0, reExecutions := 0, faults := 0, repaired := false }

/-- The machine right after reset: rails in range, PERST# asserted, start-up not yet run, every register at its reset value. -/
def State.reset : State :=
  { pending := [], board := Board.reset, functions := Vector.replicate 16 Function.reset,
    vfEnable := false, ari := false, numVfs := 0, pcie := Pcie.reset, rings := Vector.replicate 64 Ring.reset,
    dispatcher := { pointer := 0, picked := none, dispatched := 0 },
    distaffs := Vector.replicate 8 { inService := true, run := none }, units := Units.reset, mem := Memory.reset,
    noise := Noise.reset, anneal := none, steward := Steward.reset, dict := Dictionary.reset, recorder := Recorder.reset,
    keep := Keep.reset, ident := Identity.reset, image := Image.reset, start := Start.reset,
    out := { msix := [], reply := 0, bar2 := [], bar2Poisoned := false, free := 0, saved := [] } }

end Sys2Proof.Machine
end

