-- ==== Sys2Proof/Machine/Bits.lean ====
section
/-!
DEFINITION. Bit fields, little-endian byte strings (00_scope.md R5), saturating counters, and the sparse tables all memories are held in.
-/
namespace Sys2Proof.Machine

/-- Bits [hi:lo] of a number (00 R5: bit 0 is the least significant). -/
def bits (v hi lo : Nat) : Nat := v / 2 ^ lo % 2 ^ (hi + 1 - lo)

/-- One bit of a number. -/
def bit (v i : Nat) : Bool := bits v i i = 1

/-- A two's complement number of `n` bits. -/
def signed (n v : Nat) : Int := if v % 2 ^ n < 2 ^ (n - 1) then (v % 2 ^ n : Nat) else ((v % 2 ^ n : Nat) : Int) - 2 ^ n

/-- The `n`-bit two's complement pattern of an integer. -/
def wrap (n : Nat) (v : Int) : Nat := (v % (2 ^ n : Int)).toNat

/-- The `n` bytes of a number, little-endian (00 R5). -/
def le (n v : Nat) : Bytes := (List.range n).map fun k => BitVec.ofNat 8 (v / 256 ^ k)

/-- The number a little-endian byte string holds (00 R5). -/
def ofLe : Bytes → Nat
  | [] => 0
  | b :: r => b.toNat + 256 * ofLe r

/-- `n` zero bytes. -/
def zeros (n : Nat) : Bytes := List.replicate n 0

/-- `n` bytes of a string from offset `o`, zero past its end. -/
def slice (bs : Bytes) (o n : Nat) : Bytes := (List.range n).map fun k => bs.getD (o + k) 0

/-- The number in `n` bytes at offset `o` of a record. -/
def num (bs : Bytes) (o n : Nat) : Nat := ofLe (slice bs o n)

/-- Every byte of a string is zero. -/
def allZero (bs : Bytes) : Bool := bs.all (· == 0)

/-- A 32-bit saturating counter, incremented. -/
def sat32 (n : Nat) : Nat := min (n + 1) 0xFFFFFFFF

/-- A 16-bit saturating counter, incremented. -/
def sat16 (n : Nat) : Nat := min (n + 1) 0xFFFF

/-- `i` rounded up to a multiple of `m`. -/
def roundUp (i m : Nat) : Nat := (i + m - 1) / m * m

/-- The entry of a sparse table; an unlisted one is the default. -/
def Sparse.get {α : Type} (d : α) : Sparse α → Nat → α
  | [], _ => d
  | (k, v) :: r, i => if k = i then v else Sparse.get d r i

/-- Replaces the entries `base` to `base + len - 1`: entry `base + k` becomes `f k`. The one write of every memory: it keeps the canonical form. -/
def Sparse.replace {α : Type} [DecidableEq α] (d : α) (m : Sparse α) (base len : Nat) (f : Nat → α) : Sparse α :=
  m.filter (fun c => c.1 < base) ++
    ((List.range len).filterMap fun k => let v := f k; if v = d then none else some (base + k, v)) ++
    m.filter (fun c => base + len ≤ c.1)

/-- Replaces one entry. -/
def Sparse.set {α : Type} [DecidableEq α] (d : α) (m : Sparse α) (i : Nat) (v : α) : Sparse α := Sparse.replace d m i 1 fun _ => v

/-- The canonical form: keys strictly rising, no entry at the default. -/
def Sparse.wf {α : Type} [DecidableEq α] (d : α) : Sparse α → Bool
  | [] => true
  | [(_, v)] => v ≠ d
  | (k, v) :: (k', v') :: r => v ≠ d && k < k' && Sparse.wf d ((k', v') :: r)

/-- The byte an address of a memory that nothing has written reads as (log 4). -/
def Mem.blank : Byte := 0

/-- One byte of a memory. -/
def Mem.byte (m : Mem) (a : Nat) : Byte := Sparse.get Mem.blank m a

/-- `n` bytes of a memory from address `a`. -/
def Mem.bytes (m : Mem) (a n : Nat) : Bytes := (List.range n).map fun k => m.byte (a + k)

/-- Writes a byte string at an address. -/
def Mem.put (m : Mem) (a : Nat) (bs : Bytes) : Mem := Sparse.replace Mem.blank m a bs.length fun k => bs.getD k 0

/-- The canonical form of a memory. -/
def Mem.wf (m : Mem) : Bool := Sparse.wf Mem.blank m

end Sys2Proof.Machine
end

