-- ==== Sys2Proof/Machine/Float.lean ====
section
/-!
DEFINITION. Exact numbers and their single roundings: RNA, RNA_FP32, RNA_BF16 (02 "Units and rounding", 05 R120, R121), element formats (05 R113), EXPF (05 R141).
-/
namespace Sys2Proof.Machine

/-- RNA of the exact ratio n / d: the nearest integer, ties away from zero (02). -/
def rna (n : Int) (d : Nat) : Int :=
  let q : Nat := (2 * n.natAbs + d) / (2 * d)
  if n < 0 then -(q : Int) else (q : Int)

/-- An exact number: NaN, an infinity, or plus or minus `n` * 2^`e` with the sign of a zero kept. -/
inductive Num where
  | nan
  | inf (neg : Bool)
  | fin (neg : Bool) (n : Nat) (e : Int)
  deriving DecidableEq, Repr

/-- A binary format: significand bits, lowest quantum exponent, mantissa bits, width (05 R113, R116). -/
structure Fmt where
  p : Nat
  qmin : Int
  width : Nat

def fp32 : Fmt := ⟨24, -149, 32⟩
def bf16 : Fmt := ⟨8, -133, 16⟩

/-- The bits of the infinity of a format: an exponent field of ones. -/
def Fmt.top (f : Fmt) : Nat := 0xFF * 2 ^ (f.p - 1)

/-- The canonical NaN (05 R121). -/
def Fmt.nan (f : Fmt) : Nat := f.top + 2 ^ (f.p - 2)

/-- The sign bit in place. -/
def Fmt.sign (f : Fmt) (neg : Bool) (b : Nat) : Nat := if neg then b + 2 ^ (f.width - 1) else b

/-- n * 2^e / d as a ratio of integers. -/
def ratio (n d : Nat) (e : Int) : Nat × Nat := if 0 ≤ e then (n * 2 ^ e.toNat, d) else (n, d * 2 ^ (-e).toNat)

/-- ⌊log2 (n / d)⌋ of a positive ratio. -/
def ilog2 (n d : Nat) : Int :=
  let g : Int := (Nat.log2 n : Int) - (Nat.log2 d : Int)
  let r := ratio n d (-g)
  if r.1 < r.2 then g - 1 else g

/-- The rounding of plus or minus n / d to a format, ties away from zero, subnormals kept, infinities above (05 R120). -/
def Fmt.round (f : Fmt) (neg : Bool) (n d : Nat) : Nat :=
  if n = 0 then f.sign neg 0
  else
    let q := max (ilog2 n d - (f.p - 1 : Nat)) f.qmin
    let r := ratio n d (-q)
    let sig := (2 * r.1 + r.2) / (2 * r.2)
    let b := (q - f.qmin).toNat * 2 ^ (f.p - 1) + sig
    f.sign neg (if f.top ≤ b then f.top else b)

/-- The rounding of an exact number to a format, as bits. -/
def Fmt.of (f : Fmt) : Num → Nat
  | .nan => f.nan
  | .inf neg => f.sign neg f.top
  | .fin neg n e => let r := ratio n 1 e; f.round neg r.1 r.2

/-- The exact number a bit pattern of a format holds (05 R113). -/
def Fmt.val (f : Fmt) (b : Nat) : Num :=
  let neg := bit b (f.width - 1)
  let m := b % 2 ^ (f.width - 1)
  let ex := m / 2 ^ (f.p - 1)
  let mant := m % 2 ^ (f.p - 1)
  if f.top < m then .nan else if m = f.top then .inf neg
  else if ex = 0 then .fin neg mant f.qmin else .fin neg (mant + 2 ^ (f.p - 1)) (f.qmin + (ex : Int) - 1)

/-- RNA_FP32 of an exact number, as an exact number. -/
def Num.r32 (x : Num) : Num := fp32.val (fp32.of x)

/-- The number of an integer; 0 is +0. -/
def Num.int (i : Int) : Num := .fin (decide (i < 0)) i.natAbs 0

/-- The signed significand. -/
def sgn (neg : Bool) (n : Nat) : Int := if neg then -(n : Int) else (n : Int)

/-- The exact sum (05 R120, R121). -/
def Num.add : Num → Num → Num
  | .nan, _ => .nan
  | _, .nan => .nan
  | .inf a, .inf b => if a = b then .inf a else .nan
  | .inf a, _ => .inf a
  | _, .inf b => .inf b
  | .fin a m e, .fin b n f =>
    if m = 0 ∧ n = 0 then .fin (a && b) 0 0
    else
      let g := min e f
      let t := sgn a m * 2 ^ (e - g).toNat + sgn b n * 2 ^ (f - g).toNat
      .fin (decide (t < 0)) t.natAbs g

/-- The negated number. -/
def Num.neg : Num → Num
  | .nan => .nan
  | .inf a => .inf (!a)
  | .fin a n e => .fin (!a) n e

/-- The exact difference. -/
def Num.sub (x y : Num) : Num := x.add y.neg

/-- The exact product (05 R121). -/
def Num.mul : Num → Num → Num
  | .nan, _ => .nan
  | _, .nan => .nan
  | .inf a, .inf b => .inf (a != b)
  | .inf a, .fin b n _ => if n = 0 then .nan else .inf (a != b)
  | .fin a n _, .inf b => if n = 0 then .nan else .inf (a != b)
  | .fin a m e, .fin b n f => .fin (a != b) (m * n) (e + f)

/-- The number times 2^k. -/
def Num.scale (x : Num) (k : Int) : Num :=
  match x with
  | .fin a n e => .fin a n (e + k)
  | y => y

/-- x < y of numbers, neither a NaN; zeros of both signs are equal. -/
def Num.lt : Num → Num → Bool
  | .inf a, .inf b => a && !b
  | .inf a, .fin _ _ _ => a
  | .fin _ _ _, .inf b => !b
  | .fin a m e, .fin b n f => let g := min e f; decide (sgn a m * 2 ^ (e - g).toNat < sgn b n * 2 ^ (f - g).toNat)
  | _, _ => false

/-- The value is a zero. -/
def Num.isZero : Num → Bool
  | .fin _ n _ => n = 0
  | _ => false

def Num.isNan : Num → Bool
  | .nan => true
  | _ => false

def Num.isFin : Num → Bool
  | .fin _ _ _ => true
  | _ => false

/-- The sign of a number. -/
def Num.negative : Num → Bool
  | .nan => false
  | .inf a => a
  | .fin a _ _ => a

/-- The maximum, NaN sticky (05 R140); of two zeros of opposite sign the manual names neither (log 15). -/
def Num.max (x y : Num) : Num :=
  if x.isNan || y.isNan then .nan
  else if x.isZero && y.isZero then (if x.negative = y.negative then x else .fin (Config.zeroMaxNegative x.negative) 0 0)
  else if x.lt y then y else x

/-- The minimum, NaN sticky (07 R200); of two zeros of opposite sign the manual names neither (log 15). -/
def Num.min (x y : Num) : Num :=
  if x.isNan || y.isNan then .nan
  else if x.isZero && y.isZero then (if x.negative = y.negative then x else .fin (Config.zeroMinNegative x.negative) 0 0)
  else if y.lt x then y else x

/-- The nearest integer of a finite number, ties away from zero. -/
def Num.toInt : Num → Int
  | .fin a n e => let r := ratio n 1 e; rna (sgn a r.1) r.2
  | _ => 0

/-- ⌊√n⌋, from bit `b` down. -/
def isqrtAux (n : Nat) : Nat → Nat → Nat
  | 0, r => if (r + 1) * (r + 1) ≤ n then r + 1 else r
  | b + 1, r => isqrtAux n b (if (r + 2 ^ (b + 1)) * (r + 2 ^ (b + 1)) ≤ n then r + 2 ^ (b + 1) else r)

def isqrt (n : Nat) : Nat := isqrtAux n (Nat.log2 n / 2) 0

/-- The rounding of √(n / d) to a format, once: 160 extra bits and a sticky bit decide it, since no root of a number of a format is a tie of that format. -/
def Fmt.sqrtRound (f : Fmt) (n d : Nat) : Nat :=
  if n = 0 then 0
  else
    let k := 160 + Nat.log2 d
    let t := n * 4 ^ k / d
    let r := isqrt t
    let sticky := if r * r = t ∧ t * d = n * 4 ^ k then 0 else 1
    f.round false (2 * r + sticky) (2 ^ (k + 1))

/-- The rounding of √(n / d) to FP32. -/
def sqrtRound (n d : Nat) : Nat := fp32.sqrtRound n d

/-- Interp of 02 R38. -/
def interp (tbl : Nat → Nat) (k r q : Nat) : Int :=
  (tbl k : Int) + (((tbl (k + 1) : Int) - tbl k) * r + 2 ^ (q - 1)) / 2 ^ q

/-- The unit of the fixed point the tables are formed in. -/
def fx : Nat := 2 ^ 128

/-- Σ z^(2i+1)/(2i+1) for i < n, in `fx`: the term and the square are carried. -/
def atanhAux (z2 : Nat) : Nat → Nat → Nat → Nat
  | 0, _, _ => 0
  | n + 1, t, i => t / (2 * i + 1) + atanhAux z2 n (t * z2 / fx) (i + 1)

/-- ln(1 + k/1024) in units of 1/fx. -/
def lnFx (k : Nat) : Nat :=
  let z := k * fx / (2048 + k)
  2 * atanhAux (z * z / fx) 48 z 0

/-- Σ (−t)^i / i!, in `fx`. -/
def expAux (t : Int) : Nat → Int → Nat → Int
  | 0, _, _ => 0
  | n + 1, u, i => u + expAux t n (-(u * t) / (fx : Int) / (i + 1)) (i + 1)

/-- Squares a fixed-point number n times. -/
def squareFx : Nat → Nat → Nat
  | 0, x => x
  | n + 1, x => squareFx n (x * x / fx)

/-- e^(−x) in units of 1/fx, for x in those units, 0 ≤ x ≤ 32. -/
def expNegFx (x : Nat) : Nat := squareFx 6 (expAux (x / 64 : Nat) 32 fx 0).toNat

/-- RNA(65,536 × ln(1 + k/1024)), end point LN2 (02 R38). -/
def tableLT (k : Nat) : Nat := if k < 1024 then (2 * 65536 * lnFx k + fx) / (2 * fx) else 45426

/-- RNA(65,536 × σ(k/32)), end point 65,536 (02 R38). -/
def tableST (k : Nat) : Nat :=
  if k < 1024 then let d := fx + expNegFx (k * fx / 32); (2 * 65536 * fx + d) / (2 * d) else 65536

/-- π in units of 1/2^128. -/
def piFx : Nat := 1069028584064966747859680373161870783300

/-- Σ x^(2i+1)/(1·3·…·(2i+1)) for i < n, in `fx`. -/
def phiAux (x2 : Nat) : Nat → Nat → Nat → Nat
  | 0, _, _ => 0
  | n + 1, t, i => t + phiAux x2 n (t * x2 / fx / (2 * i + 3)) (i + 1)

/-- √(2π) in units of 1/fx. -/
def sqrt2piFx : Nat := isqrt (2 * piFx * fx)

/-- Φ(x) − 0.5 in units of 1/fx, for x in those units. -/
def phiFx (x : Nat) : Nat := let x2 := x * x / fx; phiAux x2 96 x 0 * expNegFx (x2 / 2) / sqrt2piFx

/-- The largest x in units of 1/131,072 with Φ(x) − 0.5 at most (2k + 1)/4096, from bit b down. -/
def quantile (k : Nat) : Nat → Nat → Nat
  | 0, r => r
  | b + 1, r => quantile k b (if phiFx ((r + 2 ^ b) * fx / 131072) * 4096 ≤ (2 * k + 1) * fx then r + 2 ^ b else r)

/-- RNA(65,536 × Φ⁻¹(0.5 + (k + 0.5)/2048)), end point GT[1023] (02 R38). -/
def tableGT (k : Nat) : Nat := (quantile (if k < 1024 then k else 1023) 19 0 + 1) / 2

/-- RNA(2^24 × 2^(k/1024)), end point 2^25 (05 R141). -/
def tableET (k : Nat) : Nat :=
  if k < 1024 then (2 * 2 ^ 25 * expNegFx ((1024 - k) * lnFx 1024 / 1024) + fx) / (2 * fx) else 2 ^ 25

/-- EXPF steps 2 to 5 for any finite d (05 R141, 07 R200): the FP32 result, as an exact number. -/
def expf (d : Num) : Num :=
  match d with
  | .nan => .nan
  | .inf true => .fin false 0 0
  | .inf false => .inf false
  | d =>
    match (d.mul (fp32.val 0x3FB8AA3B)).r32 with
    | .fin a n e =>
      if (Num.fin a n e).lt (.fin true 256 0) then .fin false 0 0
      else
        let y := ((Num.fin a n e).scale 23).toInt
        let q := y / 2 ^ 23
        let f := (y % 2 ^ 23).toNat
        (Num.fin false (interp tableET (f / 8192) (f % 8192) 13).toNat (q - 24)).r32
    | .inf false => .inf false
    | _ => .fin false 0 0

/-- An E8M0 scale byte: its exponent, none for the NaN scale (05 "Formats"). -/
def mxScale (b : Nat) : Option Int := if b = 0xFF then none else some ((b : Int) - 127)

/-- E2M1: bias 1, 1 mantissa bit, no infinity or NaN (05 R113). -/
def e2m1 (b : Nat) : Num :=
  let ex := bits b 2 1
  if ex = 0 then .fin (bit b 3) (bits b 0 0) (-1) else .fin (bit b 3) (bits b 0 0 + 2) ((ex : Int) - 2)

/-- E4M3: bias 7, S.1111.111 NaN, no infinity (05 R113). -/
def e4m3 (b : Nat) : Num :=
  let ex := bits b 6 3
  let m := bits b 2 0
  if ex = 15 ∧ m = 7 then .nan
  else if ex = 0 then .fin (bit b 7) m (-9) else .fin (bit b 7) (m + 8) ((ex : Int) - 10)

/-- E5M2: bias 15, infinities and NaNs as IEEE 754 (05 R113). -/
def e5m2 (b : Nat) : Num :=
  let ex := bits b 6 2
  let m := bits b 1 0
  if ex = 31 then (if m = 0 then .inf (bit b 7) else .nan)
  else if ex = 0 then .fin (bit b 7) m (-16) else .fin (bit b 7) (m + 4) ((ex : Int) - 17)

end Sys2Proof.Machine
end

