-- ==== Sys2Proof/Machine/Crypto.lean ====
section
/-!
DEFINITION. SHAKE256 (FIPS 202) and AES-256-GCM (FIPS 197, NIST SP 800-38D), the standards 00_scope.md names; digests are 32 bytes (00_scope.md R5).
-/
namespace Sys2Proof.Machine

/-- A 64-bit lane rotated left. -/
def rotl64 (x n : Nat) : Nat := (x * 2 ^ n + x / 2 ^ (64 - n)) % 2 ^ 64

/-- The lanes (x, y) that ρ visits from (1, 0) on; π moves each lane to the next one visited (FIPS 202 3.2.2, 3.2.3). -/
def laneWalk : Nat → Nat × Nat → List (Nat × Nat)
  | 0, _ => []
  | n + 1, p => p :: laneWalk n (p.2, (2 * p.1 + 3 * p.2) % 5)

/-- ρ and π as moves: the place a lane comes from, the place it goes to, and the triangular rotation it takes on the way. -/
def laneMoves : List ((Nat × Nat) × (Nat × Nat) × Nat) :=
  let w := laneWalk 25 (1, 0)
  (w.zip (w.drop 1)).mapIdx fun t m => (m.1, m.2, (t + 1) * (t + 2) / 2 % 64)

/-- The bit stream rc(t) of ι from the shift register's byte (FIPS 202 3.2.5): the bits of one round, each at place 2^j − 1, and the byte after it. -/
def iotaBits : Nat → Nat → Nat → Nat × Nat
  | 0, _, s => (0, s)
  | n + 1, j, s =>
    let t := iotaBits n (j + 1) (if s < 128 then 2 * s else Nat.xor (2 * s) 0x171)
    (t.1 + s % 2 * 2 ^ (2 ^ j - 1), t.2)

/-- θ: each plane takes the parities of the two neighbouring columns. A state is five planes of five lanes. -/
def keccakTheta (planes : List (List Nat)) : List (List Nat) :=
  let parity := planes.foldl (List.zipWith Nat.xor) (List.replicate 5 0)
  let mix := List.zipWith Nat.xor (parity.drop 4 ++ parity.take 4) ((parity.drop 1 ++ parity.take 1).map fun p => rotl64 p 1)
  planes.map (List.zipWith Nat.xor mix)

/-- χ of one plane. -/
def keccakChi (plane : List Nat) : List Nat :=
  let gate := List.zipWith (fun n p => p - Nat.land n p) (plane.drop 1 ++ plane.take 1) (plane.drop 2 ++ plane.take 2)
  List.zipWith Nat.xor plane gate

/-- ρ and π: the lane at the origin stays. -/
def keccakMove (planes : List (List Nat)) : List (List Nat) :=
  let lane := fun (p : Nat × Nat) => (planes.getD p.2 []).getD p.1 0
  let moved := laneMoves.map fun m => (m.2.1, rotl64 (lane m.1) m.2.2)
  (List.range 5).map fun y => (List.range 5).map fun x => ((moved.find? fun c => c.1 = (x, y)).map fun c => c.2).getD (lane (0, 0))

/-- KECCAK-f[1600], as many rounds as are left, with the shift register of ι. -/
def keccakF : Nat → Nat → List (List Nat) → List (List Nat)
  | 0, _, planes => planes
  | n + 1, s, planes =>
    let c := iotaBits 7 0 s
    match (keccakMove (keccakTheta planes)).map keccakChi with
    | (l :: plane) :: rest => keccakF n c.2 ((Nat.xor l c.1 :: plane) :: rest)
    | other => keccakF n c.2 other

/-- Absorbs the message as little-endian numbers of `rate` bytes: pad10*1 follows the domain bits 1111 (FIPS 202 6.2). -/
def shakeAbsorb : Nat → Bytes → List (List Nat) → List (List Nat)
  | 0, _, planes => planes
  | n + 1, m, planes =>
    let v := ofLe (m.take 136) + if n = 0 then 0x1F * 2 ^ (8 * m.length) + 2 ^ 1087 else 0
    let block := (List.range 5).map fun y => (List.range 5).map fun x => v / 2 ^ (320 * y + 64 * x) % 2 ^ 64
    shakeAbsorb n (m.drop 136) (keccakF 24 1 (List.zipWith (List.zipWith Nat.xor) planes block))

/-- Squeezes at least `n` blocks of 136 bytes. -/
def shakeSqueeze : Nat → List (List Nat) → Bytes
  | 0, _ => []
  | n + 1, planes => (planes.flatten.take 17).flatMap (le 8) ++ shakeSqueeze n (keccakF 24 1 planes)

/-- SHAKE256(m, n). The last block holds the message's rest, which is less than 136 bytes. -/
def shake256 (m : Bytes) (n : Nat) : Bytes :=
  (shakeSqueeze ((n + 135) / 136) (shakeAbsorb (m.length / 136 + 1) m (List.replicate 5 (List.replicate 5 0)))).take n

/-- A DIGEST: SHAKE256 with 32 bytes (00_scope.md R5). -/
def digest (m : Bytes) : Bytes := shake256 m 32

/-- Product in GF(2^8) modulo x^8 + x^4 + x^3 + x + 1, over n bits of b. -/
def gf8 : Nat → Nat → Nat → Nat
  | 0, _, _ => 0
  | n + 1, a, b => Nat.xor (if b % 2 = 1 then a else 0) (gf8 n (if a < 128 then 2 * a else Nat.xor (2 * a) 0x11B) (b / 2))

/-- a^254, the inverse in GF(2^8). -/
def gf8Inv (a : Nat) : Nat :=
  let m := gf8 8
  let a2 := m a a; let a4 := m a2 a2; let a8 := m a4 a4; let a16 := m a8 a8; let a32 := m a16 a16; let a64 := m a32 a32; let a128 := m a64 a64
  m a2 (m a4 (m a8 (m a16 (m a32 (m a64 a128)))))

/-- The AES S-box. -/
def aesSbox (a : Nat) : Nat :=
  let i := gf8Inv a
  let r := fun n => (i * 2 ^ n + i / 2 ^ (8 - n)) % 256
  Nat.xor (Nat.xor (Nat.xor (Nat.xor i (r 1)) (r 2)) (Nat.xor (r 3) (r 4))) 0x63

/-- The key schedule of AES-256: words from index i on, given the last eight, newest last. -/
def aesExpand : Nat → Nat → List (List Nat) → List (List Nat)
  | 0, _, w => w
  | n + 1, i, w =>
    let t := w.getD (i - 1) []
    let t := if i % 8 = 0 then
        let s := (t.drop 1 ++ t.take 1).map aesSbox
        s.mapIdx fun k b => if k = 0 then Nat.xor b (2 ^ (i / 8 - 1)) else b
      else if i % 8 = 4 then t.map aesSbox else t
    aesExpand n (i + 1) (w ++ [List.zipWith Nat.xor (w.getD (i - 8) []) t])

/-- The 60 round-key words of a 32-byte key. -/
def aesKeys (key : Bytes) : List (List Nat) :=
  aesExpand 52 8 ((List.range 8).map fun i => (slice key (4 * i) 4).map fun b => b.toNat)

def aesAddKey (ks : List (List Nat)) (r : Nat) (s : List Nat) : List Nat :=
  s.mapIdx fun i b => Nat.xor b ((ks.getD (4 * r + i / 4) []).getD (i % 4) 0)

def aesSubShift (s : List Nat) : List Nat := (List.range 16).map fun i => aesSbox (s.getD ((i + 4 * (i % 4)) % 16) 0)

def aesMix (s : List Nat) : List Nat :=
  (List.range 16).map fun i =>
    let g := fun k => s.getD (i / 4 * 4 + (i + k) % 4) 0
    Nat.xor (Nat.xor (gf8 8 (g 0) 2) (gf8 8 (g 1) 3)) (Nat.xor (g 2) (g 3))

/-- AES-256 of one 16-byte block. -/
def aesBlock (ks : List (List Nat)) (b : Bytes) : Bytes :=
  let s := aesAddKey ks 0 (b.map fun x => x.toNat)
  let s := (List.range 13).foldl (fun s r => aesAddKey ks (r + 1) (aesMix (aesSubShift s))) s
  (aesAddKey ks 14 (aesSubShift s)).map fun x => BitVec.ofNat 8 x

/-- A big-endian number. -/
def ofBe (b : Bytes) : Nat := ofLe b.reverse
def be (n v : Nat) : Bytes := (le n v).reverse

/-- Product in GF(2^128) of SP 800-38D: bits of x from the most significant of n. -/
def ghashMul (x : Nat) : Nat → Nat → Nat → Nat
  | 0, _, z => z
  | n + 1, v, z =>
    ghashMul x n (if v % 2 = 1 then Nat.xor (v / 2) (0xE1 * 2 ^ 120) else v / 2) (if x / 2 ^ n % 2 = 1 then Nat.xor z v else z)

/-- GHASH over whole blocks. -/
def ghash (h : Nat) : Nat → Bytes → Nat → Nat
  | 0, _, y => y
  | n + 1, m, y => ghash h n (m.drop 16) (ghashMul (Nat.xor y (ofBe (m.take 16))) 128 h 0)

def pad16 (b : Bytes) : Bytes := b ++ zeros ((16 - b.length % 16) % 16)

/-- AES-256-GCM with a 12-byte IV: the data under the key stream, and the tag of the ciphertext `c`. -/
def gcmStream (key iv data : Bytes) : Bytes :=
  let ks := aesKeys key
  (List.range ((data.length + 15) / 16)).flatMap fun i =>
    List.zipWith (fun a b => a ^^^ b) ((data.drop (16 * i)).take 16) (aesBlock ks (iv ++ be 4 (i + 2)))

def gcmTag (key iv aad c : Bytes) : Bytes :=
  let ks := aesKeys key
  let m := pad16 aad ++ pad16 c ++ be 8 (8 * aad.length) ++ be 8 (8 * c.length)
  be 16 (Nat.xor (ghash (ofBe (aesBlock ks (zeros 16))) (m.length / 16) m 0) (ofBe (aesBlock ks (iv ++ be 4 1))))

end Sys2Proof.Machine
end

