-- ==== Sys2Proof/Machine/Schema.lean ====
section
/-!
DEFINITION. The dictionary schema: every entry the manual tables, with type, access, default, range and maximum length (10 R268 to R271, R290).
-/
namespace Sys2Proof.Machine

/-- Type codes of 10 R269. -/
inductive DType where
  | u8 | u16 | u32 | u64 | i32 | f32 | bytes | str | digest
  deriving DecidableEq, Repr

/-- Access codes of 10 R270. -/
inductive Access where
  | ro | rw | wo | rwp | const
  deriving DecidableEq, Repr

def DType.code : DType → Nat
  | .u8 => 0 | .u16 => 1 | .u32 => 2 | .u64 => 3 | .i32 => 4 | .f32 => 5 | .bytes => 6 | .str => 7 | .digest => 8

def Access.code : Access → Nat
  | .ro => 0 | .rw => 1 | .wo => 2 | .rwp => 3 | .const => 4

/-- Size in bytes of a scalar type; 0 for BYTES, STR and DIGEST (10 R269). -/
def DType.size : DType → Nat
  | .u8 => 1 | .u16 => 2 | .u32 => 4 | .u64 => 8 | .i32 => 4 | .f32 => 4 | .bytes => 0 | .str => 0 | .digest => 0

def DType.isScalar (t : DType) : Bool := t.size ≠ 0

/-- A run of entries of one index: subindices `first` to `last`. For a scalar, `lo` to `hi` is the range a write must meet, before the rules of its
chapter; for the others `hi` is the maximum length. -/
structure Row where
  index : Nat
  first : Nat
  last : Nat
  type : DType
  access : Access
  default : Nat
  lo : Nat
  hi : Nat
  deriving DecidableEq, Repr

/-- One entry. -/
def one (i k : Nat) (t : DType) (a : Access) (d lo hi : Nat) : Row := ⟨i, k, k, t, a, d, lo, hi⟩

/-- 10 R291, 12 R343, 13 R364: identity, dictionary, start-up. -/
def rowsIdentity : List Row :=
  [one 0x1000 0x01 .str .const 0 0 13, one 0x1000 0x02 .u16 .const 0x0101 0 0, one 0x1000 0x03 .u8 .const 1 0 0,
   one 0x1000 0x04 .u32 .ro 0 0 0, one 0x1000 0x05 .u32 .const 0 0 0, one 0x1000 0x06 .digest .ro 0 0 32,
   one 0x1000 0x07 .u32 .ro 0 0 0, one 0x1000 0x08 .bytes .ro 0 0 8192, one 0x1000 0x09 .u8 .wo 0 1 1,
   one 0x1000 0x0A .u32 .ro 0 0 0, one 0x1000 0x0B .u32 .wo 0 0x5AD00001 0x5AD00001, one 0x1000 0x0C .bytes .ro 0 0 1024,
   one 0x1000 0x10 .str .const 0 0 16, one 0x1000 0x20 .bytes .ro 0 0 4712, one 0x1000 0x21 .digest .ro 0 0 32,
   one 0x1000 0x22 .u8 .ro 0 0 0,
   one 0x1010 0x01 .u8 .ro 0 0 0, one 0x1010 0x02 .u8 .ro 0 0 0, one 0x1010 0x03 .u32 .ro 0 0 0, one 0x1010 0x04 .u16 .ro 0 0 0,
   one 0x1010 0x05 .bytes .ro 0 0 136, one 0x1010 0x06 .bytes .ro 0 0 34, one 0x1010 0x07 .u8 .ro 0xFF 0 0,
   one 0x1010 0x08 .bytes .ro 0 0 2048, one 0x1010 0x09 .u8 .ro 0 0 0, one 0x1010 0x0A .u32 .ro 0 0 0, one 0x1010 0x0B .u32 .ro 0 0 0]

/-- 15 R395: image. -/
def rowsImage : List Row :=
  [one 0x1100 0x01 .u32 .ro 0 0 0, one 0x1100 0x02 .u8 .ro 0 0 0, one 0x1100 0x03 .u8 .ro 0 0 0, one 0x1100 0x04 .u8 .ro 0 0 0,
   one 0x1100 0x05 .u8 .ro 0 0 0, one 0x1100 0x06 .u8 .rwp 3 1 16, one 0x1100 0x07 .u8 .ro 0 0 0, ⟨0x1100, 0x08, 0x09, .bytes, .ro, 0, 0, 64⟩,
   one 0x1100 0x10 .u8 .wo 0 1 6, one 0x1100 0x11 .u8 .ro 0 0 0, one 0x1100 0x12 .u8 .ro 0 0 0,
   one 0x1100 0x13 .u32 .rw 0 8192 16773120, one 0x1100 0x14 .u32 .ro 0 0 0, one 0x1100 0x15 .bytes .ro 0 0 512,
   one 0x1100 0x16 .bytes .wo 0 0 16773120, one 0x1100 0x17 .bytes .ro 0 0 16]

/-- 09 R267, 07 R210, 03 R83: host, rings, hanks, anneal engine. -/
def rowsHost : List Row :=
  [one 0x2000 0x01 .u8 .ro 0 0 0, one 0x2000 0x02 .u8 .ro 0 0 0, one 0x2000 0x03 .u8 .const 64 0 0, one 0x2000 0x04 .u16 .const 4096 0 0,
   one 0x2000 0x05 .u8 .const 16 0 0, one 0x2000 0x06 .u16 .rw 2047 0 2047, one 0x2000 0x07 .u32 .ro 0 0 0, one 0x2000 0x08 .u8 .rw 2 0 4,
   one 0x2000 0x09 .u32 .ro 0 0 0, one 0x2000 0x0A .u32 .ro 0 0 0,
   one 0x2010 0x01 .u16 .const 12288 0 0, one 0x2010 0x02 .u8 .const 63 0 0, one 0x2010 0x03 .u8 .const 16 0 0, one 0x2010 0x04 .u8 .const 64 0 0,
   one 0x2010 0x05 .u8 .const 16 0 0, one 0x2010 0x06 .u32 .const 121600 0 0, one 0x2010 0x10 .u32 .ro 0 0 0,
   ⟨0x2020, 0, 0x3F, .u16, .rw, 0x0100, 0, 0xFFFF⟩, ⟨0x2030, 1, 15, .u64, .rw, 0, 0, 2 ^ 64 - 1⟩, ⟨0x2031, 1, 15, .u64, .rw, 0, 0, 2 ^ 64 - 1⟩,
   ⟨0x2040, 0, 0x3F, .u64, .ro, 0, 0, 0⟩,
   one 0x3010 0x03 .u8 .rwp 0 0 1, one 0x3010 0x04 .u16 .const 32 0 0, one 0x3010 0x05 .u16 .const 16 0 0, one 0x3010 0x06 .u16 .const 64 0 0,
   one 0x3010 0x07 .u16 .const 8 0 0, one 0x3010 0x08 .u16 .const 8 0 0, one 0x3010 0x10 .u16 .ro 0 0 0, one 0x3010 0x11 .u16 .ro 0 0 0]

/-- 04 R110, 05 R145, 06 R170: noise, tensor, shapes. -/
def rowsCompute : List Row :=
  [one 0x3800 0x01 .u16 .rwp 655 0 16384, one 0x3800 0x02 .u16 .rwp 983 0 16384, one 0x3800 0x03 .u16 .const 16 0 0, one 0x3800 0x04 .u16 .const 4 0 0,
   one 0x3800 0x05 .u32 .rwp 10000 100 10000000, one 0x3800 0x06 .u8 .ro 0 0 0, one 0x3800 0x07 .u8 .ro 0 0 0, one 0x3800 0x08 .u16 .const 256 0 0,
   one 0x3800 0x09 .u16 .const 64 0 0, one 0x3800 0x0A .u32 .const 1048576 0 0, one 0x3800 0x0B .u32 .ro 0 0 0, one 0x3800 0x0C .u32 .ro 0 0 0,
   one 0x3800 0x0D .u32 .ro 0 0 0, ⟨0x3810, 0, 0x88, .u32, .ro, 0, 0, 0⟩, ⟨0x3820, 0, 0x88, .u8, .rwp, 0, 0, 1⟩, ⟨0x3830, 0, 0x88, .u32, .ro, 0, 0, 0⟩,
   one 0x4000 0x01 .u16 .const 32 0 0, one 0x4000 0x02 .u16 .const 32 0 0, one 0x4000 0x03 .u16 .const 8192 0 0, one 0x4000 0x04 .u8 .const 7 0 0,
   one 0x4000 0x05 .u8 .const 8 0 0, one 0x4000 0x06 .u8 .const 64 0 0, one 0x4000 0x07 .u64 .const 1099511627776 0 0,
   one 0x4000 0x08 .u32 .const 16777216 0 0, one 0x4000 0x09 .u8 .const 8 0 0, ⟨0x4010, 1, 4, .u32, .ro, 0, 0, 0⟩,
   one 0x4020 0x01 .u8 .ro 0 0 0, one 0x4020 0x02 .u8 .ro 0 0 0, one 0x4020 0x03 .u8 .ro 68 0 0, one 0x4020 0x04 .u8 .ro 68 0 0,
   one 0x4020 0x05 .u8 .ro 1 0 0, one 0x4020 0x06 .u8 .ro 1 0 0, one 0x4020 0x07 .u8 .ro 1 0 0, one 0x4020 0x08 .u8 .ro 1 0 0]

/-- 08 R240: memory, fabric and clocks. -/
def rowsMemory : List Row :=
  [one 0x5000 0x01 .u64 .const 0 0 0, one 0x5000 0x02 .u64 .const 0xFBFFFFFF 0 0, one 0x5000 0x03 .u32 .ro 0 0 0, one 0x5000 0x04 .u32 .ro 0 0 0,
   one 0x5000 0x05 .u32 .rwp 4096 1024 1048576, one 0x5000 0x06 .u32 .ro 0 0 0, one 0x5000 0x07 .u16 .ro 0 0 0,
   one 0x5010 0x01 .u32 .ro 0 0 0, one 0x5010 0x02 .u32 .ro 0 0 0, one 0x5010 0x03 .u16 .rwp 24 1 168, one 0x5010 0x04 .u8 .ro 0 0 0,
   one 0x5010 0x05 .bytes .ro 0 0 32768, one 0x5010 0x06 .u32 .ro 0 0 0,
   one 0x5020 0x01 .u8 .rwp 12 4 15, one 0x5020 0x02 .u32 .const 2000 0 0, one 0x5020 0x03 .u8 .const 4 0 0, one 0x5020 0x04 .u32 .ro 0 0 0,
   one 0x5030 0x01 .u8 .ro 0 0 0, one 0x5030 0x02 .u8 .ro 0 0 0, one 0x5030 0x03 .u16 .ro 0 0 0, one 0x5030 0x04 .u16 .ro 0 0 0]

/-- 10 R292, 11 R316, R317: power and ageing. -/
def rowsPower : List Row :=
  [one 0x6000 0x01 .u16 .rwp 950 350 950, one 0x6000 0x02 .u8 .rwp 100 70 105, one 0x6000 0x03 .u16 .const 80 0 0,
   one 0x6000 0x04 .u32 .rwp 60000 10 3600000, one 0x6000 0x05 .u8 .rw 0 0 3, one 0x6000 0x06 .u8 .rw 0 0 3, one 0x6000 0x07 .u16 .ro 0 0 0,
   one 0x6000 0x08 .u16 .ro 80 0 0, one 0x6000 0x09 .i32 .ro 0 0 0, one 0x6000 0x0A .i32 .ro 0 0 0, one 0x6000 0x0B .u32 .ro 0 0 0,
   one 0x6000 0x0C .u8 .ro 0 0 0, one 0x6000 0x0D .u8 .ro 0 0 0,
   one 0x6000 0x10 .u16 .const 0 0 0, one 0x6000 0x11 .u16 .const 19 0 0, one 0x6000 0x12 .u16 .const 270 0 0, one 0x6000 0x13 .u16 .const 41 0 0,
   one 0x6000 0x14 .u16 .const 47 0 0, one 0x6000 0x15 .u16 .const 1700 0 0,
   one 0x6000 0x20 .u16 .const 0 0 0, one 0x6000 0x21 .u16 .rwp 15 0 950, one 0x6000 0x22 .u16 .rwp 27 0 950, one 0x6000 0x23 .u16 .rwp 131 0 950,
   one 0x6000 0x24 .u16 .rwp 150 0 950, one 0x6000 0x25 .u16 .rwp 340 0 950,
   one 0x6000 0x40 .u8 .ro 0 0 0, one 0x6000 0x41 .bytes .ro 0 0 83264, one 0x6000 0x42 .u32 .ro 0 0 0, one 0x6000 0x43 .u16 .const 60 0 0,
   one 0x6000 0x44 .u8 .rwp 0 0 1, one 0x6000 0x45 .u32 .ro 0 0 0,
   one 0x6100 0x01 .u8 .wo 0 1 1, one 0x6100 0x02 .u8 .ro 0 0 0, one 0x6100 0x03 .u8 .ro 0 0 0, one 0x6100 0x04 .u8 .ro 0 0 0,
   one 0x6100 0x05 .u64 .ro 0 0 0, one 0x6100 0x06 .u64 .ro 0 0 0, one 0x6100 0x07 .u32 .ro 0 0 0, one 0x6100 0x08 .u16 .const 25 0 0,
   one 0x6100 0x09 .bytes .ro 0 0 2368, one 0x6100 0x0A .i32 .ro 0 0 0]

/-- 12 R343, 14 R377, 10 R293: security, ledger, recorder, debug. -/
def rowsSecurity : List Row :=
  [one 0x7000 0x01 .bytes .rw 0 0 32, one 0x7000 0x02 .u8 .wo 0 1 1, one 0x7000 0x03 .u8 .ro 0 0 0, one 0x7000 0x04 .bytes .ro 0 0 4480,
   one 0x7000 0x05 .bytes .rw 0 0 32, one 0x7000 0x06 .u8 .wo 0 0 63, one 0x7000 0x07 .u16 .const 4096 0 0, one 0x7000 0x08 .u32 .ro 0 0 0,
   one 0x7000 0x09 .u32 .ro 0 0 0, ⟨0x7010, 0, 0x3F, .u64, .rw, 0, 0, 2 ^ 64 - 1⟩, ⟨0x7011, 0, 0x3F, .u8, .rw, 8, 4, 14⟩,
   ⟨0x7012, 0, 0x3F, .digest, .ro, 0, 0, 32⟩, ⟨0x7013, 0, 0x3F, .u64, .ro, 0, 0, 0⟩, ⟨0x7014, 0, 0x3F, .digest, .ro, 0, 0, 32⟩,
   ⟨0x7020, 0, 0x3F, .bytes, .ro, 0, 0, 1472⟩, ⟨0x7030, 0, 0x0F, .bytes, .wo, 0, 0, 32⟩, one 0x7030 0x10 .u16 .ro 0 0 0, one 0x7030 0x11 .u64 .ro 0 0 0,
   one 0x7800 0x01 .u8 .wo 0 1 2, one 0x7800 0x02 .u8 .wo 0 1 2, one 0x7800 0x03 .u8 .ro 0 0 0, one 0x7800 0x04 .u32 .rwp 1000 10 60000,
   one 0x7800 0x05 .u64 .ro 1 0 0, one 0x7800 0x06 .u64 .ro 0 0 0, one 0x7800 0x07 .u32 .ro 0 0 0, one 0x7800 0x08 .bytes .ro 0 0 1048576,
   ⟨0x7800, 0x10, 0x13, .u32, .ro, 0, 0, 0⟩, one 0x7800 0x14 .u32 .ro 0 0 0, one 0x7800 0x15 .u32 .ro 0 0 0, one 0x7800 0x16 .u32 .ro 0 0 0,
   one 0x7800 0x18 .bytes .ro 0 0 262144, one 0x7800 0x19 .u32 .ro 0 0 0, one 0x7800 0x20 .bytes .ro 0 0 1040384,
   one 0x7800 0x21 .u32 .wo 0 0x5AD00002 0x5AD00002, one 0x7800 0x22 .u32 .ro 0 0 0, one 0x7800 0x30 .bytes .const 0 0 32768,
   ⟨0x7810, 0, 0x0F, .bytes, .rw, 0, 0, 320⟩, one 0x8000 0x01 .u8 .rw 0 0 1, one 0x8000 0x02 .u8 .rw 0 0 1]

/-- The schema, in ascending (index, subindex). -/
def schema : List Row := rowsIdentity ++ rowsImage ++ rowsHost ++ rowsCompute ++ rowsMemory ++ rowsPower ++ rowsSecurity

/-- The row of an entry; none when the entry is absent (10 R271). -/
def rowOf (index sub : Nat) : Option Row := schema.find? fun r => r.index = index && r.first ≤ sub && sub ≤ r.last

/-- The key of an entry in `Dictionary.values`. -/
def entryKey (index sub : Nat) : Nat := index * 256 + sub

/-- The default of an entry. -/
def defaultOf (index sub : Nat) : Nat := match rowOf index sub with
  | some r => r.default
  | none => 0

/-- The value an RW or RWP scalar holds: what is stored, or its default. -/
def Dictionary.scalar (x : Dictionary) (index sub : Nat) : Nat :=
  match x.values.find? fun c => c.1 = entryKey index sub with
  | some c => c.2.toNat
  | none => defaultOf index sub

/-- Stores an RW or RWP scalar: the canonical list holds no value at its default. -/
def Dictionary.store (x : Dictionary) (index sub : Nat) (v : BitVec 64) : Dictionary :=
  { x with values := Sparse.replace (BitVec.ofNat 64 (defaultOf index sub)) x.values (entryKey index sub) 1 fun _ => v }

/-- The value of an RW or RWP scalar in a state. -/
def State.entry (s : State) (index sub : Nat) : Nat := s.dict.scalar index sub

end Sys2Proof.Machine
end

