-- ==== Sys2Proof/Machine/Ops.lean ====
section
/-!
DEFINITION. The operations every meaning uses: registers by number, free values, event records, the memories with their check bits.
-/
namespace Sys2Proof.Machine

/-- An entry of a fixed table by number; `d` past its end. -/
def vget {α : Type} {n : Nat} (v : Vector α n) (d : α) (i : Nat) : α := v[i]?.getD d

/-- Replaces an entry of a fixed table; nothing past its end. -/
def vset {α : Type} {n : Nat} (v : Vector α n) (i : Nat) (x : α) : Vector α n := v.setIfInBounds i x

/-- Updates an entry of a fixed table; nothing past its end. -/
def vmod {α : Type} {n : Nat} (v : Vector α n) (i : Nat) (f : α → α) : Vector α n :=
  match v[i]? with
  | some x => v.setIfInBounds i (f x)
  | none => v

def State.ring (s : State) (r : Nat) : Ring := vget s.rings Ring.reset r
def State.modRing (s : State) (r : Nat) (f : Ring → Ring) : State := { s with rings := vmod s.rings r f }
def State.run (s : State) (d : Nat) : Option Run := (vget s.distaffs { inService := false, run := none } d).run
def State.modDistaff (s : State) (d : Nat) (f : Distaff → Distaff) : State := { s with distaffs := vmod s.distaffs d f }
def State.setRun (s : State) (d : Nat) (r : Option Run) : State := s.modDistaff d fun x => { x with run := r }
def State.modRun (s : State) (d : Nat) (f : Run → Run) : State := s.modDistaff d fun x => { x with run := x.run.map f }
def State.spindle (s : State) (l : Nat) : Spindle := vget s.units.spindles Spindle.reset l
def State.modSpindle (s : State) (l : Nat) (f : Spindle → Spindle) : State :=
  { s with units := { s.units with spindles := vmod s.units.spindles l f } }
def State.bobbin (s : State) (b : Nat) : Bobbin := vget s.units.bobbins Bobbin.reset b
def State.modBobbin (s : State) (b : Nat) (f : Bobbin → Bobbin) : State :=
  { s with units := { s.units with bobbins := vmod s.units.bobbins b f } }
def State.slot (s : State) (k : Nat) : Slot := vget s.dict.slots Slot.reset k
def State.modSlot (s : State) (k : Nat) (f : Slot → Slot) : State := { s with dict := { s.dict with slots := vmod s.dict.slots k f } }
def State.group (s : State) (g : Nat) : Group := vget s.noise.groups Group.reset g
def State.modGroup (s : State) (g : Nat) (f : Group → Group) : State := { s with noise := { s.noise with groups := vmod s.noise.groups g f } }
def State.modDict (s : State) (f : Dictionary → Dictionary) : State := { s with dict := f s.dict }
def State.modRecorder (s : State) (f : Recorder → Recorder) : State := { s with recorder := f s.recorder }

/-- The next free value of the run (log 2). -/
def State.freeVal (s : State) : BitVec 64 := Config.freeValue s.out.free

/-- Moves past one free value. -/
def State.useFree (s : State) : State := { s with out := { s.out with free := s.out.free + 1 } }

/-- `n` undefined bytes, from the free values that follow, and the state past them (log 2). -/
def State.freeBytes (s : State) (n : Nat) : Bytes × State :=
  ((List.range n).map fun k => (Config.freeValue (s.out.free + k)).setWidth 8, { s with out := { s.out with free := s.out.free + n } })

/-- The half of a logical Spindle or Bobbin (00_scope.md R10): the lower numbers lie West. -/
def halfOfSpindle (l : Nat) : Half := if l < 64 then .west else .east
def halfOfBobbin (b : Nat) : Half := if b < 16 then .west else .east

/-- 0 West, 1 East. -/
def halfNo : Half → Nat
  | .west => 0
  | .east => 1

/-- The owner of a ring, bits [3:0] of RING_ASSIGN (09 R244, R267). -/
def State.owner (s : State) (r : Nat) : Nat := s.entry 0x2020 r % 16

/-- The weight of a ring, bits [15:8] of RING_ASSIGN (09 R260, R267). -/
def State.weight (s : State) (r : Nat) : Nat := s.entry 0x2020 r / 256 % 256

/-- Debug mode is enabled at 0x8000.01 (10 R293). -/
def State.debug (s : State) : Bool := s.entry 0x8000 1 = 1

/-- The running image (15 R380, R395). -/
def State.activeImage (s : State) : Option ImageInfo := s.image.running

/-- CF_LEVEL 0x1000.03: the active image's (15 R394). -/
def State.cfLevel (s : State) : Nat := (s.activeImage.map fun i => i.cfLevel).getD 1

/-- The response to a dictionary message (10 R281): OFFSET belongs to READ_BYTES and WRITE_BYTES, and is otherwise zero. -/
def respondTo (command : Nat) (q : Request) (status : Nat) (data : Bytes) : Response :=
  { command := command, tag := q.tag, status := status, index := q.index, sub := q.sub, offset := if command = 3 || command = 4 then q.offset else 0,
    data := data }

/-- Severities of 14 R365. -/
def info : Nat := 0
def notice : Nat := 1
def error : Nat := 2
def fatal : Nat := 3

/-- A record that no hank is the source of, reported by a clock domain (14 R365). -/
def devNotice (type severity domain : Nat) (payload : Bytes) : Notice :=
  { type := type, severity := severity, hank := false, source := domain, sourceSeq := 0, payload := payload }

/-- A record whose source is a hank (14 R365). -/
def hankNotice (type severity ring seq : Nat) (payload : Bytes) : Notice :=
  { type := type, severity := severity, hank := true, source := ring, sourceSeq := seq, payload := payload }

/-- A block makes a class E record: it goes to the recorder on VC1 and its RSEQ will be its number (14 R366; log 9). -/
def State.emit (s : State) (n : Notice) : State :=
  s.modRecorder fun x => { x with inbox := x.inbox ++ [n], made := x.made + 1 }

/-- The RSEQ the last record made receives. -/
def State.lastRef (s : State) : Nat := s.recorder.made

/-- Sets an MSI-X message going in a function's table: sent, left pending while masked, nothing while MSI-X is disabled (09 R249). -/
def State.raise (s : State) (fn e : Nat) : State :=
  match s.functions[fn]? with
  | none => s
  | some f =>
    if !f.msixEnabled then s
    else if f.unmasked.contains e then { s with out := { s.out with msix := s.out.msix ++ [(fn, e)] } }
    else { s with functions := s.functions.setIfInBounds fn { f with pending := if f.pending.contains e then f.pending else f.pending ++ [e] } }

/-- The memories by number: 0 SRAM, 1 LPDDR5X, 2 host memory, 3 Spindle, 4 Bobbin and 5 Distaff local stores. -/
def Memory.space (m : Memory) : Nat → Mem
  | 0 => m.sram
  | 1 => m.lp
  | 2 => m.host
  | 3 => m.spindle
  | 4 => m.bobbin
  | _ => m.distaff

/-- A 64-bit word met by a read: corrected and counted, poisoned and counted, or sound (08 R214, R226; local stores R219). -/
def Memory.meet (m : Memory) (sp w : Nat) : Memory :=
  match m.upsets.find? fun c => c.1 = sp && c.2.1 = w with
  | none => m
  | some c =>
    let u := m.upsets.filter fun x => !(x.1 = sp && x.2.1 = w)
    if c.2.2 then
      let p := if m.poison.contains (sp, w) then m.poison else m.poison ++ [(sp, w)]
      if sp = 1 then { m with upsets := u, poison := p, lpUe := sat32 m.lpUe } else { m with upsets := u, poison := p, sramUe := sat32 m.sramUe }
    else if sp = 1 then { m with upsets := u, lpCe := sat32 m.lpCe } else { m with upsets := u, sramCe := sat32 m.sramCe }

/-- The 64-bit words that a write covers in part: each is read, modified and written back (08 R214). Host memory has no check bits of the device. -/
def partialWords (sp base len : Nat) : List Nat :=
  if sp = 2 || len = 0 then [] else [base / 8, (base + len - 1) / 8].filter fun w => !decide (base ≤ w * 8 ∧ w * 8 + 8 ≤ base + len)

/-- Replaces the bytes `base` to `base + len - 1` of a memory by number. A partial write reads its word, which is checked as every read is; a write of a
whole 64-bit word clears its poison, a partial one does not (08 R214). -/
def Memory.write (m : Memory) (sp base len : Nat) (f : Nat → Byte) : Memory :=
  let m := (partialWords sp base len).foldl (fun m w => m.meet sp w) m
  let whole := fun w => decide (base ≤ w * 8 ∧ w * 8 + 8 ≤ base + len)
  let p := m.poison.filter fun c => !(c.1 = sp && whole c.2)
  let u := m.upsets.filter fun c => !(c.1 = sp && whole c.2.1)
  match sp with
  | 0 => { m with sram := Sparse.replace Mem.blank m.sram base len f, poison := p, upsets := u }
  | 1 => { m with lp := Sparse.replace Mem.blank m.lp base len f, poison := p, upsets := u }
  | 2 => { m with host := Sparse.replace Mem.blank m.host base len f }
  | 3 => { m with spindle := Sparse.replace Mem.blank m.spindle base len f, poison := p, upsets := u }
  | 4 => { m with bobbin := Sparse.replace Mem.blank m.bobbin base len f, poison := p, upsets := u }
  | _ => { m with distaff := Sparse.replace Mem.blank m.distaff base len f, poison := p, upsets := u }

def State.modMem (s : State) (f : Memory → Memory) : State := { s with mem := f s.mem }

/-- Writes a byte string to a memory by number. -/
def State.put (s : State) (sp a : Nat) (bs : Bytes) : State :=
  let b := bs.toArray
  s.modMem fun m => m.write sp a bs.length fun k => b.getD k 0

/-- `n` bytes of a memory by number. -/
def State.bytes (s : State) (sp a n : Nat) : Bytes := (s.mem.space sp).bytes a n

/-- What a read of a range finds: the memory after it, and the first word whose check fails with KIND 0 for a new syndrome, 1 for a poisoned word
(08 R214, R217). -/
def Memory.check (m : Memory) (sp a n : Nat) : Memory × Option (Nat × Nat) :=
  let bad := (m.upsets.filterMap fun c => if c.1 = sp && c.2.2 && decide (a / 8 ≤ c.2.1 ∧ c.2.1 * 8 < a + n) then some (c.2.1, 0) else none) ++
    (m.poison.filterMap fun c => if c.1 = sp && decide (a / 8 ≤ c.2 ∧ c.2 * 8 < a + n) then some (c.2, 1) else none)
  let met := (m.upsets.filter fun c => c.1 = sp && decide (a / 8 ≤ c.2.1 ∧ c.2.1 * 8 < a + n)).map fun c => c.2.1
  let first := bad.foldl (fun o c => match o with
    | none => some c
    | some b => if c.1 < b.1 then some c else some b) none
  (met.foldl (fun m w => m.meet sp w) m, first)

/-- The 16-byte payload of memory and host fault records (08 R217). -/
def faultPayload (address space kind word length : Nat) : Bytes :=
  le 8 address ++ le 1 space ++ le 1 kind ++ le 2 word ++ le 4 length

/-- Statuses of 00_scope.md R11. -/
def stOk : Nat := 0x00
def stOkVariant : Nat := 0x01
def stCkptIncomplete : Nat := 0x20
def stCkptMismatch : Nat := 0x21
def stColourfast : Nat := 0x70
def stWindow : Nat := 0x30
def stNoise : Nat := 0x10
def stEcc : Nat := 0x50
def stPermit : Nat := 0x40
def stShape : Nat := 0x60
def stLost : Nat := 0xFF
def stAborted : Nat := 0xF0

/-- Abort causes of 07 R180. -/
def cHost : Nat := 0x01
def cFlr : Nat := 0x02
def cHeader : Nat := 0x10
def cDecode : Nat := 0x11
def cModeCheck : Nat := 0x12
def cCeiling : Nat := 0x13
def cNoKey : Nat := 0x14
def cOperand : Nat := 0x15
def cDigest : Nat := 0x20
def cInput : Nat := 0x30
def cRange : Nat := 0x31
def cWait : Nat := 0x32
def cDependency : Nat := 0x33

end Sys2Proof.Machine
end

