-- ==== Sys2Proof/Machine/Operands.lean ====
section
/-!
DEFINITION. The hank region as bytes and fields: header (07 R172), buffer table (R173), instruction words (R176, R191) and their operand maps (R187 to R209).
-/
namespace Sys2Proof.Machine

/-- The instructions of an Edkel instruction list (07 R191). -/
inductive Op where
  | barrier | waitSeq | signal | ledgerMark | debugTrigger
  | load | store | copy | gather | stateSave | stateRestore
  | macAcc | macEnd | splitK | accOpen | accClose | accPreload | accPair
  | drainPlain | drainMax | drainExpsum | drainSum | debugPeek
  | vecAdd | vecSub | vecMul | vecFma | vecDiv | vecSqrt | vecMax | vecMin | vecExp | vecCvt | vecRsum | vecRmax
  | coupleLoad | stateInit | schedLoad | anneal | sample | exchange | energy
  | noiseSeed | noiseRaw
  deriving DecidableEq, Repr

/-- The opcode table (07 R191). -/
def opTable : List (Nat × Op) :=
  [(0x010, .barrier), (0x011, .waitSeq), (0x012, .signal), (0x018, .ledgerMark), (0x01C, .debugTrigger), (0x020, .load), (0x021, .store),
   (0x022, .copy), (0x023, .gather), (0x030, .stateSave), (0x031, .stateRestore), (0x100, .macAcc), (0x101, .macEnd), (0x104, .splitK),
   (0x108, .accOpen), (0x109, .accClose), (0x10A, .accPreload), (0x10B, .accPair), (0x110, .drainPlain), (0x111, .drainMax),
   (0x112, .drainExpsum), (0x113, .drainSum), (0x11F, .debugPeek), (0x200, .vecAdd), (0x201, .vecSub), (0x202, .vecMul), (0x203, .vecFma),
   (0x204, .vecDiv), (0x205, .vecSqrt), (0x206, .vecMax), (0x207, .vecMin), (0x208, .vecExp), (0x209, .vecCvt), (0x20A, .vecRsum),
   (0x20B, .vecRmax), (0x300, .coupleLoad), (0x301, .stateInit), (0x302, .schedLoad), (0x303, .anneal), (0x304, .sample),
   (0x305, .exchange), (0x306, .energy), (0x380, .noiseSeed), (0x381, .noiseRaw)]

/-- The instruction of an opcode; none for a reserved one. -/
def opOf (code : Nat) : Option Op := (opTable.find? fun c => c.1 = code).map fun c => c.2

/-- The instruction a word holds. -/
def wordOp (w : Nat) : Option Op := opOf (bits w 127 116)

/-- UCLASS (07 R191). -/
def Op.uclass : Op → Nat
  | .barrier | .waitSeq | .signal | .ledgerMark | .debugTrigger => 0
  | .load | .store | .copy | .gather | .stateSave | .stateRestore => 4
  | .macAcc | .macEnd | .splitK | .accOpen | .accClose | .accPreload | .accPair => 1
  | .drainPlain | .drainMax | .drainExpsum | .drainSum | .debugPeek => 1
  | .coupleLoad | .stateInit | .schedLoad | .anneal | .sample | .exchange | .energy => 3
  | .noiseSeed | .noiseRaw => 5
  | _ => 2

/-- ALL is permitted (07 R191). -/
def Op.allOk (o : Op) : Bool :=
  match o with
  | .splitK | .debugPeek => false
  | .load | .store => true
  | o => o.uclass = 1 || o.uclass = 2

def Op.isMac (o : Op) : Bool := o = .macAcc || o = .macEnd
def Op.isDrain (o : Op) : Bool := o = .drainPlain || o = .drainMax || o = .drainExpsum || o = .drainSum
def Op.isFold (o : Op) : Bool := o.isDrain && o != .drainPlain

/-- The words that name a slot (07 R177). -/
def Op.namesSlot (o : Op) : Bool := o.uclass = 1 && o != .accPair

/-- The word issues only when every earlier word is complete, and no later word issues before it (07 R187 to R189, R209). -/
def barrierLike (o : Op) (w : Nat) : Bool :=
  match o with
  | .barrier | .signal | .waitSeq | .stateRestore => true
  | .stateSave => !bit w 94
  | _ => false

-- The common map (07 R176).
def wMchk (w : Nat) : Bool := bit w 111
def wAcc (w : Nat) : Nat := bits w 110 108
def wGw (w : Nat) : Nat := bits w 107 106
def wDraw (w : Nat) : Nat := bits w 105 103
def wUnit (w : Nat) : Nat := bits w 102 96
def wAll (w : Nat) : Bool := bit w 95

/-- The reserved operand bits of an instruction, highest range first (07 R187 to R209, 12 R339). TYPE_OUT and RLOG are reserved in the VEC words that
R199 does not give them to. Bits [93:92] of a STATE.SAVE are accepted with any value also where PAUSE is 0 (07 R209; log 59). -/
def Op.reserved : Op → List (Nat × Nat)
  | .barrier => [(93, 0)]
  | .waitSeq => [(3, 0)]
  | .signal => [(77, 0)]
  | .ledgerMark => [(20, 0)]
  | .debugTrigger => [(90, 0)]
  | .load | .store => [(13, 0)]
  | .copy => []
  | .gather => [(36, 0)]
  | .stateSave => [(91, 0)]
  | .stateRestore => [(74, 0)]
  | .macAcc | .macEnd => [(31, 0)]
  | .splitK => [(68, 0)]
  | .accOpen => [(83, 0)]
  | .accPair => [(93, 0)]
  | .accClose => [(94, 0)]
  | .accPreload => [(77, 0)]
  | .drainPlain => [(59, 57), (56, 56), (55, 55), (54, 54), (53, 53), (52, 48), (47, 24), (23, 0)]
  | .drainMax | .drainExpsum | .drainSum => []
  | .debugPeek => [(94, 86), (64, 0)]
  | .vecCvt => [(19, 16), (15, 0)]
  | .vecRsum | .vecRmax => [(21, 20), (15, 0)]
  | .vecAdd | .vecSub | .vecMul | .vecFma | .vecDiv | .vecSqrt | .vecMax | .vecMin | .vecExp => [(21, 20), (19, 16), (15, 0)]
  | .coupleLoad => [(35, 0)]
  | .stateInit => [(65, 0)]
  | .schedLoad => [(48, 0)]
  | .anneal | .sample => [(52, 0)]
  | .exchange => [(5, 0)]
  | .energy => [(86, 0)]
  | .noiseSeed => [(53, 0)]
  | .noiseRaw => [(21, 0)]

-- MAC.* (07 R194).
def macA (w : Nat) : Nat := bits w 94 81
def macB (w : Nat) : Nat := bits w 80 67
def macK (w : Nat) : Nat := 4 * (bits w 66 56 + 1)
def macFa (w : Nat) : Nat := bits w 55 52
def macFb (w : Nat) : Nat := bits w 51 48
def macCbk (w : Nat) : Nat := bits w 47 46
def macCb (w : Nat) : Nat := bits w 45 32

/-- The format code is an MX format (07 R194). -/
def isMx (f : Nat) : Bool := f = 2 || f = 6 || f = 7 || f = 8

/-- GW and the kind (true for the integer path) that the formats of A and B fix; none for a reserved pairing (05 R115). -/
def macPath (fa fb cbk : Nat) : Option (Nat × Bool) :=
  let eight := fun f => decide (3 ≤ f ∧ f ≤ 8)
  if fa = 0 ∧ (fb = 0 ∨ (fb = 1 ∧ cbk ≤ 1)) then some (0, true)
  else if (fa = 0 ∨ fa = 2) ∧ (fb = 2 ∨ (fb = 1 ∧ cbk = 2)) then some (0, false)
  else if fa = 2 ∧ (fb = 0 ∨ (fb = 1 ∧ cbk ≤ 1)) then some (0, false)
  else if fa = 3 ∧ fb = 3 then some (1, true)
  else if eight fa && eight fb then some (1, false)
  else if fa = 9 ∧ fb = 9 then some (2, false)
  else none

/-- The group width of a GW code (07 R176). -/
def gwWidth (gw : Nat) : Nat := 16 / 2 ^ gw

-- DRAIN.* and DEBUG.PEEK (07 R197, R198).
def drOut (w : Nat) : Nat := bits w 94 92
def drScale (w : Nat) : Int := signed 6 (bits w 91 86)
def drSel (w : Nat) : Bool := bit w 85
def drAddr (w : Nat) : Nat := bits w 84 71
def drBuf (w : Nat) : Nat := bits w 84 79
def drOff (w : Nat) : Nat := bits w 78 65
def drBias (w : Nat) : Bool := bit w 64
def drBslot (w : Nat) : Nat := bits w 63 61
def drClr (w : Nat) : Bool := bit w 60
def drStream (w : Nat) : Nat := bits w 59 57
def drFirst (w : Nat) : Bool := bit w 56
def drLast (w : Nat) : Bool := bit w 55
def drNoWrite (w : Nat) : Bool := bit w 54
def drCausal (w : Nat) : Bool := bit w 53
def drNcol (w : Nat) : Nat := bits w 52 48 + 1
def drQpos (w : Nat) : Nat := bits w 47 24
def drKpos (w : Nat) : Nat := bits w 23 0

/-- Bytes of a tile in an output format (05 R134, R136): FP32, BF16, INT8, INT32, raw skein. -/
def outBytes (f : Nat) : Nat := if f = 1 then 2048 else if f = 2 then 1024 else if f = 4 then 34832 else 4096

/-- The kind of a fold: INT for INT8 or INT32 output (05 R138). -/
def foldInt (f : Nat) : Bool := f = 2 || f = 3

/-- The bytes a drain writes (07 R197, 05 R138). -/
def drainBytes (w : Nat) : Nat :=
  (if drNoWrite w then 0 else outBytes (drOut w)) + (if drLast w then 32 * (if foldInt (drOut w) then 16 else 12) + 8 else 0)

/-- The bytes a DEBUG.PEEK writes (05 R137). -/
def peekBytes (cf : Bool) : Nat := (if cf then 34832 else 4096) + 4

-- VEC.* (07 R199).
def veA (w : Nat) : Nat := bits w 94 82
def veB (w : Nat) : Nat := bits w 81 69
def veC (w : Nat) : Nat := bits w 68 56
def veDst (w : Nat) : Nat := bits w 55 43
def veCount (w : Nat) : Nat := bits w 42 25 + 1
def veType (w : Nat) : Nat := bits w 24 23
def veBcast (w : Nat) : Bool := bit w 22
def veTypeOut (w : Nat) : Nat := bits w 21 20
def veRlog (w : Nat) : Nat := bits w 19 16

/-- Bytes of an element: FP32, BF16, INT32 (07 R199). -/
def veSize (t : Nat) : Nat := if t = 1 then 2 else 4

-- LOAD, STORE (07 R192).
def ldBuf (w : Nat) : Nat := bits w 94 89
def ldOff (w : Nat) : Nat := 64 * bits w 88 55
def ldLen (w : Nat) : Nat := 64 * bits w 54 31
def ldLs (w : Nat) : Nat := 64 * bits w 30 17
def ldBobbin (w : Nat) : Bool := bits w 16 15 = 1
def ldStep (w : Nat) : Bool := bit w 14

-- COPY, GATHER (07 R193).
def cpSrc (w : Nat) : Nat := bits w 94 89
def cpSoff (w : Nat) : Nat := 4096 * bits w 88 61
def cpDst (w : Nat) : Nat := bits w 60 55
def cpDoff (w : Nat) : Nat := 4096 * bits w 54 27
def cpLen (w : Nat) : Nat := 64 * bits w 26 0
def gaSrc (w : Nat) : Nat := bits w 94 89
def gaIdx (w : Nat) : Nat := bits w 88 83
def gaDst (w : Nat) : Nat := bits w 82 77
def gaRow (w : Nat) : Nat := 64 * bits w 76 61
def gaCount (w : Nat) : Nat := bits w 60 37

-- Anneal words (07 R201 to R206).
def anProb (w : Nat) : Nat := bits w 94 93
def clSrc (w : Nat) : Nat := bits w 92 87
def clType (w : Nat) : Nat := bits w 86 84
def clDst (w : Nat) : Nat := bits w 83 78
def clForm (w : Nat) : Nat := bits w 77 76
def clQubo (w : Nat) : Bool := bit w 75
def clCb (w : Nat) : Nat := bits w 74 69
def clBias (w : Nat) : Nat := bits w 68 63
def clReport (w : Nat) : Nat := bits w 62 57
def clN (w : Nat) : Nat := bits w 56 36
def siStates (w : Nat) : Nat := bits w 92 87
def siBias (w : Nat) : Nat := bits w 86 81
def siInt (w : Nat) : Bool := bit w 80
def siStride (w : Nat) : Nat := bits w 79 72
def siPlies (w : Nat) : Nat := bits w 71 66 + 1
def slSched (w : Nat) : Nat := bits w 92 87
def slL (w : Nat) : Nat := bits w 86 62
def slLadder (w : Nat) : Nat := bits w 61 56
def slCount (w : Nat) : Nat := bits w 55 49 + 1
def anParam (w : Nat) : Nat := bits w 92 87
def anOff (w : Nat) : Nat := 64 * bits w 86 53
def exOdd (w : Nat) : Bool := bit w 92
def exStep (w : Nat) : Nat := bits w 91 68
def exIndex (w : Nat) : Nat := bits w 67 28
def exStream (w : Nat) : Nat := bits w 27 12
def exOut (w : Nat) : Nat := bits w 11 6
def enOut (w : Nat) : Nat := bits w 92 87

/-- Bytes of a source element: FP32, BF16, INT8, INT16, INT32 (07 R201). -/
def clSize (t : Nat) : Nat := if t = 0 then 4 else if t = 1 then 2 else if t = 2 then 1 else if t = 3 then 2 else 4

/-- n_pad: n rounded up to a multiple of 1024 (01 "Problem size"). -/
def padOf (n : Nat) : Nat := roundUp n 1024

/-- The footprint n_pad² × c of a coupling store (01 R15). -/
def footprint (n form : Nat) : Nat := if form = 1 then padOf n * padOf n else padOf n * padOf n / 2

/-- Plies admitted under fold F (01 R16, 06 R155). -/
def plyLimit (f n : Nat) : Nat := min 64 (8192 / (f * (padOf n / 128)))

/-- The bytes of the bias buffer that STATE.INIT names (07 R202). -/
def biasSpan (w n : Nat) : Nat :=
  if siStride w = 0 then 4 * n else (n - 1) / 32 * siStride w * 128 + (n - 1) % 32 * 4 + 4

-- NOISE.SEED, NOISE.RAW (07 R208), LEDGER.MARK (R190), STATE.RESTORE (12 R339).
def nsDevice (w : Nat) : Bool := bit w 94
def nsBuf (w : Nat) : Nat := bits w 93 88
def nsOff (w : Nat) : Nat := 64 * bits w 87 54
def nrGroup (w : Nat) : Nat := bits w 94 87
def nrRaw (w : Nat) : Bool := bit w 86
def nrBuf (w : Nat) : Nat := bits w 85 80
def nrOff (w : Nat) : Nat := 64 * bits w 79 46
def nrLen (w : Nat) : Nat := 64 * bits w 45 22
def lmBuf (w : Nat) : Nat := bits w 94 89
def lmOff (w : Nat) : Nat := 64 * bits w 88 55
def lmLen (w : Nat) : Nat := 64 * bits w 54 25
def lmMark (w : Nat) : Nat := bits w 24 21
/-- PAUSE and PROB of STATE.SAVE (07 R209). -/
def svPause (w : Nat) : Bool := bit w 94
def svProb (w : Nat) : Nat := bits w 93 92
def srProblems (w : Nat) : Nat := bits w 94 91
def srOpen (w : Nat) : Nat := bits w 90 83
def srInt (w : Nat) : Nat := bits w 82 75

-- ACC.* and SPLIT.K (07 R195, R196).
def aoInt (w : Nat) : Bool := bit w 94
def aoEwin (w : Nat) : Int := signed 10 (bits w 93 84)
def apSrc (w : Nat) : Nat := bits w 94 81
def apFmt (w : Nat) : Nat := bits w 80 78
def skParts (w : Nat) : Nat := 2 ^ bits w 94 93
def skLen (w : Nat) : Nat := bits w 92 69

/-- Bytes of a preload tile: FP32, BF16, INT32, raw skein (07 R195, 05 R134). -/
def preloadBytes (f : Nat) : Nat := if f = 1 then 2048 else if f = 3 then 34832 else 4096

/-- The header of a region (07 R172). -/
def headerOf (b : Bytes) : Header :=
  { format := num b 0 2, nBuf := num b 2 1, mode := num b 3 1, cfLevel := num b 4 1, ring := num b 5 1, ceiling := num b 6 1,
    seedPolicy := num b 7 1, nInstr := num b 8 2, flags := num b 10 2, ckptSpace := num b 16 1, ckptBase := num b 24 8,
    ckptLength := num b 32 8, seedKey := slice b 64 32 }

/-- The buffer descriptor at an offset (07 R173). -/
def bufferAt (b : Bytes) (o : Nat) : Buffer :=
  { space := num b o 1, kind := num b (o + 1) 1, verify := bit (num b (o + 2) 2) 0, base := num b (o + 8) 8, length := num b (o + 16) 8,
    digest := slice b (o + 24) 32 }

/-- The length of a region by its header (07 R171). -/
def regionLen (h : Header) : Nat := 256 + 64 * h.nBuf + 16 * h.nInstr

def buffersOf (b : Bytes) (h : Header) : List Buffer := (List.range h.nBuf).map fun k => bufferAt b (256 + 64 * k)

def wordsOf (b : Bytes) (h : Header) : List (BitVec 128) :=
  (List.range h.nInstr).map fun k => BitVec.ofNat 128 (num b (256 + 64 * h.nBuf + 16 * k) 16)

/-- Reads a field of a byte string as zero. -/
def blank (b : Bytes) (o n : Nat) : Bytes := b.take o ++ zeros n ++ b.drop (o + n)

/-- The hank digest (07 R175). -/
def hankDigestOf (b : Bytes) (h : Header) : Bytes :=
  let b := blank (blank (blank (blank (blank (blank b 5 1) 7 1) 16 1) 24 8) 32 8) 64 32
  digest ((List.range h.nBuf).foldl (fun b k => blank (blank b (256 + 64 * k) 1) (256 + 64 * k + 8) 8) b)

/-- The draw class of a word (07 R191): the movers' follow the spaces of their buffers. -/
def drawOf (o : Op) (w : Nat) (bufs : List Buffer) : Nat :=
  let far := fun k => match bufs[k]? with
    | some b => decide (b.space ≠ 0)
    | none => false
  match o with
  | .load | .store => if far (ldBuf w) then 2 else 0
  | .copy => if far (cpSrc w) || far (cpDst w) then 2 else 0
  | .gather => if far (gaSrc w) || far (gaIdx w) || far (gaDst w) then 2 else 0
  | .stateSave | .stateRestore => 2
  | .macAcc | .macEnd => match macPath (macFa w) (macFb w) (macCbk w) with
    | some (0, _) => 4
    | _ => 3
  | .coupleLoad => 1
  | .stateInit | .exchange | .energy => 3
  | .anneal | .sample => 5
  | o => if o.uclass = 2 then 1 else 0

/-- The half-open local-store ranges a word names on each of its Spindles (07 R192, R194, R195, R197, R198; 05 R111). -/
def spindleRanges (o : Op) (w : Nat) (cf : Bool) : List (Nat × Nat) :=
  match o with
  | .load | .store => if ldBobbin w then [] else [(ldLs w, ldLen w)]
  | .macAcc | .macEnd =>
    let g := macK w / gwWidth (wGw w)
    let tile := fun a f => (64 * a, 256 * g + (if isMx f then macK w else 0))
    [tile (macA w) (macFa w), tile (macB w) (macFb w)] ++ (if macFb w = 1 ∧ macCbk w ≠ 0 then [(64 * macCb w, 16)] else [])
  | .accPreload => [(64 * apSrc w, preloadBytes (apFmt w))]
  | .drainPlain | .drainMax | .drainExpsum | .drainSum => if drSel w then [] else [(64 * drAddr w, drainBytes w)]
  | .debugPeek => if drSel w then [] else [(64 * drAddr w, peekBytes cf)]
  | _ => []

/-- The vector words that read SRC_B. -/
def Op.readsB (o : Op) : Bool :=
  o = .vecAdd || o = .vecSub || o = .vecMul || o = .vecFma || o = .vecDiv || o = .vecMax || o = .vecMin

/-- The local-store ranges a word names on each of its Bobbins (07 R192, R199): sources, then destination. -/
def bobbinRanges (o : Op) (w : Nat) : List (Nat × Nat) :=
  if o.uclass = 2 then
    let n := veCount w * veSize (veType w)
    let outN := if o = .vecCvt then veCount w * veSize (veTypeOut w)
      else if o = .vecRsum || o = .vecRmax then (veCount w + 2 ^ veRlog w - 1) / 2 ^ veRlog w * veSize (veType w) else n
    [(64 * veA w, n)] ++ (if o.readsB then [(64 * veB w, if veBcast w then veSize (veType w) else n)] else []) ++
      (if o = .vecFma then [(64 * veC w, n)] else []) ++ [(64 * veDst w, outN)]
  else if (o = .load || o = .store) && ldBobbin w then [(ldLs w, ldLen w)] else []

/-- Anneal words, except SCHED.LOAD, and STATE.RESTORE name all 128 Spindles (07 R183, 12 R339). -/
def wholeDevice (o : Op) : Bool := (o.uclass = 3 && o != .schedLoad) || o = .stateRestore

/-- The logical Spindles a word names (07 R177, R183); SPLIT.K names every part. -/
def spindlesOf (o : Op) (w : Nat) : List Nat :=
  if wholeDevice o then List.range 128
  else if o = .splitK then (List.range (skParts w)).map fun p => wUnit w + p
  else if o.uclass = 1 || ((o = .load || o = .store) && !ldBobbin w) then (if wAll w then List.range 128 else [wUnit w]) else []

/-- The logical Bobbins a word names (07 R177, R183). -/
def bobbinsOf (o : Op) (w : Nat) : List Nat :=
  if o = .coupleLoad || o = .stateRestore then List.range 32
  else if o.uclass = 2 || ((o = .load || o = .store) && ldBobbin w) then (if wAll w then List.range 32 else [wUnit w]) else []

/-- The word names a unit of the hank's unit set (07 R183). -/
def namesUnit (o : Op) (w : Nat) : Bool := !(spindlesOf o w).isEmpty || !(bobbinsOf o w).isEmpty

end Sys2Proof.Machine
end

