-- ==== Sys2Proof/Machine/Check.lean ====
section
/-!
DEFINITION. The checks the Distaff makes when it reads a hank, in the order of 07 R179, and what each rejection reports (R180, R181).
-/
namespace Sys2Proof.Machine

/-- A rejection: completion status, abort cause, order of R179, deciding word, and BIT of R181. -/
structure Reject where
  status : Nat
  cause : Nat
  order : Nat
  word : Nat
  bit : Nat
  deriving DecidableEq, Repr

/-- A failed condition: `some lo` when one field offends, with its least significant bit; `some 0xFFFF` is never a position. -/
abbrev Fails := List (Option Nat)

/-- One condition that a field at `lo` must meet. -/
def need (c : Bool) (lo : Nat) : Fails := if c then [] else [some lo]

/-- One condition that no single field fails. -/
def needs (c : Bool) : Fails := if c then [] else [none]

/-- Position of the lowest set bit of a number within `n` bits. -/
def lowBit (n v : Nat) : Option Nat := (List.range n).find? fun k => bit v k

/-- A range of reserved bits: the lowest set bit offends (07 R181). -/
def needZero (w hi lo : Nat) : Fails :=
  match lowBit (hi + 1 - lo) (bits w hi lo) with
  | some k => [some (lo + k)]
  | none => []

/-- BIT of a word's failures: the fields are examined from the highest bits down (07 R181). -/
def wordBit (f : Fails) : Nat :=
  match f.filterMap id with
  | [] => 0xFFFF
  | b :: r => r.foldl max b

/-- BIT of a header's failures: the fields are examined in ascending offset (07 R181). -/
def fieldBit (f : Fails) : Nat :=
  match f.filterMap id with
  | [] => 0xFFFF
  | b :: r => r.foldl min b

/-- What the checks read of the device (07 R179; 09 R245; 06 R155). -/
structure Setting where
  ring : Nat
  seq : Nat
  owner : Nat
  /-- owner of each ring. -/
  owners : List Nat
  cfLevel : Nat
  debug : Bool
  /-- base and length in bytes of the owner's shares. -/
  sramBase : Nat
  sramLen : Nat
  lpBase : Nat
  lpLen : Nat
  fold : Halves Nat
  bobbinOut : List Nat
  deriving DecidableEq, Repr

/-- Bytes of LPDDR5X (08 R225) and of the host-usable SRAM range (08 R211). -/
def lpBytes : Nat := 640 * 2 ^ 30
def sramHostBytes : Nat := 4032 * 2 ^ 20

/-- The range lies in the share. -/
def inShare (base len sBase sLen : Nat) : Bool := sBase ≤ base && base + len ≤ sBase + sLen

/-- Two half-open ranges meet. -/
def meets (a n b m : Nat) : Bool := a < b + m && b < a + n && 0 < n && 0 < m

/-- The range of a buffer or checkpoint area is one its hank may name (07 R174, 08 R211, 09 R245): the failure of BASE alone, or of BASE and LENGTH. -/
def rangeFails (x : Setting) (space base len lo : Nat) : Fails :=
  let lim := fun b n top => if base < b || top ≤ base || b + n ≤ base then need false lo else needs (inShare base len b n && base + len ≤ top)
  match space with
  | 0 => lim x.sramBase x.sramLen sramHostBytes
  | 1 => lim x.lpBase x.lpLen lpBytes
  | _ => needs (base + len ≤ 2 ^ 64)

/-- The reserved bytes `o` to `e - 1` of a region. -/
def zeroBytes (b : Bytes) (o e : Nat) : Fails :=
  match lowBit (8 * (e - o)) (num b o (e - o)) with
  | some k => [some (8 * o + k)]
  | none => []

/-- Order 1: the header (07 R172), the checkpoint area against its share (09 R245) and against the buffers (12 R333). -/
def headerFails (x : Setting) (b : Bytes) (h : Header) (bufs : List Buffer) : Fails :=
  need (h.format = 1) 0 ++ need (h.nBuf ≤ 63) 16 ++ need (h.mode ≤ 1) 24 ++
  need (h.cfLevel = if h.mode = 1 then x.cfLevel else 0) 32 ++ need (h.ring = x.ring) 40 ++ need (h.ceiling ≤ 5) 48 ++
  need (h.seedPolicy ≤ 2 && (h.mode ≠ 0 || h.seedPolicy = 0)) 56 ++ need (1 ≤ h.nInstr && h.nInstr ≤ 12288) 64 ++
  (needZero h.flags 15 1).map (fun o => o.map (· + 80)) ++ zeroBytes b 12 16 ++ need (h.ckptSpace ≤ 2) 128 ++ zeroBytes b 17 24 ++
  need (h.ckptBase % 4096 = 0) 192 ++ need (h.ckptSpace ≠ 0 || h.ckptLength = 0) 256 ++ zeroBytes b 40 64 ++
  need (h.seedPolicy = 1 || allZero h.seedKey) 512 ++ zeroBytes b 96 256 ++
  (if h.ckptSpace = 0 then [] else rangeFails x h.ckptSpace h.ckptBase h.ckptLength 192) ++
  needs (bufs.all fun f => h.ckptSpace = 0 || f.space ≠ h.ckptSpace || !meets f.base f.length h.ckptBase h.ckptLength)

/-- Order 2: one buffer descriptor at offset `o` (07 R173, R174). -/
def bufferFails (x : Setting) (b : Bytes) (o : Nat) (f : Buffer) : Fails :=
  need (f.space ≤ 2) (8 * o) ++ need (f.kind ≤ 3) (8 * o + 8) ++ (needZero (num b (o + 2) 2) 15 1).map (fun k => k.map (· + 8 * (o + 2))) ++
  zeroBytes b (o + 4) (o + 8) ++ need (f.base % 4096 = 0) (8 * o + 64) ++
  need (f.length % 64 = 0 && 64 ≤ f.length && f.length ≤ 2 ^ 40) (8 * o + 128) ++
  need ((f.verify && (f.kind = 0 || f.kind = 2)) || allZero f.digest) (8 * o + 192) ++ zeroBytes b (o + 56) (o + 64) ++
  rangeFails x f.space f.base f.length (8 * o + 64)

/-- A buffer that is written overlaps no other (07 R174). -/
def overlapFails : List Buffer → Fails
  | [] => []
  | f :: r => needs (r.all fun g => (f.kind = 0 && g.kind = 0) || f.space ≠ g.space || !meets f.base f.length g.base g.length) ++ overlapFails r

/-- A split reduction as the list is read (06 R158, 07 R196). -/
structure SplitRead where
  base : Nat
  slot : Nat
  parts : Nat
  len : Nat
  gw : Nat
  sums : List Nat
  /-- list index of its SPLIT.K. -/
  word : Nat
  deriving DecidableEq, Repr

/-- A problem as the list is read (07 R207): n is 0 where a restore brings it back. -/
structure ProblemRead where
  n : Nat
  inited : Bool
  plies : Nat
  steps : Option Nat
  deriving DecidableEq, Repr

/-- What the Distaff tracks as it reads the list. -/
structure Tracker where
  /-- open groups: Spindle, slot, kind INT, EWIN. -/
  groups : List (Nat × Nat × Bool × Int)
  pairs : List Nat
  splits : List SplitRead
  problems : List (Nat × ProblemRead)
  /-- problems whose bias quarter the device owns (03 R56). -/
  owned : List Nat
  /-- buffers that earlier words write; after an ANNEAL or SAMPLE, every buffer its record may name (07 R174, R204; 02 R53; log 40). -/
  written : List Nat
  marks : List Nat
  signal : Nat
  seeds : Nat
  draws : Nat
  key : Bool
  deriving DecidableEq, Repr

def Tracker.start (h : Header) : Tracker :=
  { groups := [], pairs := [], splits := [], problems := [], owned := [], written := [], marks := [], signal := 0, seeds := 0, draws := 0,
    key := h.seedPolicy ≠ 0 }

/-- The kind and EWIN of the group open at a slot. -/
def Tracker.group (t : Tracker) (u k : Nat) : Option (Bool × Int) :=
  (t.groups.find? fun g => g.1 = u && g.2.1 = k).map fun g => (g.2.2.1, g.2.2.2)

def Tracker.problem (t : Tracker) (p : Nat) : Option ProblemRead := (t.problems.find? fun c => c.1 = p).map fun c => c.2

/-- The split that part `u` of a slot belongs to. -/
def Tracker.split (t : Tracker) (u k : Nat) : Option SplitRead := t.splits.find? fun c => c.slot = k && c.base ≤ u && u < c.base + c.parts

/-- The rules of one slot word on one Spindle (05 R116, R123, R125, R127, R130, R132; 06 R158; 07 R196). While the pair is open a MAC.END may name a slot other than 0
(log 55). -/
def slotFails (cf : Bool) (t : Tracker) (o : Op) (w u : Nat) : Fails :=
  let k := wAcc w
  let paired := t.pairs.contains u
  let open_ := t.group u k
  need (!(o.namesSlot && paired && k = 1)) 108 ++ need (o != .macEnd || paired || cf) 116 ++
  (if o = .accOpen && cf then need (k = 0) 108 ++ needs ((t.group u 0).isNone) else []) ++
  (if o.isMac || o.isDrain || o = .accPreload then
    match open_ with
    | none => need false 108
    | some g =>
      (if o.isMac then needs (match macPath (macFa w) (macFb w) (macCbk w) with
        | some p => p.2 = g.1
        | none => true) else []) ++
      (if o.isDrain then
        need (!(drOut w = 3 && !g.1) && !(drOut w = 4 && o.isFold)) 92 ++
        (if drBias w && !cf then
          need (drBslot w ≠ k && !(paired && drBslot w ≤ 1) && (match t.group u (drBslot w) with
            | some b => b.1 = g.1
            | none => false)) 61
        else [])
      else []) ++
      (if o = .accPreload then
        need ((apFmt w = 3 && cf) || (apFmt w ≤ 1 && !g.1) || (apFmt w = 2 && g.1)) 78
      else [])
  else []) ++
  (match t.split u k with
    | none => []
    | some s =>
      (if o.isMac then needs (wGw w = s.gw && !((isMx (macFa w) || isMx (macFb w)) && s.len / s.parts % 32 ≠ 0)) else []) ++
      (if o.isDrain then needs (u = s.base && s.sums.all (· = s.len / s.parts)) else []) ++
      (if o = .accPreload then needs (u = s.base) else []))

/-- The share of a logical Spindle's local store under its half's fold (06 R155). -/
def shareOf (x : Setting) (u : Nat) : Nat := 2 ^ 20 / max 1 (x.fold.get (halfOfSpindle u))

/-- Quarter p of the bias area of a Spindle (03 R56): base and length. -/
def biasQuarter (x : Setting) (u p : Nat) : Nat × Nat := let s := shareOf x u; (s - s / 8 + p * (s / 32), s / 32)

/-- Order 3: reserved bits and encodings, and the static rules it names (07 R176, R177, R179). -/
def decodeFails (x : Setting) (h : Header) (bufs : List Buffer) (t : Tracker) (o : Op) (w : Nat) : Fails :=
  let cf := h.mode = 1
  let path := macPath (macFa w) (macFb w) (macCbk w)
  let parts := skParts w
  let part := skLen w / parts
  need (!((o = .debugPeek || o = .debugTrigger) && !x.debug) && !(o = .noiseSeed && !cf)) 116 ++
  need (bits w 115 112 = o.uclass) 112 ++
  need (o.namesSlot || wAcc w = 0) 108 ++
  need (if o.isMac then (match path with
      | some p => wGw w = p.1
      | none => wGw w ≠ 3)
    else if o = .splitK then wGw w ≠ 3 else wGw w = 0) 106 ++
  need (wDraw w = drawOf o w bufs) 103 ++
  need (if wAll w then wUnit w = 0
    else if o.uclass = 1 || ((o = .load || o = .store) && !ldBobbin w) then true
    else if o.uclass = 2 || ((o = .load || o = .store) && ldBobbin w) then wUnit w ≤ 31 else wUnit w = 0) 96 ++
  need (!wAll w || o.allOk) 95 ++
  (o.reserved.flatMap fun r => if o = .drainPlain then need (bits w r.1 r.2 = 0) r.2 else needZero w r.1 r.2) ++
  (if o.isMac then
    need (macFa w ≤ 9 && macFa w ≠ 1) 52 ++ need (macFb w ≤ 9) 48 ++ need (macCbk w ≠ 3) 46 ++
    needs (path.isSome || !(macFa w ≤ 9 && macFa w ≠ 1 && macFb w ≤ 9 && macCbk w ≠ 3)) else []) ++
  (if o = .load || o = .store then need (bits w 16 15 ≤ 1) 15 else []) ++
  (if o = .accPreload then need (apFmt w ≤ 3) 78 else []) ++
  (if o.isDrain then need (drOut w ≤ 4 && !(o = .drainExpsum && (drOut w = 2 || drOut w = 3))) 92 else []) ++
  (if o.isDrain || o = .debugPeek then need (drSel w || bits w 70 65 = 0) 65 else []) ++
  (if o.isFold && drCausal w then need (drQpos w + 31 ≤ 16777215) 24 ++ needs (drKpos w + drNcol w - 1 ≤ 16777215) else []) ++
  (if o.uclass = 2 then need (veType w ≤ 2) 23 ++ (if o = .vecCvt then need (veTypeOut w ≤ 2) 20 else []) else []) ++
  (if o = .coupleLoad then need (clType w ≤ 4) 84 else []) ++
  (if o = .noiseRaw then need (nrGroup w ≤ 135) 87 else []) ++
  (if o = .waitSeq then needs (!(bits w 94 89 = x.ring && x.seq ≤ bits w 88 41)) else []) ++
  (if o = .splitK then
    need (parts ≠ 1) 93 ++ need (skLen w ≠ 0) 69 ++ need (!(wAcc w = 1 && (List.range parts).any fun p => t.pairs.contains (wUnit w + p))) 108 ++
    needs (wGw w = 3 || (wUnit w % parts = 0 && skLen w % parts = 0 && part % gwWidth (wGw w) = 0)) ++
    needs ((List.range parts).all fun p => (t.split (wUnit w + p) (wAcc w)).isNone) ++
    need (match t.group (wUnit w) (wAcc w) with
      | none => false
      | some g => (List.range parts).all fun p => t.group (wUnit w + p) (wAcc w) = some g) 108
  else []) ++
  (if o.uclass = 1 && o != .splitK then (spindlesOf o w).flatMap fun u => slotFails cf t o w u else []) ++
  (if o.uclass = 3 then
    needs (o = .coupleLoad || o = .schedLoad || t.groups.isEmpty) ++
    need (o = .coupleLoad || (t.problem (anProb w)).isSome) 93 ++
    need (!(o = .anneal || o = .sample || o = .exchange || o = .energy) || (match t.problem (anProb w) with
      | some p => p.inited
      | none => true)) 93
  else []) ++
  (if o = .stateSave && svPause w then need ((t.problem (svProb w)).isSome) 92 else []) ++
  (if wholeDevice o then []
   else (spindlesOf o w).flatMap fun u => t.owned.flatMap fun p => (spindleRanges o w cf).flatMap fun r =>
    needs (!meets r.1 r.2 (biasQuarter x u p).1 (biasQuarter x u p).2))

/-- Order 6: X marks and raw output in Open (07 R179, 05 R132, R134, 06 R169). -/
def varyFails (cf : Bool) (o : Op) (w : Nat) : Fails :=
  if cf then need (!(o = .macEnd || o = .accPair || o = .noiseRaw)) 116 ++ (if o.isDrain then need (!drBias w) 64 else [])
  else if o.isDrain then need (drOut w ≠ 4) 92 else []

/-- The buffer uses of a word: index, its field's position, the end of the range (none where it is found when the word runs), written, needed. -/
def usesOf (t : Tracker) (o : Op) (w : Nat) (cf : Bool) : List (Nat × Nat × Option Nat × Bool × Bool) :=
  let pr := t.problem (anProb w)
  let n := match pr with
    | some p => p.n
    | none => 0
  let plies := match pr with
    | some p => p.plies
    | none => 0
  let top := fun k => if wAll w then k else 1
  match o with
  | .ledgerMark => [(lmBuf w, 89, some (lmOff w + lmLen w), false, true)]
  | .load | .store => [(ldBuf w, 89, some (ldOff w + (if ldStep w then top (if ldBobbin w then 32 else 128) else 1) * ldLen w), o = .store, true)]
  | .copy => [(cpSrc w, 89, some (cpSoff w + cpLen w), false, true), (cpDst w, 55, some (cpDoff w + cpLen w), true, true)]
  | .gather => [(gaSrc w, 89, none, false, true), (gaIdx w, 83, some (4 * gaCount w), false, true),
      (gaDst w, 77, some (gaCount w * gaRow w), true, true)]
  | .drainPlain | .drainMax | .drainExpsum | .drainSum =>
    if drSel w then
      [(drBuf w, 79, some (4096 * drOff w + (top 128 - 1) * (if drOut w = 4 then 36864 else 4096) + drainBytes w), true, true)] else []
  | .debugPeek => if drSel w then [(drBuf w, 79, some (4096 * drOff w + peekBytes cf), true, true)] else []
  | .coupleLoad =>
    let n := clN w
    [(clSrc w, 87, some (n * n * clSize (clType w)), false, true), (clDst w, 78, some (footprint n (clForm w)), true, true),
     (clCb w, 69, some (padOf n / 256 * 32), false, false), (clBias w, 63, some (n * clSize (clType w)), false, false),
     (clReport w, 57, some 64, true, true)]
  | .stateInit => [(siStates w, 87, if n = 0 then none else some (siPlies w * (padOf n / 8)), false, true),
      (siBias w, 81, if n = 0 then none else some (biasSpan w n), false, false)]
  | .schedLoad => (if slL w = 0 then [] else [(slSched w, 87, some (16 * slL w), false, true)]) ++
      [(slLadder w, 56, some (4 * slCount w), false, true)]
  | .anneal | .sample => [(anParam w, 87, none, false, true)]
  | .exchange => [(exOut w, 6, some 8, true, true)]
  | .energy => [(enOut w, 87, if plies = 0 then none else some (16 * plies), true, true)]
  | .noiseSeed => if nsDevice w then [] else [(nsBuf w, 88, some (nsOff w + 32), false, true)]
  | .noiseRaw => [(nrBuf w, 80, some (nrOff w + nrLen w), true, true)]
  | _ => []

/-- Order 8: one buffer use (07 R174). -/
def useFails (bufs : List Buffer) (t : Tracker) (u : Nat × Nat × Option Nat × Bool × Bool) : Fails :=
  if u.1 = 63 then need (!u.2.2.2.2) u.2.1
  else match bufs[u.1]? with
    | none => need false u.2.1
    | some b =>
      need (if u.2.2.2.1 then b.kind ≠ 0 else b.kind ≠ 1 || t.written.contains u.1) u.2.1 ++
      (match u.2.2.1 with
        | some e => needs (e ≤ b.length)
        | none => [])

/-- Order 8: static operand limits (07 R179 and the operand rules it names; 12 R327). -/
def operandFails (x : Setting) (h : Header) (bufs : List Buffer) (t : Tracker) (o : Op) (w : Nat) : Fails :=
  let cf := h.mode = 1
  let space := fun k => match bufs[k]? with
    | some b => b.space
    | none => 9
  let n := match t.problem (anProb w) with
    | some p => p.n
    | none => 0
  ((usesOf t o w cf).flatMap (useFails bufs t)) ++
  (if wholeDevice o then [] else if (spindlesOf o w).isEmpty then []
    else (spindleRanges o w cf).flatMap fun r => needs (r.1 + r.2 ≤ 2 ^ 20)) ++
  (if o = .coupleLoad || o = .stateRestore then [] else (bobbinRanges o w).flatMap fun r => needs (r.1 + r.2 ≤ 2 ^ 19)) ++
  (match o with
    | .waitSeq => need (x.owners.getD (bits w 94 89) 0 = x.owner) 89 ++ need (bits w 40 25 ≠ 0) 25
    | .signal => need (t.signal < bits w 94 79 && bits w 94 79 ≤ 0xFFFE) 79
    | .ledgerMark => need (lmLen w ≠ 0) 25 ++ need (!t.marks.contains (lmMark w)) 21
    | .load | .store => need (ldLen w ≠ 0 && ldLen w ≤ (if ldBobbin w then 2 ^ 19 else 2 ^ 20)) 31
    | .copy => need (cpLen w ≠ 0) 0
    | .gather => need (gaRow w ≠ 0) 61 ++ need (gaCount w ≠ 0) 37
    | .macAcc | .macEnd => need (macK w % gwWidth (wGw w) = 0 && (!(isMx (macFa w) || isMx (macFb w)) || macK w % 32 = 0)) 56
    | .drainPlain | .drainMax | .drainExpsum | .drainSum | .debugPeek => need (!drSel w || space (drBuf w) = 0 || space (drBuf w) = 9) 79
    | .vecSqrt | .vecExp => need (veType w ≠ 2) 23
    | .vecRsum | .vecRmax => need (1 ≤ veRlog w && veRlog w ≤ 11) 16
    | .coupleLoad =>
      need (2 ≤ clN w && clN w ≤ 1048576) 36 ++ needs (footprint (clN w) (clForm w) ≤ 512 * 2 ^ 30) ++
      need (space (clDst w) = (if footprint (clN w) (clForm w) ≤ 3355443200 then 0 else 1) || space (clDst w) = 9) 78 ++
      need ((clForm w = 3) = (clCb w ≠ 63)) 69 ++ need (!clQubo w || clBias w = 63) 63
    | .stateInit => need (n = 0 || siPlies w ≤ plyLimit 1 n) 66
    | .schedLoad => need (slL w ≤ 16777216) 62 ++ need (slL w = 0 || space (slSched w) = 0 || space (slSched w) = 9) 87 ++ need (slCount w ≤ 64) 49
    | .anneal => needs ((match t.problem (anProb w) with
        | some p => p.steps != some 0
        | none => true) && t.draws < 32)
    | .sample | .exchange => needs (t.draws < 32)
    | .noiseSeed => needs (t.seeds < 8)
    | .stateSave | .stateRestore => needs (h.ckptSpace ≠ 0)
    | _ => [])

/-- Order 9: units out of service, shares and ply limits of 06 R155; Bobbins of 13 R352. -/
def shapeFails (x : Setting) (h : Header) (t : Tracker) (o : Op) (w : Nat) : Fails :=
  let fold := fun u => x.fold.get (halfOfSpindle u)
  let unitBit : Option Nat := if wholeDevice o then none else if wAll w then some 95 else some 96
  let slots := fun u => 8 / max 1 (fold u)
  ((spindlesOf o w).flatMap fun u =>
    (if fold u = 0 then [unitBit] else []) ++
    (if wholeDevice o then [] else
      (if o.namesSlot then need (wAcc w < slots u) 108 else []) ++
      (if o.isDrain && drBias w then need (drBslot w < slots u) 61 else []) ++
      (if o.isFold then need (drStream w < slots u) 57 else []) ++
      needs (o != .accPair || fold u ≤ 4) ++
      ((spindleRanges o w (h.mode = 1)).flatMap fun r => needs (r.1 + r.2 ≤ shareOf x u))) ++
    (if o = .stateRestore then need (srOpen w / 2 ^ slots u = 0) 83 else [])) ++
  ((bobbinsOf o w).flatMap fun b => if x.bobbinOut.contains b then [unitBit] else []) ++
  (match o, t.problem (anProb w) with
    | .stateInit, some p => need (p.n = 0 || siPlies w ≤ plyLimit (max 1 (max x.fold.w x.fold.e)) p.n) 66
    | _, _ => [])

/-- The checks of one word, orders 3 to 9 (07 R179). -/
def wordReject (x : Setting) (h : Header) (bufs : List Buffer) (t : Tracker) (k w : Nat) : Option Reject :=
  let cf := h.mode = 1
  let stop := fun status cause order f => match f with
    | [] => none
    | f => some { status := status, cause := cause, order := order, word := k, bit := wordBit f : Reject }
  match wordOp w with
  | none => some { status := stAborted, cause := cDecode, order := 3, word := k, bit := 116 }
  | some o =>
    (stop stAborted cDecode 3 (decodeFails x h bufs t o w)).or
    ((stop stAborted cModeCheck 4 (need (!(wMchk w && !cf)) 111)).or
    ((stop stAborted cCeiling 5 (need (wDraw w ≤ h.ceiling) 103)).or
    ((stop stColourfast 0 6 (varyFails cf o w)).or
    ((stop stAborted cNoKey 7 (needs (!(cf && (o = .anneal || o = .sample || o = .exchange) && !t.key)))).or
    ((stop stAborted cOperand 8 (operandFails x h bufs t o w)).or
    (stop stShape 0 9 (shapeFails x h t o w)))))))

/-- What the word leaves for the words after it. -/
def Tracker.next (t : Tracker) (cf : Bool) (o : Op) (k w : Nat) : Tracker :=
  let us := spindlesOf o w
  let named := if o = .anneal || o = .sample then List.range 63 else ((usesOf t o w cf).filter fun u => u.2.2.2.1 && u.1 ≠ 63).map fun u => u.1
  let t := { t with written := t.written ++ named }
  let t := if o.uclass = 3 then { t with owned := if t.owned.contains (anProb w) then t.owned else t.owned ++ [anProb w] } else t
  let t := if o = .anneal || o = .sample || o = .exchange then { t with draws := t.draws + 1 } else t
  let setP := fun p q => { t with problems := (p, q) :: t.problems.filter (fun c => c.1 ≠ p) }
  match o with
  | .accOpen =>
    let rest := t.groups.filter fun g => !(us.contains g.1 && g.2.1 = wAcc w)
    { t with groups := us.map (fun u => (u, wAcc w, aoInt w, if cf && !aoInt w then aoEwin w else 0)) ++ rest }
  | .accPair =>
    let rest := t.groups.filter fun g => !(us.contains g.1 && g.2.1 ≤ 1)
    { t with pairs := us ++ t.pairs, groups := us.flatMap (fun u => [(u, 0, aoInt w, 0), (u, 1, aoInt w, 0)]) ++ rest }
  | .accClose =>
    let rest := t.groups.filter fun g => !(us.contains g.1 && (g.2.1 = wAcc w || (wAcc w = 0 && g.2.1 = 1 && t.pairs.contains g.1)))
    { t with pairs := t.pairs.filter (fun u => !(us.contains u && wAcc w = 0)), groups := rest }
  | .splitK =>
    let new : SplitRead :=
      { base := wUnit w, slot := wAcc w, parts := skParts w, len := skLen w, gw := wGw w, sums := List.replicate (skParts w) 0, word := k }
    { t with splits := new :: t.splits }
  | .macAcc | .macEnd =>
    let add := fun (s : SplitRead) => { s with sums := s.sums.mapIdx fun p v => if us.contains (s.base + p) then v + macK w else v }
    { t with splits := t.splits.map fun s => if s.slot = wAcc w then add s else s }
  | .drainPlain | .drainMax | .drainExpsum | .drainSum => { t with splits := t.splits.filter fun s => !(s.slot = wAcc w && us.contains s.base) }
  | .coupleLoad => setP (anProb w) { n := clN w, inited := false, plies := 0, steps := (t.problem (anProb w)).bind fun p => p.steps }
  | .stateInit => match t.problem (anProb w) with
      | some p => setP (anProb w) { p with inited := true, plies := siPlies w }
      | none => t
  | .schedLoad => match t.problem (anProb w) with
      | some p => setP (anProb w) { p with steps := some (slL w) }
      | none => t
  | .stateRestore =>
    let back := (List.range 4).filter fun p => bit (srProblems w) p
    let owned := t.owned ++ back.filter fun p => !t.owned.contains p
    let fresh : ProblemRead := { n := 0, inited := true, plies := 0, steps := none }
    let problems := back.map (fun p => (p, fresh)) ++ t.problems.filter fun c => !back.contains c.1
    let opened := us.flatMap fun u => ((List.range 8).filter fun k => bit (srOpen w) k).map fun k => (u, k, bit (srInt w) k, (0 : Int))
    { t with key := true, owned := owned, problems := problems, groups := opened ++ t.groups.filter fun g => !bit (srOpen w) g.2.1 }
  | .noiseSeed => { t with key := true, seeds := t.seeds + 1 }
  | .signal => { t with signal := bits w 94 79 }
  | .ledgerMark => { t with marks := lmMark w :: t.marks }
  | _ => t

/-- A split that no drain has ended at the list's end, with K values that do not sum to K_S / P on every part, fails at its SPLIT.K (06 R158, 07 R196; log 44). -/
def Tracker.openSplits (t : Tracker) : Option Reject :=
  match (t.splits.filter fun s => !s.sums.all (· = s.len / s.parts)).map fun s => s.word with
  | [] => none
  | k :: r => some { status := stAborted, cause := cDecode, order := 3, word := r.foldl min k, bit := 0xFFFF }

/-- The words one after another, from list index `k` (07 R179). -/
def wordsReject (x : Setting) (h : Header) (bufs : List Buffer) : List (BitVec 128) → Nat → Tracker → Option Reject
  | [], _, t => t.openSplits
  | w :: r, k, t =>
    match wordReject x h bufs t k w.toNat with
    | some j => some j
    | none =>
      match wordOp w.toNat with
      | some o => wordsReject x h bufs r (k + 1) (t.next (h.mode = 1) o k w.toNat)
      | none => none

/-- Check 9 of 07 R179 alone, made again at a re-execution (13 R361) and where a hank has waited for its units over a remap (06 R153, R155). -/
def shapesReject (x : Setting) (h : Header) : List (BitVec 128) → Nat → Tracker → Option Reject
  | [], _, _ => none
  | w :: rest, k, t =>
    match wordOp w.toNat with
    | none => none
    | some o => match shapeFails x h t o w.toNat with
      | f@(_ :: _) => some { status := stShape, cause := 0, order := 9, word := k, bit := wordBit f }
      | [] => shapesReject x h rest (k + 1) (t.next (h.mode = 1) o k w.toNat)

/-- Every check of 07 R179 on a region. -/
def hankReject (x : Setting) (b : Bytes) : Option Reject :=
  let h := headerOf b
  let bufs := buffersOf b h
  match headerFails x b h bufs with
  | f@(_ :: _) => some { status := stAborted, cause := cHeader, order := 1, word := 0xFFFF, bit := fieldBit f }
  | [] =>
    match (List.range h.nBuf).findSome? (fun k => match bufferFails x b (256 + 64 * k) (bufferAt b (256 + 64 * k)) with
      | [] => none
      | f => some (fieldBit f)) with
    | some p => some { status := stAborted, cause := cHeader, order := 2, word := 0xFFFF, bit := p }
    | none =>
      match overlapFails bufs with
      | _ :: _ => some { status := stAborted, cause := cHeader, order := 2, word := 0xFFFF, bit := 0xFFFF }
      | [] => wordsReject x h bufs (wordsOf b h) 0 (Tracker.start h)

/-- What the checks read of the state, for the hank `seq` of ring `r`. -/
def State.setting (s : State) (r seq : Nat) : Setting :=
  let f := s.owner r
  let mib := fun v => (v % 2 ^ 32 * 2 ^ 20, v / 2 ^ 32 * 2 ^ 20)
  let sram := if f = 0 then (0, sramHostBytes) else mib (s.entry 0x2030 f)
  let lp := if f = 0 then (0, lpBytes) else mib (s.entry 0x2031 f)
  { ring := r, seq := seq, owner := f, owners := (List.range 64).map s.owner, cfLevel := s.cfLevel, debug := s.debug, sramBase := sram.1,
    sramLen := sram.2, lpBase := lp.1, lpLen := lp.2, fold := s.units.fold,
    bobbinOut := (List.range 32).filter fun b => vget s.units.bobbinHosts 0xFF b = 0xFF }

/-- The HANK_REJECT payload (07 R181). -/
def rejectPayload (cause order status word bit : Nat) : Bytes :=
  le 1 cause ++ le 1 order ++ le 2 status ++ le 2 word ++ le 2 bit ++ zeros 8

end Sys2Proof.Machine
end

