-- ==== Sys2Proof/Machine/Noise.lean ====
section
/-!
DEFINITION. Madder groups and halves (04 R84 to R94), stir registers and Open lanes (R95 to R98), the root-of-trust generator (R103), Woad and its Colourfast
draws (R106 to R109).
-/
namespace Sys2Proof.Machine

/-- The half of a physical Spindle and of its source group: 0 to 67 West (00 R10, 04 R84). -/
def halfOfPhysical (p : Nat) : Half := if p < 68 then .west else .east

/-- The source groups of a half in ascending order. -/
def groupsOf : Half → List Nat
  | .west => List.range 68
  | .east => (List.range 68).map (· + 68)

/-- h of 04 R92: the half's HEALTHY groups. -/
def State.healthy (s : State) (h : Half) : Nat := ((groupsOf h).filter fun g => (s.group g).state = 1).length

/-- The ready threshold: half of the half's groups that are not RETIRED, at least 1 (04 R92). -/
def State.readyThreshold (s : State) (h : Half) : Nat :=
  max 1 ((((groupsOf h).filter fun g => (s.group g).state ≠ 3).length + 1) / 2)

/-- The 16-byte payload of the noise records (04 R105). -/
def noisePayload (kind number state : Nat) (win : Option (BitVec 16 × BitVec 16)) (count consumer : Nat) : Bytes :=
  le 1 kind ++ le 1 number ++ le 1 state ++
  (match win with
    | some w => le 1 1 ++ le 2 w.1.toNat ++ le 2 w.2.toNat
    | none => le 1 0 ++ zeros 4) ++ le 4 count ++ le 1 consumer ++ zeros 3

/-- A record of the noise controller, whose domain the manual does not number: 295 (log 14). -/
def noiseNotice (type sev : Nat) (pay : Bytes) : Notice := devNotice type sev 295 pay

/-- A hold of a half begins: its timer starts, and the running Open ANNEAL or SAMPLE counts it (04 R98, R100, R101, R104). Before the first decision the word
goes back to its start wait, which counts one hold in all; of the waiting words only an EXCHANGE counts one (R98). -/
def State.countHold (s : State) (h : Half) : State :=
  let bump := fun (s : State) (d p : Nat) => s.modRun d fun r =>
    let stats := fun (q : Problem) => { q with stats := q.stats.map fun y => { y with noiseHolds := sat32 y.noiseHolds } }
    { r with holdCount := sat16 r.holdCount, noisePaused := true, problems := vmod r.problems p fun q => q.map stats }
  let s := match s.anneal with
    | some a =>
      if a.colourfast then s
      else if a.startWait || !a.decided then
        let s := { s with anneal := some { a with startWait := true, waitHeld := true } }
        if a.waitHeld then s else bump s a.distaff a.problem
      else bump { s with noise := { s.noise with holdTimer := s.noise.holdTimer.set h true } } a.distaff a.problem
    | none => s
  if h = .west then
    let waits := fun (r : Run) (i : Issued) => i.noiseWait && ((r.words[i.index]?).bind fun w => wordOp w.toNat) = some Op.exchange
    let one := fun (r : Run) => { r with holdCount := if r.issued.any (fun i => waits r i && !i.noiseHeld) then sat16 r.holdCount else r.holdCount
                                         issued := r.issued.map fun i => { i with noiseHeld := i.noiseHeld || waits r i } }
    let exch := fun (r : Run) => r.header.mode = 0 && !r.keyPending && r.issued.any fun i => waits r i
    { s with distaffs := s.distaffs.map fun d => { d with run := d.run.map fun r => if exch r then one r else r } }
  else s

/-- The half's noise state after a change of its groups (04 R92, R105). -/
def State.updateHalf (s : State) (h : Half) (win : Option (BitVec 16 × BitVec 16)) : State :=
  let n := s.healthy h
  let ready := decide (s.readyThreshold h ≤ n)
  let old := s.noise.half.get h
  let new := if ready then 1 else if s.noise.wasReady.get h then 2 else 0
  let s := { s with noise := { s.noise with half := s.noise.half.set h new, wasReady := s.noise.wasReady.set h (ready || s.noise.wasReady.get h) } }
  if new = 2 ∧ old ≠ 2 then
    let s := { s with noise := { s.noise with holds := s.noise.holds.set h (sat32 (s.noise.holds.get h)) } }
    (s.emit (noiseNotice 0x0404 error (noisePayload 1 (halfNo h) 2 win n 0))).countHold h
  else if old = 2 ∧ new ≠ 2 then
    let s := { s with noise := { s.noise with holdTimer := s.noise.holdTimer.set h false } }
    s.emit (noiseNotice 0x0405 notice (noisePayload 1 (halfNo h) new win n 0))
  else s

/-- The donors of a half change: each round robin over its stir registers starts anew (04 R95; log 42). -/
def State.newDonors (s : State) (h : Half) : State :=
  { s with noise := { s.noise with turn := s.noise.turn.mapIdx fun p k => if halfOfPhysical p = h then 0 else k } }

/-- A group change reaches its half and its half's donors; GR counts in none (04 R84, R92, R95). -/
def State.updateGroupHalf (s : State) (g : Nat) (win : Option (BitVec 16 × BitVec 16)) : State :=
  if g < 136 then (s.newDonors (halfOfPhysical g)).updateHalf (halfOfPhysical g) win else s

/-- The conditioned output of one pair of a cell's raw bits: their XOR, or by von Neumann the first of two that differ (04 R85). -/
def conditionPair (vn a b : Bool) : List Bool := if !vn then [xor a b] else if a = b then [] else [a]

/-- The conditioned stream of a group of `n` cells: non-overlapping pairs of each cell, a cycle's bits in ascending cell index (04 R85, R86). -/
def conditionedBits (vn : Bool) (n : Nat) : RawBits → List Bool
  | a :: b :: r => (List.range n).flatMap (fun i => conditionPair vn (a.getLsbD i) (b.getLsbD i)) ++ conditionedBits vn n r
  | _ => []

/-- Cells of a source group: 16, GR 8 (04 R84). -/
def cellsOf (g : Nat) : Nat := if g = 136 then 8 else 16

/-- The conditioned stream of a group, by its conditioning at 0x3820 (04 R85, R86). -/
def State.conditioned (s : State) (g : Nat) (raw : RawBits) : List Bool := conditionedBits (s.entry 0x3820 g = 1) (cellsOf g) raw

/-- A window of the health test: the first 65,536 bits of a stream that begins where the window before ended, with the bits of that cycle that followed it, and
that the last cycle completes; none where no window ends (04 R86, R87; log 42). -/
def State.window (s : State) (g : Nat) (lead : List Bool) (raw : RawBits) : Option (List Bool) :=
  let bs := lead ++ s.conditioned g raw
  if lead.length < cellsOf g && (lead.isEmpty || s.entry 0x3820 g = 1) && decide (65536 ≤ bs.length ∧ bs.length < 65536 + cellsOf g) then some (bs.take 65536)
  else none

/-- The ones of a stream (04 R87). -/
def onesOf (bs : List Bool) : Nat := (bs.filter id).length

/-- The equal adjacent pairs of a stream (04 R87). -/
def equalPairs : List Bool → Nat
  | a :: b :: r => (if a = b then 1 else 0) + equalPairs (b :: r)
  | _ => 0

/-- BIAS of a window (04 R87). -/
def windowBias (ones : Nat) : Int := rna ((ones : Int) - 32768) 2

/-- CORR of a window (04 R87). -/
def windowCorr (equalPairs : Nat) : Int := min 32767 (rna (2 * (equalPairs : Int) - 65535) 2)

/-- The end of a window with these ones and equal adjacent pairs: the estimates, the window's verdict and the group's state (04 R87 to R91). -/
def State.endWindow (s : State) (g : Fin 137) (ones equals : Nat) : State :=
  let x := s.group g
  let b := windowBias ones
  let c := windowCorr equals
  let pass := b.natAbs ≤ s.entry 0x3800 1 && c.natAbs ≤ s.entry 0x3800 2
  let win := (BitVec.ofInt 16 b, BitVec.ofInt 16 c)
  let streak := if pass then x.streak + 1 else 0
  let state := match x.state with
    | 0 => if 16 ≤ streak then 1 else 0
    | 1 => if pass then 1 else 2
    | 2 => if 4 ≤ streak then 1 else 2
    | k => k
  let new : Group := { state := state, bias := win.1, corr := win.2, fails := if pass then x.fails else sat16 x.fails,
                       passRun := if pass then min 255 (x.passRun + 1) else 0, streak := if state = x.state then streak else 0 }
  let s := s.modGroup g fun _ => new
  let s := if state = x.state then s
    else
      let (t, v) := if state = 2 then (0x0401, notice) else if x.state = 2 then (0x0402, info) else (0x0403, info)
      s.emit (noiseNotice t v (noisePayload 0 g state (some win) new.fails 0))
  if state = x.state then s else s.updateGroupHalf g (some win)

/-- HEALTH_WINDOW_END: the health test reads the conditioned stream of the group (04 R86, R87). -/
def execHealthWindowEnd (g : Fin 137) (raw : RawBits) (lead : List Bool) (s : State) : Host.Outcome State Fault Refusal :=
  match s.board.phase, s.window g lead raw with
  | .reset, _ => .next s
  | _, some bs => .next (s.endWindow g (onesOf bs) (equalPairs bs))
  | _, none => .next s

/-- A change of a group's conditioning discards its open window and puts it into WARMING; RETIRED is left only by reset (04 R90, R94). A group that is WARMING
is no donor, so its change restarts no round robin (R95). -/
def State.rewarm (s : State) (g : Nat) : State :=
  if (s.group g).state = 3 then s
  else
    let t := s.modGroup g fun x => { x with state := 0, streak := 0, passRun := 0 }
    if (s.group g).state = 0 then t else t.updateGroupHalf g none

/-- Spindles are spared out at a boundary: their groups are RETIRED together, and each half's state follows once (04 R90, R92). -/
def State.retireAll (s : State) (gs : List Nat) : State :=
  let t := gs.foldl (fun s g => s.modGroup g fun x => { x with state := 3 }) s
  [Half.west, Half.east].foldl (fun t h => if gs.any fun g => decide (g < 136) && halfOfPhysical g = h then (t.newDonors h).updateHalf h none else t) t

/-- The HEALTHY groups of a half, its donors, in ascending order (04 R95). -/
def State.donors (s : State) (h : Half) : List Nat := (groupsOf h).filter fun g => (s.group g).state = 1

/-- The recipients of a half: its Spindles whose groups are neither HEALTHY nor RETIRED, in ascending order (04 R95). -/
def State.recipients (s : State) (h : Half) : List Nat := (groupsOf h).filter fun g => (s.group g).state ≠ 1 && (s.group g).state ≠ 3

/-- The group whose bits a stir register takes: its own while HEALTHY; recipient j of the half takes HEALTHY group j mod h (04 R95). -/
def State.stirSource (s : State) (p : Nat) : Option Nat :=
  if (s.group p).state = 1 then some p
  else
    let donors := s.donors (halfOfPhysical p)
    ((s.recipients (halfOfPhysical p)).idxOf? p).bind fun j => donors[j % donors.length]?

/-- The stir register of a physical Spindle receives bits: its own group is HEALTHY, or it has a donor (04 R95). -/
def State.stirFed (s : State) (p : Nat) : Bool := (s.stirSource p).isSome

/-- The stir registers a group feeds: its own, then its recipients in ascending order (04 R95). -/
def State.takers (s : State) (g : Nat) : List Nat := g :: (s.recipients (halfOfPhysical g)).filter fun p => s.stirSource p = some g

/-- The raw bits of a group's 16 cells, interleaved as the conditioned ones are (04 R86, R102). -/
def rawBits (raw : RawBits) : List Bool := raw.flatMap fun w => (List.range 16).map w.getLsbD

/-- The number whose bit k is bit k of a stream. -/
def packNat : List Bool → Nat
  | [] => 0
  | b :: r => (if b then 1 else 0) + 2 * packNat r

/-- Shifts bits into a stir register at bit 0, the first one first (04 R95). -/
def shiftStir (r : BitVec 256) (bs : List Bool) : BitVec 256 := bs.foldl (fun r b => (r <<< 1) ||| (if b then 1 else 0)) r

/-- x rotated left in 32 bits. -/
def rotl32 (x n : Nat) : Nat := (x * 2 ^ n + x / 2 ^ (32 - n)) % 2 ^ 32

/-- One round of Woad (04 R106): x[0] to x[3] and round number r. -/
def woadRound (k : List Nat) (x : Nat × Nat × Nat × Nat) (r : Nat) : Nat × Nat × Nat × Nat :=
  let (x0, x1, x2, x3) := x
  let x0 := (x0 + x1) % 2 ^ 32
  let x3 := rotl32 (Nat.xor x3 x0) 16
  let x2 := (x2 + x3) % 2 ^ 32
  let x1 := rotl32 (Nat.xor x1 x2) 12
  let x0 := (x0 + x1) % 2 ^ 32
  let x3 := rotl32 (Nat.xor x3 x0) 8
  let x2 := (x2 + x3) % 2 ^ 32
  let x1 := rotl32 (Nat.xor x1 x2) 7
  let q := fun i => k.getD ((4 * (r + 1) + i) % 8) 0
  (Nat.xor (Nat.xor x1 (q 0)) (0x9E3779B9 * (r + 1) % 2 ^ 32), Nat.xor x2 (q 1), Nat.xor x3 (q 2), Nat.xor x0 (q 3))

/-- Woad(K, C): the key as a little-endian number, the counter, the 128-bit output (04 R106). -/
def woad (key ctr : Nat) : Nat :=
  let k := (List.range 8).map fun i => bits key (32 * i + 31) (32 * i)
  let c := fun i => Nat.xor (bits ctr (32 * i + 31) (32 * i)) (k.getD i 0)
  let x := (List.range 10).foldl (woadRound k) (c 0, c 1, c 2, c 3)
  x.1 + 2 ^ 32 * x.2.1 + 2 ^ 64 * x.2.2.1 + 2 ^ 96 * x.2.2.2

/-- Word j of a Woad output (04 R96, R109). -/
def woadWord (y j : Nat) : Nat := bits y (16 * j + 15) (16 * j)

/-- A Colourfast counter of classes DEC and PERM (04 R108). -/
def counterOf (cls ply step sweep k stream : Nat) : Nat :=
  cls * 2 ^ 124 + ply % 64 * 2 ^ 118 + step % 2 ^ 24 * 2 ^ 94 + sweep % 65536 * 2 ^ 78 + k % 2 ^ 20 * 2 ^ 58 + stream % 65536 * 2 ^ 42

/-- The EXCH counter (04 R108). -/
def exchCounter (index k stream : Nat) : Nat :=
  3 * 2 ^ 124 + index % 2 ^ 40 * 2 ^ 78 + k % 2 ^ 20 * 2 ^ 58 + stream % 65536 * 2 ^ 42

/-- W_dec (04 R109). -/
def wDec (key stream p t sw i : Nat) : Nat := woadWord (woad key (counterOf 1 p t sw (i / 8) stream)) (i % 8)

/-- W_perm (04 R109). -/
def wPerm (key stream p t sw k : Nat) : Nat := bits (woad key (counterOf 2 p t sw (k / 4) stream)) (32 * (k % 4) + 31) (32 * (k % 4))

/-- W_exch (04 R109). -/
def wExch (key stream index q : Nat) : Nat := woadWord (woad key (exchCounter index (q / 8) stream)) (q % 8)

/-- The Woad lane of a physical Spindle as it stands: the loaded key until its first output (04 R97). -/
def Noise.lane (x : Noise) (p l : Nat) : LaneKey :=
  match x.lanes.find? fun c => c.1 = 128 * p + l with
  | some c => c.2
  | none => { LaneKey.reset with key := vget x.loaded 0 p }

def Noise.setLane (x : Noise) (p l : Nat) (v : LaneKey) : Noise :=
  { x with lanes := (128 * p + l, v) :: x.lanes.filter fun c => c.1 ≠ 128 * p + l }

/-- The next output of a lane: counter of 04 R97; bit [112] marks the exchange lane (R98). Every 256 outputs a re-stir falls due. -/
def LaneKey.next (x : LaneKey) (p l : Nat) (exch : Bool) (cycle : Nat) : LaneKey :=
  let c := p * 2 ^ 120 + l * 2 ^ 113 + (if exch then 2 ^ 112 else 0) + x.outputs % 2 ^ 64
  { x with outputs := x.outputs + 1, cycle := cycle, out := BitVec.ofNat 128 (woad x.key.toNat c), used := 0, due := (x.outputs + 1) % 256 = 0 }

/-- A re-stir XORs 64 stir-register bits into key words k0 and k1 (04 R97). -/
def LaneKey.restir (x : LaneKey) (stir : BitVec 256) (l : Nat) : LaneKey :=
  { x with key := x.key ^^^ ((stir.rotateRight ((2 * l) % 256)).setWidth 64).setWidth 256, due := false }

/-- The physical Spindle that carries a logical one. -/
def State.hostOf (s : State) (l : Nat) : Nat := vget s.units.hosts 0xFF l

/-- The bits of a group's stream that taker `k` of `n` receives, the round robin standing at `turn` (04 R95). -/
def dealt (bs : List Bool) (turn n k : Nat) : List Bool := (bs.zipIdx.filter fun c => (turn + c.2) % n = k).map fun c => c.1

/-- A group's conditioned bits go round its takers: its own stir register first, then each recipient's (04 R95). -/
def State.feedStir (s : State) (g : Nat) (raw : RawBits) : State :=
  let bs := s.conditioned g raw
  let ts := s.takers g
  let turn := vget s.noise.turn 0 g
  let stir := ts.zipIdx.foldl (fun v c => vset v c.1 (shiftStir (vget v 0 c.1) (dealt bs turn ts.length c.2))) s.noise.stir
  { s with noise := { s.noise with stir := stir, turn := vset s.noise.turn g ((turn + bs.length) % ts.length) } }

/-- RESTIR: the bits that entered the stir register since from its source, then the re-stir that is due (04 R95, R97, R98). -/
def execRestir (l lane : Fin 128) (exchangeLane : Bool) (raw : RawBits) (s : State) : Host.Outcome State Fault Refusal :=
  let p := if exchangeLane then s.hostOf 0 else s.hostOf l
  let k := if exchangeLane then s.noise.exchange else s.noise.lane p lane
  if !k.due then .next s
  else
    let s := match s.stirSource p with
      | some g => s.feedStir g raw
      | none => s
    let stir := vget s.noise.stir 0 p
    .next (if exchangeLane then { s with noise := { s.noise with exchange := k.restir stir 127 } }
      else { s with noise := s.noise.setLane p lane (k.restir stir lane) })

/-- Every stir register that is fed holds new physical bits: free values (04 R95, log 2). -/
def State.freshStir (s : State) : State :=
  let n := s.out.free
  let word := fun p k => (Config.freeValue (n + 4 * p + k)).setWidth 256 <<< (64 * k)
  let new := fun (p : Nat) (old : BitVec 256) => if s.stirFed p then word p 0 ||| word p 1 ||| word p 2 ||| word p 3 else old
  { s with noise := { s.noise with stir := s.noise.stir.mapIdx new }, out := { s.out with free := n + 544 } }

/-- The start of an Open ANNEAL or SAMPLE: every lane loads its Spindle's stir register (04 R97), the exchange lane that of L0's carrier (R98). -/
def State.loadLanes (s : State) : State :=
  let s := s.freshStir
  { s with noise := { s.noise with loaded := s.noise.stir, lanes := [],
                                   exchange := { LaneKey.reset with key := vget s.noise.stir 0 (s.hostOf 0) } } }

/-- The next exchange word in Open mode (04 R98). A re-stir that falls due between two pairs takes the stir register with new physical bits. -/
def State.nextExchange (s : State) : Nat × State :=
  let s := if s.noise.exchange.due then
      let s := s.freshStir
      { s with noise := { s.noise with exchange := s.noise.exchange.restir (vget s.noise.stir 0 (s.hostOf 0)) 127 } }
    else s
  let k := s.noise.exchange.next (s.hostOf 0) 127 true 0
  (woadWord k.out.toNat 0, { s with noise := { s.noise with exchange := k } })

/-- The root-of-trust generator serves: seeded, not blocked, and with GR not HEALTHY only the first 1,048,576 outputs since its last reseed (04 R103). -/
def State.rotServes (s : State) : Bool :=
  s.noise.rotSeeded && !s.noise.rotBlocked && ((s.group 136).state = 1 || decide (s.noise.rotOutputs < 1048576))

/-- One output of the root-of-trust generator, 32 bytes whose value the manual does not give (04 R103, log 2): the count rises. None while it does not
serve. -/
def State.rotOutput (s : State) : Option (Bytes × State) :=
  if !s.rotServes then none
  else
    let b := s.freeBytes 32
    some (b.1, { b.2 with noise := { b.2.noise with rotOutputs := sat32 b.2.noise.rotOutputs } })

/-- ROT_BLOCKED: 1,048,576 outputs since the last reseed while GR is not HEALTHY (04 R103). -/
def execRotBlocked (s : State) : Host.Outcome State Fault Refusal :=
  let x := s.noise
  if (s.group 136).state = 1 || !x.rotSeeded || x.rotBlocked || x.rotOutputs < 1048576 then .next s
  else .next (({ s with noise := { x with rotBlocked := true } }).emit (noiseNotice 0x0407 error (noisePayload 2 0 1 none x.rotOutputs 0)))

end Sys2Proof.Machine
end

