-- ==== Sys2Proof/Machine/Power.lean ====
section
/-!
DEFINITION. The power steward: permits and headroom (11 R294 to R301), samples, ratio ceilings and steps (R302 to R304), the margin plan (R305 to R309).
-/
namespace Sys2Proof.Machine

/-- Calibrated draw per unit of a class in 0.1 W: CLASS_DRAW (11 R294, R316). -/
def classDraw (c : Nat) : Nat := [0, 19, 270, 41, 47, 1700].getD c 0

/-- The units of a word's request (07 R186). -/
def requestUnits (o : Op) (w : Nat) : Nat :=
  if o.isMac then (spindlesOf o w).length
  else if o.uclass = 2 then (bobbinsOf o w).length
  else match o with
    | .coupleLoad => 32
    | .stateInit | .energy | .exchange => 128
    | .anneal | .sample => 2
    | _ => 1

/-- D of a word in 0.1 W; 0 for class 0, which requests none (07 R186, 11 R295). -/
def requestDraw (o : Op) (w : Nat) : Nat := classDraw (wDraw w) * requestUnits o w

/-- G in 0.1 W (11 R295). -/
def Steward.g (x : Steward) : Nat := (x.granted.map fun p => p.draw).sum

/-- POWER_BUDGET in W. -/
def State.budget (s : State) : Nat := s.entry 0x6000 1

/-- The headroom H in 0.1 W: POWER_BUDGET − BASE_DRAW − G (11 R295). -/
def State.headroom (s : State) : Int := 10 * (s.budget : Int) - 800 - s.steward.g

/-- FIT_DRAW of a ceiling in 0.1 W; a ceiling above 5 is taken as 5 (11 R300, 09 R252). -/
def State.fitDraw (s : State) (c : Nat) : Int := 10 * (s.entry 0x6000 (0x20 + min c 5) : Int)

/-- "Fits the power headroom": a ceiling of 0 always does (11 R300). -/
def State.fits (s : State) (c : Nat) : Bool := min c 5 = 0 || s.fitDraw c ≤ s.headroom || s.steward.g = 0

/-- A request of draw D at the head of the queue is grantable (11 R296, R300): alone, or within the headroom above any pick reservation. While a
reservation stands and nothing is granted, a pick that can be made goes first; while a picked hank waits for a Distaff, or a replan stops the picks, none
can (09 R260, 11 R309). -/
def State.grantable (s : State) (d : Nat) : Bool :=
  if s.steward.g = 0 then s.steward.reservation.isNone || s.dispatcher.picked.isSome || s.steward.replan ≠ 0
  else decide ((d : Int) ≤ s.headroom) && (match s.steward.reservation with
    | some r => decide (s.fitDraw r.2 ≤ s.headroom - d)
    | none => true)

def State.modSteward (s : State) (f : Steward → Steward) : State := { s with steward := f s.steward }

/-- Every request that stands in the queue and is not grantable, behind another or at its head, waits for its permit: BUDGET_LIMITED (11 R299). -/
def State.markWaits (s : State) : State :=
  s.steward.queue.zipIdx.foldl (fun t p => if p.2 = 0 && s.grantable p.1.draw then t
    else t.modRun p.1.distaff fun r => { r with waitedPermit := true, budgetLimited := true }) s

/-- A word requests its permits at issue; a request that must wait sets BUDGET_LIMITED (07 R186, 11 R295, R299). -/
def State.requestPermit (s : State) (d k draw : Nat) : State :=
  (s.modSteward fun x => { x with queue := x.queue ++ [{ distaff := d, word := k, draw := draw }] }).markWaits

/-- The permits of a completed word return (11 R295). -/
def State.returnPermit (s : State) (d k : Nat) : State :=
  s.modSteward fun x => { x with granted := x.granted.filter fun p => !(p.distaff = d && p.word = k) }

def State.modIssued (s : State) (d k : Nat) (f : Issued → Issued) : State :=
  s.modRun d fun r => { r with issued := r.issued.map fun i => if i.index = k then f i else i }

/-- PERMIT_GRANT: the steward grants the request at the head of its queue, or leaves it waiting (11 R296, R299). -/
def execPermitGrant (s : State) : Host.Outcome State Fault Refusal :=
  match s.board.phase, s.steward.queue with
  | .ready, p :: rest =>
    if s.grantable p.draw then
      .next ((s.modSteward fun x => { x with queue := rest, granted := x.granted ++ [p] }).modIssued p.distaff p.word fun i => { i with granted := true })
    else .next s.markWaits
  | _, _ => .next s

/-- PERMIT_TIMEOUT: the request at the head is withdrawn and its word fails (11 R298). -/
def execPermitTimeout (s : State) : Host.Outcome State Fault Refusal :=
  match s.board.phase, s.steward.queue with
  | .ready, p :: rest =>
    let pay := le 2 p.word ++ le 2 s.budget ++ le 4 p.draw ++ le 4 s.steward.g ++ zeros 4
    let s := s.modSteward fun x => { x with queue := rest, timeouts := sat32 x.timeouts }
    let s := match s.run p.distaff with
      | some r => s.emit (hankNotice 0x0602 error r.ring r.seq pay)
      | none => s
    .next (s.modIssued p.distaff p.word fun i => { i with ran := true, failure := some { status := stPermit, cause := 0, evRef := s.lastRef } })
  | _, _ => .next s

/-- Nominal lowest voltage of a ratio in mV (08 R239). -/
def nominalMv (r : Nat) : Nat := [800, 720, 660, 600].getD r 600

/-- What a rail is set to: a voltage within 0.60 to 0.85 V (08 R239, R240). -/
def railMv (v : Nat) : Nat := max 600 (min 850 v)

/-- V_h(r): the plan voltage, or the nominal before the first plan (11 R306, R308). -/
def Steward.volts (x : Steward) (h : Half) (r : Nat) : Nat := match x.plan.get h with
  | [] => nominalMv r
  | p => p.getD r 0

/-- MAX_RATIO_h: the fastest ratio whose plan voltage is at most 850 mV; 4 when none is (11 R306). -/
def Steward.maxRatio (x : Steward) (h : Half) : Nat := ((List.range 4).find? fun r => decide (x.volts h r ≤ 850)).getD 4

/-- RATIO_CAP_h (11 R316). -/
def State.ratioCap (s : State) (h : Half) : Nat := s.entry 0x6000 (match h with
  | .west => 5
  | .east => 6)

/-- A_h: the slower of RATIO_CAP_h and MAX_RATIO_h (11 R303). -/
def State.allowedRatio (s : State) (h : Half) : Nat := max (s.ratioCap h) (min 3 (s.steward.maxRatio h))

/-- A half is held below its allowed ratio by the budget or thermal ceiling (11 R299). -/
def State.heldBelow (s : State) (h : Half) : Bool :=
  s.allowedRatio h < s.steward.ratio.get h && s.allowedRatio h < max (s.steward.thermal.get h) (s.steward.budget.get h)

/-- The halves whose units a word uses. -/
def usesHalf (o : Op) (w : Nat) (h : Half) : Bool :=
  (spindlesOf o w).any (fun u => halfOfSpindle u = h) || (bobbinsOf o w).any fun b => halfOfBobbin b = h

/-- A granted word of the hank uses a half held below its allowed ratio. -/
def State.heldRun (s : State) (r : Run) : Bool :=
  r.issued.any fun i => i.granted && (match r.words[i.index]? with
    | some w => match wordOp w.toNat with
      | some o => [Half.west, Half.east].any fun h => usesHalf o w.toNat h && s.heldBelow h
      | none => false
    | none => false)

/-- Hanks with a running word in a half held below its allowed ratio carry BUDGET_LIMITED (11 R299). -/
def State.markHeld (s : State) : State :=
  let mark := fun (d : Distaff) => { d with run := d.run.map fun r => if s.heldRun r then { r with budgetLimited := true } else r }
  { s with distaffs := s.distaffs.map mark }

/-- The ceiling that moved, in RATIO_CHANGE: 0 budget, 1 thermal, 2 cap, 3 plan (log 16). -/
def ratioRecord (h : Half) (old new which : Nat) : Notice := devNotice 0x0601 info 293 (le 1 (halfNo h) ++ le 1 old ++ le 1 new ++ le 1 which ++ zeros 4)

/-- The ceiling of a half that moved last: at this evaluation, `x` being the steward before its ceilings moved, or at the latest one that found one moved. -/
def State.noteMoved (s : State) (x : Steward) (h : Half) : State :=
  let y := s.steward
  let which := if x.thermal.get h ≠ y.thermal.get h then 1 else if x.budget.get h ≠ y.budget.get h then 0
    else if y.lastMax.get h ≠ y.maxRatio h then 3 else if y.lastCap.get h ≠ s.ratioCap h then 2 else y.moved.get h
  s.modSteward fun y => { y with moved := y.moved.set h which, lastCap := y.lastCap.set h (s.ratioCap h), lastMax := y.lastMax.set h (y.maxRatio h) }

/-- Moves a half one step toward the slowest of its ceilings: down at once with its voltage following, up when the rail has settled (11 R303, 08 R239). A
rise that no ceiling allows any more is given up, and the rail returns to its present ratio's voltage. -/
def State.stepRatio (s : State) (h : Half) : State :=
  let y := s.steward
  let now := y.ratio.get h
  let want := max (s.allowedRatio h) (max (y.thermal.get h) (y.budget.get h))
  let which := y.moved.get h
  if now < want then
    let s := s.modSteward fun x => { x with ratio := x.ratio.set h (now + 1), vdd := x.vdd.set h (railMv (x.volts h (now + 1))),
                                            avsTries := x.avsTries.set h 0, rising := x.rising.set h none }
    s.emit (ratioRecord h now (now + 1) which)
  else if want < now then
    if (y.rising.get h).isSome then s
    else s.modSteward fun x => { x with vdd := x.vdd.set h (railMv (x.volts h (now - 1))), avsTries := x.avsTries.set h 0,
                                           rising := x.rising.set h (some (now - 1, which)) }
  else if (y.rising.get h).isSome then
    s.modSteward fun x => { x with vdd := x.vdd.set h (railMv (x.volts h now)), avsTries := x.avsTries.set h 0, rising := x.rising.set h none }
  else s

/-- POWER_SAMPLE: P, P_W, P_E and, at a 100 µs point, the hottest junctions (11 R302). -/
def execPowerSample (p pw pe : Nat) (tj : Option (Int × Int)) (s : State) : Host.Outcome State Fault Refusal :=
  if s.board.phase = .reset then .next s
  else
    let s := s.modSteward fun x => { x with p := p, ph := ⟨pw, pe⟩ }
    .next (match tj with
      | some t => s.modSteward fun x => { x with tj := ⟨t.1, t.2⟩ }
      | none => s)

/-- THERMAL_LIMIT in 0.01 °C. -/
def State.thermalLimit (s : State) : Int := 100 * (s.entry 0x6000 2 : Int)

/-- Evaluation step 1 for a half (11 R303). -/
def State.evalThermal (s : State) (h : Half) : State :=
  let x := s.steward
  let t := x.tj.get h
  if s.thermalLimit ≤ t then
    let s' := s.modSteward fun x => { x with thermal := x.thermal.set h (min 3 (x.ratio.get h + 1)), cool := x.cool.set h 0 }
    if x.thermal.get h = 0 then s'.emit (devNotice 0x0606 notice 293 []) else s'
  else if s.allowedRatio h < x.thermal.get h ∧ t ≤ s.thermalLimit - 500 then
    if x.cool.get h = 9 then s.modSteward fun x => { x with thermal := x.thermal.set h (x.thermal.get h - 1), cool := x.cool.set h 0 }
    else s.modSteward fun x => { x with cool := x.cool.set h (x.cool.get h + 1) }
  else s.modSteward fun x => { x with cool := x.cool.set h 0 }

/-- Step 2: the half the budget slows: the larger core-rail draw among the halves above 1/4, ties to the higher present ratio, then West. -/
def Steward.slowHalf (x : Steward) : Option Half :=
  match decide (x.ratio.w < 3), decide (x.ratio.e < 3) with
  | false, false => none
  | true, false => some .west
  | false, true => some .east
  | true, true => if x.ph.e < x.ph.w then some .west else if x.ph.w < x.ph.e then some .east
      else if x.ratio.e < x.ratio.w then some .east else some .west

/-- ϕ(r) = r × V_h(r)² of 11 R303, times 4. -/
def Steward.phi (x : Steward) (h : Half) (r : Nat) : Nat := (4 - r) * x.volts h r * x.volts h r

/-- Step 3: the half held below A_h by B_h with the slower ratio, ties to West. -/
def State.raiseHalf (s : State) : Option Half :=
  let held := fun h => s.allowedRatio h < s.steward.budget.get h && s.steward.budget.get h = s.steward.ratio.get h
  match held .west, held .east with
  | false, false => none
  | true, false => some .west
  | false, true => some .east
  | true, true => if s.steward.ratio.w < s.steward.ratio.e then some .east else some .west

/-- Steps 2 and 3 on the ratios `x` as they stood at the evaluation's start (11 R303). -/
def State.evalBudget (s : State) (x : Steward) : State :=
  if s.budget < x.p then
    match x.slowHalf with
    | some h => s.modSteward fun y => { y with budget := y.budget.set h (x.ratio.get h + 1) }
    | none => s
  else match s.raiseHalf with
    | some h =>
      let r := x.ratio.get h
      let ph := (x.ph.get h : Int)
      if 100 * ((x.p : Int) * x.phi h r + ph * x.phi h (r - 1) - ph * x.phi h r) ≤ 95 * (s.budget : Int) * x.phi h r then
        s.modSteward fun y => { y with budget := y.budget.set h (y.budget.get h - 1) } else s
    | none => s

/-- RATIO_EVALUATION (11 R303). -/
def execRatioEvaluation (s : State) : Host.Outcome State Fault Refusal :=
  if s.board.phase ≠ .ready then .next s
  else
    let x := s.steward
    let s := (s.evalThermal .west).evalThermal .east
    let s := ((s.evalBudget x).noteMoved x .west).noteMoved x .east
    .next ((s.stepRatio .west).stepRatio .east).markHeld

/-- RATIO_STEP_UP: the rail of a half has settled and its ratio rises (08 R239). -/
def execRatioStepUp (h : Half) (s : State) : Host.Outcome State Fault Refusal :=
  match s.steward.rising.get h with
  | some r =>
    if s.board.phase ≠ .ready then .next s
    else
      let old := s.steward.ratio.get h
      .next ((s.modSteward fun x => { x with ratio := x.ratio.set h r.1, rising := x.rising.set h none }).emit (ratioRecord h old r.1 r.2))
  | none => .next s

/-- LIMIT_W, LIMIT_E: the ceilings that hold a half below 1/1 (11 R303). -/
def State.limitBits (s : State) (h : Half) : Nat :=
  let x := s.steward
  let r := max (s.allowedRatio h) (max (x.thermal.get h) (x.budget.get h))
  let b := fun v k => if 0 < v ∧ v = r then 2 ^ k else 0
  b (x.budget.get h) 0 + b (x.thermal.get h) 1 + b (s.ratioCap h) 2 + b (min 3 (x.maxRatio h)) 3

/-- ALERT# (11 R304): a sag save has asserted it, or T_h holds a hot half at 1/4. A device in reset does not drive it (16 R400). -/
def State.alert (s : State) : Bool :=
  s.board.phase ≠ .reset && (s.board.alertSave || [Half.west, Half.east].any fun h => s.steward.thermal.get h = 3 && decide (s.thermalLimit ≤ s.steward.tj.get h))

end Sys2Proof.Machine
end

