-- ==== Sys2Proof/Machine/Access.lean ====
section
/-!
DEFINITION. How a word of a hank reads and writes buffers and local stores (08 R214, R217, R219; 09 R264, R265), and how a word fails (07 R181, R185).
-/
namespace Sys2Proof.Machine

/-- What a read gives: the bytes, the state after it, and the failure of the reading word. -/
structure Got where
  bytes : Bytes
  st : State
  fail : Option Failure

/-- A failure with no record of its own. -/
def Failure.plain (status : Nat) : Failure := { status := status, cause := 0, evRef := 0 }

/-- The hank in execution is counted in HANKS_REJECTED, which counts hanks: once for all its records (07 R210). -/
def State.countRejected (s : State) (ring seq : Nat) : State :=
  let mine := fun (r : Run) => r.ring = ring && r.seq = seq
  if s.distaffs.toList.any fun d => d.run.any fun r => mine r && r.rejected then s
  else
    let mark := fun (d : Distaff) => { d with run := d.run.map fun r => if mine r then { r with rejected := true } else r }
    { s with distaffs := s.distaffs.map mark, dict := { s.dict with hanksRejected := sat32 s.dict.hanksRejected } }

/-- A word stops its hank with a cause of R180: HANK_REJECT is written and HANKS_REJECTED counts the hank (07 R181, R210). -/
def State.failWord (s : State) (ring seq k status cause : Nat) : State × Failure :=
  let s := (s.emit (hankNotice 0x0701 error ring seq (rejectPayload cause 0 status k 0xFFFF))).countRejected ring seq
  (s, { status := status, cause := cause, evRef := s.lastRef })

/-- ABORTED with INPUT_REJECT or RANGE while a word runs (07 R180, R185). -/
def State.failInput (s : State) (r : Run) (k : Nat) : State × Failure := s.failWord r.ring r.seq k stAborted cInput
def State.failRange (s : State) (r : Run) (k : Nat) : State × Failure := s.failWord r.ring r.seq k stAborted cRange

/-- A read of SRAM (0) or LPDDR5X (1) by a hank's word: SRAM_UE_READ or LP_UE_READ and ECC_UNCORRECTED on a bad word (08 R217, R226). -/
def State.readMem (s : State) (r : Run) (k sp a n : Nat) : Got :=
  let c := s.mem.check sp a n
  let s := { s with mem := c.1 }
  let bs := s.bytes sp a n
  match c.2 with
  | none => ⟨bs, s, none⟩
  | some b =>
    let s := s.emit (hankNotice (if sp = 0 then 0x0502 else 0x0503) error r.ring r.seq (faultPayload (8 * b.1) sp b.2 k 8))
    ⟨bs, s, some { status := stEcc, cause := 0, evRef := s.lastRef }⟩

/-- A read of a local store (3 Spindle, 4 Bobbin) by a hank's word: ECC_UNCORRECTED on a bad word, with no record of its own (08 R219; log 17). -/
def State.readLs (s : State) (sp a n : Nat) : Got :=
  let c := s.mem.check sp a n
  let s := { s with mem := c.1 }
  ⟨s.bytes sp a n, s, c.2.map fun _ => Failure.plain stEcc⟩

/-- Where a local-store address of a unit lies in its memory. -/
def lsKey (bobbin : Bool) (u a : Nat) : Nat := if bobbin then u * 2 ^ 19 + a else u * 2 ^ 20 + a
def lsSpace (bobbin : Bool) : Nat := if bobbin then 4 else 3

/-- The host key of a function's address. -/
def hostKey (fn a : Nat) : Nat := fn * 2 ^ 64 + a % 2 ^ 64

/-- The AER status of a faulting read: bit 14 Completion Timeout, bit 12 Poisoned TLP (09 R241; PRESUMED, log 6: the PCIe specification's bits). -/
def aerBits (kind : Nat) : BitVec 32 := if kind = 2 then 0x4000 else if kind = 3 then 0x1000 else 0

/-- HOST_READ_FAULT is recorded and counted (09 R264, 08 R217). -/
def State.hostFault (s : State) (n : Bytes → Notice) (kind address word length : Nat) : State :=
  let s := { s with pcie := { s.pcie with aer := s.pcie.aer ||| aerBits kind } }
  (s.emit (n (faultPayload address 2 kind word length))).modDict fun x => { x with hostErrors := sat32 x.hostErrors }

/-- A read of host memory by a hank's word. A faulting one ends in ECC_UNCORRECTED for poisoned data and RANGE otherwise, and EVENT_REF names its fault
record (09 R257, R264). After a function-level reset host data never arrives and the bytes are undefined (R265). -/
def State.readHost (s : State) (r : Run) (k a n : Nat) : Got :=
  if r.noHost then let f := s.freeBytes n; ⟨f.1, f.2, none⟩
  else
    let bs := s.bytes 2 (hostKey r.owner a) n
    match r.bad with
    | none => ⟨bs, s, none⟩
    | some b =>
      if b.word = k && meets b.address b.length a n then
        let s := s.hostFault (hankNotice 0x0902 error r.ring r.seq) b.kind b.address k b.length
        let ref := s.lastRef
        let f := if b.kind = 3 then (s, Failure.plain stEcc) else s.failRange r k
        ⟨bs, f.1, some { f.2 with evRef := ref }⟩
      else ⟨bs, s, none⟩

/-- A read of a buffer by a hank's word. -/
def State.readBuf (s : State) (r : Run) (k : Nat) (b : Buffer) (off n : Nat) : Got :=
  if b.space = 2 then s.readHost r k (b.base + off) n else s.readMem r k b.space (b.base + off) n

/-- A write of a buffer by a hank's word; host writes are dropped after a function-level reset (09 R265). -/
def State.writeBuf (s : State) (r : Run) (b : Buffer) (off : Nat) (bs : Bytes) : State :=
  if b.space = 2 then (if r.noHost then s else s.put 2 (hostKey r.owner (b.base + off)) bs) else s.put b.space (b.base + off) bs

/-- The buffer of an index of the hank's table. -/
def Run.buf (r : Run) (i : Nat) : Option Buffer := r.bufs[i]?

/-- A read of a buffer by index; an index past the table reads nothing (R179 has refused it). -/
def State.readIdx (s : State) (r : Run) (k i off n : Nat) : Got :=
  match r.buf i with
  | some b => s.readBuf r k b off n
  | none => ⟨zeros n, s, none⟩

/-- A write of a buffer by index; none is written past the table. -/
def State.writeIdx (s : State) (r : Run) (i off : Nat) (bs : Bytes) : State :=
  match r.buf i with
  | some b => s.writeBuf r b off bs
  | none => s

/-- The destination bytes of a failing part are undefined: free values (07 R185, log 2). -/
def State.spoil (s : State) (sp a n : Nat) : State := let f := s.freeBytes n; f.2.put sp a f.1

def State.spoilIdx (s : State) (r : Run) (i off n : Nat) : State := let f := s.freeBytes n; f.2.writeIdx r i off f.1

/-- Lanes of a Spindle that a failing part leaves undefined: free values (07 R185, log 2). -/
def State.spoilLanes (s : State) (u : Nat) (ls : List Nat) : State :=
  let n := s.out.free
  let s := { s with out := { s.out with free := n + 8192 } }
  let fresh := fun (l : Nat) (x : Sparse (BitVec 40)) =>
    if ls.contains l then Sparse.replace 0 x 0 1024 fun c => (Config.freeValue (n + 1024 * l + c)).setWidth 40 else x
  s.modSpindle u fun x => { x with lanes := x.lanes.mapIdx fresh }

/-- Of two failures of one word's parts, the first in its order decides (07 R185). -/
def firstFail (a b : Option Failure) : Option Failure := a.or b

/-- What a word leaves: the state and its failure. -/
abbrev Done := State × Option Failure

/-- One hank's flag: INT_OVERFLOW (05 R124, R133; 07 R200). -/
def State.setIntOverflow (s : State) (d : Nat) : State := s.modRun d fun r => { r with intOverflow := true }

/-- Runs one part for each of a list of units, in ascending order; every part runs to its end (07 R185). -/
def eachUnit (us : List Nat) (f : Nat → State → Done) (s : State) : Done :=
  us.foldl (fun acc u => let r := f u acc.1; (r.1, firstFail acc.2 r.2)) (s, none)

end Sys2Proof.Machine
end

