-- ==== Sys2Proof/Machine/Ledger.lean ====
section
/-!
DEFINITION. The end of a hank: result digests, ledger entry, completion record and interrupt (07 R182; 09 R257 to R259; 12 R323 to R330).
-/
namespace Sys2Proof.Machine

/-- Queues a signing request in order of arrival; a requested seal goes before the first automatic one that waits (12 R321; log 48). -/
def Identity.enqueue (x : Identity) (q : SignRequest) : Identity :=
  if q.kind ≠ 1 then { x with queue := x.queue ++ [q] }
  else { x with queue := x.queue.takeWhile (fun y => y.kind ≠ 2) ++ [q] ++ x.queue.dropWhile fun y => y.kind ≠ 2 }

/-- IMAGE_VERSION of the active image (12 R322, 15 R395). -/
def State.imageVersion (s : State) : Nat := (s.activeImage.map fun i => i.version.toNat).getD 0

/-- FLAGS of a completion record (09 R257). -/
def flagsOf (r : Run) : Nat :=
  (if r.noisePaused then 1 else 0) + (if r.budgetLimited then 2 else 0) + (if r.intOverflow then 4 else 0) + (if r.debugOn then 8 else 0)

/-- A ledger entry (12 R325, R326). -/
def entryOf (s : State) (ring : Nat) (h : Hank) (e : Ending) (index : Nat) : Bytes :=
  let secs := (e.results.flatMap fun x => le 1 x.1 ++ le 1 x.2.1 ++ zeros 6 ++ le 8 x.2.2.1 ++ x.2.2.2) ++
    (e.marks.flatMap fun x => le 1 x.1 ++ zeros 1 ++ le 2 x.2.1 ++ zeros 4 ++ x.2.2) ++ e.keys.flatten ++
    (e.draws.flatMap fun x => le 2 x.word ++ le 1 x.key ++ le 1 x.classes ++ le 2 x.stream ++ zeros 2 ++ le 8 x.first ++ le 8 x.last ++ le 8 x.plies)
  le 2 1 ++ le 2 (128 + secs.length) ++ le 1 ring ++ le 1 e.mode ++ le 1 e.cfLevel ++ le 1 e.ledgerFlags ++ le 8 h.seq ++ le 2 e.status ++
  le 1 e.cause ++ le 1 e.results.length ++ le 1 e.marks.length ++ le 1 e.keys.length ++ le 1 e.draws.length ++ le 1 e.shapeW ++ le 1 e.shapeE ++
  zeros 1 ++ le 2 e.flags ++ le 4 e.epoch ++ le 4 s.imageVersion ++ le 2 e.domain ++ le 2 e.holdCount ++ le 8 e.runCycles.toNat ++
  le 8 h.entry.tag.toNat ++ le 8 index ++ e.hankDigest ++ le 8 e.ckptGen ++ le 8 e.restoredGen ++ le 8 e.evRef ++ le 4 e.permitWait.toNat ++
  zeros 4 ++ secs

/-- `n` bytes of the part's certificate that manufacture gives, from offset `o` (12 R319). -/
def certPart (o n : Nat) : Bytes := (List.range n).map fun k => Config.certificateByte (o + k)

/-- ID_KEY_DIGEST 0x1000.21 (12 R319). -/
def idKeyDigest : Bytes := digest (certPart 64 1793)

/-- The 192 body bytes of a seal of a ring's head as it stands, with SEAL_COUNT still zero (12 R329). -/
def State.sealBody (s : State) (kind ring : Nat) (nonce : Bytes) : Bytes :=
  let x := s.ring ring
  le 2 1 ++ le 1 kind ++ le 1 ring ++ zeros 4 ++ le 8 x.chainIndex ++ le 8 x.lastLedgerSeq ++ le 4 s.keep.powerOn ++ le 4 s.keep.resetCount ++ x.chainHead ++
  x.genesis ++ nonce ++ idKeyDigest ++ le 4 s.imageVersion ++ le 1 s.cfLevel ++ zeros 27

/-- Appends a hank's entry to its ring's chain, writes it to the ledger area unless the PF is being reset (12 R323, R324, R328), and queues the
automatic seal that falls due, or has the one that waits cover it (R329, R330). -/
def State.appendEntry (s : State) (ring : Nat) (h : Hank) (e : Ending) (write : Bool) : State :=
  let x := s.ring ring
  let k := x.chainIndex + 1
  let bs := entryOf s ring h e k
  let base := s.entry 0x7010 ring
  let slots := 2 ^ s.entry 0x7011 ring
  let s := if write && base ≠ 0 then s.put 2 (hostKey 0 (base + 8192 * ((k - 1) % slots))) bs else s
  let mine := fun (q : SignRequest) => q.kind = 2 && q.ring = ring
  let s := s.modRing ring fun x => { x with chainHead := digest (x.chainHead ++ bs), chainIndex := k, lastLedgerSeq := h.seq }
  let owed : SignRequest := { kind := 2, ring := ring, body := s.sealBody 0 ring zero32 }
  if k % 4096 ≠ 0 || x.autoSealHeld then s
  else if s.ident.queue.any mine then { s with ident := { s.ident with queue := s.ident.queue.map fun q => if mine q then owed else q } }
  else { s with ident := s.ident.enqueue owed }

/-- The completion record c of a ring (09 R257, R258). -/
def recordOf (x : Ring) (h : Hank) (e : Ending) : Bytes :=
  let c := x.cqTail.toNat
  le 8 h.entry.tag.toNat ++ le 8 h.seq ++ le 2 e.status ++ le 1 e.cause ++ le 1 e.distaff ++ le 2 e.flags ++ le 2 e.holdCount ++ le 2 e.lagWE ++
  le 2 e.lagEW ++ le 4 e.epoch ++ le 8 e.evRef ++ le 8 e.runCycles.toNat ++ le 2 e.domain ++ zeros 2 ++ le 4 e.permitWait.toNat ++ zeros 4 ++
  le 4 (if c / 2 ^ x.log2Depth % 2 = 0 then 1 else 0)

/-- Steps 4 to 6 of 09 R259 for the oldest hank of a ring: entry, record, message. -/
def State.complete (s : State) (ring : Nat) (h : Hank) (e : Ending) : State :=
  let owner := s.owner ring
  let s := s.appendEntry ring h e (s.ring ring).gap.isNone
  let x := s.ring ring
  let s := if e.silent then s
    else s.put 2 (hostKey owner (x.cqBase.toNat + 64 * (x.cqTail.toNat % 2 ^ x.log2Depth))) (recordOf x h e)
  let s := s.modRing ring fun x =>
    { x with hanks := x.hanks.drop 1, cqTail := if e.silent then x.cqTail else x.cqTail + 1, progSeq := h.seq, progVal := 0xFFFF,
             done := (h.seq, e.status) :: x.done }
  if e.silent || e.noIrq then s else s.raise owner (32 * ring + h.entry.irqSel)

/-- A hank of the ring that a function-level reset has ended is still to be chained. -/
def State.flrLeft (s : State) (ring : Nat) : Bool :=
  ((s.ring ring).hanks.any fun h => (h.ending.map fun e => e.silent) = some true) ||
  s.distaffs.toList.any fun d => (d.run.map fun r => decide (r.ring = ring) && decide (r.aborted = some cFlr)) = some true

/-- LEDGER_GAP, once every entry that a function-level reset of the PF left unwritten is chained (12 R328). -/
def State.closeGap (s : State) (ring : Nat) : State :=
  match (s.ring ring).gap with
  | some k =>
    if s.flrLeft ring then s
    else
      let x := s.ring ring
      (s.modRing ring fun x => { x with gap := none }).emit
        (devNotice 0x0A03 error 292 (le 1 ring ++ zeros 7 ++ le 8 k ++ le 8 x.chainIndex ++ x.chainHead))
  | none => s

/-- Writes the completions of a ring in sequence order, while the oldest hank is finished and the record its EVENT_REF names has reached the recorder
(09 R259, 14 R366). -/
def State.drainRing (s : State) (ring : Nat) : List Hank → State
  | [] => s
  | h :: rest =>
    match h.stage, h.ending with
    | .finished, some e => if e.evRef ≤ s.recorder.arrived then State.drainRing ((s.complete ring h e).closeGap ring) ring rest else s
    | _, _ => s

/-- Updates a hank of a ring by sequence number. -/
def State.modHank (s : State) (ring seq : Nat) (f : Hank → Hank) : State :=
  s.modRing ring fun x => { x with hanks := x.hanks.map fun h => if h.seq = seq then f h else h }

/-- A hank that ends without a pick: the fields R257 and R328 give; the shapes and epoch of a hank never executed are not given: free values (log 2). -/
def State.finishUnpicked (s : State) (ring seq status cause evRef : Nat) (noIrq silent : Bool) : State :=
  let v := s.freeVal.toNat
  let e : Ending :=
    { status := status, cause := cause, distaff := 0xFF, flags := 0, holdCount := 0, lagWE := 0, lagEW := 0, epoch := bits v 31 0, evRef := evRef,
      runCycles := 0, domain := 0xFFFF, permitWait := 0, mode := 0, cfLevel := 0, ledgerFlags := 0, shapeW := bits v 39 32, shapeE := bits v 47 40,
      hankDigest := zero32, ckptGen := 0, restoredGen := 0, results := [], marks := [], keys := [], draws := [], hostOuts := [], noIrq := noIrq,
      silent := silent }
  s.useFree.modHank ring seq fun h => { h with stage := .finished, ending := some e }

/-- The result digests of a hank's OUT and INOUT buffers (07 R182); a bad word ends the hank with ECC_UNCORRECTED (08 R217). -/
def State.resultDigests (s : State) (r : Run) : Nat → List Buffer → List (Nat × Nat × Nat × Bytes) × State × Option Failure
  | _, [] => ([], s, none)
  | i, b :: rest =>
    if b.kind = 1 || b.kind = 2 then
      let g := s.readBuf r 0xFFFF b 0 b.length
      let t := State.resultDigests g.st r (i + 1) rest
      ((i, b.kind, b.length, digest g.bytes) :: t.1, t.2.1, firstFail g.fail t.2.2)
    else State.resultDigests s r (i + 1) rest

/-- A hank is over: nothing of it is issued, and it has failed, is aborted or has run its last word (07 R185, 09 R262). -/
def Run.over (r : Run) : Bool :=
  r.issued.isEmpty && !r.faulted && (r.failure.isSome || r.aborted.isSome || (r.words.length ≤ r.next && !r.keyPending))

/-- Status, cause and record of a hank that is over (07 R185; 06 R164; 09 R257). -/
def Run.outcome (r : Run) : Nat × Nat × Nat :=
  match r.aborted, r.failure with
  | some c, _ => (stAborted, c, 0)
  | none, some f => (f.2.status, f.2.cause, f.2.evRef)
  | none, none => (if r.reExecuted && r.header.mode = 0 then stOkVariant else stOk, 0, if r.reExecuted then r.shapeRef else 0)

/-- Releases the units of a hank (07 R183). -/
def State.releaseUnits (s : State) (ring seq : Nat) : State :=
  let free := fun (h : Option (Nat × Nat)) => if h = some (ring, seq) then none else h
  { s with units := { s.units with spindles := s.units.spindles.map fun u => { u with holder := free u.holder }
                                   bobbins := s.units.bobbins.map fun u => { u with holder := free u.holder } } }

/-- Steps 1 and 2 of 09 R259: the digests are formed, and the Distaff and the units are released. -/
def State.finishRun (s : State) (d : Nat) (r : Run) : State :=
  let res := if r.atRead || r.noHost then ([], s, none) else s.resultDigests r 0 r.bufs
  let s := res.2.1
  let o := r.outcome
  let o := match res.2.2 with
    | some f => if o.1 = stOk || o.1 = stOkVariant then (f.status, f.cause, f.evRef) else o
    | none => o
  let e : Ending :=
    { status := o.1, cause := o.2.1, distaff := d, flags := flagsOf r, holdCount := r.holdCount, lagWE := r.lagWE, lagEW := r.lagEW, epoch := r.epoch,
      evRef := o.2.2, runCycles := s.freeVal, domain := 170 + d, permitWait := if r.waitedPermit then (Config.freeValue (s.out.free + 1)).setWidth 32 else 0,
      mode := r.header.mode, cfLevel := r.header.cfLevel,
      ledgerFlags := (if r.debugOn then 1 else 0) + (if r.reExecuted then 2 else 0) +
        (if r.bufs.any fun b => (b.kind = 0 || b.kind = 2) && !b.verify then 4 else 0),
      shapeW := r.shapes.w, shapeE := r.shapes.e, hankDigest := r.hankDigest, ckptGen := r.ckptGen, restoredGen := r.restoredGen, results := res.1,
      marks := r.marks, keys := r.keys, draws := r.draws,
      hostOuts := (r.bufs.filter fun b => b.space = 2 && (b.kind = 1 || b.kind = 2)).map fun b => (hostKey r.owner b.base, b.length),
      noIrq := bit r.header.flags 0, silent := r.aborted = some cFlr }
  let s := s.useFree.useFree
  let s := (s.releaseUnits r.ring r.seq).setRun d none
  s.modHank r.ring r.seq fun h => { h with stage := .finished, ending := some e }

/-- HANK_FINISH: the hank of a Distaff that is over finishes, then the ring's completions that may be written are written (09 R259). -/
def execHankFinish (ring : Fin 64) (d : Fin 8) (s : State) : Host.Outcome State Fault Refusal :=
  if s.board.phase ≠ .ready then .next s
  else
    let s := match s.run d with
      | some r => if r.ring = ring.val && r.over then s.finishRun d r else s
      | none => s
    .next (s.drainRing ring (s.ring ring).hanks)

end Sys2Proof.Machine
end

