-- ==== Sys2Proof/Machine/Scalars.lean ====
section
/-!
DEFINITION. The scalar entries of the dictionary as they read (10 R287, R291; and the tables of 03 R83, 04 R110, 05 R145, 06 R170, 07 R210, 08 R240, 09 R267,
11 R316, R317, 12 R343, 13 R364, 14 R377, 15 R395), and what a trigger samples of them (14 R374 to R376).
-/
namespace Sys2Proof.Machine

/-- The newest valid control record, which alone governs: of two the one with the higher SEQ (15 R379). With no valid copy it reads as at the factory (log 47). -/
def Image.control (x : Image) : Control :=
  match x.copy0, x.copy1 with
  | some a, some b => if a.seq < b.seq then b else a
  | some a, none => a
  | none, some b => b
  | none, none => Control.factory

/-- SETTINGS_PENDING (10 R287). -/
def Dictionary.pendingCount (x : Dictionary) : Nat := x.unflushed.length

/-- TRIAL_STATE (15 R387, R395). -/
def Image.trialState (x : Image) : Nat := if x.control.trial.isNone then 0 else if x.trialRunning then 2 else 1

/-- A payload padded to a multiple of 8, so that LENGTH is one (14 R365). -/
def Notice.padded (n : Notice) : Bytes := n.payload ++ zeros (roundUp n.payload.length 8 - n.payload.length)

/-- LENGTH of a record (14 R365). -/
def Notice.size (n : Notice) : Nat := 40 + roundUp n.payload.length 8

/-- The bytes a list of records takes. -/
def recordsSize (rs : List Record) : Nat := (rs.map fun r => r.note.size).sum

/-- GROUP_STATE (04 R91). -/
def Group.word (g : Group) : Nat := g.fails * 2 ^ 16 + g.passRun * 2 ^ 8 + g.state

/-- No hank is in execution, or picked and on its way to a Distaff (11 R309). -/
def State.noHank (s : State) : Bool := s.dispatcher.picked.isNone && s.distaffs.toList.all fun d => d.run.isNone

/-- Two's complement in 32 bits. -/
def i32 (v : Int) : Nat := wrap 32 v

/-- PLAN_VMIN: V_h(r) where allowed, 0 otherwise (11 R306, R317). -/
def Steward.vmin (x : Steward) (h : Half) : Nat :=
  ((List.range 4).map fun r => let v := x.volts h r; (if v ≤ 850 then v else 0) * 2 ^ (16 * r)).sum

/-- MAX_RATIO as it reads: 0xFF out of service (11 R317). -/
def Steward.maxRatioValue (x : Steward) (h : Half) : Nat := if x.out.get h || x.maxRatio h = 4 then 0xFF else x.maxRatio h

/-- Scalars that the device computes: identity, start-up and image (10 R291; 13 R364; 15 R395). -/
def State.scalarIdentity (s : State) (index sub : Nat) : Option Nat :=
  match index, sub with
  | 0x1000, 0x03 => some s.cfLevel
  | 0x1000, 0x04 => some s.units.epoch
  | 0x1000, 0x05 => some ((s.activeImage.map fun i => i.schema.toNat).getD (Config.freeValue s.out.free).toNat % 2 ^ 32)
  | 0x1000, 0x07 => some s.dict.jseq
  | 0x1000, 0x0A => some s.dict.pendingCount
  | 0x1000, 0x22 => some s.ident.state
  | 0x1010, 0x01 => some s.start.state
  | 0x1010, 0x02 => some s.start.lastReset
  | 0x1010, 0x03 => some s.start.time.toNat
  | 0x1010, 0x04 => some s.start.cause.toNat
  | 0x1010, 0x07 => some (((List.range 8).map fun d => if (vget s.distaffs { inService := false, run := none } d).inService then 2 ^ d else 0).sum)
  | 0x1010, 0x09 => some s.start.lostState
  | 0x1010, 0x0A => some s.start.reExecutions
  | 0x1010, 0x0B => some s.start.faults
  | 0x1100, 0x01 => some s.imageVersion
  | 0x1100, 0x02 => some (match s.image.active with
    | some b => if b then 1 else 0
    | none => 0xFF)
  | 0x1100, 0x03 => some (if s.image.control.confirmed then 1 else 0)
  | 0x1100, 0x04 => some s.image.trialState
  | 0x1100, 0x05 => some s.image.control.count
  | 0x1100, 0x07 => some s.image.minSvn
  | 0x1100, 0x11 => some s.image.stage
  | 0x1100, 0x12 => some s.image.error
  | 0x1100, 0x14 => some s.image.received
  | _, _ => none

/-- Scalars that the device computes: host, noise, tensor, shapes and memory (09 R267; 07 R188, R210; 03 R83; 04 R89, R91, R110; 05 R145; 06 R170; 08 R240). -/
def State.scalarEngines (s : State) (index sub : Nat) : Option Nat :=
  match index, sub with
  | 0x2000, 0x01 => some s.board.linkWidth
  | 0x2000, 0x02 => some s.board.linkSpeed
  | 0x2000, 0x07 => some s.dict.ignoredDoorbells
  | 0x2000, 0x09 => some s.dict.bar2Dropped
  | 0x2000, 0x0A => some s.dict.hostErrors
  | 0x2010, 0x10 => some s.dict.hanksRejected
  | 0x2040, r => some ((s.ring r).progSeq * 2 ^ 16 + (s.ring r).progVal)
  | 0x3010, 0x10 => some s.dict.lastLag.w
  | 0x3010, 0x11 => some s.dict.lastLag.e
  | 0x3800, 0x06 => some s.noise.half.w
  | 0x3800, 0x07 => some s.noise.half.e
  | 0x3800, 0x0B => some s.noise.rotOutputs
  | 0x3800, 0x0C => some s.noise.holds.w
  | 0x3800, 0x0D => some s.noise.holds.e
  | 0x3810, g => some ((s.group g).corr.toNat * 2 ^ 16 + (s.group g).bias.toNat)
  | 0x3830, g => some (s.group g).word
  | 0x4010, 1 => some s.dict.windowFaults
  | 0x4010, 2 => some s.dict.intOverflows
  | 0x4010, 3 => some s.dict.pairDiscards
  | 0x4010, 4 => some s.dict.streamOverruns
  | 0x4020, 1 => some s.units.shape.w
  | 0x4020, 2 => some s.units.shape.e
  | 0x4020, 3 => some s.units.working.w
  | 0x4020, 4 => some s.units.working.e
  | 0x4020, 5 => some s.units.fold.w
  | 0x4020, 6 => some s.units.fold.e
  | 0x4020, 7 => some s.units.narrow.w
  | 0x4020, 8 => some s.units.narrow.e
  | 0x5000, 3 => some s.mem.sramCe
  | 0x5000, 4 => some s.mem.sramUe
  | 0x5000, 6 => some s.mem.repairs
  | 0x5000, 7 => some s.mem.remapped
  | 0x5010, 1 => some s.mem.lpCe
  | 0x5010, 2 => some s.mem.lpUe
  | 0x5010, 4 => some s.mem.trainFail.toNat
  | 0x5010, 6 => some s.mem.trainTime.toNat
  | 0x5020, 4 => some s.mem.lsClears
  | 0x5030, 1 => some s.steward.ratio.w
  | 0x5030, 2 => some s.steward.ratio.e
  | 0x5030, 3 => some s.steward.vdd.w
  | 0x5030, 4 => some s.steward.vdd.e
  | _, _ => none

/-- Scalars that the device computes: power, ledger and recorder (11 R316, R317; 12 R343; 14 R377). REPLAN_STATE is 1 until no
hank is in execution, then 2 (11 R309). -/
def State.scalarPlatform (s : State) (index sub : Nat) : Option Nat :=
  match index, sub with
  | 0x6000, 0x07 => some s.steward.p
  | 0x6000, 0x08 => some (80 + (s.steward.g + 9) / 10)
  | 0x6000, 0x09 => some (i32 s.steward.tj.w)
  | 0x6000, 0x0A => some (i32 s.steward.tj.e)
  | 0x6000, 0x0B => some s.steward.timeouts
  | 0x6000, 0x0C => some (s.limitBits .west)
  | 0x6000, 0x0D => some (s.limitBits .east)
  | 0x6000, 0x40 => some s.keep.state
  | 0x6000, 0x42 => some ((s.keep.report.map fun v => v.saveSeq).getD 0)
  | 0x6000, 0x45 => some s.keep.powerOn
  | 0x6100, 0x02 => some (if s.steward.replan = 0 then 0 else if s.noHank then 2 else 1)
  | 0x6100, 0x03 => some (s.steward.maxRatioValue .west)
  | 0x6100, 0x04 => some (s.steward.maxRatioValue .east)
  | 0x6100, 0x05 => some (s.steward.vmin .west)
  | 0x6100, 0x06 => some (s.steward.vmin .east)
  | 0x6100, 0x07 => some s.steward.planCount
  | 0x6100, 0x0A => some (i32 s.steward.planDelta)
  | 0x7000, 0x03 => some s.ident.attestState
  | 0x7000, 0x08 => some s.keep.resetCount
  | 0x7000, 0x09 => some s.ident.sealFailures
  | 0x7013, r => some (s.ring r).chainIndex
  | 0x7030, 0x10 => some (((List.range 16).map fun f => if (vget s.dict.ckptKeys none f).isSome then 2 ^ f else 0).sum)
  | 0x7030, 0x11 => some s.keep.genMax
  | 0x7800, 0x03 => some ((if s.recorder.eFrozen then 1 else 0) + (if s.recorder.tFrozen then 2 else 0))
  | 0x7800, 0x05 => some (s.recorder.arrived + 1)
  | 0x7800, 0x06 => some ((s.recorder.stored.head?.map fun r => r.rseq).getD 0)
  | 0x7800, 0x07 => some (recordsSize s.recorder.stored)
  | 0x7800, 0x10 => some (vget s.recorder.drops 0 0)
  | 0x7800, 0x11 => some (vget s.recorder.drops 0 1)
  | 0x7800, 0x12 => some (vget s.recorder.drops 0 2)
  | 0x7800, 0x13 => some (vget s.recorder.drops 0 3)
  | 0x7800, 0x14 => some s.recorder.eLost
  | 0x7800, 0x15 => some s.recorder.tLost
  | 0x7800, 0x16 => some s.recorder.tMissed
  | 0x7800, 0x19 => some (recordsSize s.recorder.snaps)
  | 0x7800, 0x22 => some s.keep.mirror.length
  | _, _ => none

/-- The value of a scalar entry that is present: computed, stored or at its default. -/
def State.scalarValue (s : State) (index sub : Nat) : Nat :=
  ((s.scalarIdentity index sub).or ((s.scalarEngines index sub).or (s.scalarPlatform index sub))).getD (s.entry index sub)

/-- The row of an entry as the device serves it: in RECOVERY the ROM's dictionary of 0x1000, 0x1100 and 0x7800 entries only (13 R353). -/
def State.rowNow (s : State) (index sub : Nat) : Option Row :=
  if s.start.state = 4 && index ≠ 0x1000 && index ≠ 0x1100 && index ≠ 0x7800 then none else rowOf index sub

/-- A dictionary scalar for a snapshot: VALID is clear for an absent entry (14 R376). -/
def State.scalarOf (s : State) (index sub : Nat) : Option Nat :=
  match s.rowNow index sub with
  | some r => if r.type.isScalar && r.access ≠ .wo then some (s.scalarValue index sub) else none
  | none => none

/-- A record of TRIGGER_CATALOGUE (14 R374). -/
structure CatRecord where
  kind : Nat
  width : Nat
  reg : Nat
  name : Bytes
  deriving DecidableEq, Repr

/-- ASCII text as bytes. -/
def ascii (t : String) : Bytes := t.toList.map fun c => BitVec.ofNat 8 c.toNat

/-- A printable ASCII character, 0x20 to 0x7E (10 R269). -/
def printable (b : Byte) : Byte := BitVec.ofNat 8 (0x20 + b.toNat % 95)

/-- TRIGGER_CATALOGUE: LAST_TOKEN and what the image lists beside it, at most 1,024 records (14 R374, R377). -/
def catalogue : List CatRecord :=
  { kind := 4, width := 32, reg := 1, name := ascii "LAST_TOKEN" ++ List.replicate 14 0x20 } ::
  (List.range (Config.catalogueCount % 1024)).map fun i =>
    { kind := 1 + Config.catalogueKind i % 7, width := 1 + Config.catalogueWidth i % 64, reg := (Config.catalogueReg i).toNat,
      name := (List.range 24).map fun j => printable (Config.catalogueName i j) }

def CatRecord.bytes (x : CatRecord) : Bytes := le 1 x.kind ++ le 1 x.width ++ zeros 2 ++ le 4 x.reg ++ x.name

/-- The clock domain that samples a selector's register (08 R237): the physical carrier's; the steward's, the arbiter's segment RS3 or RS19; dictionary
scalars are the management controller's (log 23). A register of GR, or of no unit, has none the manual gives: a free value. -/
def State.selectorDomain (s : State) (sel : Nat) : Nat :=
  let unit := bits sel 27 20
  match bits sel 31 28 with
  | 0 => 294
  | 1 => s.hostOf unit
  | 2 => 136 + vget s.units.bobbinHosts 0xFF unit
  | 3 => 170 + unit
  | 4 => if unit = 0 then 263 else 279
  | 5 => 260 + unit
  | 6 => 293
  | 7 => if unit < 136 then unit else (Config.freeValue (s.out.free + 65)).toNat % 296
  | _ => (Config.freeValue (s.out.free + 66)).toNat % 296

/-- The selector names no unit of its kind, or one out of service (14 R376; 08 R237). -/
def State.selectorOut (s : State) (sel : Nat) : Bool :=
  let unit := bits sel 27 20
  match bits sel 31 28 with
  | 1 => s.hostOf unit = 0xFF
  | 2 => vget s.units.bobbinHosts 0xFF unit = 0xFF
  | 3 => !(vget s.distaffs { inService := false, run := none } unit).inService
  | 4 => decide (2 ≤ unit) || s.units.fold.get (if unit = 0 then .west else .east) = 0
  | 5 => decide (32 ≤ unit)
  | 6 => decide (1 ≤ unit)
  | 7 => decide (137 ≤ unit)
  | _ => true

/-- The value of a selector that the model holds: a dictionary scalar or LAST_TOKEN (14 R374). -/
def State.selectedNow (s : State) (sel : Nat) : Option Nat :=
  let reg := bits sel 19 0
  if bits sel 31 28 = 0 then s.scalarOf (bits sel 27 20 * 2 ^ 12 + bits reg 19 8) (bits reg 7 0)
  else if bits sel 31 28 = 4 && reg = 1 && !s.selectorOut sel then
    some (s.units.lastToken.get (if bits sel 27 20 = 0 then .west else .east)).toNat
  else none

/-- WIDTH of the catalogue register a selector names, in a unit in service (14 R374, R376). -/
def State.selectedWidth (s : State) (sel : Nat) : Option Nat :=
  if bits sel 31 28 = 0 || s.selectorOut sel then none
  else (catalogue.find? fun c => c.kind = bits sel 31 28 && c.reg = bits sel 19 0).map fun c => c.width

/-- One value of a snapshot (14 R376). Registers that the catalogue names beside LAST_TOKEN are the image's own: free values of their WIDTH (log 2). -/
def State.sampled (s : State) (i sel : Nat) : Bytes :=
  let value := (s.selectedNow sel).or ((s.selectedWidth sel).map fun w => (Config.freeValue (s.out.free + i)).toNat % 2 ^ w)
  le 4 sel ++ le 2 (if value.isSome then 1 else 0) ++ le 2 (s.selectorDomain sel) ++ le 8 (value.getD 0)

/-- The selectors of a trigger set. -/
def selectorsOf (t : Bytes) : List Nat := (List.range (num t 2 1)).map fun i => num t (64 + 4 * i) 4

/-- A capture of set k begins while debug mode is on, with the registers as they stand; a set whose capture has not ended is missed and counted
(14 R374, R375). -/
def State.capture (s : State) (k cause : Nat) (hank : Option (Nat × Nat)) (rseq : Nat) : State :=
  if !s.debug then s
  else match vget s.recorder.captures none k with
    | some _ => s.modRecorder fun x => { x with tMissed := sat32 x.tMissed }
    | none =>
      let t := vget s.dict.triggers [] k
      let sels := selectorsOf t
      let domain := if cause = 1 then s.selectorDomain (sels.headD 0) else (Config.freeValue (s.out.free + 64)).toNat % 296
      let c : Capture := { set_ := t, values := (sels.mapIdx fun i sel => s.sampled i sel).flatten, domain := domain, cause := cause, hank := hank, rseq := rseq }
      let s := { s with out := { s.out with free := s.out.free + 67 } }
      s.modRecorder fun x => { x with captures := vset x.captures k (some c) }

end Sys2Proof.Machine
end

