-- ==== Sys2Proof/Machine/Dispatcher.lean ====
section
/-!
DEFINITION. From the submission entry to the units: entry read (09 R252), pick and pointer (R260), start on a Distaff (01 R19; 07 R171, R179, R182), unit set (07 R183; 08 R220).
-/
namespace Sys2Proof.Machine

/-- The head hank of a ring: its oldest accepted hank that is neither picked nor ended (09 R252, R260). -/
def Ring.head (x : Ring) : Option Hank := x.hanks.find? fun h => (h.stage = .accepted || h.stage = .waiting) && h.abortWith.isNone

/-- Hanks picked whose completion records are not written (09 R260). -/
def Ring.held (x : Ring) : Nat := (x.hanks.filter fun h => h.wasPicked).length

/-- Eligible (09 R260): enabled, with a hank not yet picked, and fewer than HOLD_LIMIT picked and not completed. -/
def Ring.eligible (x : Ring) : Bool := x.enabled && x.head.isSome && x.held < 16

/-- The head's ceiling fits the headroom (09 R260, 11 R300); an entry not yet read cannot be picked. -/
def State.headFits (s : State) (r : Nat) : Bool :=
  match (s.ring r).head with
  | some h => h.stage = .waiting && s.fits h.ceiling
  | none => false

/-- Sets or lifts the pick reservation: it stands from the moment the pointer stays at an eligible ring whose head does not fit until that head is
picked or the ring stops being eligible; it is for the ceiling of the ring's head, whichever hank that comes to be (11 R300, R301). -/
def State.refreshReservation (s : State) : State :=
  let p := s.dispatcher.pointer
  let x := s.ring p
  match s.steward.reservation, x.head with
  | some c, some h =>
    if c.1 ≠ p || !x.eligible then s.modSteward fun y => { y with reservation := none }
    else if h.stage = .waiting && c.2 ≠ h.ceiling then (s.modSteward fun y => { y with reservation := some (p, h.ceiling) }).markWaits
    else s
  | some _, none => s.modSteward fun y => { y with reservation := none }
  | none, some h =>
    if x.eligible && x.allowance ≠ 0 && h.stage = .waiting && !s.fits h.ceiling then
      (s.modSteward fun y => { y with reservation := some (p, h.ceiling) }).markWaits
    else s
  | none, none => s

/-- The picks may go on: ready, no replan, at most one picked hank waits for a Distaff (09 R260, 11 R309, R311). -/
def State.mayPick (s : State) : Bool := s.board.phase = .ready && s.steward.replan = 0 && s.dispatcher.picked.isNone

/-- Picks the head of a ring. -/
def State.pickHead (s : State) (r : Nat) : State :=
  match (s.ring r).head with
  | some h =>
    let s := s.modHank r h.seq fun h => { h with stage := .picked, wasPicked := true }
    let s := { s with dispatcher := { s.dispatcher with picked := some (r, h.seq), dispatched := s.dispatcher.dispatched + 1 } }
    if (s.steward.reservation.map fun c => c.1) = some r then s.modSteward fun y => { y with reservation := none } else s
  | none => s

/-- The ring a bypass pick takes: the first after the pointer in this round that is eligible, whose head fits and whose advance is below its weight. -/
def State.bypassRing (s : State) : Option Nat :=
  (List.range 64).find? fun k => decide (s.dispatcher.pointer < k) && (s.ring k).eligible && s.headFits k && decide ((s.ring k).advance < s.weight k)

/-- HANK_PICK (09 R260): the head of the pointer's ring, or a bypass pick while that head does not fit. -/
def execHankPick (s : State) : Host.Outcome State Fault Refusal :=
  let p := s.dispatcher.pointer
  let x := s.ring p
  if !s.mayPick || !x.eligible || x.allowance = 0 then .next s
  else if s.headFits p then .next ((s.pickHead p).modRing p fun y => { y with allowance := y.allowance - 1 }).refreshReservation
  else if (x.head.map fun h => h.stage) = some HankStage.waiting then
    let s := s.refreshReservation
    match s.bypassRing with
    | some k => .next ((s.pickHead k).modRing k fun y => { y with advance := y.advance + 1 })
    | none => .next s
  else .next s

/-- ARBITER_POINTER_MOVE (09 R260): the pointer leaves a ring that has no allowance left or is not eligible, and arrives at the next. -/
def execArbiterPointerMove (s : State) : Host.Outcome State Fault Refusal :=
  let p := s.dispatcher.pointer
  let x := s.ring p
  if s.board.phase ≠ .ready || (x.eligible && x.allowance ≠ 0) then .next s
  else
    let q := (p + 1) % 64
    let s := s.modRing p fun y => { y with allowance := 0 }
    let s := s.modRing q fun y => { y with allowance := s.weight q - y.advance, advance := 0 }
    .next ({ s with dispatcher := { s.dispatcher with pointer := q } }).refreshReservation

/-- BIT of an entry's faults, from its byte 0 (07 R181, 09 R252): fields in ascending offset. -/
def entryFails (b : Bytes) : Fails :=
  need (num b 0 8 % 64 = 0) 0 ++ need (num b 12 1 ≤ 31) 96 ++ zeroBytes b 13 16 ++ zeroBytes b 24 32

/-- An entry fault ends a hank without a pick (09 R252). -/
def State.entryFault (s : State) (r seq bit : Nat) (evRef : Option Nat) : State :=
  let s := s.emit (hankNotice 0x0701 error r seq (rejectPayload cHeader 0 stAborted 0xFFFE bit))
  let s := s.modDict fun x => { x with hanksRejected := sat32 x.hanksRejected }
  s.finishUnpicked r seq stAborted cHeader (evRef.getD s.lastRef) false false

/-- The oldest hank of a ring whose entry is not yet read. -/
def Ring.unread (x : Ring) : Option Hank := x.hanks.find? fun h => h.stage = .accepted

/-- Address of the submission entry of a hank (09 R252). -/
def Ring.entryAddr (x : Ring) (seq : Nat) : Nat := x.sqBase.toNat + 32 * ((seq - x.seqBase) % 2 ^ x.log2Depth)

/-- What the device reads of an accepted hank: its entry, and the header of the region it names (09 R252). -/
def State.entryBytes (s : State) (r : Nat) (h : Hank) : Bytes := s.bytes 2 (hostKey (s.owner r) ((s.ring r).entryAddr h.seq)) 32

/-- The entry as the device keeps it. -/
def entryFields (b : Bytes) : Entry :=
  let sel := num b 12 1
  { hankAddr := num b 0 8, hankLen := num b 8 4, irqSel := if sel ≤ 31 then sel else 0, tag := BitVec.ofNat 64 (num b 16 8) }

/-- The faults of an entry beside its header's lengths: the header lies at a range of host addresses that exists (log 18). -/
def State.entryFaults (s : State) (r : Nat) (b : Bytes) (e : Entry) : Fails :=
  let hd := headerOf (s.bytes 2 (hostKey (s.owner r) e.hankAddr) 256)
  if e.hankAddr % 64 ≠ 0 || 2 ^ 64 < e.hankAddr + 256 then [some 0]
  else entryFails b ++ need (e.hankLen = regionLen hd && e.hankAddr + e.hankLen ≤ 2 ^ 64) 64

/-- SUBMISSION_ENTRY_READ: the ring's oldest unread entry, then the header of its region (09 R252). A hank that an ABORT has removed from service ends
once its entry has given its TAG and vector (R262; log 19). -/
def execSubmissionEntryRead (r : Fin 64) (s : State) : Host.Outcome State Fault Refusal :=
  match s.board.phase, (s.ring r).unread with
  | .ready, some h =>
    let b := s.entryBytes r h
    let e := entryFields b
    let f := s.entryFaults r b e
    let hd := headerOf (s.bytes 2 (hostKey (s.owner r) e.hankAddr) 256)
    let s := s.modHank r h.seq fun h => { h with entry := e }
    match h.abortWith, f with
    | some c, f => .next (s.finishUnpicked r h.seq stAborted c 0 (f.isEmpty && bit hd.flags 0) false).refreshReservation
    | none, f@(_ :: _) => .next (s.entryFault r h.seq (fieldBit f) none).refreshReservation
    | none, [] =>
      .next (s.modHank r h.seq fun h => { h with stage := .waiting, ceiling := min 5 hd.ceiling, noIrq := bit hd.flags 0 }).refreshReservation
  | _, _ => .next s

/-- A hank as it starts on a Distaff. -/
def Run.start (s : State) (h : Hank) (ring : Nat) (b : Bytes) : Run :=
  let hd := headerOf b
  { ring := ring, seq := h.seq, owner := s.owner ring, order := s.dispatcher.dispatched, header := hd, bufs := buffersOf b hd, words := wordsOf b hd,
    hankDigest := hankDigestOf b hd, next := 0, issued := [], acquired := false, spindles := [], bobbins := [],
    keyPending := hd.seedPolicy = 2, keys := if hd.seedPolicy = 1 && hd.mode = 1 then [hd.seedKey] else [],
    keyIndex := if hd.seedPolicy = 1 && hd.mode = 1 then some 0 else none,
    reuse := [], problems := Vector.replicate 4 none, splits := [], marks := [], draws := [], failure := none, aborted := none, noHost := false,
    noisePaused := false, budgetLimited := false, intOverflow := false, debugOn := s.debug, holdCount := 0, lagWE := 0, lagEW := 0,
    waitedPermit := false, faulted := false, faultMet := false, eccMet := none, rejected := false, reExecuted := false, shapeRef := 0, saving := false, ckptGen := 0, restoredGen := 0, atRead := false, bad := none,
    epoch := s.units.epoch, shapes := s.units.shape }

/-- VERIFY of the IN and INOUT buffers before any instruction executes, in table order (07 R182). -/
def State.verify (s : State) (r : Run) : List Buffer → State × Option Failure
  | [] => (s, none)
  | b :: rest =>
    if b.verify && (b.kind = 0 || b.kind = 2) then
      let g := s.readBuf r 0xFFFF b 0 b.length
      match g.fail with
      | some f => (g.st, some f)
      | none =>
        if digest g.bytes = b.digest then State.verify g.st r rest
        else let f := g.st.failWord r.ring r.seq 0xFFFF stAborted cDigest; (f.1, some f.2)
    else State.verify s r rest

/-- The free Distaff with the lowest number (01 R19). -/
def State.freeDistaff (s : State) : Option Nat :=
  (List.range 8).find? fun d => match s.distaffs[d]? with
    | some x => x.inService && x.run.isNone
    | none => false

/-- Draws the header's device key, or takes that of the abandoned attempt, when the generator serves it; waits otherwise, with NOISE_PAUSED (04 R99, R104, R107). -/
def State.drawHeaderKey (s : State) (d : Nat) : State :=
  match s.run d with
  | some r =>
    if !r.keyPending || r.aborted.isSome || r.failure.isSome then s
    else match (match r.reuse[r.keys.length]? with
      | some k => some (k, s)
      | none => s.rotOutput) with
      | some k => k.2.modRun d fun r => { r with keyPending := false, keys := r.keys ++ [k.1], keyIndex := some r.keys.length }
      | none => s.modRun d fun r => { r with noisePaused := true }
  | none => s

/-- Puts a hank on a Distaff: the checks of R179, VERIFY, and the header's device key. -/
def State.beginRun (s : State) (d ring : Nat) (h : Hank) (b : Bytes) : State :=
  let r := Run.start s h ring b
  let s := s.modHank ring h.seq fun h => { h with stage := .running }
  match h.abortWith with
  | some c => s.setRun d (some { r with aborted := some c, atRead := true })
  | none =>
    match hankReject (s.setting ring h.seq) b with
    | some j =>
      let s := s.emit (hankNotice 0x0701 error ring h.seq (rejectPayload j.cause j.order j.status j.word j.bit))
      let s := s.modDict fun x => { x with hanksRejected := sat32 x.hanksRejected }
      s.setRun d (some { r with failure := some (j.word, { status := j.status, cause := j.cause, evRef := s.lastRef }), atRead := true })
    | none =>
      let v := s.verify r r.bufs
      match v.2 with
      | some f => v.1.setRun d (some { r with failure := some (0xFFFF, f), atRead := true })
      | none => (v.1.setRun d (some r)).drawHeaderKey d

/-- The picked hank that waits for a Distaff. -/
def State.pickedHank (s : State) : Option (Nat × Hank) :=
  match s.dispatcher.picked with
  | some c => ((s.ring c.1).hanks.find? fun h => h.seq = c.2).map fun h => (c.1, h)
  | none => none

/-- HANK_START: the picked hank starts on the lowest-numbered free Distaff, which reads and checks its whole region (01 R19; 07 R171, R179, R182). -/
def execHankStart (s : State) : Host.Outcome State Fault Refusal :=
  match s.board.phase, s.pickedHank, s.freeDistaff with
  | .ready, some c, some d =>
    let s := { s with dispatcher := { s.dispatcher with picked := none } }
    let at_ := hostKey (s.owner c.1) c.2.entry.hankAddr
    let b := s.bytes 2 at_ (regionLen (headerOf (s.bytes 2 at_ 256)))
    .next (s.beginRun d c.1 c.2 b)
  | _, _, _ => .next s

/-- The units a hank's words name (07 R183). -/
def Run.unitSet (r : Run) : List Nat × List Nat :=
  let ops := r.words.filterMap fun w => (wordOp w.toNat).map fun o => (o, w.toNat)
  ((List.range 128).filter fun u => ops.any fun c => (spindlesOf c.1 c.2).contains u,
   (List.range 32).filter fun b => ops.any fun c => (bobbinsOf c.1 c.2).contains b)

/-- The next word of a hank. -/
def Run.nextWord (r : Run) : Option (Op × Nat) :=
  match r.words[r.next]? with
  | some w => (wordOp w.toNat).map fun o => (o, w.toNat)
  | none => none

/-- The hank waits for its units: its Distaff has reached the first word that names one (07 R183). -/
def Run.waitsUnits (r : Run) : Bool :=
  !r.acquired && !r.keyPending && r.failure.isNone && r.aborted.isNone && !r.faulted && (match r.nextWord with
    | some c => namesUnit c.1 c.2
    | none => false)

/-- Clears a Spindle that passes to another function: local store, lanes, stream registers, fields-valid mark (08 R220). -/
def State.clearSpindle (s : State) (u : Nat) : State :=
  let s := s.modMem fun m => m.write 3 (u * 2 ^ 20) (2 ^ 20) fun _ => 0
  let s := s.modMem fun m => { m with lsClears := sat32 m.lsClears }
  s.modSpindle u fun x => { Spindle.reset with lastOwner := x.lastOwner, holder := x.holder }

/-- Clears a Bobbin that passes to another function (08 R220). -/
def State.clearBobbin (s : State) (b : Nat) : State :=
  let s := s.modMem fun m => m.write 4 (b * 2 ^ 19) (2 ^ 19) fun _ => 0
  s.modMem fun m => { m with lsClears := sat32 m.lsClears }

/-- A hank takes a Spindle: cleared first when another function held it last; no group is open in a new hank (07 R183, 08 R220, 05 R123). -/
def State.takeSpindle (s : State) (r : Run) (u : Nat) : State :=
  let x := s.spindle u
  let s := if x.clearNext || x.lastOwner.any (· ≠ r.owner) then s.clearSpindle u else s
  s.modSpindle u fun x => { x with open_ := Vector.replicate 8 none, pair := none, lastOwner := some r.owner, clearNext := false, holder := some (r.ring, r.seq) }

def State.takeBobbin (s : State) (r : Run) (b : Nat) : State :=
  let x := s.bobbin b
  let s := if x.clearNext || x.lastOwner.any (· ≠ r.owner) then s.clearBobbin b else s
  s.modBobbin b fun x => { x with lastOwner := some r.owner, clearNext := false, holder := some (r.ring, r.seq) }

/-- Every unit of the set is free, and no hank dispatched earlier and still waiting needs one (07 R183). -/
def State.unitsFree (s : State) (r : Run) : Bool :=
  let us := r.unitSet
  us.1.all (fun u => (s.spindle u).holder.isNone) && us.2.all (fun b => (s.bobbin b).holder.isNone) &&
  s.distaffs.toList.all fun d => match d.run with
    | some q => !(q.waitsUnits && decide (q.order < r.order) &&
        ((q.unitSet.1.any fun u => us.1.contains u) || q.unitSet.2.any fun b => us.2.contains b))
    | none => true

/-- No further hank is dispatched to a half with a fault, or a TEST_SHAPE change, that waits for its boundary (06 R153, R157; 13 R360). -/
def State.halfFaulted (s : State) (h : Half) : Bool :=
  s.units.testPending || s.units.faults.any fun f => if f.1 then (if f.2.1 < 17 then Half.west else .east) = h else halfOfPhysical f.2.1 = h

/-- Check 9 of 07 R179, made again, refuses a hank on a Distaff: HANK_REJECT, and SHAPE_DEGRADED (06 R155; 07 R181; 13 R361). -/
def State.rejectShape (s : State) (d : Nat) (r : Run) (j : Reject) : State :=
  let s := (s.emit (hankNotice 0x0701 error r.ring r.seq (rejectPayload j.cause j.order j.status j.word j.bit))).countRejected r.ring r.seq
  s.modRun d fun q => { q with failure := some (j.word, { status := j.status, cause := j.cause, evRef := s.lastRef }) }

/-- UNIT_ACQUIRE: a hank acquires its whole unit set at once (07 R183; 01 R20). One that has waited over a change of mapping is checked against the new shapes
and executes under them (06 R153, R155; log 45). -/
def execUnitAcquire (d : Fin 8) (s : State) : Host.Outcome State Fault Refusal :=
  match s.board.phase, s.run d with
  | .ready, some r =>
    let us := r.unitSet
    let blocked := us.1.any (fun u => s.halfFaulted (halfOfSpindle u)) || us.2.any fun b => s.halfFaulted (halfOfBobbin b)
    if !r.waitsUnits || !s.unitsFree r || blocked then .next s
    else
      match (if r.epoch = s.units.epoch then none else shapesReject (s.setting r.ring r.seq) r.header r.words 0 (Tracker.start r.header)) with
      | some j => .next (s.rejectShape d r j)
      | none =>
        let s := us.1.foldl (fun s u => s.takeSpindle r u) s
        let s := us.2.foldl (fun s b => s.takeBobbin r b) s
        .next (s.modRun d fun r => { r with acquired := true, spindles := us.1, bobbins := us.2, epoch := s.units.epoch, shapes := s.units.shape })
  | _, _ => .next s

end Sys2Proof.Machine
end

