-- ==== Sys2Proof/Machine/Issue.lean ====
section
/-!
DEFINITION. How a word issues, conflicts, takes effect and completes (07 R184 to R186), and the control words (R187 to R190, R198).
-/
namespace Sys2Proof.Machine

/-- Something a word reads or writes: kind 0 to 4 a range of a memory, 5 stream registers, 6 anneal problems, 7 the key in force, 8 the anneal use of the
slots (07 R184; 03 R54). -/
structure Touch where
  kind : Nat
  lo : Nat
  len : Nat
  write : Bool
  deriving DecidableEq, Repr

/-- Two touches conflict (07 R184). -/
def Touch.clash (a b : Touch) : Bool := a.kind = b.kind && (a.write || b.write) && meets a.lo a.len b.lo b.len

/-- A range of a buffer by index. -/
def Run.touchBuf (r : Run) (i off len : Nat) (write : Bool) : List Touch :=
  match r.bufs[i]? with
  | some b => [⟨b.space, if b.space = 2 then hostKey r.owner (b.base + off) else b.base + off, len, write⟩]
  | none => []

/-- A whole buffer by index. -/
def Run.touchAll (r : Run) (i : Nat) (write : Bool) : List Touch := r.touchBuf i 0 ((r.bufs[i]?.map fun b => b.length).getD 0) write

/-- The local-store share of a logical Spindle (06 R155). -/
def State.lsShare (s : State) (u : Nat) : Nat := 2 ^ 20 / max 1 (s.units.fold.get (halfOfSpindle u))

/-- Address of the bias quarter of problem p in a Spindle's local store (03 R56). -/
def State.biasBase (s : State) (u p : Nat) : Nat := let n := s.lsShare u; n - n / 8 + p * (n / 32)

/-- The bias areas of a problem. -/
def State.touchBias (s : State) (p : Nat) (write : Bool) : List Touch :=
  (List.range 128).map fun u => ⟨3, lsKey false u (s.biasBase u p), s.lsShare u / 32, write⟩

/-- What an ANNEAL or SAMPLE touches through its parameter record (07 R204, R205; 02 R48 to R53): the record and the bytes of its outputs. `started` are the
outputs of a word that has read its record; before that the record is as it stands. -/
def State.touchRecord (s : State) (r : Run) (o : Op) (w : Nat) (started : Option (List Nat)) : List Touch :=
  let rec_ := (r.touchBuf (anParam w) (anOff w) 64 false).flatMap fun t => s.bytes t.kind t.lo 64
  let named := started.getD ((if o = Op.anneal then slice rec_ 20 6 else slice rec_ 40 4).map BitVec.toNat)
  let whole := fun b => (r.bufs[b]?.map fun x => x.length).getD 0
  let outs : List (Nat × Nat) := match vget r.problems none (anProb w) with
    | some q =>
      let states := q.plies * (padOf q.n / 8)
      if o = Op.anneal then
        named.zip [states, states, 64 * q.plies, whole (named.getD 3 0x3F), 8 * states, 8 * states]
      else named.zip [whole (named.getD 0 0x3F), whole (named.getD 1 0x3F), 64 * q.plies, states]
    | none => []
  r.touchBuf (anParam w) (anOff w) 64 false ++ outs.flatMap fun b => r.touchBuf b.1 0 b.2 true

/-- The buffers a checkpoint holds whole: SRAM buffers of kind OUT, INOUT or SCRATCH, by index (12 R334). -/
def savedBuffers (bufs : List Buffer) : List Nat := (List.range bufs.length).filter fun i => match bufs[i]? with
  | some b => b.space = 0 && b.kind ≠ 0
  | none => false

/-- The checkpoint area as a buffer (12 R333). -/
def Run.area (r : Run) : Buffer :=
  { space := r.header.ckptSpace, kind := 2, verify := false, base := r.header.ckptBase, length := r.header.ckptLength, digest := zero32 }

/-- What STATE.SAVE reads and writes: the saved units and buffers, streams, problems and keys, the slots as they stand, and the checkpoint area (12 R334, R337). -/
def Run.touchSave (r : Run) : List Touch :=
  let us := r.unitSet
  (us.1.map fun u => ⟨3, lsKey false u 0, 2 ^ 20, false⟩) ++ (us.2.map fun b => ⟨4, lsKey true b 0, 2 ^ 19, false⟩) ++
  ((savedBuffers r.bufs).flatMap fun i => r.touchAll i false) ++ (us.1.map fun u => ⟨5, 8 * u, 8, false⟩) ++
  [⟨6, 0, 4, false⟩, ⟨7, 0, 1, false⟩, ⟨8, 0, 1, true⟩, ⟨r.header.ckptSpace, r.header.ckptBase, r.header.ckptLength, true⟩]

/-- Everything a word reads or writes (07 R184); `started` are the outputs of a running ANNEAL or SAMPLE. -/
def State.touches (s : State) (r : Run) (o : Op) (w : Nat) (started : Option (List Nat)) : List Touch :=
  let cf := r.header.mode = 1
  let p := anProb w
  let store := match vget r.problems none p with
    | some q => r.touchBuf q.dst 0 (footprint q.n q.form) false ++ (if q.steps = 0 then [] else r.touchBuf q.sched 0 (16 * q.steps) false)
    | none => []
  let n := ((vget r.problems none p).map fun q => q.n).getD 0
  let plies := ((vget r.problems none p).map fun q => q.plies).getD 0
  let copies := if wAll w && ldStep w then (if ldBobbin w then 32 else 128) else 1
  let prob : List Touch := [⟨6, p, 1, true⟩]
  let slots : List Touch := [⟨8, 0, 1, true⟩]
  let ls := fun write => (spindlesOf o w).flatMap fun u => (spindleRanges o w cf).map fun x => (⟨3, lsKey false u x.1, x.2, write⟩ : Touch)
  let bls := fun write => (bobbinsOf o w).flatMap fun u => (bobbinRanges o w).map fun x => (⟨4, lsKey true u x.1, x.2, write⟩ : Touch)
  let vec := (bobbinsOf o w).flatMap fun u =>
    (bobbinRanges o w).mapIdx fun i x => (⟨4, lsKey true u x.1, x.2, decide (i + 1 = (bobbinRanges o w).length)⟩ : Touch)
  let draw : List Touch := if cf then [⟨7, 0, 1, false⟩] else []
  match o with
  | .barrier | .waitSeq | .signal | .debugTrigger => []
  | .ledgerMark => r.touchBuf (lmBuf w) (lmOff w) (lmLen w) false
  | .load => ls true ++ bls true ++ r.touchBuf (ldBuf w) (ldOff w) (copies * ldLen w) false
  | .store => ls false ++ bls false ++ r.touchBuf (ldBuf w) (ldOff w) (copies * ldLen w) true
  | .copy => r.touchBuf (cpSrc w) (cpSoff w) (cpLen w) false ++ r.touchBuf (cpDst w) (cpDoff w) (cpLen w) true
  | .gather => r.touchAll (gaSrc w) false ++ r.touchBuf (gaIdx w) 0 (4 * gaCount w) false ++ r.touchBuf (gaDst w) 0 (gaCount w * gaRow w) true
  | .stateSave => r.touchSave
  | .stateRestore => []
  | .macAcc | .macEnd | .accPreload => ls false ++ [⟨8, 0, 1, false⟩]
  | .splitK | .accOpen | .accClose | .accPair => [⟨8, 0, 1, false⟩]
  | .drainPlain | .drainMax | .drainExpsum | .drainSum | .debugPeek =>
    ls true ++ [⟨8, 0, 1, false⟩] ++
    (if drSel w then
      let stride := if drOut w = 4 then 36864 else 4096
      let bytes := if o = .debugPeek then peekBytes cf else drainBytes w
      (spindlesOf o w).flatMap fun u => r.touchBuf (drBuf w) (4096 * drOff w + (if wAll w then u * stride else 0)) bytes true
    else []) ++
    (if o.isFold then (spindlesOf o w).map fun u => ⟨5, 8 * u + drStream w, 1, true⟩ else [])
  | .coupleLoad => prob ++ slots ++ s.touchBias p true ++ r.touchBuf (clSrc w) 0 (clN w * clN w * clSize (clType w)) false ++
      r.touchBuf (clDst w) 0 (footprint (clN w) (clForm w)) true ++ r.touchBuf (clCb w) 0 (padOf (clN w) / 256 * 32) false ++
      r.touchBuf (clBias w) 0 (clN w * clSize (clType w)) false ++ r.touchBuf (clReport w) 0 64 true
  | .stateInit => prob ++ slots ++ s.touchBias p true ++ store ++ r.touchBuf (siStates w) 0 (siPlies w * (padOf n / 8)) false ++
      r.touchBuf (siBias w) 0 (biasSpan w n) false
  | .schedLoad => prob ++ (if slL w = 0 then [] else r.touchBuf (slSched w) 0 (16 * slL w) false) ++ r.touchBuf (slLadder w) 0 (4 * slCount w) false
  | .anneal | .sample => prob ++ slots ++ draw ++ s.touchBias p false ++ store ++ s.touchRecord r o w started
  | .exchange => prob ++ slots ++ draw ++ store ++ r.touchBuf (exOut w) 0 8 true
  | .energy => prob ++ slots ++ s.touchBias p false ++ store ++ r.touchBuf (enOut w) 0 (16 * plies) true
  | .noiseSeed => [⟨7, 0, 1, true⟩] ++ (if nsDevice w then [] else r.touchBuf (nsBuf w) (nsOff w) 32 false)
  | .noiseRaw => r.touchBuf (nrBuf w) (nrOff w) (nrLen w) true
  | _ => vec

/-- A word that is issued and not complete. -/
def Run.wordAt (r : Run) (k : Nat) : Option (Op × Nat) :=
  match r.words[k]? with
  | some w => (wordOp w.toNat).map fun o => (o, w.toNat)
  | none => none

/-- No earlier incomplete word conflicts (07 R184). STATE.SAVE with PAUSE does not wait for a running ANNEAL or SAMPLE of its problem (R209). -/
def State.noClash (s : State) (r : Run) (o : Op) (w : Nat) : Bool :=
  let t := s.touches r o w none
  r.issued.all fun i => match r.wordAt i.index with
    | some c =>
      (o = .stateSave && (c.1 = .anneal || c.1 = .sample) && anProb c.2 = svProb w) || (s.touches r c.1 c.2 i.outs).all fun a => t.all fun b => !a.clash b
    | none => true

/-- A unit's queue holds at most 16 words (07 R184, 0x2010.05): fewer of the issued words still in it name each unit of the word. -/
def Run.queueRoom (r : Run) (o : Op) (w : Nat) : Bool :=
  let ws := (r.issued.filter fun i => !i.ran).filterMap fun i => r.wordAt i.index
  ((spindlesOf o w).all fun u => decide ((ws.filter fun c => (spindlesOf c.1 c.2).contains u).length < 16)) &&
  (bobbinsOf o w).all fun b => decide ((ws.filter fun c => (bobbinsOf c.1 c.2).contains b).length < 16)

/-- The next word may issue (07 R183, R184, R187): in list order, at most 63 earlier words incomplete, units acquired, room in their queues, no conflict,
and no word has failed (R185). -/
def State.canIssue (s : State) (r : Run) (o : Op) (w : Nat) : Bool :=
  r.failure.isNone && (r.issued.all fun i => i.failure.isNone) && r.aborted.isNone && !r.keyPending && !r.faulted && r.issued.length ≤ 63 &&
  (if barrierLike o w then r.issued.isEmpty else true) &&
  (r.issued.all fun i => match r.wordAt i.index with
    | some c => !barrierLike c.1 c.2
    | none => true) &&
  (!namesUnit o w || r.acquired) && r.queueRoom o w && s.noClash r o w

/-- The words that name a slot of a Spindle and wait for its products or its read-outs (05 R135). -/
def Op.onSlot (o : Op) : Bool := o.isMac || o.isDrain || o = .splitK || o = .accOpen || o = .accClose || o = .accPair || o = .accPreload

/-- The Spindles whose slot a word reads or writes: a DRAIN.* of a split reduction combines the slots of all its parts (06 R159). -/
def Run.slotSpindles (r : Run) (o : Op) (w : Nat) : List Nat :=
  spindlesOf o w ++ (if o.isDrain then (r.splits.filter fun q => q.slot = wAcc w && (spindlesOf o w).contains q.base).flatMap fun q =>
    (List.range q.parts).map fun p => q.base + p
  else [])

/-- A word waits for an earlier one that shares a unit's queue with it (07 R184), or that names the same slot of a Spindle of either's (05 R135; 06 R159). -/
def Run.behind (r : Run) (o : Op) (w : Nat) (c : Op × Nat) : Bool :=
  ((spindlesOf o w).any fun u => (spindlesOf c.1 c.2).contains u) || ((bobbinsOf o w).any fun b => (bobbinsOf c.1 c.2).contains b) ||
  (o.onSlot && c.1.onSlot && wAcc w = wAcc c.2 && (r.slotSpindles o w).any fun u => (r.slotSpindles c.1 c.2).contains u)

/-- Every earlier issued word that a word waits for has run: a unit's queue runs in list order, and a DRAIN.* of a split reduction includes the products of every
part (07 R184; 05 R135; 06 R159). -/
def Run.queueReady (r : Run) (k : Nat) (o : Op) (w : Nat) : Bool :=
  r.issued.all fun i => !(decide (i.index < k) && !i.ran && (match r.wordAt i.index with
    | some c => r.behind o w c
    | none => false))

/-- What offering a word to its units does: it still waits, it has run to its end, or it has started and runs on. -/
inductive Effect where
  | wait (s : State)
  | done (s : State) (f : Option Failure)
  | started (s : State)

/-- The effect of a word: hank, list index, word bits, state. -/
abbrev WordEffect := Run → Nat → Nat → State → Effect

/-- Offers an issued and granted word to its units. -/
def State.offer (s : State) (d k w : Nat) (o : Op) (eff : WordEffect) : State :=
  match s.run d with
  | some r =>
    if !r.queueReady k o w then s
    else match eff r k w s with
      | .wait s => s
      | .done s f => (s.modIssued d k fun i => { i with ran := true, noiseWait := false, failure := f }).markHeld
      | .started s => s.markHeld
  | none => s

/-- Issues the next word of a hank when it is this instruction and may issue: its permits are requested, and a word of class 0 runs at once. -/
def State.issueNext (s : State) (d : Nat) (o : Op) (eff : WordEffect) : State :=
  match s.run d with
  | some r =>
    match r.nextWord with
    | some c =>
      if c.1 = o && s.canIssue r o c.2 then
        let draw := requestDraw o c.2
        let i : Issued := { index := r.next, granted := draw = 0, ran := false, noiseWait := false, noiseHeld := false, failure := none }
        let s := s.modRun d fun q => { q with next := q.next + 1, issued := q.issued ++ [i] }
        if draw = 0 then s.offer d r.next c.2 o eff else s.requestPermit d r.next draw
      else s
    | none => s
  | none => s

/-- The oldest issued, granted word of this instruction whose effect is still to be made. -/
def Run.granted (r : Run) (o : Op) : Option (Nat × Nat) :=
  (r.issued.find? fun i => i.granted && !i.ran && (match r.wordAt i.index with
    | some c => c.1 = o && r.queueReady i.index o c.2
    | none => false)).bind fun i => (r.wordAt i.index).map fun c => (i.index, c.2)

/-- A word command on a Distaff: a word of this instruction that holds its permits takes effect; failing one, the next word issues (07 R184, R186). -/
def State.word (s : State) (d : Nat) (o : Op) (eff : WordEffect) : State :=
  if s.board.phase ≠ .ready then s
  else
    let s := s.drawHeaderKey d
    match s.run d with
    | some r => match r.granted o with
      | some c => s.offer d c.1 c.2 o eff
      | none => s.issueNext d o eff
    | none => s

/-- Of two failures of a hank, the one of the word that stands earlier in the list (07 R185). -/
def earlierFail (a b : Option (Nat × Failure)) : Option (Nat × Failure) :=
  match a, b with
  | some f, some g => if f.1 < g.1 then some f else some g
  | some f, none => some f
  | none, g => g

/-- WORD_COMPLETE: everything the word writes is visible; its permits return, and a failure decides the hank if its word stands earliest (07 R185, R186).
A drain is complete once its read-outs have ended. A stopped hank that meets an uncorrectable read ends in ECC_UNCORRECTED, whichever word failed earlier, and
is not re-executed (13 R362). -/
def execWordComplete (d : Fin 8) (w : Nat) (s : State) : Host.Outcome State Fault Refusal :=
  match s.board.phase, s.run d with
  | .ready, some r =>
    match r.issued.find? fun i => i.index = w && i.ran with
    | some i =>
      if s.units.drains.any fun x => x.distaff = d.val && x.word = w then .next s
      else
        let mine := i.failure.map fun f => (w, f)
        let ecc := earlierFail (mine.filter fun f => f.2.status = stEcc) r.eccMet
        let failure := if r.faultMet && ecc.isSome then ecc else earlierFail mine r.failure
        let rest := r.issued.filter fun j => j.index ≠ w
        let s := { s with units := { s.units with tree := s.units.tree.filter fun e => !(e.distaff = d.val && e.word = w) } }
        .next ((s.modRun d fun r => { r with issued := rest, failure := failure, faulted := r.faulted && ecc.isNone, eccMet := ecc }).returnPermit
          d w).refreshReservation
    | none => .next s
  | _, _ => .next s

/-- BARRIER: with RELEASE it frees the units that no later word names (07 R187). -/
def effBarrier (d : Nat) : WordEffect := fun r _ w s =>
  if !bit w 94 then .done s none
  else
    let later := (r.words.drop r.next).filterMap fun x => (wordOp x.toNat).map fun o => (o, x.toNat)
    let keepS := r.spindles.filter fun u => later.any fun c => (spindlesOf c.1 c.2).contains u
    let keepB := r.bobbins.filter fun b => later.any fun c => (bobbinsOf c.1 c.2).contains b
    let me := some (r.ring, r.seq)
    let s := { s with units := { s.units with
      spindles := s.units.spindles.mapIdx (fun (u : Nat) (x : Spindle) => if x.holder = me && !keepS.contains u then { x with holder := none } else x)
      bobbins := s.units.bobbins.mapIdx (fun (b : Nat) (x : Bobbin) => if x.holder = me && !keepB.contains b then { x with holder := none } else x) } }
    .done (s.modRun d fun r => { r with spindles := keepS, bobbins := keepB }) none

def execBarrier (d : Fin 8) (s : State) : Host.Outcome State Fault Refusal := .next (s.word d .barrier (effBarrier d))

/-- The awaited hank has signalled a value of at least STAGE or has completed; its status when it has (07 R189). -/
def State.awaited (s : State) (ring seq stage : Nat) : Option (Option Nat) :=
  let x := s.ring ring
  match x.done.find? fun c => c.1 = seq with
  | some c => some (some c.2)
  | none => match x.hanks.find? fun h => h.seq = seq with
    | some h => if stage ≤ h.signalled then some none else none
    | none => none

/-- WAIT.SEQ (07 R189). A hank that completed before a function-level reset counts as completed. -/
def effWaitSeq : WordEffect := fun r k w s =>
  match s.awaited (bits w 94 89) (bits w 88 41) (bits w 40 25) with
  | none => .wait s
  | some st =>
    if bit w 24 && (match st with
      | some v => v ≠ stOk && v ≠ stOkVariant
      | none => false)
    then let f := s.failWord r.ring r.seq k stAborted cDependency; .done f.1 (some f.2)
    else .done s none

def execWaitSeq (d : Fin 8) (s : State) : Host.Outcome State Fault Refusal := .next (s.word d .waitSeq effWaitSeq)

/-- WAIT_SEQ_TIMEOUT: TIMEOUT expires before the awaited hank has signalled or completed; 0 waits without limit (07 R189). -/
def execWaitSeqTimeout (d : Fin 8) (s : State) : Host.Outcome State Fault Refusal :=
  match s.board.phase, s.run d with
  | .ready, some r =>
    match r.granted .waitSeq with
    | some c =>
      if bits c.2 23 4 = 0 || (s.awaited (bits c.2 94 89) (bits c.2 88 41) (bits c.2 40 25)).isSome then .next s
      else
        let f := s.failWord r.ring r.seq c.1 stAborted cWait
        .next (f.1.modIssued d c.1 fun i => { i with ran := true, failure := some f.2 })
    | none => .next s
  | _, _ => .next s

/-- SIGNAL: writes the ring's progress entry and, with IRQ, raises the hank's vector, whatever NO_IRQ (07 R188). A stage that an abandoned attempt reached
stands (13 R361). -/
def effSignal : WordEffect := fun r _ w s =>
  let v := bits w 94 79
  let s := s.modRing r.ring fun x => { x with progSeq := r.seq, progVal := v }
  let s := s.modHank r.ring r.seq fun h => { h with signalled := max h.signalled v }
  let sel := (((s.ring r.ring).hanks.find? fun h => h.seq = r.seq).map fun h => h.entry.irqSel).getD 0
  .done (if bit w 78 then s.raise r.owner (32 * r.ring + sel) else s) none

def execSignal (d : Fin 8) (s : State) : Host.Outcome State Fault Refusal := .next (s.word d .signal effSignal)

/-- LEDGER.MARK: the digest of a range under a mark (07 R190). -/
def effLedgerMark (d : Nat) : WordEffect := fun r k w s =>
  let g := s.readIdx r k (lmBuf w) (lmOff w) (lmLen w)
  match g.fail with
  | some f => .done g.st (some f)
  | none => .done (g.st.modRun d fun r => { r with marks := r.marks ++ [(lmMark w, k, digest g.bytes)] }) none

def execLedgerMark (d : Fin 8) (s : State) : Host.Outcome State Fault Refusal := .next (s.word d .ledgerMark (effLedgerMark d))

/-- DEBUG.TRIGGER: captures its trigger set when it issues (07 R198, 14 R375). -/
def effDebugTrigger : WordEffect := fun r _ w s => .done (s.capture (bits w 94 91) 0 (some (r.ring, r.seq)) 0) none

def execDebugTrigger (d : Fin 8) (s : State) : Host.Outcome State Fault Refusal := .next (s.word d .debugTrigger effDebugTrigger)

end Sys2Proof.Machine
end

