-- ==== Sys2Proof/Machine/Tensor.lean ====
section
/-!
DEFINITION. Spindle arithmetic: tiles and elements (05 R111 to R117), the tree and the slot order (R118, 06 R148), the skein and its window (05 R127 to
R131), groups, pairs and splits (R123 to R126, 06 R158), preload (05 R130).
-/
namespace Sys2Proof.Machine

/-- One operand tile as read: format, codebook, group width, K and bytes (05 R111, 07 R194). -/
structure Tile where
  fmt : Nat
  cbk : Nat
  cb : Array Byte
  w : Nat
  k : Nat
  bytes : Array Byte

/-- Little-endian number in `n` bytes of an array. -/
def arrNum (a : Array Byte) (o : Nat) : Nat → Nat
  | 0 => 0
  | n + 1 => (a.getD o 0).toNat + 256 * arrNum a (o + 1) n

/-- The exact value of an element without its block scale (05 R113, R114). -/
def element (t : Tile) (b : Nat) : Num :=
  match t.fmt with
  | 0 => .int (signed 4 b)
  | 1 => if t.cbk = 0 then .int ((b : Int) - 8) else let e := (t.cb.getD b 0).toNat; if t.cbk = 1 then .int (signed 8 e) else e4m3 e
  | 2 => e2m1 b
  | 3 => .int (signed 8 b)
  | 4 | 6 => e4m3 b
  | 5 | 7 => e5m2 b
  | 8 => (Num.int (signed 8 b)).scale (-6)
  | _ => bf16.val b

/-- The scale byte of the block that holds element k of a line: after the tile's groups, 32 bytes a block (07 R194). -/
def Tile.scaleByte (t : Tile) (line k : Nat) : Nat := if isMx t.fmt then (t.bytes.getD (256 * (t.k / t.w) + 32 * (k / 32) + line) 0).toNat else 127

/-- X of the block (05 R113, R115). -/
def Tile.x (t : Tile) (line k : Nat) : Int := (mxScale (t.scaleByte line k)).getD 0

/-- Element k of a row of A or a column of B; NaN under the NaN scale (05 R113; 07 R194). -/
def Tile.at_ (t : Tile) (line k : Nat) : Num :=
  if (mxScale (t.scaleByte line k)).isNone then .nan
  else
    let n := 64 / t.w
    element t (arrNum t.bytes (256 * (k / t.w) + 8 * line) 8 / 2 ^ (n * (k % t.w)) % 2 ^ n)

def Tile.line (t : Tile) (i : Nat) : List Num := (List.range t.k).map (t.at_ i)

/-- One level of the tree of R118: RNA_FP32 of each pair. -/
def pairUp : List Num → List Num
  | a :: b :: r => (a.add b).r32 :: pairUp r
  | r => r

/-- The tree of R118, level by level. -/
def tree : Nat → List Num → Num
  | 0, xs => xs.headD (.fin false 0 0)
  | n + 1, xs => tree n (pairUp xs)

/-- The sub-group values t of one cell, in ascending k (05 R118, 06 R148): products by RNA_FP32, the tree over w′ of them, the block scales. -/
def cellTerms (mx : Bool) (w' : Nat) (xs : Nat → Int) (a b : List Num) : List Num :=
  let ps := List.zipWith (fun p q => (p.mul q).r32) a b
  (List.range (ps.length / w')).map fun i =>
    let t := tree (Nat.log2 w') ((ps.drop (i * w')).take w')
    if mx then (t.scale (xs (i * w'))).r32 else t

/-- Adds the terms of a cell to an FP32 slot in order (06 R148). -/
def addTerms (v : Nat) (ts : List Num) : Nat := fp32.of (ts.foldl (fun v t => (v.add t).r32) (fp32.val v))

/-- The integer sum of a cell's products (05 R118, R124). -/
def cellSum (a b : List Num) : Int := (List.zipWith (fun p q => (p.mul q).toInt) a b).sum

/-- The exponents q + X of a tile's non-zero finite elements: smallest and largest (05 R128). -/
def Tile.span (t : Tile) : Option (Int × Int) :=
  (List.range 32).foldl (fun o i => (List.range t.k).foldl (fun o k => match t.at_ i k with
    | .fin _ n e => if n = 0 then o else
        let q := e + t.x i k
        match o with
        | none => some (q, q)
        | some r => some (min r.1 q, max r.2 q)
    | _ => o) o) none

/-- The exponent window of a Colourfast MAC.* over a skein with these EWIN and PCOUNT (05 R128). -/
def windowOk (ewin : Int) (pcount : Nat) (a b : Tile) : Bool :=
  decide (pcount + 1024 * a.k ≤ 2 ^ 40) && (match a.span, b.span with
    | some p, some q => decide (ewin ≤ p.1 + q.1) && decide (p.2 + q.2 ≤ ewin + 63)
    | _, _ => true)

/-- The exact contribution of a product to Z under EWIN (05 R127). -/
def skeinTerm (ewin : Int) : Num → Int
  | .fin neg n e => sgn neg n * 2 ^ (e - ewin + 64).toNat
  | _ => 0

/-- The flag of a special product: 1 PINF, 2 NINF, 4 QNAN (05 R122). The product of two infinities sets the flag of its sign (DEDUCED, log 46). -/
def skeinFlag : Num → Nat
  | .nan => 4
  | .inf false => 1
  | .inf true => 2
  | .fin _ _ _ => 0

/-- The lane of a cell. -/
def Spindle.lane (x : Spindle) (l c : Nat) : BitVec 40 := Sparse.get 0 (vget x.lanes [] l) c

/-- Replaces a lane of all cells. -/
def Spindle.setLane (x : Spindle) (l : Nat) (f : Nat → BitVec 40) : Spindle :=
  { x with lanes := vset x.lanes l (Sparse.replace 0 (vget x.lanes [] l) 0 1024 f) }

/-- Z of a cell: lane ℓ holds bits [32ℓ + 31:32ℓ] (05 R127). -/
def Spindle.skein (x : Spindle) (c : Nat) : Int :=
  signed 256 (((List.range 8).map fun l => (x.lane l c).toNat % 2 ^ 32 * 2 ^ (32 * l)).sum)

/-- Replaces the skeins of all cells. -/
def Spindle.setSkeins (x : Spindle) (f : Nat → Int) : Spindle :=
  let z := ((List.range 1024).map fun c => wrap 256 (f c)).toArray
  { x with lanes := Vector.ofFn fun (l : Fin 8) => Sparse.replace 0 [] 0 1024 fun c => BitVec.ofNat 40 (bits (z.getD c 0) (32 * l + 31) (32 * l)) }

def Spindle.flag (x : Spindle) (c : Nat) : Nat := (Sparse.get 0 x.flags c).toNat

def Spindle.setFlags (x : Spindle) (f : Nat → Nat) : Spindle := { x with flags := Sparse.replace 0 [] 0 1024 fun c => BitVec.ofNat 3 (f c) }

/-- The physical lane that MAC.* and ACC.PRELOAD of a slot index write: the fill side of a pair (05 R125). -/
def Spindle.fillLane (x : Spindle) (k : Nat) : Nat := match x.pair, k with
  | some p, 0 => if p.1 then 1 else 0
  | _, k => k

/-- The physical lane that DRAIN.* of a slot index reads: the drain side of a pair (05 R125). -/
def Spindle.drainLane (x : Spindle) (k : Nat) : Nat := match x.pair, k with
  | some p, 0 => if p.1 then 0 else 1
  | _, k => k

/-- A read-out of the lane is outstanding: words that name it wait (05 R135, R126). -/
def State.laneBusy (s : State) (u l : Nat) : Bool := s.units.drains.any fun x => x.spindle = u && x.slot = l

/-- The one drain path of a Spindle is busy (05 R135). -/
def State.pathBusy (s : State) (u : Nat) : Bool := s.units.drains.any fun x => x.spindle = u

/-- A word that writes an occupied slot clears the Spindle's fields-valid mark (03 R57). -/
def State.clearMark (s : State) (r : Run) (u l : Nat) : State :=
  match (s.spindle u).mark.bind fun p => vget r.problems none p with
  | some q => if r.header.mode = 1 || 1024 * l < q.plies * (padOf q.n / 128) then s.modSpindle u fun x => { x with mark := none } else s
  | none => s

/-- The kind of the group open at a slot: true for INT; where none is open, and in Colourfast, Open's KIND 0 (log 55). -/
def Spindle.isInt (x : Spindle) (k : Nat) : Bool := (vget x.open_ none k).getD false

/-- WINDOW_FAULT ends the hank (05 R128, R131; 07 R185). -/
def State.windowFault (s : State) : Done :=
  (s.modDict fun x => { x with windowFaults := sat32 x.windowFaults }, some (Failure.plain stWindow))

/-- Sub-group width w′ under the half's shape (06 R148, R152): NARROW is 16 in shape 12. -/
def State.subWidth (s : State) (u w : Nat) : Nat := w / max 1 (min w (s.units.narrow.get (halfOfSpindle u)))

/-- The split a slot word's Spindle belongs to. -/
def Run.split (r : Run) (u k : Nat) : Option Split := r.splits.find? fun c => c.slot = k && c.base ≤ u && decide (u < c.base + c.parts)

/-- A part of an Open FP split that shares its host with an earlier part (06 R161). -/
def State.follower (s : State) (r : Run) (u k : Nat) : Bool :=
  match r.split u k with
  | some c => (u - c.base) % max 1 (s.units.fold.get (halfOfSpindle u)) ≠ 0
  | none => false

/-- Reads an operand tile (07 R194). -/
def State.tile (s : State) (u a f k w cbk : Nat) (cb : Bytes) : Got × Tile :=
  let g := s.readLs 3 (lsKey false u (64 * a)) (256 * (k / w) + (if isMx f then k else 0))
  (g, { fmt := f, cbk := cbk, cb := cb.toArray, w := w, k := k, bytes := g.bytes.toArray })

/-- The parts of a split that one host carries with part `u`, in part order: `u` alone in no split (06 R161). -/
def State.hostParts (s : State) (r : Run) (u k : Nat) : List Nat :=
  match r.split u k with
  | some c =>
    let fold := max 1 (s.units.fold.get (halfOfSpindle u))
    ((List.range c.parts).filter fun p => p / fold = (u - c.base) / fold).map fun p => c.base + p
  | none => [u]

/-- Adds the products of the first `k` elements of two tiles: to the skeins with PCOUNT in Colourfast, else to a lane, by its slot's kind (05 R118, R124, R127;
06 R148). -/
def Spindle.addProducts (x : Spindle) (cf int mx : Bool) (sub lane : Nat) (ta tb : Tile) (k : Nat) : Spindle :=
  let rows := ((List.range 32).map fun i => (ta.line i).take k).toArray
  let cols := ((List.range 32).map fun i => (tb.line i).take k).toArray
  let a := fun (c : Nat) => rows.getD (c / 32) []
  let b := fun (c : Nat) => cols.getD (c % 32) []
  let xs := fun (c k : Nat) => ta.x (c / 32) k + tb.x (c % 32) k
  if cf then
    let ps := fun (c : Nat) => (List.zipWith (fun p q => Num.mul p q) (a c) (b c)).mapIdx fun k p => p.scale (xs c k)
    { (x.setSkeins fun c => x.skein c + ((ps c).map (skeinTerm x.ewin)).sum).setFlags
        (fun c => (ps c).foldl (fun f p => Nat.lor f (skeinFlag p)) (x.flag c)) with pcount := x.pcount + 1024 * k }
  else if int then x.setLane lane fun c => BitVec.ofInt 40 ((x.lane lane c).toInt + cellSum (a c) (b c))
  else x.setLane lane fun c => BitVec.ofNat 40 (addTerms ((x.lane lane c).toNat % 2 ^ 32) (cellTerms mx sub (xs c) (a c) (b c)))

/-- The terms that a part sharing its host with an earlier one leaves to be added after that one's (06 R161), per cell in FP32 bits. -/
def State.logTerms (s : State) (d slot u : Nat) (mx : Bool) (sub : Nat) (ta tb : Tile) : State :=
  let log := (u, (List.range 1024).map fun c =>
    (cellTerms mx sub (fun k => ta.x (c / 32) k + tb.x (c % 32) k) (ta.line (c / 32)) (tb.line (c % 32))).map fp32.of)
  s.modRun d fun r => { r with splits := r.splits.map fun q =>
    if q.slot = slot && q.base ≤ u && decide (u < q.base + q.parts) then { q with logs := q.logs ++ [log] } else q }

/-- Every product of earlier words to these lanes of a Spindle has passed stage A or S2 (05 R123, R130, R135). -/
def State.leaveTree (s : State) (u : Nat) (lanes : List Nat) : State :=
  { s with units := { s.units with tree := s.units.tree.filter fun e => !(e.spindle = u && lanes.contains e.lane) } }

/-- The swap of MAC.END: the old drain side is cleared and fills, an undrained one is counted and its tile discarded, products in the tree with it (05 R125;
DEDUCED, log 20). -/
def State.swapPair (s : State) (u : Nat) : State :=
  let x := s.spindle u
  let lost := (x.pair.map fun p => !p.2) = some true
  let old := x.drainLane 0
  let s := (s.leaveTree u [old]).modSpindle u fun x => { (x.setLane old fun _ => 0) with pair := x.pair.map fun p => (!p.1, false), overflow := vset x.overflow old false }
  if lost then s.modDict fun x => { x with pairDiscards := sat32 x.pairDiscards } else s

/-- The products of a MAC.* enter a tree (05 R126, R137). -/
def State.enterTree (s : State) (e : InTree) : State := { s with units := { s.units with tree := s.units.tree ++ [e] } }

/-- MAC.* on one Spindle (05 R118, R124, R127, R128; 06 R148). A host's PCOUNT is that of its parts together (06 R161). A MAC.END that names a slot other than 0 adds
to that slot and swaps the pair (log 55). -/
def macUnit (d : Nat) (r : Run) (k w : Nat) (end_ : Bool) (u : Nat) (s : State) : Done :=
  let gw := gwWidth (wGw w)
  let slot := wAcc w
  let mx := isMx (macFa w) || isMx (macFb w)
  let c := if macFb w = 1 ∧ macCbk w ≠ 0 then s.readLs 3 (lsKey false u (64 * macCb w)) 16 else ⟨[], s, none⟩
  let ta := c.st.tile u (macA w) (macFa w) (macK w) gw 0 []
  let tb := ta.1.st.tile u (macB w) (macFb w) (macK w) gw (macCbk w) c.bytes
  let s := tb.1.st
  let x := s.spindle u
  let cf := r.header.mode = 1
  let lane := if cf then 0 else x.fillLane slot
  match firstFail c.fail (firstFail ta.1.fail tb.1.fail) with
  | some f => (s.spoilLanes u (if cf then List.range 8 else [lane]), some f)
  | none =>
    if cf && !windowOk x.ewin (((s.hostParts r u slot).map fun p => (s.spindle p).pcount).sum) ta.2 tb.2 then s.windowFault
    else
      let s := (s.clearMark r u lane).enterTree { distaff := d, word := k, bits := w, spindle := u, lane := lane, before := x }
      let sub := s.subWidth u gw
      let s := if !cf && !x.isInt slot && s.follower r u slot then s.logTerms d slot u mx sub ta.2 tb.2
        else s.modSpindle u fun x => x.addProducts cf (x.isInt slot) mx sub lane ta.2 tb.2 (macK w)
      (if end_ then s.swapPair u else s, none)

/-- MAC.ACC and MAC.END: a lane whose read-out is outstanding holds them back, for MAC.END the drain side too, which its swap clears (05 R126, R135; log 46). -/
def effMac (d : Nat) (end_ : Bool) : WordEffect := fun r k w s =>
  let o := if end_ then Op.macEnd else Op.macAcc
  let us := spindlesOf o w
  let busy := fun (u : Nat) => s.laneBusy u ((s.spindle u).fillLane (wAcc w)) || (end_ && s.laneBusy u ((s.spindle u).drainLane 0))
  if us.any busy then .wait s else let x := eachUnit us (macUnit d r k w end_) s; .done x.1 x.2

def execMacAcc (d : Fin 8) (s : State) : Host.Outcome State Fault Refusal := .next (s.word d .macAcc (effMac d false))
def execMacEnd (d : Fin 8) (s : State) : Host.Outcome State Fault Refusal := .next (s.word d .macEnd (effMac d true))

/-- Clears a slot, or the skein with its flags and PCOUNT (05 R123, R135). -/
def Spindle.clearSlot (x : Spindle) (cf : Bool) (l : Nat) : Spindle :=
  if cf then { x with lanes := Vector.replicate 8 [], flags := [], pcount := 0 } else { x.setLane l fun _ => 0 with overflow := vset x.overflow l false }

/-- ACC.OPEN (05 R123, R127). On slot 0 of an open pair it clears the fill side (log 20). -/
def effAccOpen : WordEffect := fun r _ w s =>
  let us := spindlesOf .accOpen w
  let cf := r.header.mode = 1
  if us.any fun u => s.laneBusy u ((s.spindle u).fillLane (wAcc w)) then .wait s
  else
    let one := fun (s : State) (u : Nat) =>
      let l := (s.spindle u).fillLane (wAcc w)
      ((s.clearMark r u l).leaveTree u [l]).modSpindle u fun x =>
        { x.clearSlot cf l with open_ := vset x.open_ (wAcc w) (some (aoInt w)), ewin := if cf then (if aoInt w then 0 else aoEwin w) else x.ewin }
    .done (us.foldl one s) none

def execAccOpen (d : Fin 8) (s : State) : Host.Outcome State Fault Refusal := .next (s.word d .accOpen effAccOpen)

/-- ACC.CLOSE: the contents are discarded and the group is closed; slot 0 of a pair closes both (05 R123, R125). In Colourfast the one group is at slot 0, and
another index names none (R127). -/
def effAccClose : WordEffect := fun r _ w s =>
  let us := spindlesOf .accClose w
  let cf := r.header.mode = 1
  let k := wAcc w
  let slots := fun (u : Nat) => if k = 0 && (s.spindle u).pair.isSome then [0, 1] else if cf && k ≠ 0 then [] else [k]
  if us.any fun u => (slots u).any fun l => s.laneBusy u l then .wait s
  else
    let one := fun (s : State) (u : Nat) => (slots u).foldl (fun s l =>
      ((s.clearMark r u l).leaveTree u [l]).modSpindle u fun x =>
        { x.clearSlot cf l with open_ := vset x.open_ l none, pair := if k = 0 then none else x.pair }) s
    .done (us.foldl one s) none

def execAccClose (d : Fin 8) (s : State) : Host.Outcome State Fault Refusal := .next (s.word d .accClose effAccClose)

/-- ACC.PAIR: slots 0 and 1 of one kind, slot 0 the fill side, slot 1 empty and drained (05 R125). -/
def effAccPair : WordEffect := fun r _ w s =>
  let us := spindlesOf .accPair w
  if us.any fun u => s.laneBusy u 0 || s.laneBusy u 1 then .wait s
  else
    let one := fun (s : State) (u : Nat) =>
      (((s.clearMark r u 0).clearMark r u 1).leaveTree u [0, 1]).modSpindle u fun x =>
        { (x.clearSlot false 0).clearSlot false 1 with
          open_ := vset (vset x.open_ 0 (some (aoInt w))) 1 (some (aoInt w)), pair := some (false, true) }
    .done (us.foldl one s) none

def execAccPair (d : Fin 8) (s : State) : Host.Outcome State Fault Refusal := .next (s.word d .accPair effAccPair)

/-- SPLIT.K: clears the slot on parts 1 to P − 1 and opens the split (06 R158, 07 R196). -/
def effSplitK (d : Nat) : WordEffect := fun r _ w s =>
  let parts := (List.range (skParts w - 1)).map fun p => wUnit w + 1 + p
  let k := wAcc w
  let cf := r.header.mode = 1
  if parts.any fun u => s.laneBusy u ((s.spindle u).fillLane k) then .wait s
  else
    let one := fun (s : State) (u : Nat) => 
      let l := (s.spindle u).fillLane k
      ((s.clearMark r u l).leaveTree u [l]).modSpindle u fun x => x.clearSlot cf l
    .done ((parts.foldl one s).modRun d fun r => { r with splits := { base := wUnit w, slot := k, parts := skParts w, logs := [] } :: r.splits }) none

def execSplitK (d : Fin 8) (s : State) : Host.Outcome State Fault Refusal := .next (s.word d .splitK (effSplitK d))

/-- A value may enter the skein: an exact multiple of 2^(EWIN − 64) of magnitude below 2^(EWIN + 190) (05 R131). -/
def skeinFits (ewin : Int) : Num → Bool
  | .fin _ n e => n = 0 ||
      (let z := ratio n 1 (e - ewin + 64)
       z.1 % z.2 = 0 && decide (z.1 / z.2 < 2 ^ 254))
  | _ => true

/-- Z of a preloaded value. -/
def skeinOf (ewin : Int) : Num → Int
  | .fin neg n e => let z := ratio n 1 (e - ewin + 64); sgn neg (z.1 / z.2)
  | _ => 0

/-- ACC.PRELOAD on one Spindle (05 R130, R131). -/
def preloadUnit (r : Run) (w : Nat) (u : Nat) (s : State) : Done :=
  let f := apFmt w
  let g := s.readLs 3 (lsKey false u (64 * apSrc w)) (preloadBytes f)
  let s := g.st
  let x := s.spindle u
  let cf := r.header.mode = 1
  let l := if cf then 0 else x.fillLane (wAcc w)
  let bs := g.bytes.toArray
  let raw := fun (c : Nat) => if f = 1 then arrNum bs (2 * c) 2 else arrNum bs (4 * c) 4
  match g.fail with
  | some e => (s.spoilLanes u (if cf then List.range 8 else [l]), some e)
  | none =>
    let s' := (s.clearMark r u l).leaveTree u [l]
    if cf then
      if f = 3 then
        if signed 16 (arrNum bs 33792 2) ≠ x.ewin || !(List.range 1024).all fun c => decide ((signed 256 (arrNum bs (32 * c) 32)).natAbs < 2 ^ 254) then
          s.windowFault
        else
          let y := fun (x : Spindle) =>
            { (x.setSkeins fun c => signed 256 (arrNum bs (32 * c) 32)).setFlags (fun c => arrNum bs (32768 + c) 1 % 8) with pcount := arrNum bs 33800 8 }
          (s'.modSpindle u y, none)
      else
        let v := fun (c : Nat) => if f = 2 then Num.int (signed 32 (raw c)) else if f = 1 then bf16.val (raw c) else fp32.val (raw c)
        if !(List.range 1024).all fun c => skeinFits x.ewin (v c) then s.windowFault
        else
          (s'.modSpindle u fun x => { (x.setSkeins fun c => skeinOf x.ewin (v c)).setFlags (fun c => skeinFlag (v c)) with pcount := 0 }, none)
    else
      let v := fun (c : Nat) => if f = 2 then BitVec.ofInt 40 (signed 32 (raw c)) else if f = 1 then BitVec.ofNat 40 (raw c * 65536) else BitVec.ofNat 40 (raw c)
      (s'.modSpindle u fun x => x.setLane l v, none)

def effAccPreload : WordEffect := fun r _ w s =>
  let us := spindlesOf .accPreload w
  if us.any fun u => s.laneBusy u ((s.spindle u).fillLane (wAcc w)) then .wait s
  else let x := eachUnit us (preloadUnit r w) s; .done x.1 x.2

/-- ACC.PRELOAD (05 R130). -/
def execAccPreload (d : Fin 8) (s : State) : Host.Outcome State Fault Refusal := .next (s.word d .accPreload effAccPreload)

end Sys2Proof.Machine
end

