-- ==== Sys2Proof/Machine/Anneal.lean ====
section
/-!
DEFINITION. What every anneal word shares: the coupling store (03 R59, R60), fields and their rebuild (02 R36; 03 R55 to R57), energies (02 R45), temperatures (R37,
R44), decision rules (R38 to R42) and replica exchange (R47).
-/
namespace Sys2Proof.Machine

/-- qmax (02 R28, R31). -/
def qmaxOf (form : Nat) : Nat := if form = 1 then 127 else 7

/-- Units with an integer M: M = mNum / mDen user units. -/
def Problem.qmax (q : Problem) : Nat := qmaxOf q.form

/-- n_pad of a problem. -/
def Problem.pad (q : Problem) : Nat := padOf q.n

/-- m: the fields each Spindle holds for one ply (03 R54). -/
def Problem.m (q : Problem) : Nat := q.pad / 128

/-- Bytes of a column of the coupling store (03 R59). -/
def columnBytes (form pad : Nat) : Nat := if form = 1 then pad else pad / 2

/-- The store is in LPDDR5X (01 R15). -/
def Problem.spilled (q : Problem) : Bool := 3355443200 < q.pad * columnBytes q.form q.pad

/-- The code stored for entry (i, j) (03 R59). -/
def State.code (s : State) (r : Run) (q : Problem) (i j : Nat) : Nat :=
  match r.buf q.dst with
  | some b =>
    let col := b.base + j * columnBytes q.form q.pad
    if q.form = 1 then ((s.mem.space b.space).byte (col + i)).toNat
    else let v := ((s.mem.space b.space).byte (col + i / 2)).toNat; if i % 2 = 0 then v % 16 else v / 16
  | none => 0

/-- c_ij in field units: the value row i's field takes of column j. Diagonal and padding entries are 0 by position (02 R30, R31; 03 R59). -/
def State.coef (s : State) (r : Run) (q : Problem) (i j : Nat) : Int :=
  if i = j ∨ q.n ≤ i ∨ q.n ≤ j then 0
  else
    let v := s.code r q i j
    match q.form with
    | 0 => 256 * signed 4 v
    | 1 => 256 * signed 8 v
    | 2 => 256 * ((v : Int) - 8)
    | _ => q.codebook.getD (16 * (i / 256) + v) 0

/-- Variable i is held by Spindle ⌊i / m⌋ at slot p × m + k (03 R55). -/
def Problem.spindleOf (q : Problem) (i : Nat) : Nat := i / max 1 q.m
def Problem.slotOf (q : Problem) (p i : Nat) : Nat := p * q.m + i % max 1 q.m

/-- The field of a variable of a ply as it stands in its slot. -/
def State.field (s : State) (q : Problem) (p i : Nat) : Int :=
  let g := q.slotOf p i
  signed 32 ((s.spindle (q.spindleOf i)).lane (g / 1024) (g % 1024)).toNat

/-- The state of a variable at +1 (03 R56). -/
def Problem.plus (q : Problem) (p i : Nat) : Bool := q.spins.contains (p * q.pad + i)

/-- s_i. -/
def spin (up : Bool) : Int := if up then 1 else -1

/-- Sets a state bit; the list stays ascending. -/
def Problem.setSpin (q : Problem) (p i : Nat) (up : Bool) : Problem :=
  let x := p * q.pad + i
  { q with spins := q.spins.filter (fun y => y < x) ++ (if up then [x] else []) ++ q.spins.filter (fun y => x < y) }

/-- B_i from the bias area of its Spindle (03 R56). -/
def State.bias (s : State) (q : Problem) (p i : Nat) : Int :=
  let u := q.spindleOf i
  signed 32 (ofLe (s.bytes 3 (lsKey false u (s.biasBase u p + 4 * (i % max 1 q.m))) 4))

/-- Writes the biases of problem p to the bias area of every Spindle; padding rows hold 0. -/
def State.putBiases (s : State) (q : Problem) (p : Nat) (b : Nat → Int) : State :=
  (List.range 128).foldl (fun s u => s.put 3 (lsKey false u (s.biasBase u p))
    ((List.range q.m).flatMap fun k => let i := u * q.m + k; le 4 (if i < q.n then wrap 32 (b i) else 0))) s

/-- F_i of a state by 02 R36. -/
def State.formField (s : State) (r : Run) (q : Problem) (prob p i : Nat) : Int :=
  if q.n ≤ i then 0
  else ((List.range q.n).foldl (fun a j => a + s.coef r q i j * spin (q.plus p j)) 0) + s.bias q prob i

/-- Writes every occupied slot of a Spindle from a function of the slot number, and sets its mark (03 R55 to R57). Slots above the problem's last keep what they
held: the discarded fields of another problem are cleared nowhere (DESIGN CHOICE, log 41). -/
def State.fillFields (s : State) (q : Problem) (prob u : Nat) (f : Nat → Int) : State :=
  let top := q.plies * q.m
  s.modSpindle u fun x =>
    let one := fun (l : Nat) (y : Sparse (BitVec 40)) =>
      if 1024 * l < top then
        Sparse.replace 0 y 0 1024 fun c => if 1024 * l + c < top then BitVec.ofNat 40 (wrap 32 (f (1024 * l + c))) else Sparse.get 0 y c
      else y
    { x with lanes := x.lanes.mapIdx one, mark := some prob }

/-- The fields of a Spindle formed from the states of its problem. -/
def State.buildFields (s : State) (r : Run) (q : Problem) (prob u : Nat) : State :=
  s.fillFields q prob u fun g => s.formField r q prob (g / max 1 q.m) (u * q.m + g % max 1 q.m)

/-- A read of the whole coupling store finds an uncorrectable word (08 R217). -/
def State.checkStore (s : State) (r : Run) (k : Nat) (q : Problem) (off len : Nat) : State × Option Failure :=
  match r.buf q.dst with
  | some b =>
    let c := s.mem.check b.space (b.base + off) len
    let s := { s with mem := c.1 }
    match c.2 with
    | none => (s, none)
    | some w =>
      let s := s.emit (hankNotice (if b.space = 0 then 0x0502 else 0x0503) error r.ring r.seq (faultPayload (8 * w.1) b.space w.2 k 8))
      (s, some { status := stEcc, cause := 0, evRef := s.lastRef })
  | none => (s, none)

/-- The biases of a problem are read from the bias areas of Spindles: a bad word ends the hank with ECC_UNCORRECTED (03 R56, 08 R219). -/
def State.checkBiases (s : State) (q : Problem) (prob : Nat) (us : List Nat) : State × Option Failure :=
  eachUnit us (fun u s => let g := s.readLs 3 (lsKey false u (s.biasBase u prob)) (4 * q.m); (g.st, g.fail)) s

/-- The rebuild of the fields of every Spindle whose mark does not name the problem (03 R57). -/
def State.rebuild (s : State) (r : Run) (k prob : Nat) (q : Problem) : State × Option Failure :=
  let stale := (List.range 128).filter fun u => (s.spindle u).mark ≠ some prob
  if stale.isEmpty then (s, none)
  else
    let c := s.checkStore r k q 0 (q.pad * columnBytes q.form q.pad)
    match c.2 with
    | some f => (c.1, some f)
    | none =>
      let b := c.1.checkBiases q prob stale
      match b.2 with
      | some f => (b.1, some f)
      | none => (stale.foldl (fun s u => s.buildFields r q prob u) b.1, none)

/-- E_eu of a ply (02 R45; 05 R143): padding variables add 0. -/
def State.energyOf (s : State) (q : Problem) (prob p : Nat) : Int :=
  q.offset - (List.range q.n).foldl (fun a i => a + spin (q.plus p i) * (s.field q p i + s.bias q prob i)) 0

/-- The user-unit energy as FP32 bits (02 R45). -/
def Problem.userEnergy (q : Problem) (e : Int) : Nat := fp32.round (decide (e < 0)) (e.natAbs * q.mNum) (512 * q.qmax * q.mDen)

/-- T_fx and β_fx of a temperature (02 R37). An infinite product saturates T_fx and gives β_fx 0. -/
def Problem.tempFx (q : Problem) (t : Num) (bad : BitVec 32) : Nat × Nat :=
  match t with
  | .inf false => (2 ^ 32 - 1, 0)
  | .fin neg n e =>
    if n = 0 then (0, 2 ^ 32 - 1)
    else if neg then (Config.badTfx bad, Config.badBfx bad)
    else
      let x := ratio n 1 e
      (min (2 ^ 32 - 1) (rna (2 ^ 16 * q.qmax * x.1 * q.mDen : Nat) (x.2 * q.mNum)).toNat,
       min (2 ^ 32 - 1) (rna (2 ^ 16 * q.mNum * x.2 : Nat) (q.qmax * x.1 * q.mDen)).toNat)
  | _ => (Config.badTfx bad, Config.badBfx bad)

/-- The T_fx and β_fx of every ply at a base temperature: T_p = RNA_FP32(TEMP × MULT[q]) for its ladder slot q (02 R44). -/
def Problem.temps (q : Problem) (temp : BitVec 32) : List (Nat × Nat) :=
  q.stats.map fun x => q.tempFx ((fp32.val temp.toNat).mul (fp32.val (q.ladder.getD x.ladderSlot 0).toNat)).r32 temp

/-- NL(w) (02 R39). -/
def nl (w : Nat) : Int :=
  let v := 2 * w + 1
  let e := 16 - Nat.log2 v
  let g := v * 2 ^ e - 65536
  ((e : Int) + 1) * 45426 - interp tableLT (g / 64) (g % 64) 6

/-- METROPOLIS (02 R40): the new value. -/
def metropolis (up : Bool) (f : Int) (w tfx : Nat) : Bool := if 2 * spin up * f ≤ tfx * nl w / 2 ^ 24 then !up else up

/-- HEATBATH (02 R41): the new value. -/
def heatbath (f : Int) (w bfx : Nat) : Bool :=
  let a := 2 * f.natAbs * bfx / 2 ^ 13
  let sg : Int := if 65536 ≤ a then 65536 else interp tableST (a / 64) (a % 64) 6
  decide ((w : Int) < if 0 ≤ f then sg else 65536 - sg)

/-- The draw g of THRESHOLD (02 R42). -/
def drawOfWord (dist w : Nat) : Int :=
  match dist with
  | 0 => 2 * (w : Int) + 1 - 65536
  | 1 => nl (65535 - w) - nl w
  | _ =>
    let h := w % 32768
    let g := interp tableGT (h / 32) (h % 32) 5
    if w < 32768 then g else -g

/-- THRESHOLD (02 R42): the new value. -/
def threshold (dist : Nat) (up : Bool) (f : Int) (w tfx : Nat) : Bool :=
  let y := f + tfx * drawOfWord dist w / 2 ^ 24
  if 0 < y then true else if y < 0 then false else up

/-- The new value of a decision (02 R38). -/
def decide_ (rule dist : Nat) (up : Bool) (f : Int) (w tfx bfx : Nat) : Bool :=
  match rule with
  | 0 => metropolis up f w tfx
  | 1 => heatbath f w bfx
  | _ => threshold dist up f w tfx

/-- An exchange is accepted (02 R47): D = (β_q − β_(q+1)) × (E_q − E_(q+1)), accepted when −D ≤ NL(w) × 512. -/
def exchAccept (b0 b1 : Nat) (e0 e1 : Int) (w : Nat) : Bool := decide (-(((b0 : Int) - b1) * (e0 - e1)) ≤ nl w * 512)

/-- The lower slots of the pairs of a round (02 R47). -/
def exchPairs (plies : Nat) (odd : Bool) : List Nat := (List.range plies).filter fun q => q % 2 = (if odd then 1 else 0) && decide (q + 1 < plies)

/-- The ply in a ladder slot. -/
def Problem.inSlot (q : Problem) (k : Nat) : Nat := (q.stats.findIdx? fun x => x.ladderSlot = k).getD 0

/-- Moves a ply to a ladder slot and counts the attempt. -/
def Problem.attempt (q : Problem) (p slot : Nat) (ok : Bool) : Problem :=
  { q with stats := q.stats.modify p fun x =>
      { x with exchTries := sat32 x.exchTries, exchAccepts := if ok then sat32 x.exchAccepts else x.exchAccepts,
               ladderSlot := if ok then slot else x.ladderSlot } }

/-- One round of replica exchange over the pairs `qs` (02 R47): the problem, the mask of accepted pairs and the state after its draws. `word` draws the
noise word of a pair. -/
def exchangeRound (word : Nat → State → Nat × State) (bfx : List Nat) (es : List Int) : List Nat → Problem → Nat → State → Problem × Nat × State
  | [], q, mask, s => (q, mask, s)
  | k :: rest, q, mask, s =>
    let w := word k s
    let a := q.inSlot k
    let b := q.inSlot (k + 1)
    let ok := exchAccept (bfx.getD a 0) (bfx.getD b 0) (es.getD a 0) (es.getD b 0) w.1
    exchangeRound word bfx es rest ((q.attempt a (k + 1) ok).attempt b k ok) (if ok then mask + 2 ^ k else mask) w.2

/-- The energies of every ply. -/
def State.energies (s : State) (q : Problem) (prob : Nat) : List Int := (List.range q.plies).map (s.energyOf q prob)

/-- The problem of a hank. -/
def Run.problem (r : Run) (p : Nat) : Option Problem := vget r.problems none p

def State.setProblem (s : State) (d p : Nat) (q : Problem) : State := s.modRun d fun r => { r with problems := vset r.problems p (some q) }

/-- A bit vector of variables at +1, n_pad bits (02 R48). -/
def bitVector (pad : Nat) (up : Nat → Bool) : Bytes :=
  (List.range (pad / 8)).map fun k => BitVec.ofNat 8 (((List.range 8).map fun b => if up (8 * k + b) then 2 ^ b else 0).sum)

/-- An INT8 vector of states, 0 at padding (02 R52). -/
def intVector (n pad : Nat) (up : Nat → Bool) : Bytes := (List.range pad).map fun i => if n ≤ i then 0 else if up i then 1 else 0xFF

/-- Row i's range of blocks of 256 that a Spindle touches is at most 16 for every Spindle (03 R60). -/
def Problem.blocksOk (q : Problem) : Bool :=
  q.form ≠ 3 || (List.range 128).all fun u => decide ((u * q.m + q.m - 1) / 256 - u * q.m / 256 < 16)

/-- ANNEAL, SAMPLE and ENERGY run while no half is out of service and the plies fit the larger fold (06 R155). -/
def State.pliesFit (s : State) (q : Problem) : Bool :=
  s.units.shape.w ≠ 0xFF && s.units.shape.e ≠ 0xFF && decide (q.plies ≤ plyLimit (max s.units.fold.w s.units.fold.e) q.n)

end Sys2Proof.Machine
end

