-- ==== Sys2Proof/Machine/AnnealWords.lean ====
section
/-!
DEFINITION. COUPLE.LOAD (02 R25 to R35), STATE.INIT (R52), SCHED.LOAD (R43, 07 R203), EXCHANGE and ENERGY (R206), NOISE.SEED and NOISE.RAW (R208).
-/
namespace Sys2Proof.Machine

/-- A source element in units of 2^-149, none for a NaN or an infinity, with its bits (07 R201). -/
def loadElem (t b : Nat) : Option Int :=
  let whole := fun (x : Num) => match x with
    | .fin neg n e => some (sgn neg n * 2 ^ (e + 149).toNat)
    | _ => none
  match t with
  | 0 => whole (fp32.val b)
  | 1 => whole (bf16.val b)
  | 2 => some (signed 8 b * 2 ^ 149)
  | 3 => some (signed 16 b * 2 ^ 149)
  | _ => some (signed 32 b * 2 ^ 149)

/-- The source of a load, read whole. -/
structure Source where
  n : Nat
  form : Nat
  qubo : Bool
  type : Nat
  coupling : Array Byte
  bias : Array Byte
  hasBias : Bool
  book : Array Byte

/-- Bits of the element (i, j). -/
def Source.raw (x : Source) (i j : Nat) : Nat := arrNum x.coupling (clSize x.type * (i * x.n + j)) (clSize x.type)

def Source.at_ (x : Source) (i j : Nat) : Option Int := loadElem x.type (x.raw i j)

def Source.biasAt (x : Source) (i : Nat) : Option Int := loadElem x.type (arrNum x.bias (clSize x.type * i) (clSize x.type))

/-- Entry k of a codebook block, in units of 2^-149. -/
def Source.cb (x : Source) (g k : Nat) : Option Int := loadElem 1 (arrNum x.book (32 * g + 2 * k) 2)

def Source.host (x : Source) : Bool := x.form = 3

/-- The pairs i < j. -/
def pairsOf (n : Nat) : List (Nat × Nat) := (List.range n).flatMap fun i => ((List.range n).filter fun j => decide (i < j)).map fun j => (i, j)

/-- Codebook values by block and entry. -/
def Source.books (x : Source) : List (Nat × Nat) := if x.host then (List.range (padOf x.n / 256)).flatMap fun g => (List.range 16).map fun k => (g, k) else []

/-- Every used value is finite (02 R33). -/
def Source.finite (x : Source) : Bool :=
  ((pairsOf x.n).all fun c => (x.at_ c.1 c.2).isSome) && (!x.qubo || (List.range x.n).all fun i => (x.at_ i i).isSome) &&
  (!x.hasBias || (List.range x.n).all fun i => (x.biasAt i).isSome) && x.books.all fun c => (x.cb c.1 c.2).isSome

/-- J of a pair in units of 2^-151 (02 R25 to R27): the upper-triangle value for both entries. -/
def Source.j (x : Source) (i k : Nat) : Int :=
  let v := (x.at_ (min i k) (max i k)).getD 0
  if x.qubo then -v else 4 * v

/-- M in units of 2^-151, 0 for a zero matrix (02 R28, R31). -/
def Source.top (x : Source) : Nat :=
  if x.host then x.books.foldl (fun m c => max m (4 * ((x.cb c.1 c.2).getD 0).natAbs)) 0
  else (pairsOf x.n).foldl (fun m c => max m (x.j c.1 c.2).natAbs) 0

/-- M after ZERO_MATRIX (02 R28). -/
def Source.m (x : Source) : Nat := if x.top = 0 then qmaxOf x.form * 2 ^ 151 else x.top

/-- RNA(256 × qmax × v / M) for v in units of 2^-151 (02 R27, R31, R35). -/
def Source.fieldUnits (x : Source) (v : Int) : Int := rna (256 * qmaxOf x.form * v) x.m

/-- The converted codebook entry (02 R31). -/
def Source.book_ (x : Source) (g k : Nat) : Int := x.fieldUnits (4 * (x.cb g k).getD 0)

/-- The index a host codebook gives a value: the nearest entry, the lower index on a tie (02 R31). -/
def Source.nearest (x : Source) (g : Nat) (v : Int) : Nat :=
  (List.range 16).foldl (fun b k => if (v - 4 * (x.cb g k).getD 0).natAbs < (v - 4 * (x.cb g b).getD 0).natAbs then k else b) 0

/-- The code or index stored for an entry (02 R29 to R31; 03 R59). -/
def Source.store (x : Source) (i k : Nat) : Nat :=
  let off := i = k || x.n ≤ i || x.n ≤ k
  match x.form with
  | 0 => if off then 0 else wrap 4 (rna (7 * x.j i k) x.m)
  | 1 => if off then 0 else wrap 8 (rna (127 * x.j i k) x.m)
  | 2 => if off then 8 else (rna (7 * x.j i k) x.m + 8).toNat
  | _ => if off then 8 else x.nearest (i / 256) (x.j i k)

/-- c_ij of the load (02 R31). -/
def Source.c (x : Source) (i k : Nat) : Int :=
  if i = k then 0
  else if x.host then x.book_ (i / 256) (x.nearest (i / 256) (x.j i k)) else 256 * rna (qmaxOf x.form * x.j i k) x.m

/-- d_i of a QUBO (02 R27). -/
def Source.d (x : Source) (i : Nat) : Int := rna (256 * qmaxOf x.form * (-4 * (x.at_ i i).getD 0)) (2 * x.m)

/-- Σ_(j≠i) c_ij and A_i (02 R27, R35). -/
def Source.rowSum (x : Source) (i : Nat) : Int := (List.range x.n).foldl (fun a j => a + x.c i j) 0
def Source.weight (x : Source) (i : Nat) : Nat := (List.range x.n).foldl (fun a j => a + (x.c i j).natAbs) 0

/-- B_i (02 R27, R35). -/
def Source.b (x : Source) (i : Nat) : Int :=
  if x.qubo then x.d i + x.rowSum i else if x.hasBias then x.fieldUnits (4 * (x.biasAt i).getD 0) else 0

/-- OFFSET in energy units (02 R27). -/
def Source.offset (x : Source) : Int :=
  if x.qubo then -((pairsOf x.n).foldl (fun a c => a + x.c c.1 c.2 + x.c c.2 c.1) 0) - 2 * (List.range x.n).foldl (fun a i => a + x.d i) 0 else 0

/-- r_ij times 256 × qmax, in units of 2^-151 (02 R32). -/
def Source.residual (x : Source) (i k : Nat) : Nat := (x.j i k * (256 * qmaxOf x.form) - x.c i k * x.m).natAbs

/-- The margin of a row (02 R35). -/
def margin (weight : Nat) (b : Int) : Int := 2147483647 - weight - b.natAbs

/-- The smallest margin of all rows. -/
def Source.headroom (x : Source) : Int :=
  (List.range x.n).foldl (fun a i => min a (margin (x.weight i) (x.b i))) (margin (x.weight 0) (x.b 0))

/-- The load report (02 R33, R34): `second` when the second pass ran. CB_ASYM_PAIRS saturates as ASYM_PAIRS does, and HEADROOM_MIN and OFFSET outside the I64 range
are written modulo 2^64 (DESIGN CHOICE, log 41). -/
def Source.report (x : Source) (second : Bool) : Bytes :=
  let unit := 256 * qmaxOf x.form * 2 ^ 151
  let n := x.n
  let diag := if x.qubo then 0 else ((List.range n).filter fun i => x.at_ i i ≠ some 0).length
  let asym := ((pairsOf n).filter fun c => x.raw c.1 c.2 ≠ x.raw c.2 c.1).length
  let flags := (if x.qubo then 1 else 0) + (if x.host then 4 else 0)
  let top := le 4 n ++ le 4 (padOf n) ++ le 4 diag ++ le 4 (min asym 0xFFFFFFFF)
  if !second then zeros 24 ++ top ++ zeros 8 ++ le 4 (flags + 16) ++ zeros 12
  else
    let rmax := (pairsOf n).foldl (fun a c => max a (x.residual c.1 c.2)) 0
    let rsum := (pairsOf n).foldl (fun a c => a + x.residual c.1 c.2 * x.residual c.1 c.2) 0
    let cb := if x.host then ((pairsOf n).filter fun c => x.c c.1 c.2 ≠ x.c c.2 c.1).length else 0
    le 4 (fp32.round false x.m (qmaxOf x.form * 2 ^ 151)) ++ le 4 (fp32.round false x.m (2 ^ 151)) ++ le 4 (fp32.round false rmax unit) ++
    le 4 (sqrtRound rsum (unit * unit * (n * (n - 1) / 2))) ++ le 8 (wrap 64 x.offset) ++ top ++ le 8 (wrap 64 x.headroom) ++
    le 4 (flags + (if x.top = 0 then 2 else 0) + (if x.headroom < 0 then 8 else 0)) ++ le 4 (min cb 0xFFFFFFFF) ++ zeros 8

/-- The bytes of the coupling store in column order (03 R59). -/
def Source.bytes (x : Source) : Bytes :=
  let pad := padOf x.n
  (List.range pad).flatMap fun j =>
    if x.form = 1 then (List.range pad).map fun i => BitVec.ofNat 8 (x.store i j)
    else (List.range (pad / 2)).map fun h => BitVec.ofNat 8 (x.store (2 * h) j + 16 * x.store (2 * h + 1) j)

/-- The problem a load leaves: plies, states and counts are discarded, schedule and ladder kept (02 R53). -/
def Source.problem (x : Source) (dst : Nat) (old : Option Problem) : Problem :=
  { n := x.n, form := x.form, qubo := x.qubo, mNum := x.m, mDen := 2 ^ 151, offset := x.offset, dst := dst,
    codebook := x.books.map fun c => x.book_ c.1 c.2, rowWeight := (List.range x.n).map x.weight, plies := 0, spins := [], stats := [],
    sched := (old.map fun q => q.sched).getD 0, steps := (old.map fun q => q.steps).getD 0, ladder := (old.map fun q => q.ladder).getD [],
    resumeStep := 0, resumeSweep := 0, resumePasses := ⟨0, 0⟩, tracePos := 0, traceCut := false }

/-- Clears every fields-valid mark that names a problem (02 R53, 03 R57). -/
def State.clearMarks (s : State) (p : Nat) : State :=
  { s with units := { s.units with spindles := s.units.spindles.map (fun (u : Spindle) => if u.mark = some p then { u with mark := none } else u) } }

/-- COUPLE.LOAD (02 R25 to R35). -/
def effCoupleLoad (d : Nat) : WordEffect := fun r k w s =>
  let n := clN w
  let size := clSize (clType w)
  let a := s.readIdx r k (clSrc w) 0 (n * n * size)
  let b := if clBias w = 0x3F then ⟨[], a.st, none⟩ else a.st.readIdx r k (clBias w) 0 (n * size)
  let c := if clForm w = 3 then b.st.readIdx r k (clCb w) 0 (padOf n / 8) else ⟨[], b.st, none⟩
  let s := c.st
  let dstLen := padOf n * columnBytes (clForm w) (padOf n)
  match firstFail a.fail (firstFail b.fail c.fail) with
  | some f => .done ((s.spoilIdx r (clDst w) 0 dstLen).spoilIdx r (clReport w) 0 64) (some f)
  | none =>
    let x : Source := { n := n, form := clForm w, qubo := clQubo w, type := clType w, coupling := a.bytes.toArray, bias := b.bytes.toArray,
                        hasBias := clBias w ≠ 0x3F, book := c.bytes.toArray }
    if !x.finite then let f := (s.writeIdx r (clReport w) 0 (x.report false)).failInput r k; .done f.1 (some f.2)
    else
      let s := s.writeIdx r (clReport w) 0 (x.report true)
      if x.headroom < 0 then let f := s.failInput r k; .done f.1 (some f.2)
      else
        let q := x.problem (clDst w) (r.problem (anProb w))
        let s := (s.writeIdx r (clDst w) 0 x.bytes).putBiases q (anProb w) x.b
        .done ((s.clearMarks (anProb w)).setProblem d (anProb w) q) none

def execCoupleLoad (d : Fin 8) (s : State) : Host.Outcome State Fault Refusal := .next (s.word d .coupleLoad (effCoupleLoad d))

/-- Statistics of a ply at its start state, in ladder slot p (02 R46, 07 R203). BEST_SWEEP is 0 while BEST_STEP is 0xFFFF_FFFF, and a STATE.INIT puts ply p into
slot p as SCHED.LOAD does (DESIGN CHOICE, log 41). -/
def PlyStat.fresh (p : Nat) (e : Int) (best : List Nat) : PlyStat :=
  { ladderSlot := p, flips := 0, tanglesHalf := 0, tanglesSeam := 0, noiseHolds := 0, exchTries := 0, exchAccepts := 0, bestEnergy := e,
    bestStep := 0xFFFFFFFF, bestSweep := 0, best := best }

/-- Variables at +1 of a ply. -/
def Problem.ups (q : Problem) (p : Nat) : List Nat := (List.range q.n).filter fun i => q.plus p i

/-- The biases that STATE.INIT is given, none for a NaN or an infinity (02 R52, 07 R202). -/
def initBias (q : Problem) (w : Nat) (bs : Array Byte) (i : Nat) : Option Int :=
  let v := arrNum bs (if siStride w = 0 then 4 * i else i / 32 * siStride w * 128 + i % 32 * 4) 4
  if siInt w then some (signed 32 v)
  else (loadElem 0 v).map fun x => rna (256 * q.qmax * (x * q.mDen)) (q.mNum * 2 ^ 149)

/-- STATE.INIT (02 R52, 07 R202). -/
def effStateInit (d : Nat) : WordEffect := fun r k w s =>
  match r.problem (anProb w) with
  | none => .done s none
  | some q =>
    let prob := anProb w
    let short := fun (b need : Nat) => b ≠ 0x3F && decide (((r.buf b).map fun x => x.length).getD 0 < need)
    let limit := plyLimit (max s.units.fold.w s.units.fold.e) q.n
    let a := s.readIdx r k (siStates w) 0 (siPlies w * (q.pad / 8))
    let b := if siBias w = 0x3F then ⟨[], a.st, none⟩ else a.st.readIdx r k (siBias w) 0 (biasSpan w q.n)
    let s' := s
    let s := b.st
    let c := s.checkStore r k q 0 (q.pad * columnBytes q.form q.pad)
    let e := if siBias w = 0x3F then c.1.checkBiases q prob (List.range 128) else (c.1, none)
    -- a problem that a STATE.RESTORE brought back has no size where the list is read: its limits are found here (log 45)
    if plyLimit 1 q.n < siPlies w then let f := s'.failWord r.ring r.seq k stAborted cOperand; .done f.1 (some f.2)
    else if short (siStates w) (siPlies w * (q.pad / 8)) || short (siBias w) (biasSpan w q.n) then let f := s'.failRange r k; .done f.1 (some f.2)
    else if s'.units.shape.w = 0xFF || s'.units.shape.e = 0xFF || limit < siPlies w then .done s' (some (Failure.plain stShape))
    else match firstFail a.fail (firstFail b.fail (firstFail c.2 e.2)) with
    | some f => .done e.1 (some f)
    | none =>
      let s := e.1
      let bs := b.bytes.toArray
      let given := (List.range q.n).map (initBias q w bs)
      let bad := siBias w ≠ 0x3F && ((given.any fun x => x.isNone) ||
        (List.zipWith (fun x (a : Nat) => decide (margin a (x.getD 0) < 0)) given q.rowWeight).any id)
      if bad then let f := s.failInput r k; .done f.1 (some f.2)
      else
        let st := a.bytes.toArray
        let up := fun p i => bit (st.getD (p * (q.pad / 8) + i / 8) 0).toNat (i % 8)
        let spins := (List.range (siPlies w)).flatMap fun p => ((List.range q.n).filter (up p)).map fun i => p * q.pad + i
        let q := { q with plies := siPlies w, spins := spins, stats := [], resumeStep := 0, resumeSweep := 0, resumePasses := ⟨0, 0⟩, tracePos := 0,
                          traceCut := false }
        let s := if siBias w = 0x3F then s else let v := given.toArray; s.putBiases q prob fun i => (v.getD i none).getD 0
        let s := (List.range 128).foldl (fun s u => s.buildFields r q prob u) s
        let stats := (List.range q.plies).map fun p => PlyStat.fresh p (s.energyOf q prob p) (q.ups p)
        .done (s.setProblem d prob { q with stats := stats }) none

def execStateInit (d : Fin 8) (s : State) : Host.Outcome State Fault Refusal := .next (s.word d .stateInit (effStateInit d))

/-- A temperature or multiplier that R43 accepts: finite and not negative. -/
def tempOk (b : Nat) : Bool := match fp32.val b with
  | .fin neg n _ => !neg || n = 0
  | _ => false

/-- A schedule step that R43 accepts (02 R43). -/
def stepOk (b : Bytes) : Bool := tempOk (num b 0 4) && num b 4 2 ≠ 0 && num b 6 1 ≤ 1 && allZero (slice b 7 9)

/-- SCHED.LOAD (02 R43, 07 R203): ply p goes to ladder slot p; L = 0 loads the ladder only. -/
def effSchedLoad (d : Nat) : WordEffect := fun r k w s =>
  match r.problem (anProb w) with
  | none => .done s none
  | some q =>
    let a := if slL w = 0 then ⟨[], s, none⟩ else s.readIdx r k (slSched w) 0 (16 * slL w)
    let b := a.st.readIdx r k (slLadder w) 0 (4 * slCount w)
    match firstFail a.fail b.fail with
    | some f => .done b.st (some f)
    | none =>
      let mult := (List.range (slCount w)).map fun i => num b.bytes (4 * i) 4
      if !((List.range (slL w)).all fun t => stepOk (slice a.bytes (16 * t) 16)) || !mult.all tempOk then
        let f := b.st.failInput r k; .done f.1 (some f.2)
      else
        let q := { q with sched := if slL w = 0 then q.sched else slSched w, steps := if slL w = 0 then q.steps else slL w, ladder := mult.map (BitVec.ofNat 32),
                          stats := q.stats.mapIdx fun p x => { x with ladderSlot := p } }
        .done (b.st.setProblem d (anProb w) q) none

def execSchedLoad (d : Fin 8) (s : State) : Host.Outcome State Fault Refusal := .next (s.word d .schedLoad (effSchedLoad d))

/-- The schedule step t, read in place (02 R43, 07 R203): TEMP, SWEEPS and EXCHANGE. SWEEPS of a step that R43 refuses is a free value (log 22). -/
def State.schedStep (s : State) (r : Run) (q : Problem) (t : Nat) : BitVec 32 × Nat × Bool :=
  let b := (s.readIdx r 0 q.sched (16 * t) 16).bytes
  let sw := num b 4 2
  (BitVec.ofNat 32 (num b 0 4), if sw = 0 then 1 + Config.badSweeps (BitVec.ofNat 32 t) % 65535 else sw, bit (num b 6 1) 0)

/-- The schedule is read in place: a bad word of the steps `lo` to `hi` fails the reading word (07 R203; 08 R217). -/
def State.checkSched (s : State) (r : Run) (k : Nat) (q : Problem) (lo hi : Nat) : State × Option Failure :=
  let g := s.readIdx r k q.sched (16 * lo) (16 * (hi + 1 - lo))
  (g.st, g.fail)

/-- An Open word that waits for noise counts a hold at once when its half is already in NOISE_HOLD (04 R98, R104). -/
def State.startNoiseWait (s : State) (d k : Nat) (held : Bool) : State :=
  match (s.run d).bind fun r => r.issued.find? fun i => i.index = k with
  | some i =>
    if i.noiseWait then s
    else
      let count := fun (r : Run) => { r with noisePaused := true, holdCount := if held then sat16 r.holdCount else r.holdCount }
      (s.modRun d count).modIssued d k fun i => { i with noiseWait := true, noiseHeld := held }
  | none => s

/-- A round of exchange on the present states: W_exch under the key in force in Colourfast, the exchange lane in Open (04 R98, R109). -/
def State.exchangeNow (s : State) (cf : Bool) (key stream index prob : Nat) (q : Problem) (odd : Bool) (bfx : List Nat) : Problem × Nat × State :=
  let draw := fun k (s : State) => if cf then (wExch key stream index k, s) else s.nextExchange
  exchangeRound draw bfx (s.energies q prob) (exchPairs q.plies odd) q 0 s

/-- The key in force as a number (04 R106, R107). -/
def Run.key (r : Run) : Option Nat := (r.keyIndex.bind fun i => r.keys[i]?).map ofLe

/-- EXCHANGE (07 R206; 04 R98). -/
def effExchange (d : Nat) : WordEffect := fun r k w s =>
  match r.problem (anProb w) with
  | none => .done s none
  | some q =>
    let cf := r.header.mode = 1
    let prob := anProb w
    let stop := fun (f : State × Failure) => Effect.done f.1 (some f.2)
    if s.anneal.isSome then .wait s
    else if q.steps ≤ exStep w then stop (s.failRange r k)
    else if q.ladder.length < q.plies then stop (s.failInput r k)
    else if cf && r.key.isNone then stop (s.failWord r.ring r.seq k stAborted cNoKey)
    else if !cf && s.noise.half.w ≠ 1 then .wait (s.startNoiseWait d k (s.noise.half.w = 2))
    else
      let a := s.rebuild r k prob q
      let c := a.1.checkSched r k q (exStep w) (exStep w)
      let b := c.1.checkBiases q prob (List.range 128)
      let a := (b.1, firstFail a.2 (firstFail c.2 b.2))
      match a.2 with
      | some f => .done (a.1.spoilIdx r (exOut w) 0 8) (some f)
      | none =>
        let s := if cf then a.1 else
          let s := a.1.freshStir
          { s with noise := { s.noise with exchange := { LaneKey.reset with key := vget s.noise.stir 0 (s.hostOf 0) } } }
        let bfx := (q.temps (s.schedStep r q (exStep w)).1).map fun x => x.2
        let x := s.exchangeNow cf (r.key.getD 0) (exStream w) (exIndex w) prob q (exOdd w) bfx
        let s := (x.2.2.setProblem d prob x.1).writeIdx r (exOut w) 0 (le 8 x.2.1)
        let rec_ : DrawRec := { word := k, key := r.keyIndex.getD 0, classes := 4, stream := exStream w, first := exIndex w, last := exIndex w,
                                plies := 2 ^ q.plies - 1 }
        .done (if cf && !(exchPairs q.plies (exOdd w)).isEmpty then s.modRun d fun r => { r with draws := r.draws ++ [rec_] } else s) none

def execExchange (d : Fin 8) (s : State) : Host.Outcome State Fault Refusal := .next (s.word d .exchange (effExchange d))

/-- ENERGY: 16 bytes for each ply (07 R206; 03 R57, R60; 06 R155). -/
def effEnergy : WordEffect := fun r k w s =>
  match r.problem (anProb w) with
  | none => .done s none
  | some q =>
    let prob := anProb w
    if s.anneal.isSome then .wait s
    else if !q.blocksOk then let f := s.failInput r k; .done f.1 (some f.2)
    else if !s.pliesFit q then .done s (some (Failure.plain stShape))
    else if ((r.buf (enOut w)).map fun b => b.length).getD 0 < 16 * q.plies then let f := s.failRange r k; .done f.1 (some f.2)
    else
      let b := s.rebuild r k prob q
      let c := b.1.checkBiases q prob (List.range 128)
      let a := (c.1, firstFail b.2 c.2)
      match a.2 with
      | some f => .done (a.1.spoilIdx r (enOut w) 0 (16 * q.plies)) (some f)
      | none => .done (a.1.writeIdx r (enOut w) 0 ((a.1.energies q prob).flatMap fun e => le 8 (wrap 64 e) ++ le 4 (q.userEnergy e) ++ zeros 4)) none

def execEnergy (d : Fin 8) (s : State) : Host.Outcome State Fault Refusal := .next (s.word d .energy effEnergy)

/-- Puts a key in force (04 R107). -/
def Run.putKey (r : Run) (k : Bytes) : Run := { r with keys := r.keys ++ [k], keyIndex := some r.keys.length }

/-- NOISE.SEED (07 R208; 04 R99, R107): a device draw of a re-executed hank takes the key of its first attempt. -/
def effNoiseSeed (d : Nat) : WordEffect := fun r k w s =>
  if nsDevice w then
    match r.reuse[r.keys.length]? with
    | some b => .done (s.modRun d fun r => r.putKey b) none
    | none => match s.rotOutput with
      | some b => .done (b.2.modRun d fun r => r.putKey b.1) none
      | none => .wait (s.startNoiseWait d k false)
  else
    let g := s.readIdx r k (nsBuf w) (nsOff w) 32
    match g.fail with
    | some f => .done g.st (some f)
    | none => .done (g.st.modRun d fun r => r.putKey g.bytes) none

def execNoiseSeed (d : Fin 8) (s : State) : Host.Outcome State Fault Refusal := .next (s.word d .noiseSeed (effNoiseSeed d))

/-- NOISE.RAW (07 R208; 04 R85, R86, R99, R102): the group's conditioned stream or its raw bits, bit k of the stream at bit k of the range; the range fills once
the cells have given its length. -/
def effNoiseRaw (d : Nat) (raw : RawBits) : WordEffect := fun r k w s =>
  if !nrRaw w && (s.group (nrGroup w)).state ≠ 1 then .wait (s.startNoiseWait d k false)
  else
    let bs := if nrRaw w then rawBits raw else s.conditioned (nrGroup w) raw
    if bs.length < 8 * nrLen w then .wait s
    else .done (s.writeIdx r (nrBuf w) (nrOff w) (le (nrLen w) (packNat (bs.take (8 * nrLen w))))) none

def execNoiseRaw (d : Fin 8) (raw : RawBits) (s : State) : Host.Outcome State Fault Refusal := .next (s.word d .noiseRaw (effNoiseRaw d raw))

end Sys2Proof.Machine
end

