-- ==== Sys2Proof/Machine/Drain.lean ====
section
/-!
DEFINITION. Drains: the value of a slot, skein or split (05 R132, R133; 06 R159, R161), output formats (05 R134, R136), streams and folds (R138 to R142),
read-out (R135) and DEBUG.PEEK (R137).
-/
namespace Sys2Proof.Machine

/-- A drained cell before conversion: y of R133, and whether its 40-bit value left the INT32 range (05 R124). -/
abbrev CellY := Num × Bool

/-- The value of a skein with flags: special by R122, else exact (05 R127). -/
def skeinValue (ewin : Int) (flag : Nat) (z : Int) : Num :=
  if bit flag 2 || (bit flag 0 && bit flag 1) then .nan
  else if bit flag 0 then .inf false
  else if bit flag 1 then .inf true
  else .fin (decide (z < 0)) z.natAbs (ewin - 64)

/-- An Open INT value: the low 32 bits, and the overflow of R124. -/
def intValue (v : Int) : CellY := (.int (signed 32 (wrap 32 v)), !(-(2 ^ 31) ≤ v && v ≤ 2 ^ 31 - 1))

/-- The partial of a host in an Open FP split: its first part's slot, then the additions of its later parts in part order (06 R161). -/
def hostPartial (s : State) (q : Split) (fold lead c : Nat) : Num :=
  let later := (List.range (fold - 1)).map fun j => lead + 1 + j
  let terms := later.flatMap fun u => (q.logs.filter fun e => e.1 = u).flatMap fun e => e.2.getD c []
  let x := s.spindle lead
  fp32.val (addTerms ((x.lane (x.drainLane q.slot) c).toNat % 2 ^ 32) (terms.map fp32.val))

/-- The slot of a host as its parts leave it together (06 R161): the lead part's Spindle with the later parts' additions in part order, exact sums in Colourfast
and on the integer path. -/
def State.hostSlot (s : State) (r : Run) (lead k : Nat) : Spindle :=
  let x := s.spindle lead
  let ps := s.hostParts r lead k
  let l := x.drainLane k
  match r.split lead k with
  | none => x
  | some q =>
    if r.header.mode = 1 then
      { (x.setSkeins fun c => (ps.map fun p => (s.spindle p).skein c).sum).setFlags (fun c => ps.foldl (fun f p => Nat.lor f ((s.spindle p).flag c)) 0) with
        pcount := (ps.map fun p => (s.spindle p).pcount).sum }
    else if x.isInt k then x.setLane l fun c => BitVec.ofInt 40 (ps.map fun p => ((s.spindle p).lane ((s.spindle p).drainLane k) c).toInt).sum
    else x.setLane l fun c => BitVec.ofNat 40 (fp32.of (hostPartial s q ps.length lead c))

/-- The lead part of the host that carries part `u`. -/
def State.leadOf (s : State) (r : Run) (u k : Nat) : Nat := (s.hostParts r u k).headD u

/-- A split ends at its drain: each host's slot stands at its lead part, and what the slot indices of its other parts hold is undefined (06 R161; log 46). -/
def State.settleHosts (s : State) (r : Run) (u k : Nat) : State :=
  match r.split u k with
  | none => s
  | some q =>
    let leads := ((List.range q.parts).map fun p => q.base + p).filter fun p => s.leadOf r p k = p
    let others := ((List.range q.parts).map fun p => q.base + p).filter fun p => s.leadOf r p k ≠ p
    let t := leads.foldl (fun t p => t.modSpindle p fun _ => s.hostSlot r p k) s
    others.foldl (fun t p => t.spoilLanes p (if r.header.mode = 1 then List.range 8 else [(s.spindle p).drainLane k])) t

/-- The value of cell c of a slot on Spindle u, its split's parts combined (05 R133; 06 R159, R161). -/
def State.cellY (s : State) (r : Run) (u k c : Nat) : CellY :=
  let x := s.spindle u
  let parts := match r.split u k with
    | some q => (List.range q.parts).map fun p => q.base + p
    | none => [u]
  if r.header.mode = 1 then
    let z := (parts.map fun p => (s.spindle p).skein c).sum
    let f := parts.foldl (fun f p => Nat.lor f ((s.spindle p).flag c)) 0
    (skeinValue x.ewin f z, false)
  else if x.isInt k then
    intValue (signed 40 (wrap 40 ((parts.map fun p => ((s.spindle p).lane ((s.spindle p).drainLane k) c).toInt).sum)))
  else match r.split u k with
    | none => (fp32.val ((x.lane (x.drainLane k) c).toNat % 2 ^ 32), false)
    | some q =>
      let fold := min q.parts (max 1 (s.units.fold.get (halfOfSpindle u)))
      let hosts := (List.range (q.parts / fold)).map fun h => hostPartial s q fold (q.base + fold * h) c
      (tree (Nat.log2 hosts.length) hosts, false)

/-- The bias of BSLOT added (05 R132, R133). -/
def State.withBias (s : State) (r : Run) (u w c : Nat) (y : CellY) : CellY :=
  let x := s.spindle u
  if !drBias w || r.header.mode = 1 then y
  else
    let b := x.lane (drBslot w) c
    if x.isInt (wAcc w) then (.int (y.1.toInt + signed 32 (b.toNat % 2 ^ 32)), y.2) else ((y.1.add (fp32.val (b.toNat % 2 ^ 32))).r32, y.2)

/-- R_out of y × 2^OSCALE, as bits, and whether it sets INT_OVERFLOW (05 R133). An INT group whose flags, from a raw preload, make its value NaN or infinite gives 0
in INT32 and sets nothing (log 46). -/
def outOf (fmt : Nat) (y : Num) (os : Int) : Nat × Bool :=
  let z := y.scale os
  match fmt with
  | 0 => (fp32.of z, false)
  | 1 => (bf16.of z, false)
  | 2 => match z with
    | .nan => (0, true)
    | .inf neg => (if neg then 0x80 else 0x7F, true)
    | z => let i := z.toInt; let c := max (-128) (min 127 i); (wrap 8 c, c ≠ i)
  | _ => let i := z.toInt; (wrap 32 i, !(-(2 ^ 31) ≤ i && i ≤ 2 ^ 31 - 1))

/-- Bytes of an output element (05 R136). -/
def outSize (fmt : Nat) : Nat := if fmt = 1 then 2 else if fmt = 2 then 1 else 4

/-- The raw output of a skein (05 R134). -/
def rawBytes (x : Spindle) (int : Bool) (z : Nat → Int) (f : Nat → Nat) (pcount : Nat) : Bytes :=
  (List.range 1024).flatMap (fun c => le 32 (wrap 256 (z c))) ++ (List.range 1024).flatMap (fun c => le 1 (f c)) ++ le 2 (wrap 16 x.ewin) ++ zeros 2 ++
  le 1 (if int then 1 else 0) ++ zeros 3 ++ le 8 pcount ++ zeros 1024

/-- The initial state of a stream register of a kind (05 R138). -/
def Stream.init (int : Bool) : Stream :=
  if int then { tag := 2, m := List.replicate 32 (-(2 ^ 63)), l := List.replicate 32 0, s := List.replicate 32 0, pos := 0, overrun := false }
  else { tag := 1, m := List.replicate 32 0xFF800000, l := List.replicate 32 0, s := List.replicate 32 0, pos := 0, overrun := false }

/-- The FP32 number at a place of a stream register. -/
def fpAt (xs : List Int) (i : Nat) : Num := fp32.val (xs.getD i 0).toNat

/-- One row of DRAIN.EXPSUM: the new M and L as FP32 bits (05 R142). -/
def expsumRow (m l : Num) (xs : List Num) : Num × Num :=
  let mn := xs.foldl Num.max m
  match mn with
  | .inf true => (m, l)
  | mn =>
    let a := expf ((m.sub mn).r32)
    let s := xs.foldl (fun s x => (s.add (expf ((x.sub mn).r32))).r32) (.fin false 0 0)
    (mn, (((l.mul a).r32).add s).r32)

/-- Folds one row: the included values (05 R140, R142). -/
def Stream.foldRow (o : Op) (st : Stream) (i : Nat) (fp : List Num) (int : List Int) : Int × Int × Int :=
  let m := st.m.getD i 0
  let l := st.l.getD i 0
  let s := st.s.getD i 0
  match o, decide (st.tag = 2) with
  | .drainMax, true => (int.foldl max m, l, s)
  | .drainMax, false => ((fp32.of (fp.foldl Num.max (fpAt st.m i)) : Nat), l, s)
  | .drainSum, true => (m, l, int.foldl (· + ·) s)
  | .drainSum, false => (m, l, (fp32.of (fp.foldl (fun a x => (a.add x).r32) (fpAt st.s i)) : Nat))
  | _, _ => let r := expsumRow (fpAt st.m i) (fpAt st.l i) fp; ((fp32.of r.1 : Nat), (fp32.of r.2 : Nat), s)

/-- A folding drain of one tile: the register after it, and whether POS_LIMIT refused it (05 R138, R139). -/
def Stream.fold (o : Op) (w : Nat) (st : Stream) (val : Nat → Nat) : Stream × Bool :=
  let int := foldInt (drOut w)
  let st := if drFirst w || st.tag ≠ (if int then 2 else 1) then Stream.init int else st
  if 16777216 < st.pos + drNcol w then ({ st with overrun := true }, true)
  else
    let cols := fun (i : Nat) => (List.range (drNcol w)).filter fun j => !drCausal w || decide (drKpos w + j ≤ drQpos w + i)
    let row := fun (i : Nat) =>
      st.foldRow o i ((cols i).map fun j => if drOut w = 1 then bf16.val (val (32 * i + j)) else fp32.val (val (32 * i + j)))
        ((cols i).map fun j => signed (if drOut w = 2 then 8 else 32) (val (32 * i + j)))
    let rows := (List.range 32).map row
    ({ st with m := rows.map (fun x => x.1), l := rows.map (fun x => x.2.1), s := rows.map (fun x => x.2.2), pos := st.pos + drNcol w }, false)

/-- The LAST write-out (05 R138). -/
def Stream.bytes (st : Stream) : Bytes :=
  (List.range 32).flatMap (fun i =>
    if st.tag = 2 then le 8 (wrap 64 (st.m.getD i 0)) ++ le 8 (wrap 64 (st.s.getD i 0))
    else le 4 (st.m.getD i 0).toNat ++ le 4 (st.l.getD i 0).toNat ++ le 4 (st.s.getD i 0).toNat) ++ le 4 st.pos ++ le 4 (if st.overrun then 1 else 0)

/-- Writes a tile output of Spindle u to DEST (07 R197). With ALL, what a Spindle writes beyond its step S falls on the next Spindle's range, and that one, in ascending
order, writes over it (log 55). -/
def State.writeDest (s : State) (r : Run) (w u stride : Nat) (bs : Bytes) : State :=
  if drSel w then s.writeIdx r (drBuf w) (4096 * drOff w + (if wAll w then u * stride else 0)) bs else s.put 3 (lsKey false u (64 * drAddr w)) bs

/-- DRAIN.* on one Spindle: conversion, fold, write, overflow, the pair's mark, and the read-out it begins (05 R133 to R142; 06 R159). A stream
write-out follows the tile, beyond the step S after an FP32 or INT32 tile (log 55). -/
def drainUnit (d : Nat) (r : Run) (o : Op) (k w u : Nat) (s : State) : State :=
  let slot := wAcc w
  let x := s.spindle u
  let cf := r.header.mode = 1
  let fmt := drOut w
  let parts := match r.split u slot with
    | some q => (List.range q.parts).map fun p => q.base + p
    | none => [u]
  let ys := ((List.range 1024).map fun c => s.withBias r u w c (s.cellY r u slot c)).toArray
  let outs := ((List.range 1024).map fun c => outOf fmt (ys.getD c (.nan, false)).1 (drScale w)).toArray
  let val := fun (c : Nat) => (outs.getD c (0, false)).1
  let bad := fmt ≠ 4 && ((List.range 1024).any fun c => (ys.getD c (.nan, false)).2 || (outs.getD c (0, false)).2)
  let tile :=
    if fmt = 4 then
      rawBytes x (x.isInt slot) (fun c => (parts.map fun p => (s.spindle p).skein c).sum)
        (fun c => parts.foldl (fun f p => Nat.lor f ((s.spindle p).flag c)) 0) ((parts.map fun p => (s.spindle p).pcount).sum)
    else (List.range 1024).flatMap fun c => le (outSize fmt) (val c)
  let st := vget x.streams Stream.unset (drStream w)
  let f := if o.isFold then st.fold o w val else (st, false)
  let data := (if drNoWrite w then [] else tile) ++ (if o.isFold && drLast w then f.1.bytes else [])
  let s := s.settleHosts r u slot
  let s := s.writeDest r w u (if fmt = 4 then 36864 else 4096) data
  let s := if f.2 then s.modDict fun x => { x with streamOverruns := sat32 x.streamOverruns } else s
  let s := if bad then (s.modDict fun x => { x with intOverflows := sat32 x.intOverflows }).setIntOverflow d else s
  let lane := if cf then 0 else x.drainLane slot
  let s := s.modSpindle u fun x =>
    { x with streams := if o.isFold then vset x.streams (drStream w) f.1 else x.streams,
             overflow := if (List.range 1024).any (fun c => (ys.getD c (.nan, false)).2) then vset x.overflow lane true else x.overflow,
             pair := if slot = 0 then x.pair.map fun p => (p.1, true) else x.pair }
  let s := s.modRun d fun r => { r with splits := r.splits.filter fun q => !(q.slot = slot && q.base = u) }
  let begin_ := parts.map fun p => ({ distaff := d, word := k, spindle := p, slot := lane, clear := drClr w } : Drain)
  { s with units := { s.units with drains := s.units.drains ++ begin_ } }

/-- DRAIN.*: waits for the drain path and for an outstanding read-out of the lane (05 R135; 06 R159). With ALL the Spindles drain in ascending order (log 55). -/
def effDrain (d : Nat) (o : Op) : WordEffect := fun r k w s =>
  let us := spindlesOf o w
  let parts := fun (u : Nat) => match r.split u (wAcc w) with
    | some q => (List.range q.parts).map fun p => q.base + p
    | none => [u]
  if us.any fun u => (parts u).any s.pathBusy then .wait s
  else .done (us.foldl (fun s u => drainUnit d r o k w u s) s) none

def execDrainPlain (d : Fin 8) (s : State) : Host.Outcome State Fault Refusal := .next (s.word d .drainPlain (effDrain d .drainPlain))
def execDrainMax (d : Fin 8) (s : State) : Host.Outcome State Fault Refusal := .next (s.word d .drainMax (effDrain d .drainMax))
def execDrainExpsum (d : Fin 8) (s : State) : Host.Outcome State Fault Refusal := .next (s.word d .drainExpsum (effDrain d .drainExpsum))
def execDrainSum (d : Fin 8) (s : State) : Host.Outcome State Fault Refusal := .next (s.word d .drainSum (effDrain d .drainSum))

/-- DRAIN_READOUT: the read-outs of a Distaff's oldest drain end, every product they waited for having left the tree, and CLR clears what it drained (05 R135). -/
def execDrainReadout (d : Fin 8) (s : State) : Host.Outcome State Fault Refusal :=
  match s.board.phase, s.run d, s.units.drains.find? fun x => x.distaff = d.val with
  | .ready, some r, some x =>
    let mine := fun (y : Drain) => y.distaff = x.distaff && y.word = x.word
    let clear := fun (s : State) (y : Drain) =>
      let s := s.leaveTree y.spindle [y.slot]
      if y.clear then (s.clearMark r y.spindle y.slot).modSpindle y.spindle fun z => z.clearSlot (r.header.mode = 1) y.slot else s
    let s := (s.units.drains.filter mine).foldl clear s
    .next { s with units := { s.units with drains := s.units.drains.filter fun y => !mine y } }
  | _, _, _ => .next s

/-- The MAC.* words whose groups may still be in the tree of a Spindle on their way to a lane, oldest first (05 R137). -/
def State.inTree (s : State) (u lane : Nat) : List InTree := s.units.tree.filter fun e => e.spindle = u && e.lane = lane

/-- Groups of a MAC.* word. -/
def groupsOfWord (w : Nat) : Nat := macK w / gwWidth (wGw w)

/-- The Spindle with the first `n` groups that these words issued, and no later one (05 R137). -/
def State.withGroups (s : State) (cf int : Bool) (u lane : Nat) : List InTree → Nat → Spindle → Spindle
  | [], _, x => x
  | e :: r, n, x =>
    let w := e.bits
    let gw := gwWidth (wGw w)
    let m := min n (groupsOfWord w)
    let cb := s.bytes 3 (lsKey false u (64 * macCb w)) 16
    let ta := (s.tile u (macA w) (macFa w) (macK w) gw 0 []).2
    let tb := (s.tile u (macB w) (macFb w) (macK w) gw (macCbk w) cb).2
    s.withGroups cf int u lane r (n - m) (x.addProducts cf int (isMx (macFa w) || isMx (macFb w)) (s.subWidth u gw) lane ta tb (m * gw))

/-- The last row whose read a group misses that issues in the cycle before a DEBUG.PEEK: row r is read in cycle c + 1 + r and shows what was written by the end of
the cycle before, and a group passes stage A at c + 6, or S2 at c + 7 after two cycles of issue (05 R119, R127, R137): rows 0 to 4 miss it. -/
def peekLate : Nat := 5

/-- The first row that shows each group in the tree, newest first, by the groups of each word, newest first (05 R137): the newest one by row 5 at the latest, each
older one `step` rows before the next, and the last of an earlier word earlier still by what lay between. When the words issued is a time: free values (log 2). -/
def firstRows (step : Nat) (free : Nat → Nat) : List Nat → Nat → Int → List Int
  | [], _, _ => []
  | g :: r, k, v => (List.range g).map (fun i => v - (step * i : Nat)) ++ firstRows step free r (k + 1) (v - (step * g : Nat) - (free k % (peekLate + 1) : Nat))

/-- The Spindle that shows each row of a peek, and IN_FLIGHT (05 R137): a row shows the groups that have passed by then, and the flag is set when row 0 misses one.
With none in the tree every row shows the slot as it stands. -/
def State.peekRows (s : State) (r : Run) (u lane : Nat) : Array Spindle × Bool × State :=
  let x := s.hostSlot r (s.leadOf r u lane) lane
  match s.inTree u lane with
  | [] => (Array.replicate 32 x, false, s)
  | e :: rest =>
    let words := ((e :: rest).map fun e => groupsOfWord e.bits).reverse
    let free := fun k => (Config.freeValue (s.out.free + k)).toNat
    let rows := firstRows (if r.header.mode = 1 then 2 else 1) free words 1 ((free 0 % (peekLate + 1) : Nat) : Int)
    let missing := fun (i : Nat) => (rows.filter fun v => decide ((i : Int) < v)).length
    let at_ := fun (i : Nat) =>
      if missing i = 0 then x else s.withGroups (r.header.mode = 1) (x.isInt lane) u lane (e :: rest) (words.sum - missing i) e.before
    (((List.range 32).map at_).toArray, decide (missing 0 ≠ 0), { s with out := { s.out with free := s.out.free + words.length + 1 } })

/-- DEBUG.PEEK (05 R137; 07 R198): the slot row by row, and IN_FLIGHT when a row's read missed a group issued to it before. In a pair it reads the fill side (log 20),
under a fold the host's slot (06 R161). In a Colourfast hank with no group open the row shows KIND 0 and the EWIN last opened (log 55). -/
def effPeek : WordEffect := fun r _ w s =>
  let u := wUnit w
  let x := s.spindle u
  let cf := r.header.mode = 1
  let lane := if cf then 0 else x.fillLane (wAcc w)
  let rows := s.peekRows r u lane
  let at_ := fun (c : Nat) => rows.1.getD (c / 32) x
  let tile := if cf then rawBytes x (x.isInt 0) (fun c => (at_ c).skein c) (fun c => (at_ c).flag c) (at_ 992).pcount
    else (List.range 1024).flatMap fun c => le 4 (((at_ c).lane lane c).toNat % 2 ^ 32)
  .done (rows.2.2.writeDest r w u 0 (tile ++ le 4 (if rows.2.1 then 1 else 0))) none

def execDebugPeek (d : Fin 8) (s : State) : Host.Outcome State Fault Refusal := .next (s.word d .debugPeek effPeek)

end Sys2Proof.Machine
end

