-- ==== Sys2Proof/Machine/Checkpoint.lean ====
section
/-!
DEFINITION. STATE.SAVE and STATE.RESTORE: the checkpoint, its header, its sealed keys, and the checks of a restore (12 R333 to R341, 07 R209).
-/
namespace Sys2Proof.Machine

/-- One section of a checkpoint: TYPE, COUNT, OFFSET from the area base, LENGTH (12 R334, R335). -/
structure Section where
  type : Nat
  count : Nat
  off : Nat
  len : Nat
  deriving DecidableEq, Repr

/-- Bytes of a problem's part of PROBLEMS (12 R334). -/
def problemBytes (q : Problem) : Nat := 65536 + 2 * (q.plies * padOf q.n / 8)

/-- Places sections one after another, each on a 4 KiB boundary. -/
def layOut : Nat → List (Nat × Nat × Nat) → List Section
  | _, [] => []
  | o, x :: r => { type := x.1, count := x.2.1, off := o, len := x.2.2 } :: layOut (roundUp (o + x.2.2) 4096) r

/-- The six sections (12 R334). -/
def sectionsOf (problems : List Problem) (spindles bobbins : Nat) (bufs : List Buffer) : List Section :=
  let sram := savedBuffers bufs
  layOut 4096
    [(1, 1, 16384), (2, problems.length, (problems.map problemBytes).sum), (3, spindles, spindles * 1114112), (4, bobbins, bobbins * 524288),
     (5, sram.length, (sram.map fun i => (bufs[i]?.map fun b => b.length).getD 0).sum), (6, 1, 4096)]

/-- Bytes after the header: to the end of the last section. -/
def contentLength (xs : List Section) : Nat := (xs.foldl (fun m x => max m (roundUp (x.off + x.len) 4096)) 4096) - 4096

/-- D_s: the digest of the digests of a section's 1 MiB chunks (12 R335). -/
def sectionDigest (bs : Bytes) : Bytes :=
  digest ((List.range ((bs.length + 1048575) / 1048576)).flatMap fun j => digest ((bs.drop (j * 1048576)).take 1048576))

/-- SERIAL 0x1000.10 (10 R291). -/
def serial : Bytes := (List.range 16).map fun k => printable (Config.serialByte k)

/-- The fuse key of the root of trust (12 R336). -/
def fuseKey : Bytes := (List.range 32).map Config.fuseKeyByte

/-- "OLF-CKPT". -/
def ckptLabel : Bytes := [0x4F, 0x4C, 0x46, 0x2D, 0x43, 0x4B, 0x50, 0x54]

/-- SK (12 R336). -/
def sealingKey (ck ser : Bytes) (gen : Nat) : Bytes := digest (ckptLabel ++ ck ++ ser ++ le 8 gen)

/-- The plaintext of KEYS: no key in force writes index 0 (12 R336; log 13). -/
def keysPlain (keys : List Bytes) (inForce : Option Nat) : Bytes :=
  le 1 keys.length ++ le 1 (inForce.getD 0) ++ zeros 30 ++ slice keys.flatten 0 288

/-- Header bytes 0 to 4,063 (12 R335). -/
def headerBytes (flags gen word seq ring level : Nat) (secs : List Section) (hankDigest contentDigest : Bytes) : Bytes :=
  let rows := secs.flatMap fun x => le 2 x.type ++ zeros 2 ++ le 4 x.count ++ le 8 x.off ++ le 8 x.len ++ zeros 8
  le 4 0x4B434C4F ++ le 2 1 ++ le 2 flags ++ le 8 gen ++ serial ++ le 1 level ++ le 1 6 ++ le 2 0x0101 ++ le 2 word ++ zeros 2 ++
  le 8 (seq + ring * 2 ^ 48) ++ le 8 (contentLength secs) ++ zeros 8 ++ hankDigest ++ contentDigest ++ rows ++ zeros (3936 - rows.length)

/-- A read of every byte a checkpoint takes: local stores of the saved units and the saved buffers; the first bad word ends the hank (12 R338). -/
def State.readSaved (s : State) (r : Run) (k : Nat) : State × Option Failure :=
  let us := r.unitSet
  let a := eachUnit us.1 (fun u s => let g := s.readLs 3 (lsKey false u 0) (2 ^ 20); (g.st, g.fail)) s
  let b := eachUnit us.2 (fun u s => let g := s.readLs 4 (lsKey true u 0) (2 ^ 19); (g.st, g.fail)) a.1
  let c := eachUnit (savedBuffers r.bufs) (fun i s => match r.buf i with
    | some x => let g := s.readBuf r k x 0 x.length; (g.st, g.fail)
    | none => (s, none)) b.1
  (c.1, firstFail a.2 (firstFail b.2 c.2))

/-- The bytes `a` to `a + n - 1` of a memory as a memory from 0. -/
def Mem.cut (m : Mem) (a n : Nat) : Mem := (m.filter fun c => a ≤ c.1 && decide (c.1 < a + n)).map fun c => (c.1 - a, c.2)

/-- A Spindle of the hank's unit set that the hank does not hold, before its acquisition or after a BARRIER released it, as a checkpoint holds it: its registers
stand as they are, and no group, pair or problem of the hank is open on it (12 R334; DEDUCED, log 13). -/
def Spindle.unheld (x : Spindle) : Spindle := { x with open_ := Vector.replicate 8 none, pair := none, mark := none }

/-- STATE.SAVE steps 2 to 7 (12 R337). SPINDLES and BOBBINS hold every unit that the hank's words name, held or not (R334). `word` is its list index, or 0xFFFF under R102; `problems` the problems as they stand at the save point. -/
def State.saveCheckpoint (s : State) (d : Nat) (r : Run) (word : Nat) (partialPass : Bool) (problems : Vector (Option Problem) 4) :
    State × Option Failure :=
  let us := r.unitSet
  let secs := sectionsOf (problems.toList.filterMap id) us.1.length us.2.length r.bufs
  let s := s.modRun d fun r => { r with saving := false }
  if r.header.ckptLength < 4096 + contentLength secs then let f := s.failRange r word; (f.1, some f.2)
  else
    let s := s.writeBuf r r.area 0 (zeros 4096)
    let gen := (s.keep.genMax + 1) % 2 ^ 64
    let s := { s with keep := { s.keep with genMax := gen } }
    match s.readSaved r word with
    | (s, some f) => (s, some f)
    | (s, none) =>
      let n := s.out.saved.length
      let free := fun (x : Section) => (List.range x.len).map fun i => Config.checkpointByte n (x.off + i)
      let sram := (savedBuffers r.bufs).filterMap fun i => (r.buf i).map fun b => (i, s.bytes 0 b.base b.length)
      let body := fun (x : Section) => match x.type with
        | 4 => us.2.flatMap fun b => s.bytes 4 (lsKey true b 0) (2 ^ 19)
        | 5 => sram.flatMap fun c => c.2
        | _ => free x
      let content := secs.filter fun x => x.type ≠ 6
      let cd := digest (content.flatMap fun x => sectionDigest (body x))
      let own := (vget s.dict.ckptKeys none r.owner)
      let flags := (if r.header.mode = 1 then 1 else 0) + (if own.isNone then 2 else 0) + (if partialPass then 4 else 0)
      let sk := sealingKey (own.getD fuseKey) serial gen
      let head := headerBytes flags gen word r.seq r.ring s.cfLevel secs r.hankDigest cd
      let c := gcmStream sk (zeros 12) (keysPlain r.keys r.keyIndex)
      let keysBytes := slice (c ++ gcmTag sk (zeros 12) (head.take 384) c) 0 4096
      let s := secs.foldl (fun s x => s.writeBuf r r.area x.off (if x.type = 6 then keysBytes else body x)) s
      let head := head ++ digest head
      let s := s.writeBuf r r.area 0 head
      let v := r.splits.foldl (fun (t : State) q => t.settleHosts r q.base q.slot) s
      let s := { s with out := { s.out with free := v.out.free } }
      let snap : Snapshot :=
        { header := head, mode := r.header.mode, hankDigest := r.hankDigest, bufs := r.bufs, problems := problems,
          spindles := us.1.map fun u => (u, if r.spindles.contains u then v.spindle u else (v.spindle u).unheld, s.mem.spindle.cut (lsKey false u 0) (2 ^ 20)),
          bobbins := us.2.map fun b => (b, s.mem.bobbin.cut (lsKey true b 0) (2 ^ 19)),
          sram := sram.map fun c => (c.1, s.mem.sram.cut ((r.buf c.1).elim 0 fun b => b.base) c.2.length),
          keys := r.keys, keyIndex := r.keyIndex, gen := gen, sealKey := sk }
      let s := { s with out := { s.out with saved := s.out.saved ++ [snap] } }
      (s.modRun d fun r => { r with ckptGen := gen }, none)

/-- STATE.SAVE (07 R209): at its instruction boundary or, with PAUSE while an ANNEAL or SAMPLE of its problem is issued, at that word's next settle point. -/
def effSave (d : Nat) : WordEffect := fun r k w s =>
  let busy := r.issued.find? fun i => decide (i.index < k) && !i.ran && (match r.wordAt i.index with
    | some c => (c.1 = .anneal || c.1 = .sample) && anProb c.2 = svProb w
    | none => false)
  match svPause w, busy with
  | true, some i =>
    let s := s.modRun d fun r => { r with saving := true }
    .wait (match s.anneal with
      | some a => if a.distaff = d && a.word = i.index then { s with anneal := some { a with savePending := some k } } else s
      | none => s)
  | _, _ => let x := s.saveCheckpoint d r k false r.problems; .done x.1 x.2

def execStateSave (d : Fin 8) (s : State) : Host.Outcome State Fault Refusal := .next (s.word d .stateSave (effSave d))

/-- A failed check of a restore: CKPT_REJECT names the order (12 R340; payload: log 16). -/
def State.failRestore (s : State) (r : Run) (order status : Nat) : State × Option Failure :=
  let s := s.emit (hankNotice 0x0A04 error r.ring r.seq (le 1 order ++ zeros 7))
  (s, some { status := status, cause := 0, evRef := s.lastRef })

/-- The bits of the slots that are open, and of those of kind INT (12 R339). -/
def openBits (x : Spindle) : Nat × Nat :=
  (List.range 8).foldl (fun a k => match vget x.open_ none k with
    | some b => (a.1 + 2 ^ k, if b then a.2 + 2 ^ k else a.2)
    | none => a) (0, 0)

/-- Check 4 of R340. -/
def Snapshot.fits (x : Snapshot) (r : Run) (w : Nat) : Bool :=
  ((List.range 4).all fun p => (vget x.problems none p).isSome = bit (srProblems w) p) &&
  (x.spindles.all fun c => openBits c.2.1 = (srOpen w, srInt w)) &&
  (List.range x.bufs.length).all fun i => match x.bufs[i]?, r.buf i with
    | some a, some b => a.space = b.space && a.kind = b.kind && a.length = b.length && (!(a.verify && b.verify) || a.digest = b.digest)
    | _, _ => false

/-- SECTIONS of a header (12 R335). -/
def headerSections (h : Bytes) : List Section :=
  (List.range (num h 33 1)).map fun i =>
    let o := 128 + 32 * i
    { type := num h o 2, count := num h (o + 4) 4, off := num h (o + 8) 8, len := num h (o + 16) 8 }

/-- The key in force of a KEYS plaintext (12 R336). -/
def plainKey (p : Bytes) : Option Bytes := if num p 0 1 = 0 then none else some (slice p (32 + 32 * num p 1 1) 32)

/-- The bytes of a section in the sections of a header as they follow one another (12 R334, R335). -/
def sectionIn : List Section → Nat → Bytes → Bytes
  | [], _, _ => []
  | c :: r, type, body => if c.type = type then body.take c.len else sectionIn r type (body.drop c.len)

/-- What another run or part saved (12 R336, R340; log 13): GEN stands in the header, the local stores of its Bobbins and its SRAM buffers are the bytes of their
sections, unit after unit and buffer after buffer (R334); what the rest means has no layout of its own. -/
def foreignSaved (h body : Bytes) : Option Snapshot :=
  (foreignSnapshot h body).map fun x =>
    let bobbins := sectionIn (headerSections h) 4 body
    let sram := sectionIn (headerSections h) 5 body
    let length := fun i => (x.bufs[i]?.map fun b => b.length).getD 0
    let before := fun i => (((savedBuffers x.bufs).filter (· < i)).map length).sum
    { x with header := h, gen := num h 8 8, bobbins := x.bobbins.mapIdx fun i c => (c.1, Mem.put [] 0 (slice bobbins (i * 2 ^ 19) (2 ^ 19))),
             sram := (savedBuffers x.bufs).map fun i => (i, Mem.put [] 0 (slice sram (before i) (length i))) }

/-- The state whose sections an area holds: that of a save of this run, or of another run or part (12 R336; log 13). It names only units of the device. -/
def State.snapshotIn (s : State) (h body : Bytes) : Option Snapshot :=
  ((s.out.saved.find? fun x => x.header = h).or (foreignSaved h body)).map fun x =>
    { x with spindles := x.spindles.filter fun c => decide (c.1 < 128), bobbins := x.bobbins.filter fun c => decide (c.1 < 32) }

/-- Brings the saved units, buffers, problems and the key in force, where there is one, back (12 R339, R341). -/
def State.restoreSnapshot (s : State) (d : Nat) (r : Run) (w : Nat) (x : Snapshot) (key : Option Bytes) : State :=
  let paste := fun (s : State) (sp a n : Nat) (m : Mem) => s.modMem fun q => q.write sp a n fun k => m.byte k
  let s := x.spindles.foldl (fun s c => (paste s 3 (lsKey false c.1 0) (2 ^ 20) c.2.2).modSpindle c.1 fun y =>
    { c.2.1 with lastOwner := y.lastOwner, clearNext := y.clearNext, holder := y.holder }) s
  let s := x.bobbins.foldl (fun s c => paste s 4 (lsKey true c.1 0) (2 ^ 19) c.2) s
  let s := x.sram.foldl (fun s c => match r.buf c.1 with
    | some b => paste s 0 b.base b.length c.2
    | none => s) s
  let others := (List.range 128).filter fun u => !(x.spindles.any fun c => c.1 = u)
  let kinds := Vector.ofFn fun (k : Fin 8) => if bit (srOpen w) k then some (bit (srInt w) k) else none
  let s := others.foldl (fun s u => s.modSpindle u fun y => { y with open_ := y.open_.mapIdx fun k o => (vget kinds none k).or o }) s
  let s := { s with keep := { s.keep with genMax := max s.keep.genMax x.gen } }
  s.modRun d fun r => { r with
    problems := r.problems.mapIdx (fun p o => (vget x.problems none p).or o), restoredGen := x.gen,
    keys := r.keys ++ key.toList, keyIndex := (if key.isSome then some r.keys.length else r.keyIndex) }

/-- A Spindle whose content is undefined: lanes, skein flags, slot flags, EWIN, PCOUNT, pair state and stream registers are free values (12 R340; log 2). -/
def State.spoilUnit (s : State) (u : Nat) : State :=
  let s := s.spoilLanes u (List.range 8)
  let n := s.out.free
  let v := fun i => (Config.freeValue (n + i)).toNat
  let stream := fun (j : Nat) =>
    let tag := v (1200 + j) % 3
    let row := fun (o : Nat) => (List.range 32).map fun i => let x := v (1300 + 96 * j + 32 * o + i); if tag = 2 then signed 64 x else ((x % 2 ^ 32 : Nat) : Int)
    ({ tag := tag, m := row 0, l := row 1, s := row 2, pos := v (1220 + j) % 2 ^ 25, overrun := decide (v (1240 + j) % 2 = 1) } : Stream)
  let s := s.modSpindle u fun x =>
    { x with flags := Sparse.replace 0 [] 0 1024 fun c => BitVec.ofNat 3 (v c), overflow := Vector.ofFn fun (k : Fin 8) => decide (v (1030 + k) % 2 = 1),
             ewin := signed 16 (v 1040), pcount := v 1041 % (2 ^ 40 + 1),
             pair := if v 1042 % 2 = 0 then none else some (decide (v 1043 % 2 = 1), decide (v 1044 % 2 = 1)), streams := Vector.ofFn fun (j : Fin 8) => stream j }
  { s with out := { s.out with free := n + 2100 } }

/-- A failure at order 5: the saved units and buffers hold undefined content, and every fields-valid mark is clear (12 R340; log 2). -/
def State.spoilRestore (s : State) (r : Run) (x : Snapshot) : State :=
  let s := x.spindles.foldl (fun s c => (s.spoilUnit c.1).spoil 3 (lsKey false c.1 0) (2 ^ 20)) s
  let s := x.bobbins.foldl (fun s c => s.spoil 4 (lsKey true c.1 0) (2 ^ 19)) s
  let s := x.sram.foldl (fun s c => match r.buf c.1 with
    | some b => s.spoilIdx r c.1 0 b.length
    | none => s) s
  { s with units := { s.units with spindles := s.units.spindles.map (fun (u : Spindle) => { u with mark := none }) } }

/-- STATE.RESTORE (12 R340, R341). Sections that do not lie in the area, or do not hold a saved state, fail at order 4 (log 13). -/
def effRestore (d : Nat) : WordEffect := fun r k w s =>
  let g := s.readBuf r k r.area 0 4096
  let h := g.bytes
  let stop := fun (x : State × Option Failure) => Effect.done x.1 x.2
  match g.fail with
  | some f => .done g.st (some f)
  | none =>
    let s := g.st
    if r.header.ckptLength < 4096 || num h 0 4 ≠ 0x4B434C4F || num h 4 2 ≠ 1 || slice h 4064 32 ≠ digest (h.take 4064) then
      stop (s.failRestore r 1 stCkptIncomplete)
    else if num h 6 2 % 2 ≠ r.header.mode || (r.header.mode = 1 && num h 32 1 ≠ s.cfLevel) then stop (s.failRestore r 2 stCkptMismatch)
    else if bit (num h 6 2) 1 && slice h 16 16 ≠ serial then stop (s.failRestore r 3 stCkptMismatch)
    else
      let secs := headerSections h
      let body := fun (s : State) (c : Section) => s.readBuf r k r.area c.off c.len
      let inside := secs.all fun c => decide (c.off + c.len ≤ r.header.ckptLength)
      match if inside then s.snapshotIn h (secs.flatMap fun c => (body s c).bytes) else none with
      | none => stop (s.failRestore r 4 stCkptMismatch)
      | some x =>
        if !x.fits r w then stop (s.failRestore r 4 stCkptMismatch)
        else
          let read := secs.foldl (fun (a : State × Option Failure) c => let g := body a.1 c; (g.st, firstFail a.2 g.fail)) (s, none)
          match read with
          | (s, some f) => .done (s.spoilRestore r x) (some f)
          | (s, none) =>
            let cd := digest ((secs.filter fun c => c.type ≠ 6).flatMap fun c => sectionDigest (body s c).bytes)
            let ks := (secs.filter fun c => c.type = 6).flatMap fun c => (body s c).bytes
            let ck := if bit (num h 6 2) 1 then some fuseKey else vget s.dict.ckptKeys none r.owner
            let sk := sealingKey (ck.getD zero32) (slice h 16 16) (num h 8 8)
            if cd ≠ slice h 96 32 || ck.isNone || gcmTag sk (zeros 12) (h.take 384) (ks.take 320) ≠ slice ks 320 16 then
              let f := s.failRestore r 5 stCkptMismatch; .done (f.1.spoilRestore r x) f.2
            else .done (s.restoreSnapshot d r w x (plainKey (gcmStream sk (zeros 12) (ks.take 320)))) none

def execStateRestore (d : Fin 8) (s : State) : Host.Outcome State Fault Refusal := .next (s.word d .stateRestore (effRestore d))

end Sys2Proof.Machine
end

