-- ==== Sys2Proof/Machine/Rings.lean ====
section
/-!
DEFINITION. The host's side of the rings: link-up (09 R242), ring pages (R247, R250 to R255), ABORT (R262), BAR2 (R248), MSI-X (R249), faulting host
reads (R264), function-level reset (R265) and VF Enable (R244).
-/
namespace Sys2Proof.Machine

/-- TotalVFs, First VF Offset and VF Stride of the PF's SR-IOV capability (09 R244). -/
def totalVfs : Nat := 15
def firstVfOffset : Nat := 1
def vfStride : Nat := 1

/-- The Routing ID of a function on the PF's bus: the PF's own, VF 1 at First VF Offset above it, each further VF VF Stride on (09 R244). -/
def routingId (pf fn : Nat) : Nat := if fn = 0 then pf else pf + firstVfOffset + (fn - 1) * vfStride

/-- A function is there: the PF, or one of the first NumVFs VFs while VF Enable takes effect (09 R244). -/
def State.fnThere (s : State) (fn : Nat) : Bool := fn = 0 || (s.vfEnable && s.ari && decide (fn ≤ s.numVfs))

/-- The link carries requests to a function: it is up, and the PF is in D0, since in D3hot it answers configuration requests alone (09 R241, R242; PRESUMED,
log 6). A halted device answers too (11 R313). -/
def State.linkOpen (s : State) (fn : Nat) : Bool := s.board.phase ≠ .reset && s.board.linkWidth ≠ 0 && !(fn = 0 && s.pcie.d3hot)

/-- A BAR0 access of a function reaches the page of a ring, of a halted device too (09 R247; 11 R313). -/
def State.reaches (s : State) (fn r : Nat) : Bool := s.linkOpen fn && s.fnThere fn && s.owner r = fn

/-- Interrupt Pin of the configuration space: MSI-X only (09 R241). -/
def interruptPin : Nat := 0

/-- log2 of the size of each base address register: BAR0, BAR2 and BAR4 of the PF, BAR0 and BAR4 of each VF (09 R246). -/
def barLog2 : List Nat := [20, 41, 16, 18, 16]

/-- Bits [3:0] of each as it reads: a 64-bit memory BAR, prefetchable for BAR2 alone (09 R246). -/
def barFlags : List Nat := [4, 12, 4, 4, 4]

/-- A base address as the register holds it: a multiple of its size (09 R246). -/
def barHeld (v : BitVec 64) (log2 : Nat) : BitVec 64 := BitVec.ofNat 64 (v.toNat / 2 ^ log2 * 2 ^ log2)

/-- The two BARs as they read. -/
def Pcie.barRead (x : Pcie) (k : Nat) : Nat := (x.bars.getD k 0).toNat + barFlags.getD k 0

/-- What enumeration leaves in the configuration space (09 R241, R246). -/
def Pcie.set_ (x : Pcie) (q : PcieSetup) : Pcie :=
  { x with maxPayload := 2 ^ (7 + q.maxPayload.val), maxRead := 2 ^ (7 + q.maxRead.val), ecrcGenerate := q.ecrcGenerate, ecrcCheck := q.ecrcCheck,
           d3hot := q.d3hot, bars := (List.range 5).map fun k => barHeld (q.bars.getD k 0) (barLog2.getD k 0) }

/-- LINK_UP: the trained width and rate, and LINK_NARROW below x16 at 32 GT/s (09 R241, R242; 13 R348); and what enumeration sets. -/
def execLinkUp (log2Width : Fin 5) (setup : PcieSetup) (s : State) : Host.Outcome State Fault Refusal :=
  if s.board.phase = .reset || log2Width.val = 1 then .next s
  else
    let s := { s with board := { s.board with linkWidth := 2 ^ log2Width.val, linkSpeed := setup.speed.val + 1 }, pcie := s.pcie.set_ setup }
    .next (if log2Width.val = 4 && setup.speed.val = 4 then s else s.emit (devNotice 0x0901 notice 258 []))

/-- BUSY (09 R250). -/
def Ring.busy (x : Ring) : Bool := x.sqAccepted ≠ x.cqTail

/-- RING_CTRL and RING_STATUS as they read (09 R250). -/
def Ring.ctrl (x : Ring) : Nat := (if x.enabled then 2 ^ 31 else 0) + 256 * (x.log2Depth % 16)
def Ring.status (x : Ring) : Nat :=
  (if x.enabled then 2 ^ 31 else 0) + (if x.busy then 2 ^ 30 else 0) + (if x.fault then 2 ^ 29 else 0) + (x.sqAccepted - x.cqTail).toNat % 2 ^ 13

/-- Rings may be enabled: the device is READY or READY_DEGRADED (13 R353). -/
def State.ringsServed (s : State) : Bool := s.start.state = 1 || s.start.state = 2

/-- A RING_CTRL write that sets ENABLE on a disabled ring (09 R251, R256, R260). On an enabled ring the write changes nothing. -/
def Ring.enable (x : Ring) (log2 : Nat) : Ring :=
  if x.enabled || log2 < 4 || 12 < log2 || x.sqBase.toNat % 4096 ≠ 0 || x.cqBase.toNat % 4096 ≠ 0 then x
  else { x with enabled := true, log2Depth := log2, sqAccepted := 0, cqTail := 0, cqHead := 0, seqBase := x.nextSeq, advance := 0, allowance := 0 }

/-- A RING_CTRL write that clears ENABLE: ignored while BUSY is 1; on a disabled ring it sets LOG2_DEPTH (09 R251, R264). -/
def Ring.disable (x : Ring) (log2 : Nat) : Ring :=
  if x.enabled then (if x.busy then x else { x with enabled := false, fault := false }) else { x with log2Depth := log2 }

/-- A write of RING_CTRL (09 R251; 13 R353). -/
def State.ringCtrl (s : State) (fn r v : Nat) : State :=
  if !s.reaches fn r then s
  else if bit v 31 then (if s.ringsServed then s.modRing r fun x => x.enable (bits v 11 8) else s)
  else (s.modRing r fun x => x.disable (bits v 11 8)).refreshReservation

/-- ENABLE_RING (09 R251). The command is the write whose bit 31 is set. -/
def execEnableRing (fn : Fin 16) (r : Fin 64) (ctrl : BitVec 32) (s : State) : Host.Outcome State Fault Refusal :=
  .next (s.ringCtrl fn r (2 ^ 31 + ctrl.toNat % 2 ^ 31))

/-- DISABLE_RING (09 R251). The command is the write whose bit 31 is clear. -/
def execDisableRing (fn : Fin 16) (r : Fin 64) (ctrl : BitVec 32) (s : State) : Host.Outcome State Fault Refusal :=
  .next (s.ringCtrl fn r (ctrl.toNat % 2 ^ 31))

/-- Credits (09 R253). -/
def Ring.credits (x : Ring) : Int := (2 ^ x.log2Depth : Int) - ((x.sqAccepted - x.cqHead).toNat : Int)

/-- Entry number a of those a doorbell accepts (09 R252, R256). -/
def Ring.newHank (x : Ring) (k : Nat) : Hank :=
  { seq := (x.nextSeq + k) % 2 ^ 48, stage := .accepted, entry := { hankAddr := 0, hankLen := 0, irqSel := 0, tag := 0 }, ceiling := 0, noIrq := false,
    wasPicked := false, signalled := 0, abortWith := none, ending := none }

/-- A doorbell write of D (09 R254): the ring after it, and whether it was ignored and counted. -/
def Ring.doorbell (x : Ring) (d : BitVec 32) : Ring × Bool :=
  let e := (d - x.sqAccepted).toNat
  if x.enabled && e = 0 then (x, false)
  else if !x.enabled || x.credits < (e : Int) then ({ x with badDoorbell := sat16 x.badDoorbell }, true)
  else ({ x with sqAccepted := d, nextSeq := (x.nextSeq + e) % 2 ^ 48, hanks := x.hanks ++ (List.range e).map x.newHank }, false)

/-- A write of SQ_DOORBELL that reaches its page; a halted device ignores it and does not count it (11 R313). -/
def State.doorbell (s : State) (fn r : Nat) (d : BitVec 32) : State :=
  if !s.reaches fn r || s.board.phase ≠ .ready then s
  else
    let c := (s.ring r).doorbell d
    let s := s.modRing r fun _ => c.1
    if c.2 then s.modDict fun x => { x with ignoredDoorbells := sat32 x.ignoredDoorbells } else s

/-- SQ_DOORBELL (09 R254). -/
def execSqDoorbell (fn : Fin 16) (r : Fin 64) (d : BitVec 32) (s : State) : Host.Outcome State Fault Refusal := .next (s.doorbell fn r d)

/-- A write of CQ_HEAD (09 R255). -/
def Ring.head_ (x : Ring) (h : BitVec 32) : Ring :=
  if (h - x.cqHead).toNat ≤ (x.cqTail - x.cqHead).toNat then { x with cqHead := h } else { x with badHead := sat16 x.badHead }

def State.cqHead (s : State) (fn r : Nat) (h : BitVec 32) : State := if s.reaches fn r then s.modRing r fun x => x.head_ h else s

/-- CQ_HEAD (09 R255). -/
def execCqHead (fn : Fin 16) (r : Fin 64) (h : BitVec 32) (s : State) : Host.Outcome State Fault Refusal := .next (s.cqHead fn r h)

/-- Nothing of a hank in execution is left to stop: its last word has completed, or it has failed and every issued word is complete (09 R262). -/
def Run.ended (r : Run) : Bool :=
  r.issued.isEmpty && !r.faulted && (r.failure.isSome || (decide (r.words.length ≤ r.next) && !r.keyPending))

/-- An abort reaches a hank in execution: no further word issues, and it is not re-executed (09 R262; 13 R362). FLR cuts it off from host memory too
(R265). -/
def Run.abort (r : Run) (cause : Nat) : Run :=
  if cause = cFlr then { r with aborted := some cFlr, noHost := true, faulted := false }
  else if r.ended || r.aborted.isSome then r else { r with aborted := some cause, faulted := false }

/-- An issued word that an abort ends: one that waits for another hank without limit, which nothing else need ever end (DEDUCED, log 19). Every other word
already issued completes (09 R262, R265). -/
def Run.endless (r : Run) (i : Issued) : Bool :=
  !i.ran && (match r.wordAt i.index with
    | some c => c.1 = .waitSeq && bits c.2 23 4 = 0
    | none => false)

/-- An abort ends the waits of a hank that have no limit: the words are withdrawn (09 R262, R265: the hank completes; log 19). -/
def State.endWaits (s : State) (d : Nat) : State :=
  s.modRun d fun r => if r.aborted.isNone then r else { r with issued := r.issued.filter fun i => !r.endless i }

/-- An issued STATE.SAVE that has not run. -/
def Run.saves (r : Run) (i : Issued) : Bool := !i.ran && (r.wordAt i.index).any fun c => c.1 = .stateSave

/-- A STATE.SAVE of a Distaff is in progress: issued and not complete, paused or not (12 R337, R338; log 19). -/
def State.savingOn (s : State) (d : Nat) (r : Run) : Bool :=
  r.saving || r.issued.any r.saves || (match s.anneal with
    | some a => a.distaff = d && a.savePending.isSome
    | none => false)

/-- A STATE.SAVE in progress leaves no valid header (12 R338): the header's 4 KiB are zero. An area too short for a header holds none. -/
def State.cutSave (s : State) (d : Nat) (r : Run) : State :=
  if s.savingOn d r && decide (4096 ≤ r.header.ckptLength) then s.writeBuf r r.area 0 (zeros 4096) else s

/-- A STATE.SAVE in progress on a Distaff stops at once: no valid header, and its word ends, its request with it (12 R338). -/
def State.stopSave (s : State) (d : Nat) (r : Run) : State :=
  let mine := fun (p : Permit) => p.distaff = d && r.issued.any fun i => r.saves i && i.index = p.word
  let s := (s.cutSave d r).modSteward fun x => { x with queue := x.queue.filter fun p => !mine p }
  let s := { s with anneal := s.anneal.map fun (a : AnnealRun) => if a.distaff = d then { a with savePending := none } else a }
  s.modRun d fun q => { q with saving := false, issued := q.issued.map fun i => if r.saves i then { i with ran := true } else i }

/-- A STATE.SAVE in progress in an aborted hank stops (09 R262, R265; 12 R338). The zeros of its header reach host memory before a function-level reset closes
it. -/
def State.stopSaves (s : State) (r seq : Nat) : State :=
  (List.range 8).foldl (fun s d => match s.run d with
    | some q => if q.ring = r && q.seq = seq && q.aborted.isSome then s.stopSave d { q with noHost := false } else s
    | none => s) s

/-- The host-memory outputs of a hank that a function-level reset stops are undefined: free values (09 R265; log 2). -/
def State.spoilHost (s : State) (r seq : Nat) : State :=
  s.distaffs.toList.foldl (fun s (d : Distaff) => match d.run with
    | some q =>
      if q.ring = r && q.seq = seq && !q.noHost then
        (List.range q.bufs.length).foldl (fun s i => match q.buf i with
          | some b => if b.space = 2 && (b.kind = 1 || b.kind = 2) then s.spoilIdx q i 0 b.length else s
          | none => s) s
      else s
    | none => s) s

/-- Aborts one hank of a ring (09 R262, R265). -/
def State.abortHank (s : State) (r cause : Nat) (h : Hank) : State :=
  let flr := cause = cFlr
  match h.stage with
  | .accepted => if flr then s.finishUnpicked r h.seq stAborted cause 0 true true else s.modHank r h.seq fun h => { h with abortWith := some cause }
  | .waiting => s.finishUnpicked r h.seq stAborted cause 0 h.noIrq flr
  | .picked =>
    if flr then ({ s with dispatcher := { s.dispatcher with picked := none } }).finishUnpicked r h.seq stAborted cause 0 true true
    else s.modHank r h.seq fun h => { h with abortWith := some (h.abortWith.getD cause) }
  | .running =>
    let stop := fun (d : Distaff) => { d with run := d.run.map fun q => if q.ring = r && q.seq = h.seq then q.abort cause else q }
    let s := if flr then s.spoilHost r h.seq else s
    ((List.range 8).foldl (fun s d => State.endWaits s d) { s with distaffs := s.distaffs.map stop }).stopSaves r h.seq
  | .finished =>
    if flr then
      let s := ((h.ending.map fun e => e.hostOuts).getD []).foldl (fun s c => s.spoil 2 c.1 c.2) s
      s.modHank r h.seq fun h =>
      { h with ending := h.ending.map fun e => { e with status := stAborted, cause := cFlr, evRef := 0, results := [], silent := true, noIrq := true } }
    else s

/-- A write of ABORT (09 R262); a halted device ignores it (11 R313). -/
def State.abort (s : State) (fn r v : Nat) : State :=
  let x := s.ring r
  let seq := v % 2 ^ 48
  if !s.reaches fn r || s.board.phase ≠ .ready || seq < x.seqBase || x.seqBase + x.sqAccepted.toNat ≤ seq then s
  else ((x.hanks.filter fun h => h.seq = seq || (bit v 63 && decide (seq < h.seq))).foldl (fun s h => s.abortHank r cHost h) s).refreshReservation

/-- ABORT: only an aligned 64-bit write acts (09 R247, R262). -/
def execAbort (fn : Fin 16) (r : Fin 64) (wide : Bool) (v : BitVec 64) (s : State) : Host.Outcome State Fault Refusal :=
  .next (if wide then s.abort fn r v.toNat else s)

/-- Replaces the half of a 64-bit register that a 32-bit write names. -/
def putHalf (old : BitVec 64) (high : Bool) (v : Nat) : BitVec 64 :=
  if high then BitVec.ofNat 64 (v % 2 ^ 32 * 2 ^ 32 + old.toNat % 2 ^ 32) else BitVec.ofNat 64 (old.toNat / 2 ^ 32 * 2 ^ 32 + v % 2 ^ 32)

/-- A 32-bit write at an offset of a ring page (09 R247, R250): read-only and reserved offsets ignore it. -/
def State.ringWrite (s : State) (fn r o v : Nat) : State :=
  let base := fun f => if s.reaches fn r && !(s.ring r).enabled then s.modRing r f else s
  match o with
  | 0x000 => s.doorbell fn r (BitVec.ofNat 32 v)
  | 0x008 => base fun x => { x with sqBase := putHalf x.sqBase false v }
  | 0x00C => base fun x => { x with sqBase := putHalf x.sqBase true v }
  | 0x010 => base fun x => { x with cqBase := putHalf x.cqBase false v }
  | 0x014 => base fun x => { x with cqBase := putHalf x.cqBase true v }
  | 0x018 => s.ringCtrl fn r (v % 2 ^ 32)
  | 0x028 => s.cqHead fn r (BitVec.ofNat 32 v)
  | _ => s

/-- A 32-bit read at an offset of a ring page: zero for an unowned ring, a write-only register and a reserved offset (09 R247, R250). -/
def State.ringRead (s : State) (fn r o : Nat) : Nat :=
  let x := s.ring r
  if !s.reaches fn r then 0
  else match o with
    | 0x008 => x.sqBase.toNat % 2 ^ 32
    | 0x00C => x.sqBase.toNat / 2 ^ 32
    | 0x010 => x.cqBase.toNat % 2 ^ 32
    | 0x014 => x.cqBase.toNat / 2 ^ 32
    | 0x018 => x.ctrl
    | 0x01C => x.status
    | 0x020 => x.sqAccepted.toNat
    | 0x024 => x.cqTail.toNat
    | 0x028 => x.cqHead.toNat
    | 0x02C => x.badHead * 2 ^ 16 + x.badDoorbell
    | 0x030 => x.seqBase % 2 ^ 32
    | 0x034 => x.seqBase / 2 ^ 32
    | _ => 0

/-- The dictionary window answers: the link answers configuration requests, a halted device included (10 R275, 11 R313). -/
def State.windowOpen (s : State) : Bool := s.linkOpen 0

/-- TYPE and ACCESS of an entry: all ones when absent (10 R276). -/
def State.kindOf (s : State) (index sub : Nat) : Nat :=
  match s.rowNow index sub with
  | some r => r.type.code + r.access.code * 16
  | none => 0xFF

/-- A write of SELECT: CODE becomes OK, and TYPE and ACCESS are the entry's; bits [31:24] are reserved; ignored while BUSY is 1 (10 R276, R278, R279). -/
def State.selectWrite (s : State) (k v : Nat) : State :=
  if !s.windowOpen then s
  else
    let v := v % 2 ^ 24
    s.modSlot k fun x => if x.busy.isSome then x else { x with select := BitVec.ofNat 32 v, kind := s.kindOf (v / 256) (v % 256), code := 0 }

/-- A request of a slot joins the queue of path 0; a full queue answers BUSY at once (10 R284). -/
def State.queueSlot (s : State) (k : Nat) (q : Sum (BitVec 64) (Bool × Nat)) : State :=
  if 8 ≤ s.dict.bar0.length then s.modSlot k fun x => { x with code := 0x08 }
  else (s.modSlot k fun x => { x with busy := some q }).modDict fun x => { x with bar0 := x.bar0 ++ [k] }

/-- A write of VALUE: BUSY rises until it is applied (10 R278); ignored while BUSY is 1 (R279). -/
def State.valueWrite (s : State) (k : Nat) (v : BitVec 64) : State :=
  if !s.windowOpen || (s.slot k).busy.isSome then s else s.queueSlot k (.inl v)

/-- A write of XFER_CTRL with GO set (10 R276, R279): a bad length or address ends it at once. -/
def State.xferWrite (s : State) (k : Nat) (toEntry : Bool) (len : Nat) : State :=
  let x := s.slot k
  if !s.windowOpen || x.busy.isSome then s
  else if len = 0 || 4096 < len then s.modSlot k fun x => { x with code := 0x04 }
  else if x.xferAddr.toNat % 64 ≠ 0 then s.modSlot k fun x => { x with code := 0x09 }
  else s.queueSlot k (.inr (toEntry, len))

/-- A 32-bit write at an offset of a dictionary slot (10 R276, R279); XFER_ADDR and XFER_OFFSET ignore it while BUSY is 1. -/
def State.slotWrite (s : State) (k o v : Nat) : State :=
  let set := fun f => s.modSlot k fun (x : Slot) => if x.busy.isSome then x else f x
  match o with
  | 0x00 => s.selectWrite k v
  | 0x08 => s.valueWrite k (BitVec.ofNat 64 (v % 2 ^ 32))
  | 0x18 => set fun x => { x with xferAddr := putHalf x.xferAddr false v }
  | 0x1C => set fun x => { x with xferAddr := putHalf x.xferAddr true v }
  | 0x20 => if bit v 31 then s.xferWrite k (bit v 30) (bits v 12 0) else s
  | 0x28 => set fun x => { x with xferOffset := BitVec.ofNat 32 v }
  | _ => s

/-- SELECT_WRITE (10 R278). -/
def execSelectWrite (slot : Fin 16) (v : BitVec 32) (s : State) : Host.Outcome State Fault Refusal := .next (s.selectWrite slot v.toNat)

/-- VALUE_WRITE: a 32-bit write sets bits [63:32] to zero (10 R278). -/
def execValueWrite (slot : Fin 16) (wide : Bool) (v : BitVec 64) (s : State) : Host.Outcome State Fault Refusal :=
  .next (s.valueWrite slot (if wide then v else BitVec.ofNat 64 (v.toNat % 2 ^ 32)))

/-- XFER_ENTRY_TO_HOST (10 R279). -/
def execXferEntryToHost (slot : Fin 16) (len : BitVec 13) (s : State) : Host.Outcome State Fault Refusal := .next (s.xferWrite slot false len.toNat)

/-- XFER_HOST_TO_ENTRY (10 R279). -/
def execXferHostToEntry (slot : Fin 16) (len : BitVec 13) (s : State) : Host.Outcome State Fault Refusal := .next (s.xferWrite slot true len.toNat)

/-- A 32-bit write at an offset of BAR0 (09 R247). -/
def State.bar0Write (s : State) (fn o v : Nat) : State :=
  if o < 0x40000 then s.ringWrite fn (o / 0x1000) (o % 0x1000) v
  else if o < 0x41000 && fn = 0 && s.windowOpen then s.slotWrite ((o - 0x40000) / 0x100) (o % 0x100) v
  else s

/-- REGISTER_WRITE: an aligned BAR0 write of 4 or 8 bytes; every other access is ignored (09 R247). -/
def execRegisterWrite (fn : Fin 16) (offset : BitVec 20) (wide : Bool) (v : BitVec 64) (s : State) : Host.Outcome State Fault Refusal :=
  let o := offset.toNat
  if wide then
    if o % 8 ≠ 0 then .next s
    else if o < 0x40000 && o % 0x1000 = 0x38 then .next (s.abort fn (o / 0x1000) v.toNat)
    else if 0x40000 ≤ o && o < 0x41000 && o % 0x100 = 8 && fn = 0 then .next (s.valueWrite ((o - 0x40000) / 0x100) v)
    else .next ((s.bar0Write fn o (v.toNat % 2 ^ 32)).bar0Write fn (o + 4) (v.toNat / 2 ^ 32))
  else if o % 4 ≠ 0 then .next s
  else .next (s.bar0Write fn o (v.toNat % 2 ^ 32))

/-- An entry of a function's MSI-X table as BAR4 lays it out: message address, data, and vector control with the mask in bit 0 (09 R249). -/
def Function.entryBytes (f : Function) (e : Nat) : Bytes :=
  le 12 (Sparse.get 0 f.table e).toNat ++ le 4 (if f.unmasked.contains e then 0 else 1)

/-- The Pending Bit Array of a function, one bit an entry (09 R249). -/
def Function.pbaBytes (f : Function) : Bytes :=
  (List.range 256).map fun k => BitVec.ofNat 8 ((List.range 8).map fun j => if f.pending.contains (8 * k + j) then 2 ^ j else 0).sum

/-- BAR4 of a function: the table of 2,048 entries at 0x0000, the Pending Bit Array at 0x8000, zero above it (09 R246, R249). -/
def Function.bar4 (f : Function) : Bytes := (List.range 2048).flatMap f.entryBytes ++ f.pbaBytes ++ zeros (0x8000 - 256)

/-- Where a BAR2 access lands: space and address; none for a reserved range (09 R248). -/
def bar2Place (o n : Nat) : Option (Nat × Nat) :=
  if o + n ≤ 2 ^ 32 then some (0, o)
  else if 2 ^ 40 ≤ o && o + n ≤ 2 ^ 40 + lpBytes then some (1, o - 2 ^ 40)
  else none

/-- A BAR2 access is 1 to 512 bytes, a write of as many bytes as it carries (09 R241, R248). -/
def bar2Ok (len : Nat) (data : Option Bytes) : Bool :=
  decide (1 ≤ len ∧ len ≤ 512) && (match data with
    | some b => decide (b.length = len)
    | none => true)

/-- The device keeps data of its own at an SRAM address: the ranges of 08 R212 that are in use. -/
def deviceOwn (a : Nat) : Bool :=
  decide (sramHostBytes ≤ a) &&
  !(decide (0xFC180000 ≤ a ∧ a < 0xFC200000) || decide (0xFD620000 ≤ a ∧ a < 0xFD700000) || decide (0xFD800000 ≤ a ∧ a < 0xFDE00000))

/-- BAR2_ACCESS: device memory through the ECC rules while debug mode is on; zero, dropped and counted otherwise (09 R248). A read returns the bytes of the
addresses, of the unused ranges of the reserved region too; where the device keeps its own data they carry no meaning: free values (08 R212; 14 R368; log 2). -/
def execBar2Access (offset : BitVec 41) (len : Nat) (data : Option Bytes) (s : State) : Host.Outcome State Fault Refusal :=
  if !bar2Ok len data then .fault .malformedCommand
  else if s.board.phase ≠ .ready || !s.linkOpen 0 then .next s
  else
    let reply := fun (s : State) b p => { s with out := { s.out with bar2 := b, bar2Poisoned := p } }
    if !s.debug then
      let s := s.modDict fun x => { x with bar2Dropped := sat32 x.bar2Dropped }
      .next (if data.isNone then reply s (zeros len) false else s)
    else match bar2Place offset.toNat len, data with
      | some p, some b => .next (s.put p.1 p.2 b)
      | some p, none =>
        let c := s.mem.check p.1 p.2 len
        let own := fun k => p.1 = 0 && deviceOwn (p.2 + k)
        let f := ({ s with mem := c.1 }).freeBytes (if (List.range len).any own then len else 0)
        .next (reply f.2 ((List.range len).map fun k => if own k then f.1.getD k 0 else (s.mem.space p.1).byte (p.2 + k)) c.2.isSome)
      | none, some _ => .next s
      | none, none => .next (reply s (zeros len) false)

/-- MSIX_UNMASK: the entry, as its address and data stand by then, is unmasked and a held message is sent; the entries masked since are masked (09 R249;
log 6). -/
def execMsixUnmask (fn : Fin 16) (e : Fin 2048) (entry : MsixEntry) (s : State) : Host.Outcome State Fault Refusal :=
  if s.board.phase ≠ .ready || !s.linkOpen fn || !s.fnThere fn then .next s
  else
    let f := vget s.functions Function.reset fn
    let send := entry.enable && f.pending.contains e.val
    let f := { f with msixEnabled := entry.enable, table := Sparse.replace 0 f.table e 1 fun _ => entry.data ++ entry.address,
                      unmasked := (f.unmasked.filter fun k => k ≠ e.val && !entry.masked.any fun m => m.val = k) ++ [e.val],
                      pending := if send then f.pending.filter (· ≠ e.val) else f.pending }
    let s := { s with functions := vset s.functions fn f }
    .next (if send then { s with out := { s.out with msix := s.out.msix ++ [(fn.val, e.val)] } } else s)

/-- A faulting read of the entry or of the header read before the pick (09 R252, R264). -/
def State.faultEntry (s : State) (r : Nat) (header : Bool) (kind address length : Nat) : State :=
  match (s.ring r).unread with
  | some h =>
    let b := s.entryBytes r h
    let e := entryFields b
    if header && (e.hankAddr % 64 ≠ 0 || 2 ^ 64 < e.hankAddr + 256) then s
    else
      let s := if header then s.modHank r h.seq fun h => { h with entry := e } else s.modRing r fun x => { x with fault := true }
      let s := s.hostFault (hankNotice 0x0902 error r h.seq) kind address 0xFFFE length
      match h.abortWith with
      | some c => (s.finishUnpicked r h.seq stAborted c 0 false false).refreshReservation
      | none => (s.entryFault r h.seq (if header then fieldBit (entryFails b) else 0xFFFF) (some s.lastRef)).refreshReservation
  | none => s

/-- A faulting read of the hank region at the pick (09 R264; 07 R179 order 1): HANK_DIGEST is zero. -/
def State.faultRegion (s : State) (kind address length : Nat) : State :=
  match s.pickedHank, s.freeDistaff with
  | some c, some d =>
    let s := { s with dispatcher := { s.dispatcher with picked := none } }
    let s := s.hostFault (hankNotice 0x0902 error c.1 c.2.seq) kind address 0xFFFF length
    let ref := s.lastRef
    let r := Run.start s c.2 c.1 []
    let r := { r with hankDigest := zero32, header := { r.header with flags := if c.2.noIrq then 1 else 0 }, atRead := true, words := [] }
    let s := s.modHank c.1 c.2.seq fun h => { h with stage := .running }
    match c.2.abortWith with
    | some a => s.setRun d (some { r with aborted := some a })
    | none =>
      let s := s.emit (hankNotice 0x0701 error c.1 c.2.seq (rejectPayload cHeader 1 stAborted 0xFFFF 0xFFFF))
      let s := s.modDict fun x => { x with hanksRejected := sat32 x.hanksRejected }
      s.setRun d (some { r with failure := some (0xFFFF, { status := stAborted, cause := cHeader, evRef := ref }) })
  | _, _ => s

/-- A faulting read of a dictionary transfer: it ends with BAD_REQUEST (10 R279). -/
def State.faultTransfer (s : State) (k kind address length : Nat) : State :=
  match (s.slot k).busy with
  | some (.inr (true, _)) =>
    let s := (s.hostFault (devNotice 0x0902 error 258) kind address 0xFFFF length).modSlot k fun x => { x with busy := none, code := 0x09 }
    s.modDict fun x => { x with bar0 := x.bar0.filter (· ≠ k) }
  | _ => s

/-- A ring page at its reset values; the next sequence number, the ledger and the hanks still to be chained stay (09 R265 step 5). -/
def Ring.clearPage (x : Ring) : Ring :=
  { Ring.reset with nextSeq := x.nextSeq, hanks := x.hanks, progSeq := x.progSeq, progVal := x.progVal, done := x.done, chainHead := x.chainHead,
                    chainIndex := x.chainIndex, genesis := x.genesis, lastLedgerSeq := x.lastLedgerSeq, lastSeal := x.lastSeal, sealCount := x.sealCount,
                    entriesAtSeal := x.entriesAtSeal, autoSealHeld := x.autoSealHeld, gap := x.gap }

/-- Steps 1 to 3 and 5 of a function-level reset for one ring (09 R265; 12 R328). -/
def State.resetRing (s : State) (pf : Bool) (r : Nat) : State :=
  let hs := (s.ring r).hanks
  let s := hs.foldl (fun s h => s.abortHank r cFlr h) s
  let s := s.modRing r fun x => { x.clearPage with gap := if pf && !hs.isEmpty then some (x.gap.getD (x.chainIndex + 1)) else x.gap }
  s.drainRing r (s.ring r).hanks

/-- A function-level reset of the functions `f` (09 R265). -/
def State.flr (s : State) (pf : Bool) (f : Nat → Bool) : State :=
  let s := ((List.range 64).filter fun r => f (s.owner r)).foldl (fun s r => s.resetRing pf r) s
  let s := { s with units := { s.units with
    spindles := s.units.spindles.map (fun (u : Spindle) => if u.lastOwner.any f then { u with clearNext := true } else u)
    bobbins := s.units.bobbins.map (fun (u : Bobbin) => if u.lastOwner.any f then { u with clearNext := true } else u) } }
  let fresh := fun (k : Nat) (x : Function) => if f k then Function.reset else x
  ({ s with functions := s.functions.mapIdx fresh }).refreshReservation

/-- FUNCTION_LEVEL_RESET: of the PF it acts on every function and clears VF Enable (09 R265). -/
def execFunctionLevelReset (fn : Fin 16) (s : State) : Host.Outcome State Fault Refusal :=
  if s.board.phase ≠ .ready || !s.fnThere fn then .next s
  else if fn.val = 0 then .next { s.flr true (fun _ => true) with vfEnable := false }
  else .next (s.flr false fun k => k = fn.val)

/-- VF_ENABLE: setting it makes NumVFs VFs appear while ARI Capable Hierarchy is set; clearing it resets every function, as the table's row says
(09 R244, R265). -/
def execVfEnable (enable : Bool) (control : VfControl) (s : State) : Host.Outcome State Fault Refusal :=
  if s.board.phase ≠ .ready || !s.linkOpen 0 then .next s
  else
    let s := if s.vfEnable && !enable then s.flr true (fun _ => true) else s
    .next { s with vfEnable := enable, ari := control.ari, numVfs := control.numVfs.val }

end Sys2Proof.Machine
end

