-- ==== Sys2Proof/Machine/Recorder.lean ====
section
/-!
DEFINITION. The event recorder: records as bytes (14 R365), their arrival, storage and mirror (R366 to R370, R373), freezing (R371, R372), trigger sets and
snapshots (R374 to R376).
-/
namespace Sys2Proof.Machine

/-- A record as bytes (14 R365). -/
def Record.bytes (r : Record) : Bytes :=
  let n := r.note
  le 2 n.size ++ le 2 n.type ++ le 1 n.severity ++ le 1 ((if n.hank then 1 else 0) + (if r.mirrored then 2 else 0)) ++ le 2 n.source ++
  le 8 (if n.hank then n.sourceSeq else 0) ++ le 8 r.rseq ++ le 8 r.stamp.toNat ++ le 4 r.boot.toNat ++ le 2 295 ++ le 2 0 ++ n.padded

/-- Room for class E records: the buffer, or the recorder's own store until start-up step 4 and after a start that ended in RECOVERY (14 R368). -/
def State.eventRoom (s : State) : Nat := if s.start.repaired then 1048576 else 16384

/-- The shortest prefix of the records of severity `sev` or lower that frees `n` bytes leaves the list (14 R369 step 2). -/
def dropRecords (sev : Nat) : Nat → List Record → List Record
  | _, [] => []
  | n, r :: rest =>
    if n = 0 then r :: rest
    else if r.note.severity ≤ sev then dropRecords sev (n - r.note.size) rest
    else r :: dropRecords sev n rest

/-- Places a record in the class E buffer (14 R369). -/
def Recorder.place (x : Recorder) (room : Nat) (r : Record) : Recorder :=
  let n := r.note.size
  let free := room - recordsSize x.stored
  let lower := recordsSize (x.stored.filter fun q => q.note.severity ≤ r.note.severity)
  if n ≤ free then { x with stored := x.stored ++ [r] }
  else if n ≤ free + lower then { x with stored := dropRecords r.note.severity (n - free) x.stored ++ [r] }
  else { x with drops := vmod x.drops r.note.severity sat32 }

/-- Drops records from the front until those that stay take at most `n` bytes. -/
def newestFit (n : Nat) : List Record → List Record
  | [] => []
  | r :: rest => if recordsSize (r :: rest) ≤ n then r :: rest else newestFit n rest

/-- The record of a notice as it reaches the recorder: STAMP is a time (log 2). -/
def State.recordNow (s : State) (n : Notice) : Record :=
  { note := n, mirrored := n.severity = fatal, rseq := s.recorder.arrived + 1, stamp := s.freeVal, boot := BitVec.ofNat 32 s.keep.resetCount }

/-- The event-match sets that a record fires (14 R374, R375). -/
def State.eventMatches (s : State) (n : Notice) : List Nat :=
  (List.range 16).filter fun k =>
    let t := vget s.dict.triggers [] k
    bit (num t 0 1) 0 && num t 1 1 = 2 && (num t 4 2 = 0xFFFF || num t 4 2 = n.type) && num t 6 1 ≤ n.severity

/-- The save buffer takes ERROR and FATAL records until a save freezes it; the newest that fit in 65,488 bytes stay (11 R311). The
FATAL record of a fatal stop enters it always, for the save that it leads (13 R358). -/
def State.keepRecord (s : State) (r : Record) : State :=
  if r.note.severity < error || ((s.board.phase = .haltedSag || s.board.phase = .haltedFatal) && r.note.type ≠ 0x0B04) then s
  else s.modRecorder fun x => { x with saveBuffer := newestFit 65488 (x.saveBuffer ++ [r]) }

/-- The offsets of the index copy in force (14 R373). -/
def Keep.mirrorRange (x : Keep) : Nat × Nat := (x.mirrorFirst, (x.mirrorFirst + recordsSize x.mirror) % 1040384)

/-- The FATAL mirror takes a record: it is written in the circle behind the newest, oldest overwritten first, and then the index copy that is not in use, the copy
so far in force staying as the other (14 R373). -/
def Keep.mirrorWrite (x : Keep) (r : Record) : Keep :=
  let all := x.mirror ++ [r]
  let kept := newestFit 1040384 all
  { x with mirror := kept, mirrorFirst := (x.mirrorFirst + (recordsSize all - recordsSize kept)) % 1040384, mirrorIndex := !x.mirrorIndex,
           mirrorOther := x.mirrorRange, mirrorOpen := true }

/-- The index copy in force: the offsets of the oldest record and past the newest, and their digest (14 R373). -/
def Keep.mirrorIndexBytes (x : Keep) : Bytes :=
  let b := le 4 x.mirrorRange.1 ++ le 4 x.mirrorRange.2
  b ++ digest b

/-- MIRROR_CLEAR: the mirror holds no record from then on (14 R373). -/
def Keep.mirrorClear (x : Keep) : Keep :=
  { x with mirror := [], mirrorFirst := x.mirrorRange.2, mirrorIndex := !x.mirrorIndex, mirrorOther := x.mirrorRange, mirrorOpen := false }

/-- A reset or sag that meets a mirror write leaves the earlier index in force, and the torn record is not reported (14 R373). Whether it meets the newest write is a
time: a free value; a write before which no later record has reached the recorder may be under way (log 2, log 53). -/
def State.tearMirror (s : State) : State :=
  if !s.keep.mirrorOpen then s
  else
    let torn := s.freeVal.toNat % 2 = 1
    let k := s.keep
    { s.useFree with keep := if torn then { k with mirror := k.mirror.dropLast, mirrorIndex := !k.mirrorIndex, mirrorOpen := false } else { k with mirrorOpen := false } }

/-- A record reaches the recorder: RSEQ (14 R366), FATAL mirror (R373), save buffer (11 R311), storage or the count of a freeze (R369, R371), the event notice
(09 R261) and event-match captures (R375). A halted device sends no message (11 R313). -/
def State.arriveRecord (s : State) (r : Record) : State :=
  let n := r.note
  let room := s.eventRoom
  let s := s.modRecorder fun x =>
    let x := { x with arrived := x.arrived + 1 }
    if x.eFrozen then { x with eLost := sat32 x.eLost, eLostNow := x.eLostNow + 1 } else x.place room r
  let s := { s with keep := if r.mirrored then s.keep.mirrorWrite r else { s.keep with mirrorOpen := false } }
  let s := s.keepRecord r
  let s := if s.entry 0x2000 8 ≤ n.severity && s.board.phase = .ready then s.raise 0 (s.entry 0x2000 6) else s
  (s.eventMatches n).foldl (fun s k => s.capture k 2 none r.rseq) s

def State.arrive (s : State) (n : Notice) : State := s.useFree.arriveRecord (s.recordNow n)

/-- The oldest record on VC1 arrives. -/
def State.arriveNext (s : State) : State :=
  match s.recorder.inbox with
  | n :: rest => (s.modRecorder fun x => { x with inbox := rest }).arrive n
  | [] => s

/-- Every record on VC1 arrives, oldest first. -/
def State.arriveAll (s : State) : State := s.recorder.inbox.foldl (fun s n => s.arrive n) (s.modRecorder fun x => { x with inbox := [] })

/-- EVENT_RECORD_ARRIVE (14 R366, R369). -/
def execEventRecordArrive (s : State) : Host.Outcome State Fault Refusal := .next (if s.board.phase = .reset then s else s.arriveNext)

/-- RECORDER_THAWED: FROZEN_MS is FREEZE_LIMIT where the limit ends the freeze, and otherwise a time within it (14 R371, R372; log 2). -/
def State.thaw (s : State) (classT : Bool) (cause : Nat) : State :=
  let x := s.recorder
  let lost := if classT then x.tLostNow else x.eLostNow
  let limit := s.entry 0x7800 4
  let pay := le 1 (if classT then 1 else 0) ++ le 1 cause ++ le 2 0 ++ le 4 (if cause = 1 then limit else s.freeVal.toNat % (limit + 1)) ++ le 8 lost
  let s := s.useFree.modRecorder fun x => if classT then { x with tFrozen := false, tLostNow := 0 } else { x with eFrozen := false, eLostNow := 0 }
  s.emit (devNotice 0x0D01 notice 295 pay)

def Recorder.frozen (x : Recorder) (classT : Bool) : Bool := if classT then x.tFrozen else x.eFrozen

def State.freeze (s : State) (classT : Bool) : State :=
  s.modRecorder fun x => if classT then { x with tFrozen := true, tLostNow := 0 } else { x with eFrozen := true, eLostNow := 0 }

/-- FREEZE_LIMIT_EXPIRY: a class left frozen thaws by itself (14 R371). -/
def execFreezeLimitExpiry (classT : Bool) (s : State) : Host.Outcome State Fault Refusal :=
  .next (if s.board.phase = .reset || !s.recorder.frozen classT then s else s.thaw classT 1)

/-- A trigger set may be written: its reserved fields are 0 (14 R374; DEDUCED over 00 R8, log 51). -/
def triggerOk (t : Bytes) : Bool :=
  num t 0 1 < 4 && num t 1 1 ≤ 2 && 1 ≤ num t 2 1 && num t 2 1 ≤ 64 && num t 3 1 ≤ 3 && num t 7 1 = 0 && allZero (slice t 24 40)

/-- The comparison of a register match (14 R374). -/
def triggerTrue (t : Bytes) (register : Nat) : Bool :=
  let a := Nat.land register (num t 8 8)
  let v := num t 16 8
  match num t 3 1 with
  | 0 => a = v
  | 1 => a ≠ v
  | 2 => v ≤ a
  | _ => a < v

/-- REGISTER_MATCH_CAPTURE: the register of SELECTOR[0] is compared in a cycle of its domain, `register` being its value where the model does not hold it, and
the set captures when the comparison turns from false to true while it is armed (14 R375). A selector that names nothing is compared with nothing. -/
def execRegisterMatchCapture (k : Fin 16) (register : BitVec 64) (s : State) : Host.Outcome State Fault Refusal :=
  let t := vget s.dict.triggers [] k
  let sel := (selectorsOf t).headD 0
  if s.board.phase ≠ .ready || num t 1 1 ≠ 1 then .next s
  else
    match (s.selectedNow sel).or ((s.selectedWidth sel).map fun w => register.toNat % 2 ^ w) with
    | none => .next s
    | some v =>
      let now := triggerTrue t v
      let fires := bit (num t 0 1) 0 && now && !vget s.recorder.matched false k
      let s := s.modRecorder fun x => { x with matched := vset x.matched k now }
      .next (if fires then s.capture k 1 none 0 else s)

/-- The snapshot of a capture of set `k` as a class T record (14 R376). The source of an event-match snapshot is not given: a free value. -/
def State.snapshotOf (s : State) (k : Nat) (c : Capture) : Record :=
  let pay := le 1 c.cause ++ le 1 (num c.set_ 2 1) ++ zeros 6 ++ le 8 c.rseq ++ c.values
  let note := match c.hank with
    | some h => hankNotice (0x0E00 + k) info h.1 h.2 pay
    | none => devNotice (0x0E00 + k) info c.domain pay
  { note := note, mirrored := false, rseq := s.recorder.tMade + 1, stamp := s.freeVal, boot := BitVec.ofNat 32 s.keep.resetCount }

/-- The snapshot is stored, the oldest leaving for room, or counted while class T is frozen (14 R376, R371); FREEZE_AFTER freezes both classes. A capture that
debug mode has left captures nothing (R374; log 49). -/
def State.endCapture (s : State) (k : Nat) : State :=
  match vget s.recorder.captures none k with
  | none => s
  | some c =>
    let r := s.snapshotOf k c
    let s := s.useFree.modRecorder fun x => { x with captures := vset x.captures k none }
    if !s.debug then s
    else
      let s := s.modRecorder fun x =>
        let x := { x with tMade := x.tMade + 1 }
        if x.tFrozen then { x with tLost := sat32 x.tLost, tLostNow := x.tLostNow + 1 } else { x with snaps := newestFit 262144 (x.snaps ++ [r]) }
      if bit (num c.set_ 0 1) 1 then
        let s := if s.recorder.eFrozen then s else s.freeze false
        if s.recorder.tFrozen then s else s.freeze true
      else s

/-- CAPTURE_END (14 R375, R376). -/
def execCaptureEnd (k : Fin 16) (s : State) : Host.Outcome State Fault Refusal :=
  if s.board.phase ≠ .ready then .next s else .next (s.endCapture k)

end Sys2Proof.Machine
end

