-- ==== Sys2Proof/Machine/Halt.lean ====
section
/-!
DEFINITION. What stops the whole device: the save of the keep store (11 R310 to R314), supply sag, fatal stop (13 R358, R410), thermal trip (16 R407), AVSBus failure
(R399), PERST# (13 R345) and the loss of VDD_IO (16 R401).
-/
namespace Sys2Proof.Machine

/-- The newest complete save area: false area 0, true area 1 (11 R315). -/
def Keep.newest (x : Keep) : Option (Bool × Save) :=
  match x.area0, x.area1 with
  | none, none => none
  | some a, none => some (false, a)
  | none, some b => some (true, b)
  | some a, some b => if a.saveSeq < b.saveSeq then some (true, b) else some (false, a)

/-- Writes the save area that does not hold the newest complete save; a save that VKEEP does not carry to its header leaves it incomplete (11 R311, R313). -/
def Keep.write (x : Keep) (v : Save) (saved : Bool) : Keep :=
  let area := if saved then some v else none
  let x := { x with saveSeq := v.saveSeq, torn := !saved }
  match x.newest with
  | some (false, _) => { x with area1 := area }
  | _ => { x with area0 := area }

/-- RATIOS of a save (11 R314). -/
def State.ratioBits (s : State) : Nat := s.steward.ratio.w + 4 * s.steward.ratio.e

/-- A ring's row of a save (11 R314). -/
def State.ringSave (s : State) (r : Nat) : RingSave :=
  let x := s.ring r
  { enabled := x.enabled, owner := s.owner r, accepted := x.sqAccepted, tail := x.cqTail, head := x.cqHead, seqBase := x.seqBase, nextSeq := x.nextSeq }

/-- A Distaff's row of a save (11 R314). -/
def State.runSave (s : State) (d : Nat) : Option RunSave :=
  (s.run d).map fun r => { ring := r.ring, saving := s.savingOn d r, ckptSpace := r.header.ckptSpace, seq := r.seq, ckptBase := r.header.ckptBase,
                           ckptLength := r.header.ckptLength }

/-- The content of a save (11 R314); its records are the SAG record and the save buffer, newest first. -/
def State.saveOf (s : State) (cause : Nat) (sag : Record) : Save :=
  { cause := cause, ratios := s.steward.ratio, saveSeq := s.keep.saveSeq + 1, powerOn := s.keep.powerOn, jseq := s.dict.jseq, vdd := s.steward.vdd,
    rings := (List.range 64).map s.ringSave,
    ledger := (List.range 64).map fun r => let x := s.ring r; (x.chainHead, x.chainIndex, x.lastLedgerSeq, x.entriesAtSeal),
    running := (List.range 8).map s.runSave, groupStates := s.noise.groups.toList.map fun g => BitVec.ofNat 32 g.word, halves := s.noise.half,
    holds := s.noise.holds, journal := s.dict.journal, records := sag :: s.recorder.saveBuffer.reverse }

/-- The output buffers of hanks in execution hold undefined content (13 R345, R355): free values (log 2). SRAM is lost at the next start. -/
def State.spoilRun (s : State) (r : Run) : State :=
  (List.range r.bufs.length).foldl (fun s i => match r.bufs[i]? with
    | some b => if (b.kind = 1 || b.kind = 2) && b.space ≠ 0 then s.spoilIdx r i 0 b.length else s
    | none => s) s

/-- Every engine, Distaff and mover halts: what the hanks in execution leave behind (11 R311 step 2, R313; 13 R345, R355). -/
def State.abandonRuns (s : State) : State :=
  (List.range 8).foldl (fun s d => match s.run d with
    | some r => (s.cutSave d r).spoilRun r
    | none => s) s

/-- A running device halts with ALERT# asserted (11 R304, R313; 13 R358). While PERST# is asserted nothing runs. -/
def State.haltTo (s : State) (halted : Phase) : State :=
  if s.board.phase = .reset then s else { s with board := { s.board with phase := halted, alertSave := true } }

/-- The SAG record (11 R314). -/
def State.sagNotice (s : State) (cause : Nat) : Notice :=
  devNotice 0x0604 fatal 293 (le 1 cause ++ le 1 s.ratioBits ++ zeros 2 ++ le 4 (s.keep.saveSeq + 1))

/-- The save area is written (11 R311 steps 4 and 5). -/
def State.writeSave (s : State) (v : Save) (saved : Bool) : State := { s with keep := s.keep.write v saved }

/-- The save of a device whose records have reached the recorder; the SAG record it writes is the one the recorder takes (11 R311, R314). A save
that ends has outlasted every mirror write (14 R373). -/
def State.saveNow (s : State) (cause : Nat) (saved : Bool) (halted : Phase) : State :=
  let r := s.recordNow (s.sagNotice cause)
  let s := s.useFree
  let v := s.saveOf cause r
  let s := if s.board.phase = .ready then s.abandonRuns else s
  let s := (((s.writeSave v saved).haltTo halted).modRecorder fun x => { x with made := x.made + 1 }).arriveRecord r
  if saved then { s with keep := { s.keep with mirrorOpen := false } } else s

/-- The halt and the save of 11 R311. Records made before the halt have reached the recorder (log 24). -/
def State.saveAndHalt (s : State) (cause : Nat) (saved : Bool) (halted : Phase) : State := s.arriveAll.saveNow cause saved halted

/-- The save of a sag, which may tear a mirror write (11 R311; 14 R373). -/
def State.sagAndHalt (s : State) (cause : Nat) (saved : Bool) : State := s.arriveAll.tearMirror.saveNow cause saved .haltedSag

/-- Requests of an MCTP path that are not served are answered with BUSY (10 R285). -/
def MctpEnd.answerBusy (x : MctpEnd) : MctpEnd :=
  { x with queue := [], out := x.out ++ x.queue.map (fun q => respondTo q.1 q.2 8 []) }

/-- Management requests in progress when a sag begins are answered with BUSY on every path (10 R285). -/
def Dictionary.answerBusy (x : Dictionary) : Dictionary :=
  { x with bar0 := [], slots := x.slots.map (fun (y : Slot) => if y.busy.isSome then { y with busy := none, code := 8 } else y), i3c := x.i3c.answerBusy,
           vdm := x.vdm.answerBusy }

/-- Causes of a sag that count: SAG_IN# only while SAG_IN_ENABLE is 1 (11 R310). -/
def State.sagCause (s : State) (cause : Nat) : Nat := if s.entry 0x6000 0x44 = 1 then cause else cause % 8

/-- SUPPLY_SAG (11 R310, R311, R313; 13 R346). LPDDR5X contents carry no promise from then on: they read as memory nothing has written (log 4). A rail that
leaves its range while PERST# is asserted is a loss of power, with detection off too (16 R401). A sag of a halted device saves to the other area (11 R313); while PERST# stays asserted
after a save, detection is off (13 R346). -/
def execSupplySag (cause : BitVec 4) (saved : Bool) (s : State) : Host.Outcome State Fault Refusal :=
  let c := s.sagCause cause.toNat
  let inReset := s.board.phase = .reset
  if c = 0 then .next s
  else if inReset && s.board.sagOff then .next (if c % 8 = 0 then s else { s with board := { s.board with coldNext := true } })
  else
    let s := (s.modDict Dictionary.answerBusy).sagAndHalt c saved
    let s := s.modMem fun m => { m with lp := [], poison := m.poison.filter (fun p => p.1 ≠ 1), upsets := m.upsets.filter fun p => p.1 ≠ 1 }
    .next (if inReset then { s with board := { s.board with sagOff := true, coldNext := s.board.coldNext || c ≠ 8 } } else s)

/-- FATAL_STOP payload (13 R410). -/
def fatalPayload (cause half sensor unit address : Nat) : Bytes :=
  le 1 cause ++ le 1 half ++ le 1 sensor ++ le 1 unit ++ zeros 4 ++ le 8 address

/-- The fatal stop: the FATAL record, the halt and the save with CAUSE 0 (13 R358). -/
def State.fatalStop (s : State) (domain : Nat) (pay : Bytes) (saved : Bool) : State :=
  (s.emit (devNotice 0x0B04 fatal domain pay)).saveAndHalt 0 saved .haltedFatal

/-- HALF of R410. -/
def halfCode : Option Half → Nat
  | none => 0xFF
  | some h => halfNo h

/-- FATAL_STOP for causes 0 to 4 (13 R358, R410). The reporting block's domain is not given: a free value (log 2). -/
def execFatalStop (cause : Fin 5) (half : Option Half) (distaff : Fin 8) (address : BitVec 64) (saved : Bool) (s : State) :
    Host.Outcome State Fault Refusal :=
  if s.board.phase ≠ .ready then .next s
  else
    let pay := fatalPayload cause (halfCode half) 0xFF (if cause.val = 3 then distaff.val else 0xFF) (if cause.val = 0 then address.toNat else 0)
    .next (s.useFree.fatalStop (if cause.val = 3 then 170 + distaff.val else s.freeVal.toNat % 296) pay saved)

/-- A read of SRAM by the device itself meets an uncorrectable word: the fatal stop (08 R217; 13 R358, R410). The reporting block's domain and HALF are not given:
free values (log 2). -/
def State.deviceReadFatal (s : State) (address : Nat) : State :=
  let v := s.freeVal.toNat
  s.useFree.fatalStop (v % 296) (fatalPayload 0 ([0, 1, 0xFF].getD (v / 296 % 3) 0xFF) 0xFF 0xFF address) true

/-- THERMTRIP: THERMTRIP# is latched and the device takes the fatal stop, a halted one too (16 R407; 13 R358, R410); sensors 0 to 5 lie West (log 25). In reset
nothing runs. -/
def execThermtrip (sensor : Fin 12) (celsius : Int) (s : State) : Host.Outcome State Fault Refusal :=
  if celsius < 115 then .next s
  else
    let s' := { s with board := { s.board with thermtrip := true } }
    if s.board.phase = .reset || s.board.thermtrip then .next s'
    else
      let note := devNotice 0x0B04 fatal (s.freeVal.toNat % 296) (fatalPayload 5 (if sensor.val < 6 then 0 else 1) sensor 0xFF 0)
      .next ((s'.useFree.emit note).saveAndHalt 0 true (if s.board.phase = .haltedSag then .haltedSag else .haltedFatal))

/-- A half goes out of service: no logical unit of it is hosted (06 R151, R170). -/
def Units.dropHalf (x : Units) (h : Half) : Units :=
  { x with shape := x.shape.set h 0xFF, fold := x.fold.set h 0, narrow := x.narrow.set h 0,
           hosts := x.hosts.mapIdx fun l p => if halfOfSpindle l = h then 0xFF else p }

/-- Three voltage writes were not acknowledged: the half is out of service, and the FATAL record is written (16 R399; 13 R358). -/
def State.avsRecord (s : State) (h : Half) : State :=
  let s := s.modSteward fun x => { x with out := x.out.set h true, avsTries := x.avsTries.set h 0 }
  ({ s with units := s.units.dropHalf h }).emit (devNotice 0x0B04 fatal 293 (fatalPayload 6 (halfNo h) 0xFF 0xFF 0))

/-- The device then stops (16 R399; 13 R358). -/
def State.avsFatal (s : State) (h : Half) : State := (s.avsRecord h).saveAndHalt 0 true .haltedFatal

/-- AVS_WRITE_TIMEOUT: two retries; the third failure takes the half out of service and stops the device (16 R399). -/
def execAvsWriteTimeout (h : Half) (s : State) : Host.Outcome State Fault Refusal :=
  if s.board.phase ≠ .ready then .next s
  else
    let n := s.steward.avsTries.get h + 1
    let s := s.modSteward fun x => { x with avsTries := x.avsTries.set h n }
    if n < 3 then .next s else .next (s.avsFatal h)

/-- Requests that wait are discarded without a response (10 R285). -/
def Dictionary.discard (x : Dictionary) : Dictionary :=
  { x with bar0 := [], slots := x.slots.map (fun (y : Slot) => { y with busy := none }), i3c := { x.i3c with queue := [] }, vdm := { x.vdm with queue := [] } }

/-- The device halts without a save and keeps the packages in self-refresh (13 R345, 08 R229); the link is down, and waiting requests are discarded
(10 R285). -/
def State.resetHalt (s : State) : State :=
  if s.board.phase = .reset then s
  else
    let s := (if s.board.phase = .ready then s.abandonRuns else s).tearMirror
    { s.modDict Dictionary.discard with board := { s.board with phase := .reset, alertSave := false, selfRefresh := true, linkWidth := 0, linkSpeed := 0 } }

/-- PERST_ASSERT (13 R345). When a sag save has been taken, detection stays off until the next start: one power-down takes one save (R346). -/
def execPerstAssert (s : State) : Host.Outcome State Fault Refusal :=
  if s.board.perst then .next s
  else
    let off := s.board.phase = .haltedSag || s.board.sagOff
    let s := s.resetHalt
    .next { s with board := { s.board with perst := true, sagOff := off } }

/-- What a loss of every rail leaves: keep store, flash, fuses, host memory, and the straps and records of the board (13 R344). -/
def State.kept (s : State) : State :=
  { State.reset with
    pending := s.pending, keep := { s.keep with report := none, state := 0 }, out := s.out,
    mem := { Memory.reset with host := s.mem.host },
    dict := { Dictionary.reset with jseq := s.dict.jseq, restoreMark := s.dict.restoreMark, areas := s.dict.areas },
    steward := { Steward.reset with planCount := s.steward.planCount },
    image := { Image.reset with slotA := s.image.slotA, slotB := s.image.slotB, copy0 := s.image.copy0, copy1 := s.image.copy1, minSvn := s.image.minSvn,
                                revoked := s.image.revoked } }

/-- VDD_IO_LOSS: VDD_IO falls before the core rails, everything volatile is lost, no save is taken, and the next start is cold (16 R401). With no complete
area in the keep store KEEP_STATE will read 3. Every input
holds its state (R396). -/
def execVddIoLoss (s : State) : Host.Outcome State Fault Refusal :=
  let s := (if s.board.phase = .ready then s.abandonRuns else s).tearMirror
  let k := s.kept
  .next { k with keep := { k.keep with torn := k.keep.torn || k.keep.newest.isNone }, board := { k.board with perst := s.board.perst, i3cSa := s.board.i3cSa } }

end Sys2Proof.Machine
end

