-- ==== Sys2Proof/Machine/AnnealRun.lean ====
section
/-!
DEFINITION. ANNEAL and SAMPLE: their records (07 R204, R205), steps and step ends (02 R44 to R51), the Open engine (03 R68 to R75), the Colourfast walk (R76 to R81),
the stop on a noise timeout (04 R102).
-/
namespace Sys2Proof.Machine

/-- An output buffer of a record: none, or a writable buffer long enough (07 R204). -/
def Run.outOk (r : Run) (b need : Nat) : Bool := b = 0x3F || (match r.buf b with
  | some x => x.kind ≠ 0 && decide (need ≤ x.length)
  | none => false)

/-- A run with nothing of either record in it. -/
def AnnealRun.blank (d k : Nat) (r : Run) (prob : Nat) : AnnealRun :=
  { distaff := d, word := k, problem := prob, colourfast := r.header.mode = 1, sample := false, startWait := false, waitHeld := false, decided := false, rule := 0,
    dist := 0, permuted := false, stream := 0, tangleGuard := false, first := 0, step := 0, last := 0, resumed := false, sweeps := 0, exch := false, cum := 0, states8 := false,
    traceStride := 0, traceCount := 0, traceTrunc := false, outs := [], temp := 0, burn := 0, interval := 1, exchEvery := 0, mask := 0, second := false,
    outFp := false, w0 := 0, nw := 0, exchDrew := false, tfx := [], bfx := [], passes := ⟨0, 0⟩, seen := ⟨[], []⟩, arriving := ⟨[], []⟩,
    deciding := ⟨[], []⟩, pace := ⟨0, 0⟩, tokens := ⟨[], []⟩, walks := [], evals := [], crossed := ⟨false, false⟩, savePending := none }

/-- What RULE, DIST and ORDER must meet in both records (07 R204, R205), with the ladder check (02 R43) and the codebook blocks (03 R60). -/
def commonOk (q : Problem) (b : Bytes) : Bool :=
  num b 0 1 ≤ 2 && num b 1 1 ≤ 2 && (num b 1 1 = 0 || num b 0 1 = 2) && num b 2 1 ≤ 1 && q.plies ≤ q.ladder.length && q.blocksOk

/-- An ANNEAL record within its rules (07 R204). -/
def annealRecordOk (r : Run) (q : Problem) (b : Bytes) : Bool :=
  let out := fun k need => r.outOk (num b (20 + k) 1) need
  let states := q.plies * (q.pad / 8)
  let int8 := if bit (num b 3 1) 1 then q.plies * q.pad else 0
  commonOk q b && num b 3 1 ≤ 3 && num b 6 2 = 0 && allZero (slice b 26 38) && decide (num b 12 4 < q.steps) &&
  (bit (num b 3 1) 0 || num b 8 4 ≤ num b 12 4) && out 0 states && out 1 states && out 2 (64 * q.plies) && out 3 0 && out 4 int8 && out 5 int8

/-- The ANNEAL a record asks for. -/
def AnnealRun.ofAnneal (a : AnnealRun) (q : Problem) (b : Bytes) (guard : Bool) : AnnealRun :=
  let resume := bit (num b 3 1) 0
  let t := if resume then q.resumeStep else num b 8 4
  { a with rule := num b 0 1, dist := num b 1 1, permuted := num b 2 1 = 1, stream := num b 4 2, tangleGuard := guard, first := t, step := t,
           last := num b 12 4, resumed := resume, states8 := bit (num b 3 1) 1, traceStride := num b 16 4, traceCount := if resume then q.tracePos else 0,
           traceTrunc := resume && q.traceCut,
           outs := (slice b 20 6).map BitVec.toNat }

/-- A SAMPLE record within its rules (07 R205; 02 R43, R50, R51; 03 R58, R79). -/
def sampleRecordOk (r : Run) (q : Problem) (b : Bytes) : Bool :=
  let second := bit (num b 3 1) 1
  let nw := num b 36 4
  let total := num b 12 4 + num b 16 4 * num b 6 2
  commonOk q b && num b 3 1 ≤ 7 && num b 22 2 = 0 && allZero (slice b 44 20) && tempOk (num b 8 4) && num b 6 2 ≠ 0 &&
  decide (1 ≤ num b 16 4 ∧ num b 16 4 < 2 ^ 31) && num b 24 8 % 2 ^ q.plies ≠ 0 &&
  (if second then num b 32 4 % 1024 = 0 && nw % 1024 = 0 && nw ≠ 0 && num b 32 4 + nw ≤ q.pad && q.plies * q.m ≤ 7168 else num b 41 1 = 0x3F) &&
  (r.header.mode = 0 || decide (total < 2 ^ 40)) && r.outOk (num b 40 1) (8 * q.n) && r.outOk (num b 41 1) (if second then 8 * nw * nw else 0) &&
  r.outOk (num b 42 1) (64 * q.plies) && r.outOk (num b 43 1) (q.plies * (q.pad / 8))

/-- The SAMPLE a record asks for; its steps are sweeps (03 R79; 02 R50). -/
def AnnealRun.ofSample (a : AnnealRun) (q : Problem) (b : Bytes) (guard : Bool) : AnnealRun :=
  let resume := bit (num b 3 1) 0
  let c := if resume then q.resumeStep * 65536 + q.resumeSweep else 0
  { a with sample := true, rule := num b 0 1, dist := num b 1 1, permuted := num b 2 1 = 1, stream := num b 4 2, tangleGuard := guard, first := c,
           step := c, resumed := resume, last := num b 12 4 + num b 16 4 * num b 6 2, outs := (slice b 40 4).map BitVec.toNat, temp := BitVec.ofNat 32 (num b 8 4),
           burn := num b 12 4, interval := num b 6 2, exchEvery := num b 20 2, mask := BitVec.ofNat 64 (num b 24 8), second := bit (num b 3 1) 1,
           outFp := bit (num b 3 1) 2, w0 := num b 32 4, nw := num b 36 4 }

/-- Buffer index of an output, 0x3F for none. -/
def AnnealRun.out (a : AnnealRun) (k : Nat) : Nat := a.outs.getD k 0x3F

/-- (t, sw) that a sweep's draws name: a SAMPLE's sweep count stands for the pair (03 R79). -/
def AnnealRun.at_ (a : AnnealRun) (sweep : Nat) : Nat × Nat := if a.sample then (a.step / 65536, a.step % 65536) else (a.step, sweep)

/-- N_S: the contributions made by sweep count c (02 R50, R51). -/
def AnnealRun.contributions (a : AnnealRun) (q : Problem) (c : Nat) : Nat :=
  (c - a.burn) / a.interval * ((List.range q.plies).filter fun k => a.mask.getLsbD k).length

/-- Sets the running ANNEAL or SAMPLE. -/
def State.setAnneal (s : State) (a : AnnealRun) : State := { s with anneal := some a }

/-- Begins a step: its sweeps, exchange, temperatures and fresh passes and walks (02 R44, R50). `done` sweeps of it are already retired. -/
def State.beginStep (s : State) (r : Run) (q : Problem) (a : AnnealRun) (passes : Halves Nat) (done : Nat) : AnnealRun :=
  let st := if a.sample then (a.temp, 1, a.exchEvery ≠ 0 && (a.step + 1) % a.exchEvery = 0) else s.schedStep r q a.step
  let t := q.temps st.1
  { a with sweeps := st.2.1, exch := st.2.2, cum := a.cum + st.2.1, tfx := t.map fun x => x.1, bfx := t.map fun x => x.2, passes := passes,
           seen := ⟨[], []⟩, evals := [],
           walks := (List.range q.plies).map fun p => { sweep := done, position := 0, retired := 0, commits := ((a.walks[p]?).map fun w => w.commits).getD 0 } }

/-- SWEEPS of steps 0 to t − 1 (02 R49). -/
def State.sweepsBefore (s : State) (r : Run) (q : Problem) (t : Nat) : Nat := (List.range t).foldl (fun n u => n + (s.schedStep r q u).2.1) 0

/-- Where an output range starts in bytes of a summary. -/
def summaryBytes (q : Problem) (a : AnnealRun) (x : PlyStat) (final best : Int) : Bytes :=
  let cf := a.colourfast
  let z := fun v => if cf then 0 else v
  le 8 (wrap 64 final) ++ le 8 (wrap 64 best) ++ le 4 (if a.sample then a.step / 65536 else x.bestStep) ++
  le 2 (if a.sample then a.step % 65536 else x.bestSweep) ++ le 1 x.ladderSlot ++ le 1 ((if a.traceTrunc then 1 else 0) + if q.qubo then 2 else 0) ++
  le 8 x.flips ++ le 4 (z (min x.tanglesHalf 0xFFFFFFFF)) ++ le 4 (z (min x.tanglesSeam 0xFFFFFFFF)) ++ le 4 (z x.noiseHolds) ++ le 4 x.exchTries ++
  le 4 x.exchAccepts ++ le 4 (q.userEnergy final) ++ le 4 (q.userEnergy best) ++ zeros 4

/-- One moment as it is written at the end (02 R51): no value is stated for a mean of no contribution (log 2). -/
def momentBytes (fp : Bool) (ns : Nat) (free : Bytes) (m : Int) : Bytes :=
  if !fp then le 4 (wrap 32 m) else if ns = 0 then free else le 4 (fp32.round (decide (m < 0)) m.natAbs ns)

/-- Writes the output of a moment buffer over its 64-bit sums (02 R51). -/
def State.finishMoments (s : State) (r : Run) (k b count ns : Nat) (fp : Bool) : State × Option Failure :=
  match r.buf b with
  | none => (s, none)
  | some x =>
    let g := s.readIdx r k b 0 (8 * count)
    let sums := g.bytes.toArray
    let f := g.st.freeBytes (if fp && ns = 0 then 4 else 0)
    let out := (List.range count).flatMap fun i => momentBytes fp ns f.1 (signed 64 (arrNum sums (8 * i) 8))
    (f.2.writeIdx r b 0 (out ++ zeros (x.length - out.length)), g.fail)

/-- Adds one state's products to a moment buffer's 64-bit sums (02 R51; 03 R58). -/
def State.addMoments (s : State) (r : Run) (k b count : Nat) (v : Nat → Int) : State × Option Failure :=
  if b = 0x3F then (s, none)
  else
    let g := s.readIdx r k b 0 (8 * count)
    let sums := g.bytes.toArray
    (g.st.writeIdx r b 0 ((List.range count).flatMap fun i => le 8 (wrap 64 (signed 64 (arrNum sums (8 * i) 8) + v i))), g.fail)

/-- One contribution of a ply to the moments (02 R51). -/
def State.contribute (s : State) (r : Run) (q : Problem) (a : AnnealRun) (p : Nat) : State × Option Failure :=
  let up := fun i => spin (q.plus p i)
  let x := s.addMoments r a.word (a.out 0) q.n up
  let y := if a.second then x.1.addMoments r a.word (a.out 1) (a.nw * a.nw) fun i => up (a.w0 + i / a.nw) * up (a.w0 + i % a.nw) else (x.1, none)
  (y.1, firstFail x.2 y.2)

/-- The outputs of an ANNEAL or SAMPLE for the state reached (02 R48, R51, R52; 07 R205). -/
def State.writeOutputs (s : State) (d : Nat) (r : Run) (q : Problem) (a : AnnealRun) : State × Option Failure :=
  let bias := s.checkBiases q a.problem (List.range 128)
  let s := bias.1
  let es := s.energies q a.problem
  let sum := fun (f : Int → PlyStat → Int) => (List.zipWith (fun e (x : PlyStat) => summaryBytes q a x e (f e x)) es q.stats).flatten
  let finals := (List.range q.plies).flatMap fun p => bitVector q.pad (q.plus p)
  if a.sample then
    let ns := a.contributions q a.step
    let s := (s.writeIdx r (a.out 2) 0 (sum fun e _ => e)).writeIdx r (a.out 3) 0 finals
    let m1 := if a.out 0 = 0x3F then (s, none) else s.finishMoments r a.word (a.out 0) q.n ns a.outFp
    let m2 := if !a.second || a.out 1 = 0x3F then (m1.1, none) else m1.1.finishMoments r a.word (a.out 1) (a.nw * a.nw) ns a.outFp
    ((if !a.outFp && decide (2 ^ 31 - 1 < ns) then m2.1.setIntOverflow d else m2.1), firstFail bias.2 (firstFail m1.2 m2.2))
  else
    let s := ((s.writeIdx r (a.out 0) 0 finals).writeIdx r (a.out 1) 0 (q.stats.flatMap fun x => bitVector q.pad x.best.contains)).writeIdx
      r (a.out 2) 0 (sum fun _ x => x.bestEnergy)
    let s := if a.states8 then
        (s.writeIdx r (a.out 4) 0 ((List.range q.plies).flatMap fun p => intVector q.n q.pad (q.plus p))).writeIdx r (a.out 5) 0
          (q.stats.flatMap fun x => intVector q.n q.pad x.best.contains)
      else s
    (s, bias.2)

/-- A seam lag of tokens that crossed: a time, at most 6 (03 R75, log 2). -/
def State.seamLag (s : State) (crossed : Bool) : Nat × State := if crossed then (s.freeVal.toNat % 7, s.useFree) else (0, s)

/-- The word of an ANNEAL or SAMPLE has run to its end: its draw record, seam lags and failure (12 R326; 03 R75, R83). One that ends in a failure has completed for
LAST_SEAM_LAG too (DESIGN CHOICE, log 41). -/
def State.endAnneal (s : State) (a : AnnealRun) (last : Option Nat) (fail : Option Failure) : State :=
  let we := s.seamLag a.crossed.w
  let ew := we.2.seamLag a.crossed.e
  let s := ew.2
  let cls := 1 + (if a.permuted then 2 else 0) + if a.exchDrew then 4 else 0
  let plies := ((s.run a.distaff).bind fun r => (r.problem a.problem).map fun q => q.plies).getD 0
  let recs := fun (r : Run) => match last with
    | some l => if a.colourfast then [({ word := a.word, key := r.keyIndex.getD 0, classes := cls, stream := a.stream, first := a.first, last := l,
                                          plies := 2 ^ plies - 1 } : DrawRec)] else []
    | none => []
  let s := s.modRun a.distaff fun r => { r with draws := r.draws ++ recs r, lagWE := max r.lagWE we.1, lagEW := max r.lagEW ew.1 }
  let s := if a.colourfast then s else s.modDict fun x => { x with lastLag := ⟨we.1, ew.1⟩ }
  let s := { s with anneal := none, noise := { s.noise with holdTimer := ⟨false, false⟩ } }
  s.modIssued a.distaff a.word fun i => { i with ran := true, noiseWait := false, failure := fail }

/-- The run ends with its outputs; a read that fails among them fails the word. -/
def State.finishAnneal (s : State) (r : Run) (q : Problem) (a : AnnealRun) (last : Option Nat) : State :=
  let x := s.writeOutputs a.distaff r q a
  (x.1.setProblem a.distaff a.problem q).endAnneal a last x.2

/-- A word met an uncorrectable read: it fails, and the destinations of its outputs are undefined (07 R185; 08 R217; log 2). -/
def State.spoilAnneal (s : State) (r : Run) (a : AnnealRun) (last : Option Nat) (f : Failure) : State :=
  let s := a.outs.foldl (fun s b => match r.buf b with
    | some x => if b = 0x3F then s else s.spoilIdx r b 0 x.length
    | none => s) s
  s.endAnneal a last (some f)

/-- A step begins once the schedule has been read from step `lo` on; a bad word of it fails the word (07 R203; 08 R217). -/
def State.enterStep (s : State) (r : Run) (q : Problem) (a : AnnealRun) (passes : Halves Nat) (done lo : Nat) : State :=
  if a.sample then s.setAnneal (s.beginStep r q a passes done)
  else
    let c := s.checkSched r a.word q lo a.step
    match c.2 with
    | some f => c.1.spoilAnneal r a (if lo = 0 then none else some (a.step - 1)) f
    | none => c.1.setAnneal (c.1.beginStep r q a passes done)

/-- A pending STATE.SAVE with PAUSE saves at this settle point (07 R209; 12 R337); a host abort has stopped it (R338). -/
def State.settleSave (s : State) (r : Run) (q : Problem) (a : AnnealRun) : State × AnnealRun :=
  match a.savePending with
  | none => (s, a)
  | some k =>
    let s := s.setProblem a.distaff a.problem q
    let x := if r.aborted.isSome then (s, none) else s.saveCheckpoint a.distaff r k false (vset r.problems a.problem (some q))
    (x.1.modIssued a.distaff k fun i => { i with ran := true, failure := x.2 }, { a with savePending := none })

/-- Where a resume goes on (12 R334): the step and sweep after `c` steps or sweeps. -/
def Problem.resumeAt (q : Problem) (a : AnnealRun) (c sweep : Nat) : Problem :=
  let p := if a.sample then (c / 65536, c % 65536) else (c, sweep)
  { q with resumeStep := p.1, resumeSweep := p.2, resumePasses := ⟨0, 0⟩, tracePos := a.traceCount, traceCut := a.traceTrunc }

/-- Best states after a step's energies (02 R46). -/
def Problem.keepBest (q : Problem) (a : AnnealRun) (es : List Int) : Problem :=
  { q with stats := q.stats.mapIdx fun p x =>
      let e := es.getD p 0
      if e < x.bestEnergy then { x with bestEnergy := e, bestStep := a.step, bestSweep := a.sweeps, best := q.ups p } else x }

/-- Trace entries of an energy point (02 R49): while the buffer has room, then TRACE_TRUNC. A point that fits in part is written in part, and only a dropped entry
sets the flag (DESIGN CHOICE, log 41). -/
def State.writeTrace (s : State) (r : Run) (a : AnnealRun) (es : List Int) : State × AnnealRun :=
  match r.buf (a.out 3) with
  | some b =>
    if a.out 3 = 0x3F || a.traceStride = 0 || a.cum % a.traceStride ≠ 0 then (s, a)
    else
      let n := min es.length (b.length / 8 - a.traceCount)
      let s := s.writeIdx r (a.out 3) (8 * a.traceCount) ((es.take n).flatMap fun e => le 8 (wrap 64 e))
      (s, { a with traceCount := a.traceCount + n, traceTrunc := a.traceTrunc || decide (n < es.length) })
  | none => (s, a)

/-- Exchange at a step's end or a sweep's end (02 R47, R50; 04 R98, R109). -/
def State.stepExchange (s : State) (r : Run) (q : Problem) (a : AnnealRun) : Problem × AnnealRun × State :=
  if !a.exch then (q, a, s)
  else
    let index := if a.sample then (a.step + 1) / a.exchEvery else a.step
    let odd := index % 2 = 1
    let x := s.exchangeNow a.colourfast (r.key.getD 0) a.stream index a.problem q odd a.bfx
    (x.1, { a with exchDrew := a.exchDrew || !(exchPairs q.plies odd).isEmpty }, x.2.2)

/-- The moment tiles of a SAMPLE lie in the slots that no field occupies; how they stand there between drains is not stated: free values (03 R58; log 2, 46). -/
def State.momentTiles (s : State) (q : Problem) : State :=
  let top := q.plies * q.m
  let n := s.out.free
  let tile := fun (u l : Nat) (x : Sparse (BitVec 40)) =>
    if top < 1024 * l + 1024 then
      Sparse.replace 0 x 0 1024 fun c => if 1024 * l + c < top then Sparse.get 0 x c else (Config.freeValue (n + 8192 * u + 1024 * l + c)).setWidth 40
    else x
  { s with units := { s.units with spindles := s.units.spindles.mapIdx fun u (x : Spindle) => { x with lanes := x.lanes.mapIdx (tile u) } },
           out := { s.out with free := n + 1048576 } }

/-- The end of a step: energies, best states, trace and exchange, then the next step or the end (02 R44, R50; 03 R71, R76). -/
def State.stepEnd (s : State) (r : Run) (q : Problem) (a : AnnealRun) : State :=
  let bias := s.checkBiases q a.problem (List.range 128)
  let s := bias.1
  let es := s.energies q a.problem
  let point := decide (a.burn < a.step + 1) && (a.step + 1 - a.burn) % a.interval = 0
  let mom := if a.sample && point then
      ((List.range q.plies).filter fun p => a.mask.getLsbD ((q.stats[p]?.map fun x => x.ladderSlot).getD 0)).foldl
        (fun (acc : State × Option Failure) p => let y := acc.1.contribute r q a p; (y.1, firstFail acc.2 y.2)) ((if a.second then s.momentTiles q else s), bias.2)
    else (s, bias.2)
  let q := if a.sample then q else q.keepBest a es
  let tr := if a.sample then (mom.1, a) else mom.1.writeTrace r a es
  let ex := tr.1.stepExchange r q tr.2
  let a := ex.2.1
  let q := ex.1.resumeAt a (a.step + 1) 0
  match mom.2 with
  | some f => (ex.2.2.setProblem a.distaff a.problem q).spoilAnneal r a (some a.step) f
  | none =>
    let sv := ex.2.2.settleSave r q a
    let s := sv.1
    let a := sv.2
    if (if a.sample then a.last ≤ a.step + 1 else a.last ≤ a.step) then
      s.finishAnneal r q (if a.sample then { a with step := a.step + 1 } else a) (some a.step)
    else (s.setProblem a.distaff a.problem q).enterStep r q { a with step := a.step + 1 } ⟨0, 0⟩ 0 (a.step + 1)

/-- The present run with its hank and problem. -/
def State.engine (s : State) : Option (AnnealRun × Run × Problem) :=
  match s.board.phase, s.anneal with
  | .ready, some a => (s.run a.distaff).bind fun r => (r.problem a.problem).map fun q => (a, r, q)
  | _, _ => none

/-- A SAMPLE's sums start at zero, unless it resumes (02 R51; 12 R341). -/
def State.zeroSums (s : State) (r : Run) (q : Problem) (a : AnnealRun) : State :=
  let zero := fun (s : State) b count => if b = 0x3F then s else s.writeIdx r b 0 (zeros (8 * count))
  if a.sample && !a.resumed then let s := zero s (a.out 0) q.n; if a.second then zero s (a.out 1) (a.nw * a.nw) else s else s

/-- Starts the steps: the lanes load in Open (04 R97) and the first step begins where it must (12 R341). -/
def State.beginAnneal (s : State) (r : Run) (q : Problem) (a : AnnealRun) : State :=
  let s := if a.colourfast then s else s.loadLanes
  let a := { a with startWait := false, cum := if a.sample then a.first else s.sweepsBefore r q a.first }
  if (if a.sample then a.last ≤ a.first else a.last < a.first) then s.finishAnneal r q a none
  else
    s.enterStep r q a (if a.resumed then q.resumePasses else ⟨0, 0⟩) (if a.resumed && !a.sample then q.resumeSweep else 0) 0

/-- Both halves are NOISE_READY (04 R100). -/
def State.bothReady (s : State) : Bool := s.noise.half.w = 1 && s.noise.half.e = 1

/-- An Open start wait begins; a half already in NOISE_HOLD counts one hold (04 R100). -/
def State.beginWait (s : State) (q : Problem) (a : AnnealRun) : State :=
  let held := s.noise.half.w = 2 || s.noise.half.e = 2
  let s := s.setAnneal { a with startWait := true, waitHeld := held }
  let q := if held then { q with stats := q.stats.map fun x => { x with noiseHolds := sat32 x.noiseHolds } } else q
  (s.setProblem a.distaff a.problem q).modRun a.distaff fun r =>
    { r with noisePaused := true, holdCount := if held then sat16 r.holdCount else r.holdCount }

/-- ANNEAL and SAMPLE at their start (07 R204, R205; 03 R57; 06 R155; 04 R100, R107). -/
def effAnneal (d : Nat) (sample : Bool) : WordEffect := fun r k w s =>
  match r.problem (anProb w) with
  | none => .done s none
  | some q =>
    let stop := fun (f : State × Failure) => Effect.done f.1 (some f.2)
    if s.anneal.isSome then .wait s
    else if ((r.buf (anParam w)).map fun b => b.length).getD 0 < anOff w + 64 then stop (s.failRange r k)
    else
      let g := s.readIdx r k (anParam w) (anOff w) 64
      let b := g.bytes
      let s := g.st
      let guard := s.entry 0x3010 3 = 1
      let x := AnnealRun.blank d k r (anProb w)
      let a := if sample then x.ofSample q b guard else x.ofAnneal q b guard
      let moments := sample && a.second && decide (8192 < max s.units.fold.w s.units.fold.e * q.plies * q.m + 1024)
      if let some f := g.fail then .done s (some f)
      else if !(if sample then sampleRecordOk r q b else annealRecordOk r q b) then stop (s.failInput r k)
      else if !s.pliesFit q || moments then .done s (some (Failure.plain stShape))
      else if a.colourfast && r.key.isNone then stop (s.failWord r.ring r.seq k stAborted cNoKey)
      else
        let c := s.rebuild r k (anProb w) q
        match c.2 with
        | some f => .started (c.1.spoilAnneal r a none f)
        | none =>
          let s := (c.1.modIssued d k fun i => { i with outs := some a.outs }).zeroSums r q a
          .started (if !a.colourfast && !s.bothReady then s.beginWait q a else s.beginAnneal r q a)

def execAnneal (d : Fin 8) (s : State) : Host.Outcome State Fault Refusal := .next (s.word d .anneal (effAnneal d false))
def execSample (d : Fin 8) (s : State) : Host.Outcome State Fault Refusal := .next (s.word d .sample (effAnneal d true))

/-- OPEN_NOISE_START_WAIT_END (04 R100). -/
def execOpenNoiseStartWaitEnd (s : State) : Host.Outcome State Fault Refusal :=
  match s.engine with
  | some (a, r, q) => if a.startWait && s.bothReady then .next (s.beginAnneal r q a) else .next s
  | none => .next s

/-- Variables of a half that are evaluated (03 R55, R56). -/
def Problem.varsIn (q : Problem) (h : Half) : Nat := match h with
  | .west => min q.n (q.pad / 2)
  | .east => q.n - q.pad / 2

/-- The half of a variable. -/
def Problem.halfOf (q : Problem) (i : Nat) : Half := halfOfSpindle (q.spindleOf i)

/-- A half has finished the passes of its step (03 R71). -/
def AnnealRun.passesDone (a : AnnealRun) (q : Problem) (h : Half) : Bool := a.sweeps ≤ a.passes.get h || q.varsIn h = 0

/-- A request of the variable is pending, or its committed flip has not reached its own Spindle: R68 and R69 end the pending at the answer, and that the slot is skipped
until its own token has been applied is the model's reading (03 R68, R69; log 54). -/
def AnnealRun.pendingVar (a : AnnealRun) (q : Problem) (p i : Nat) : Bool :=
  let h := q.halfOf i
  let mine := fun (x : FlipRequest) => x.ply = p && x.var = i
  (a.arriving.get h).any mine || (a.deciding.get h).any mine || (a.tokens.get h).any fun t => t.ply = p && t.var = i && !t.applied.contains (q.spindleOf i)

/-- The turn of a slot has come; the pass ends with the last slot (03 R68). -/
def AnnealRun.takeTurn (a : AnnealRun) (q : Problem) (h : Half) (id : Nat) : AnnealRun :=
  let seen := id :: a.seen.get h
  if seen.length = q.varsIn h * q.plies then { a with seen := a.seen.set h [], passes := a.passes.set h (a.passes.get h + 1) }
  else { a with seen := a.seen.set h seen }

/-- The committed flips of the ply, coupled to a variable, that its Spindle has not applied: in a half's tokens (03 R72, R73). -/
def State.lacks (s : State) (r : Run) (q : Problem) (a : AnnealRun) (p i : Nat) (h : Half) : Bool :=
  (a.tokens.get h).any fun t => t.ply = p && !t.applied.contains (q.spindleOf i) && decide (s.coef r q i t.var ≠ 0)

/-- One evaluation: the decision on the field as it stands, and a request when it is accepted (03 R68, R69, R73). A coupled commit that its Spindle has not applied,
made before the decision too, marks the request (R72's definition of a tangle; DEDUCED, log 41). -/
def State.evaluate (s : State) (r : Run) (q : Problem) (a : AnnealRun) (p i w cycle : Nat) : AnnealRun :=
  let h := q.halfOf i
  let up := q.plus p i
  let new := decide_ a.rule a.dist up (s.field q p i) w (a.tfx.getD p 0) (a.bfx.getD p 0)
  if new = up then a
  else
    let other := match h with
      | .west => Half.east
      | .east => Half.west
    let x : FlipRequest := { ply := p, var := i, up := new, cycle := cycle, staleHalf := s.lacks r q a p i h, staleSeam := s.lacks r q a p i other }
    { a with arriving := a.arriving.set h (a.arriving.get h ++ [x]) }

/-- The noise word of a cell in a cycle (04 R96): the lane's present output while it is of this cycle and the cell's word is unused, a new output in a
later cycle. None when the lane cannot serve it: its re-stir is due, or the word is spent. -/
def LaneKey.serve (k : LaneKey) (ph ln cell cycle : Nat) : Option (Nat × LaneKey) :=
  let fresh := k.outputs = 0 || k.cycle ≠ cycle
  if (fresh && k.outputs ≠ 0 && (k.due || decide (cycle < k.cycle))) || (!fresh && k.used.getLsbD (cell % 8)) then none
  else
    let k := if fresh then k.next ph ln false cycle else k
    some (woadWord k.out.toNat (cell % 8), { k with used := k.used ||| BitVec.ofNat 8 (2 ^ (cell % 8)) })

/-- OPEN_EVALUATION (03 R68): the turn of one occupied slot of a cell. A slot whose request is pending is skipped. -/
def execOpenEvaluation (l : Fin 128) (cell : Fin 1024) (slot : Fin 8) (cycle : Nat) (s : State) : Host.Outcome State Fault Refusal :=
  match s.engine with
  | none => .next s
  | some (a, r, q) =>
    let h := halfOfSpindle l
    let place := fun (k : Nat) => let g := 1024 * k + cell; (g / max 1 q.m, l * q.m + g % max 1 q.m)
    let occupied := fun (k : Nat) => decide ((place k).1 < q.plies) && decide ((place k).2 < q.n)
    let id := fun (k : Nat) => 8192 * l.val + 1024 * k + cell
    let seen := a.seen.get h
    let mine := place slot
    if a.colourfast || a.startWait || a.passesDone q h || s.noise.half.get h ≠ 1 || !occupied slot || seen.contains (id slot) ||
       (List.range slot).any (fun k => occupied k && !seen.contains (id k)) then .next s
    else if a.pendingVar q mine.1 mine.2 then .next (s.setAnneal (a.takeTurn q h (id slot)))
    else
      let ph := s.hostOf l
      match (s.noise.lane ph (cell / 8)).serve ph (cell / 8) cell cycle with
      | none => .next s
      | some w =>
        let a := (s.evaluate r q a mine.1 mine.2 w.1 cycle).takeTurn q h (id slot)
        .next ({ s with noise := s.noise.setLane ph (cell / 8) w.2 }.setAnneal { a with decided := true })

/-- Arbiter order: cycle, then ply, then variable (03 R70). -/
def FlipRequest.before (x y : FlipRequest) : Bool :=
  x.cycle < y.cycle || (x.cycle = y.cycle && (x.ply < y.ply || (x.ply = y.ply && x.var ≤ y.var)))

/-- Inserts a request in arbiter order. -/
def insertRequest (x : FlipRequest) : List FlipRequest → List FlipRequest
  | [] => [x]
  | y :: r => if x.before y then x :: y :: r else y :: insertRequest x r

/-- Pacing of a half in 1/3072 cycle of the slower half: cost of a commit, and length of a window (03 R64; 06 R156). -/
def State.paceCost (s : State) (q : Problem) (h : Half) : Nat := 12 * s.units.fold.get h * q.m * if q.form = 1 then 2 else 1
def State.paceWindow (s : State) (h : Half) : Nat :=
  98304 * (4 - max s.steward.ratio.w s.steward.ratio.e) / max 1 (4 - s.steward.ratio.get h)

/-- Column buffers of 512 KiB that a column takes (03 R67). -/
def Problem.buffersPer (q : Problem) : Nat := if 524288 < columnBytes q.form q.pad then 2 else 1

/-- Columns that still find free buffers (03 R67). -/
def AnnealRun.freeColumns (a : AnnealRun) (q : Problem) : Nat :=
  if !q.spilled then 16 else 8 / q.buffersPer - (a.tokens.w.length + a.tokens.e.length)

/-- SRAM address of a column buffer (08 R212). -/
def columnBuffer (k : Nat) : Nat := 0xFC200000 + k * 524288

/-- The lowest free buffer, or aligned pair of buffers, for a column (03 R67). -/
def AnnealRun.freeBuffer (a : AnnealRun) (q : Problem) : Nat :=
  (((List.range (8 / q.buffersPer)).map (· * q.buffersPer)).find? fun k => !((a.tokens.w ++ a.tokens.e).any fun t => t.buffered && t.buffer = k)).getD 0

/-- How many commits a window admits (03 R64, R67). -/
def State.capacity (s : State) (q : Problem) (a : AnnealRun) (h : Half) : Nat :=
  let c := s.paceCost q h
  ((List.range 16).filter fun k => decide (a.pace.get h + k * c < s.paceWindow h) && decide (k < a.freeColumns q)).length

/-- Two variables are coupled (03 R72): a non-zero code between them. -/
def State.coupled (s : State) (r : Run) (q : Problem) (i j : Nat) : Bool := decide (s.coef r q i j ≠ 0) || decide (s.coef r q j i ≠ 0)

/-- The requests TANGLE_GUARD lets commit (03 R74): a request coupled to a lower one of its ply in the window is returned, also where that one is returned itself
(DESIGN CHOICE, log 41). -/
def State.guarded (s : State) (r : Run) (q : Problem) (xs : List FlipRequest) : List FlipRequest :=
  xs.filter fun x => !x.staleHalf && !(xs.any fun y => y.ply = x.ply && decide (y.var < x.var) && s.coupled r q x.var y.var)

/-- Counts a commit in its ply's summary, as a tangle when it is stale (03 R73). -/
def PlyStat.commit (x : PlyStat) (half seam : Bool) : PlyStat :=
  { x with flips := x.flips + 1, tanglesSeam := if seam then sat32 x.tanglesSeam else x.tanglesSeam,
           tanglesHalf := if half && !seam then sat32 x.tanglesHalf else x.tanglesHalf }

/-- Commits requests one after another (03 R70, R73): the problem's counts and the tokens. -/
def State.commitAll (s : State) (r : Run) (q : Problem) (h : Half) : List FlipRequest → List Token → Problem → List Token × Problem
  | [], ts, p => (ts, p)
  | x :: rest, ts, p =>
    let met := ts.any fun t => t.ply = x.ply && decide (s.coef r q x.var t.var ≠ 0)
    let p := { p with stats := p.stats.modify x.ply fun y => y.commit (x.staleHalf || met) x.staleSeam }
    State.commitAll s r q h rest (ts ++ [{ ply := x.ply, var := x.var, up := x.up, half := h, cseq := 0, buffered := !q.spilled, applied := [] }]) p

/-- One window of an arbiter: it answers the requests of the previous window (03 R69, R70, R74). -/
def State.arbitrate (s : State) (r : Run) (q : Problem) (a : AnnealRun) (h : Half) : AnnealRun × Problem :=
  let sorted := (a.deciding.get h).foldl (fun l x => insertRequest x l) []
  let cand := sorted.take (s.capacity q a h)
  let go := if a.tangleGuard then s.guarded r q cand else cand
  let c := s.commitAll r q h go [] q
  let stale := fun (x : FlipRequest) => if c.1.any fun t => t.ply = x.ply && decide (s.coef r q x.var t.var ≠ 0) then { x with staleHalf := true } else x
  ({ a with deciding := a.deciding.set h ((a.arriving.get h).map stale), arriving := a.arriving.set h [],
            tokens := a.tokens.set h (a.tokens.get h ++ c.1), pace := a.pace.set h (a.pace.get h + go.length * s.paceCost q h - s.paceWindow h) }, c.2)

/-- A flip token as 32 bits (03 R61). -/
def Token.word (t : Token) : Nat := t.ply * 2 ^ 26 + t.var * 2 ^ 6 + (if t.up then 32 else 0) + 16 * halfNo t.half + t.cseq

/-- LAST_TOKEN of an arbiter after a window: its latest token, when it sent one (14 R374). -/
def State.noteToken (s : State) (h : Half) (old new : List Token) : State :=
  match new.getLast?, decide (old.length < new.length) with
  | some t, true => { s with units := { s.units with lastToken := s.units.lastToken.set h (BitVec.ofNat 32 t.word) } }
  | _, _ => s

/-- ARBITER_WINDOW (03 R70). -/
def execArbiterWindow (h : Half) (s : State) : Host.Outcome State Fault Refusal :=
  match s.engine with
  | some (a, r, q) =>
    if a.colourfast || a.startWait then .next s
    else
      let x := s.arbitrate r q a h
      .next (((s.setProblem a.distaff a.problem x.2).setAnneal x.1).noteToken h (a.tokens.get h) (x.1.tokens.get h))
  | none => .next s

/-- A Spindle adds a flip to every field of its ply and, when it holds the variable, writes the state bit (03 R62; 02 R36). -/
def State.addFlip (s : State) (r : Run) (q : Problem) (u : Nat) (t : Token) : State :=
  let base := t.ply * q.m
  let one := fun (l : Nat) (x : Sparse (BitVec 40)) =>
    let lo := max base (1024 * l)
    let hi := min (base + q.m) (1024 * l + 1024)
    if lo < hi then
      Sparse.replace 0 x (lo - 1024 * l) (hi - lo) fun k =>
        BitVec.ofNat 40 (wrap 32 (signed 32 (Sparse.get 0 x (lo - 1024 * l + k)).toNat + s.coef r q (u * q.m + (lo - base + k)) t.var * 2 * spin t.up))
    else x
  s.modSpindle u fun x => { x with lanes := x.lanes.mapIdx one }

/-- A Spindle has applied the next token of an arbiter: the oldest it had not applied (03 R63). -/
def applyFirst (u : Nat) : List Token → List Token
  | [] => []
  | t :: r => if t.applied.contains u then t :: applyFirst u r else { t with applied := u :: t.applied } :: r

/-- What a token's application at a Spindle marks: stale requests in Open, invalid evaluations in Colourfast (03 R73, R80). -/
def State.markToken (s : State) (r : Run) (q : Problem) (a : AnnealRun) (u : Nat) (t : Token) : AnnealRun :=
  let h := halfOfSpindle u
  let hit := fun p i => p = t.ply && q.spindleOf i = u && decide (s.coef r q i t.var ≠ 0)
  let mark := fun (x : FlipRequest) => if hit x.ply x.var then (if t.half = h then { x with staleHalf := true } else { x with staleSeam := true }) else x
  let live := fun (x : Token) => decide (x.applied.length < 128)
  let crossed := if t.half = h then a.crossed else a.crossed.set t.half true
  let evals := a.evals.map fun e => if hit e.ply e.var then { e with valid := false } else e
  { a with arriving := a.arriving.set h ((a.arriving.get h).map mark), deciding := a.deciding.set h ((a.deciding.get h).map mark),
           tokens := a.tokens.set t.half ((applyFirst u (a.tokens.get t.half)).filter live), crossed := if a.colourfast then a.crossed else crossed, evals := evals }

/-- A Spindle applies a token: field additions, state bit and marks (03 R62, R73, R80). A bad column slice fails the word, one in a column buffer is a read of the
device's own and stops it (08 R217). -/
def State.applyToken (s : State) (r : Run) (q : Problem) (a : AnnealRun) (u : Nat) (t : Token) : State :=
  let inBuffer := q.spilled && t.buffered
  let slice := u * columnBytes q.form q.m
  let c := if inBuffer then (s, none) else s.checkStore r a.word q (t.var * columnBytes q.form q.pad + slice) (columnBytes q.form q.m)
  let own := if inBuffer then s.mem.check 0 (columnBuffer t.buffer + slice) (columnBytes q.form q.m) else (c.1.mem, none)
  match c.2, own.2 with
  | some f, _ => c.1.spoilAnneal r a (some a.step) f
  | none, some w => ({ c.1 with mem := own.1 }).deviceReadFatal (8 * w.1)
  | none, none =>
    let s := { c.1 with mem := own.1 }
    let q' := if q.spindleOf t.var = u then q.setSpin t.ply t.var t.up else q
    (((s.addFlip r q u t).setProblem a.distaff a.problem q').setAnneal (s.markToken r q a u t))

/-- A token has crossed the seam: a Spindle of the other half has taken it. -/
def Token.crossed (t : Token) : Bool := t.applied.any fun u => halfOfSpindle u ≠ t.half

/-- The seam FIFO of an arbiter's tokens, 16 entries, and the tokens that wait for a credit behind it (08 R234). -/
def AnnealRun.seamFifo (a : AnnealRun) (h : Half) : List Token := ((a.tokens.get h).filter fun t => !t.crossed).take 16
def AnnealRun.seamHeld (a : AnnealRun) (h : Half) : List Token := ((a.tokens.get h).filter fun t => !t.crossed).drop 16

/-- The tokens of an arbiter that a Spindle can see: in its own half every one, across the seam those that have crossed and those in the FIFO, which keep their
order (03 R63; 08 R234). -/
def AnnealRun.tokensAt (a : AnnealRun) (u : Nat) (h : Half) : List Token :=
  let ts := a.tokens.get h
  if halfOfSpindle u = h then ts else ts.take ((ts.filter Token.crossed).length + (a.seamFifo h).length)

/-- The next token of an arbiter at a Spindle: in the order of commit (03 R63). -/
def AnnealRun.nextToken (a : AnnealRun) (u : Nat) (h : Half) : Option Token := (a.tokensAt u h).find? fun t => !t.applied.contains u

/-- FLIP_TOKEN_APPLY (03 R62, R63). -/
def execFlipTokenApply (l : Fin 128) (h : Half) (s : State) : Host.Outcome State Fault Refusal :=
  match s.engine with
  | some (a, r, q) => match a.nextToken l h with
    | some t => if t.buffered then .next (s.applyToken r q a l t) else .next s
    | none => .next s
  | none => .next s

/-- The oldest commit of an arbiter whose column is not in its buffers takes it, in buffer `k` (03 R67). -/
def bufferFirst (k : Nat) : List Token → List Token
  | [] => []
  | t :: r => if t.buffered then t :: bufferFirst k r else { t with buffered := true, buffer := k } :: r

/-- A column written whole into its buffers leaves no bad word in them (03 R67; 08 R214). -/
def Memory.fillColumn (m : Memory) (k len : Nat) : Memory :=
  let inside := fun sp w => sp = 0 && decide (columnBuffer k ≤ 8 * w ∧ 8 * w < columnBuffer k + len)
  { m with poison := m.poison.filter fun c => !inside c.1 c.2, upsets := m.upsets.filter fun c => !inside c.1 c.2.1 }

/-- SPILL_COLUMN_STREAM (03 R67). A bad word of the column fails the word (08 R217). -/
def execSpillColumnStream (h : Half) (s : State) : Host.Outcome State Fault Refusal :=
  match s.engine with
  | some (a, r, q) => match (a.tokens.get h).find? fun t => !t.buffered with
    | some t =>
      let c := s.checkStore r a.word q (t.var * columnBytes q.form q.pad) (columnBytes q.form q.pad)
      match c.2 with
      | some f => .next (c.1.spoilAnneal r a (some a.step) f)
      | none =>
        let k := a.freeBuffer q
        .next ((c.1.modMem fun m => m.fillColumn k (columnBytes q.form q.pad)).setAnneal { a with tokens := a.tokens.set h (bufferFirst k (a.tokens.get h)) })
    | none => .next s
  | none => .next s

/-- Nothing is pending or in flight (03 R71). -/
def AnnealRun.quiet (a : AnnealRun) : Bool :=
  a.arriving.w.isEmpty && a.arriving.e.isEmpty && a.deciding.w.isEmpty && a.deciding.e.isEmpty && a.tokens.w.isEmpty && a.tokens.e.isEmpty

/-- SETTLE_POINT (03 R71): both halves have stopped and everything is applied; an exchange waits for West to be READY (04 R98, R99). -/
def execSettlePoint (s : State) : Host.Outcome State Fault Refusal :=
  match s.engine with
  | some (a, r, q) =>
    if a.colourfast || a.startWait || !a.passesDone q .west || !a.passesDone q .east || !a.quiet || (a.exch && s.noise.half.w ≠ 1) then .next s
    else .next (s.stepEnd r q a)
  | none => .next s

/-- The downward shuffle from position k (03 R77). -/
def shuffle (key stream p t sw : Nat) : Nat → Array Nat → Array Nat
  | 0, o => o
  | k + 1, o => shuffle key stream p t sw k (o.swapIfInBounds (k + 1) (wPerm key stream p t sw (k + 1) * (k + 2) / 2 ^ 32))

/-- order[v] of a ply's present sweep (03 R77). -/
def AnnealRun.visit (a : AnnealRun) (key : Nat) (q : Problem) (p : Nat) (w : Walk) (v : Nat) : Nat :=
  if a.permuted then let t := a.at_ w.sweep; (shuffle key a.stream p t.1 t.2 (q.n - 1) (Array.range q.n)).getD v 0 else v

/-- The Colourfast decision of a variable on its field as it stands (03 R76, R78). -/
def State.cfDecide (s : State) (q : Problem) (a : AnnealRun) (key p i : Nat) (w : Walk) : Bool :=
  let t := a.at_ w.sweep
  decide_ a.rule a.dist (q.plus p i) (s.field q p i) (wDec key a.stream p t.1 t.2 i) (a.tfx.getD p 0) (a.bfx.getD p 0)

/-- A ply that has retired the sweep a pending save waits for holds there until the others have (12 R337). -/
def AnnealRun.holdsForSave (a : AnnealRun) (w : Walk) : Bool :=
  a.savePending.isSome && w.position = 0 && w.retired = 0 && (a.walks.all fun x => decide (x.sweep ≤ w.sweep)) && a.walks.any fun x => x.sweep < w.sweep

/-- CF_SPECULATIVE_EVALUATION: a position at or ahead of the resolution point, up to 8 windows ahead (03 R80). -/
def execCfSpeculativeEvaluation (ply : Fin 64) (position : Nat) (s : State) : Host.Outcome State Fault Refusal :=
  match s.engine with
  | none => .next s
  | some (a, r, q) => match a.walks[ply.val]?, r.key with
    | some w, some key =>
      if !a.colourfast || a.sweeps ≤ w.sweep || a.holdsForSave w || position < w.position || q.n ≤ position || w.position / 64 + 8 < position / 64 ||
         a.evals.any (fun e => e.ply = ply.val && e.position = position) then .next s
      else
        let i := a.visit key q ply w position
        let e : Evaluation := { ply := ply, position := position, var := i, up := s.cfDecide q a key ply i w, commit := w.commits, valid := true }
        .next (s.setAnneal { a with evals := a.evals ++ [e] })
    | _, _ => .next s

/-- CF_POSITION_RESOLVE (03 R80, R81): every earlier commit of the ply is applied at the position's Spindle; a valid evaluation is final, any other is made
now; a flip commits with the next CSEQ. A spilled commit waits for its column buffers (R67). -/
def execCfPositionResolve (ply : Fin 64) (s : State) : Host.Outcome State Fault Refusal :=
  match s.engine with
  | none => .next s
  | some (a, r, q) => match a.walks[ply.val]?, r.key with
    | some w, some key =>
      let i := a.visit key q ply w w.position
      let u := q.spindleOf i
      let waits := (a.tokens.w ++ a.tokens.e).any fun t => t.ply = ply.val && !t.applied.contains u
      if !a.colourfast || a.sweeps ≤ w.sweep || a.holdsForSave w || q.n ≤ w.position || w.position / 64 ≠ w.retired || waits || a.freeColumns q = 0 then
        .next s
      else
        let up := match a.evals.find? fun e => e.ply = ply.val && e.position = w.position with
          | some e => if e.valid then e.up else s.cfDecide q a key ply i w
          | none => s.cfDecide q a key ply i w
        let evals := a.evals.filter fun e => !(e.ply = ply.val && e.position = w.position)
        let w := { w with position := w.position + 1 }
        if up = q.plus ply i then .next (s.setAnneal { a with evals := evals, walks := a.walks.set ply w })
        else
          let h := q.halfOf i
          let w := { w with commits := w.commits + 1 }
          let t : Token := { ply := ply, var := i, up := up, half := h, cseq := w.commits % 16, buffered := !q.spilled, applied := [] }
          let q := { q with stats := q.stats.modify ply fun x => { x with flips := x.flips + 1 } }
          .next (((s.setProblem a.distaff a.problem q).setAnneal
            { a with evals := evals, walks := a.walks.set ply w, tokens := a.tokens.set h (a.tokens.get h ++ [t]) }).noteToken h [] [t])
    | _, _ => .next s

/-- What follows the retirement of a sweep: the step's end once every ply has retired its sweeps, or a save every ply has reached (03 R76, R81; 12 R337). -/
def State.afterSweep (s : State) (r : Run) (q : Problem) (a : AnnealRun) : State :=
  if a.walks.all fun x => decide (a.sweeps ≤ x.sweep) then s.stepEnd r q a
  else
    let w := (a.walks.head?.map fun x => x.sweep).getD 0
    if a.savePending.isSome && a.walks.all fun x => x.sweep = w && x.position = 0 && x.retired = 0 then
      let q := q.resumeAt a a.step w
      let x := s.settleSave r q a
      (x.1.setProblem a.distaff a.problem q).setAnneal x.2
    else s.setAnneal a

/-- CF_WINDOW_RETIRE (03 R81): every position of the window is resolved and every commit of the ply applied by every Spindle. -/
def execCfWindowRetire (ply : Fin 64) (s : State) : Host.Outcome State Fault Refusal :=
  match s.engine with
  | none => .next s
  | some (a, r, q) => match a.walks[ply.val]? with
    | none => .next s
    | some w =>
      if !a.colourfast || a.sweeps ≤ w.sweep || w.position < min q.n (64 * (w.retired + 1)) || (a.tokens.w ++ a.tokens.e).any (fun t => t.ply = ply.val) then
        .next s
      else if 64 * (w.retired + 1) < q.n then .next (s.setAnneal { a with walks := a.walks.set ply { w with retired := w.retired + 1 } })
      else
        let a := { a with walks := a.walks.set ply { w with sweep := w.sweep + 1, position := 0, retired := 0 }, evals := a.evals.filter fun e => e.ply ≠ ply.val }
        .next (s.afterSweep r q a)

/-- Applies every token in flight of an arbiter at a Spindle, in order (04 R102 step 1). -/
def State.applyTokens (s : State) (u : Nat) (h : Half) : Nat → State
  | 0 => s
  | n + 1 => match s.engine with
    | some (a, r, q) => match a.nextToken u h with
      | some t => State.applyTokens (s.applyToken r q a u t) u h n
      | none => s
    | none => s

/-- Applies every token in flight at every Spindle. -/
def State.applyAll (s : State) : State :=
  let one := fun (h : Half) (s : State) (u : Nat) => s.applyTokens u h ((s.anneal.map fun a => (a.tokens.get h).length).getD 0)
  (List.range 128).foldl (one .east) ((List.range 128).foldl (one .west) s)

/-- Both arbiters answer the requests of a window and every token is applied. -/
def State.drainWindow (s : State) : State :=
  let one := fun (s : State) h => match s.engine with
    | some (a, r, q) =>
      let x := s.arbitrate r q a h
      ((s.setProblem a.distaff a.problem x.2).setAnneal x.1).noteToken h (a.tokens.get h) (x.1.tokens.get h)
    | none => s
  (one (one s .west) .east).applyAll

/-- The stop of an Open ANNEAL or SAMPLE on a noise timeout (04 R102): the pending requests are answered, the fields settle, the outputs are written for the
state reached, and a checkpoint when the header names an area. The word fails with NOISE_FAILED and the record `evRef`. -/
def State.stopAnneal (s : State) (evRef : Nat) : State :=
  let s := if (s.anneal.map fun a => a.startWait) = some true then s else s.applyAll.drainWindow.drainWindow
  match s.engine with
  | none => s
  | some (a, r, q) =>
    let noise : Failure := { status := stNoise, cause := 0, evRef := evRef }
    let q := if a.startWait && a.resumed then q else if a.startWait then q.resumeAt a a.first 0 else { q.resumeAt a a.step 0 with resumePasses := a.passes }
    let x := s.writeOutputs a.distaff r q a
    let s := x.1.setProblem a.distaff a.problem q
    let s := if r.header.ckptSpace = 0 || r.aborted.isSome then s
      else (s.saveCheckpoint a.distaff r 0xFFFF true (vset r.problems a.problem (some q))).1
    s.endAnneal a none (some noise)

end Sys2Proof.Machine
end

