-- ==== Sys2Proof/Machine/Shapes.lean ====
section
/-!
DEFINITION. Tile shapes (06 R150 to R154, R157, R170; 13 R351, R352), unit faults and re-execution (13 R359 to R362), the margin plan (11 R305 to R309).
-/
namespace Sys2Proof.Machine

/-- The physical Spindles and Bobbins of a half (00 R10). -/
def spindleUnits : Half → List Nat := groupsOf
def bobbinUnits : Half → List Nat
  | .west => List.range 17
  | .east => (List.range 17).map (· + 17)

/-- The logical Spindles and Bobbins of a half (00 R10). -/
def logicalSpindles : Half → List Nat
  | .west => List.range 64
  | .east => (List.range 64).map (· + 64)
def logicalBobbins : Half → List Nat
  | .west => List.range 16
  | .east => (List.range 16).map (· + 16)

/-- The half of a physical Bobbin. -/
def halfOfBobbinUnit (p : Nat) : Half := if p < 17 then .west else .east

/-- Class of a physical Spindle (13 R351). -/
def Units.cls (x : Units) (p : Nat) : Nat := vget x.classes 3 p

/-- A physical Spindle is in service: not retired and not spared out for margin (06 R151, 11 R307). -/
def Units.serves (x : Units) (p : Nat) : Bool := x.cls p < 3 && !x.spared.contains (false, p)

/-- H (06 R151). -/
def Units.h (x : Units) (h : Half) : Nat := ((spindleUnits h).filter x.serves).length

/-- The fold of a half from H; 0 out of service (06 R151). -/
def foldOf (h : Nat) : Nat := if 64 ≤ h then 1 else if 32 ≤ h then 2 else if 16 ≤ h then 4 else if 8 ≤ h then 8 else 0

/-- N that a host of a class needs (06 R151). -/
def narrowOf : Nat → Nat
  | 1 => 2
  | 2 => 4
  | _ => 1

/-- The logical Spindles a physical one hosts. -/
def Units.hosted (x : Units) (p : Nat) : List Nat := (List.range 128).filter fun l => vget x.hosts 0xFF l = p

/-- Sets the hosts of a half: host position k serves logical Spindles F × k to F × k + F − 1 of the half (06 R150). -/
def Units.setHosts (x : Units) (h : Half) (fold : Nat) (ps : List Nat) : Units :=
  let base := match h with
    | .west => 0
    | .east => 64
  { x with hosts := x.hosts.mapIdx fun l p => if halfOfSpindle l = h then (if fold = 0 then 0xFF else ps.getD ((l - base) / fold) 0xFF) else p }

/-- Tiles a half anew from its H: positions go to fault-free units, then T4, then T3, each in ascending physical number (13 R351). -/
def Units.tile (x : Units) (h : Half) : Units :=
  let ps := (spindleUnits h).filter x.serves
  let fold := foldOf ps.length
  let order := ps.filter (fun p => x.cls p = 0) ++ ps.filter (fun p => x.cls p = 1) ++ ps.filter fun p => x.cls p = 2
  { x.setHosts h fold order with fold := x.fold.set h fold }

/-- The largest narrowing the hosts of a half need (06 R151). -/
def Units.needed (x : Units) (h : Half) : Nat :=
  ((logicalSpindles h).map fun l => let p := vget x.hosts 0xFF l; if p = 0xFF then 1 else narrowOf (x.cls p)).foldl max 1

/-- The reported shape of a half: R152 by fold and narrowing, 12 in the SERIAL test at fold 1, 0xFF out of service (06 R152, R157, R170). -/
def shapeNumber (fold narrow : Nat) (test : Bool) : Nat :=
  if fold = 0 then 0xFF else if test && fold = 1 then 12 else 3 * Nat.log2 fold + Nat.log2 narrow

/-- Sets N, the shape and H of a half as they follow from its hosts (06 R151, R152, R170); NARROW reads 16 in shape 12 and 0 out of service. -/
def Units.settle (x : Units) (test : Bool) (h : Half) : Units :=
  let f := x.fold.get h
  let n := x.needed h
  { x with narrow := x.narrow.set h (if f = 0 then 0 else if test && f = 1 then 16 else n), shape := x.shape.set h (shapeNumber f n test),
           working := x.working.set h (x.h h) }

/-- Logical Bobbins of a half take working physical units in ascending order (13 R352). -/
def Units.mapBobbins (x : Units) (h : Half) : Units :=
  let ps := (bobbinUnits h).filter fun p => !x.bobbinRetired.contains p && !x.spared.contains (true, p)
  let base := match h with
    | .west => 0
    | .east => 16
  { x with bobbinHosts := x.bobbinHosts.mapIdx fun b p => if halfOfBobbin b = h then ps.getD (b - base) 0xFF else p }

/-- Fault-free reserves of a half: in service, not hosting, lowest physical number first (13 R351, R360). -/
def Units.reserves (x : Units) (h : Half) : List Nat := (spindleUnits h).filter fun p => x.cls p = 0 && x.serves p && (x.hosted p).isEmpty

/-- A physical Spindle takes over the host position of another (13 R360). -/
def Units.takeOver (x : Units) (old new : Nat) : Units := { x with hosts := x.hosts.map fun p => if p = old then new else p }

/-- The class a Spindle takes from its mismatched stages (13 R351, R410): 1 from T4 alone, 2 from T3 or from both, 3 from any other. -/
def classOf (stages : List (Fin 7)) : Nat :=
  if stages.isEmpty then 0 else if stages.all (· = 4) then 1 else if stages.all fun k => k = 3 || k = 4 then 2 else 3

/-- TEST_SHAPE is in effect (06 R157, 10 R293). -/
def State.testShape (s : State) : Bool := s.debug && s.entry 0x8000 2 = 1

/-- SHAPE_CHANGE payload (06 R154). -/
def Units.changePayload (x : Units) (cause : Nat) : Bytes :=
  le 4 x.epoch ++ le 1 x.shape.w ++ le 1 x.shape.e ++ le 1 x.working.w ++ le 1 x.working.e ++ le 1 cause ++ zeros 7 ++
  x.hosts.toList.flatMap (le 1) ++ x.bobbinHosts.toList.flatMap (le 1)

/-- Writes SHAPE_CHANGE: NOTICE when both shape numbers are as `old`, ERROR otherwise (06 R154). -/
def State.shapeRecord (s : State) (old : Halves Nat) (cause : Nat) : State :=
  s.emit (devNotice 0x0C01 (if s.units.shape = old then notice else error) 294 (s.units.changePayload cause))

/-- The mapping changes: the epoch rises and one record is written (06 R153, R154). -/
def State.remapped (s : State) (x : Units) (cause : Nat) : State :=
  let old := s.units.shape
  ({ s with units := { x with epoch := (x.epoch + 1) % 2 ^ 32 } }).shapeRecord old cause

/-- Who holds a physical unit: the hank of the lowest logical unit it carries that is held (13 R359; log 26). -/
def State.unitHolder (s : State) (bobbin : Bool) (p : Nat) : Option (Nat × Nat) :=
  if bobbin then ((List.range 32).filter fun b => vget s.units.bobbinHosts 0xFF b = p).findSome? fun b => (s.bobbin b).holder
  else (s.units.hosted p).findSome? fun l => (s.spindle l).holder

/-- The Distaff that executes a hank. -/
def State.distaffOf (s : State) (ring seq : Nat) : Option Nat :=
  (List.range 8).find? fun d => match s.run d with
    | some r => r.ring = ring && r.seq = seq
    | none => false

/-- A mismatch on a unit: the classes of one unit's faults add up (13 R360). -/
def addFault (fs : List (Bool × Nat × Nat)) (b : Bool) (p c : Nat) : List (Bool × Nat × Nat) :=
  if fs.any fun f => f.1 = b && f.2.1 = p then fs.map fun f => if f.1 = b && f.2.1 = p then (b, p, max f.2.2 c) else f else fs ++ [(b, p, c)]

/-- The hank stops for re-execution (06 R153, 13 R359) unless it is aborted or has met an uncorrectable read (R362). A STATE.SAVE in progress leaves no valid
header (12 R338) and its word ends. -/
def State.stopFaulted (s : State) (d : Nat) (r : Run) : State :=
  (s.stopSave d r).modRun d fun r => { r with faulted := r.aborted.isNone && r.eccMet.isNone, faultMet := true, failure := r.eccMet.or r.failure }

/-- The stage of a unit fault fits its unit: stage 6 is a Bobbin's, and there are 34 Bobbins (13 R359, R410). -/
def unitFaultOk (bobbin : Bool) (unit : Fin 136) (stage : Fin 7) : Bool := if bobbin then decide (unit.val < 34) && stage.val = 6 else stage.val ≠ 6

/-- UNIT_FAULT: a residue mismatch in a unit in service (13 R359, R410). A unit that no hank holds computes nothing. -/
def execUnitFault (bobbin : Bool) (unit : Fin 136) (stage : Fin 7) (s : State) : Host.Outcome State Fault Refusal :=
  if !unitFaultOk bobbin unit stage then .fault .malformedCommand
  else match s.board.phase, s.unitHolder bobbin unit with
    | .ready, some c =>
      let waiting := ((s.units.faults.find? fun f => f.1 = bobbin && f.2.1 = unit.val).map fun f => f.2.2).getD 0
      let cls := if bobbin then 3 else max (max (s.units.cls unit) waiting) (classOf [stage])
      let s := s.emit (hankNotice 0x0B03 error c.1 c.2 (le 1 (if bobbin then 2 else 1) ++ le 1 unit ++ le 1 stage ++ le 1 cls ++ zeros 4))
      let s := { s with start := { s.start with faults := sat32 s.start.faults }, units := { s.units with faults := addFault s.units.faults bobbin unit cls } }
      .next (match s.distaffOf c.1 c.2 with
        | some d => match s.run d with
          | some r => s.stopFaulted d r
          | none => s
        | none => s)
    | _, _ => .next s

/-- The half of a fault. -/
def faultHalf (f : Bool × Nat × Nat) : Half := if f.1 then halfOfBobbinUnit f.2.1 else halfOfPhysical f.2.1

/-- Every Spindle of the half is free or held by a stopped hank whose issued words have run out, and a stopped hank that holds Bobbins of it has run out too
(06 R153 steps 1 and 3). -/
def State.quiesced (s : State) (h : Half) : Bool :=
  let idle := fun (other : Bool) (c : Option (Nat × Nat)) => match c with
    | none => true
    | some c => match (s.distaffOf c.1 c.2).bind s.run with
      | some r => if r.faulted then r.issued.isEmpty else other
      | none => true
  (logicalSpindles h).all (fun l => idle false (s.spindle l).holder) && (logicalBobbins h).all fun b => idle true (s.bobbin b).holder

/-- The outcome of one fault at the boundary (13 R360): a reserve takes over; a T4 or T3 unit keeps its position; otherwise the half is re-tiled. A faulted
Bobbin is retired and its half mapped again to the spare. -/
def Units.applyFault (x : Units) (f : Bool × Nat × Nat) : Units :=
  let p := f.2.1
  let h := faultHalf f
  if f.1 then
    let x := { x with bobbinRetired := if x.bobbinRetired.contains p then x.bobbinRetired else x.bobbinRetired ++ [p] }
    let spare := (bobbinUnits h).find? fun q => !x.bobbinRetired.contains q && !x.spared.contains (true, q) && !x.bobbinHosts.toList.contains q
    { x with bobbinHosts := x.bobbinHosts.map fun q => if q = p then spare.getD 0xFF else q }
  else
    let hosting := !(x.hosted p).isEmpty
    let reserve := (x.reserves h).find? fun q => q ≠ p
    let x := { x with classes := vset x.classes p (max (x.cls p) f.2.2) }
    if !hosting then x
    else match reserve with
      | some q => x.takeOver p q
      | none => if x.cls p < 3 then x else x.tile h

/-- The groups of retired Spindles are RETIRED (04 R90; 13 R351, R360). -/
def State.retireGroups (s : State) (ps : List Nat) : State :=
  s.retireAll (ps.filter fun p => s.units.cls p = 3 && (s.group p).state ≠ 3)

/-- Units whose carrier has changed are cleared (13 R360, 08 R220). -/
def State.clearMoved (s : State) (old : Units) : State :=
  let s := (List.range 128).foldl (fun s l => if vget old.hosts 0xFF l = vget s.units.hosts 0xFF l then s else s.clearSpindle l) s
  (List.range 32).foldl (fun s b => if vget old.bobbinHosts 0xFF b = vget s.units.bobbinHosts 0xFF b then s else s.clearBobbin b) s

/-- A hank set back to its first word under the new mapping: only its keys are reused, and its debug flag stands (13 R361, 04 R107, 06 R168). -/
def Run.again (s : State) (r : Run) (ref : Nat) : Run :=
  let drawn := if r.reuse.length < r.keys.length then r.keys else r.reuse
  { r with next := 0, issued := [], acquired := false, spindles := [], bobbins := [], keyPending := r.header.seedPolicy = 2,
           keys := if r.header.seedPolicy = 1 then [r.header.seedKey] else [], keyIndex := if r.header.seedPolicy = 1 then some 0 else none, reuse := drawn,
           problems := Vector.replicate 4 none, splits := [], marks := [], draws := [], failure := none, noisePaused := false, budgetLimited := false,
           intOverflow := false, debugOn := r.debugOn || s.debug, holdCount := 0, lagWE := 0, lagEW := 0, waitedPermit := false, faulted := false, faultMet := false, eccMet := none, reExecuted := true,
           shapeRef := ref, saving := false, ckptGen := 0, restoredGen := 0, atRead := false, bad := none, epoch := s.units.epoch, shapes := s.units.shape }

/-- HANK_RE_EXECUTE on a Distaff (13 R361). -/
def State.reExecute (s : State) (d ref : Nat) (r : Run) : State :=
  let s := s.releaseUnits r.ring r.seq
  let s := { s with start := { s.start with reExecutions := sat32 s.start.reExecutions } }
  let q := Run.again s r ref
  match shapesReject (s.setting r.ring r.seq) r.header r.words 0 (Tracker.start r.header) with
  | some j =>
    (s.setRun d (some { q with atRead := true })).rejectShape d q j
  | none =>
    let v := s.verify q q.bufs
    match v.2 with
    | some f => v.1.setRun d (some { q with failure := some (0xFFFF, f), atRead := true })
    | none => (v.1.setRun d (some q)).drawHeaderKey d

/-- Re-executes every stopped hank whose issued words have run out and that no fault still waits for. -/
def State.reExecuteAll (s : State) (ref : Nat) : State :=
  (List.range 8).foldl (fun s d => match s.run d with
    | some r =>
      let us := r.unitSet
      let waits := us.1.any (fun u => s.halfFaulted (halfOfSpindle u)) || us.2.any fun b => s.halfFaulted (halfOfBobbin b)
      if r.faulted && r.issued.isEmpty && !waits then s.reExecute d ref r else s
    | none => s) s

/-- The faults of the halves `hs` are mapped in one change, with TEST_SHAPE as it stands (06 R153, R157; 13 R360). -/
def State.mapFaults (s : State) (hs : List Half) : State :=
  let mine := s.units.faults.filter fun f => hs.contains (faultHalf f)
  let old := s.units
  let test := if s.units.testPending && hs.length = 2 then s.testShape else s.units.shape.w = 12 || s.units.shape.e = 12
  let x := mine.foldl Units.applyFault { s.units with faults := s.units.faults.filter fun f => !hs.contains (faultHalf f) }
  let x := hs.foldl (fun x h => x.settle test h) { x with testPending := x.testPending && hs.length ≠ 2 }
  let cause := (if mine.isEmpty then 0 else 2) + (if old.testPending && hs.length = 2 then 8 else 0)
  let s := s.remapped x cause
  let ref := s.lastRef
  let s := s.retireGroups (mine.filterMap fun f => if f.1 then none else some f.2.1)
  (s.clearMoved old).reExecuteAll ref

/-- SHAPE_REMAP of a half at its boundary; a TEST_SHAPE change waits for both halves (06 R153, R157; 13 R360, R362). -/
def execShapeRemap (h : Half) (s : State) : Host.Outcome State Fault Refusal :=
  if s.board.phase ≠ .ready then .next s
  else if s.units.testPending && s.quiesced .west && s.quiesced .east then .next (s.mapFaults [.west, .east])
  else if (s.units.faults.any fun f => faultHalf f = h) && s.quiesced h then .next (s.mapFaults [h])
  else .next s

/-- The V_dom rows that hold a half's rail: its Spindles and Bobbins in service, its Distaffs, its router segments; and those of its LPDDR5X controllers, whose
one value applies at every ratio (08 R237; 11 R305, R306). -/
def State.planVolts (s : State) (vdom : List (List Nat)) (h : Half) (r : Nat) : Nat :=
  let at_ := fun d r => (vdom.getD d []).getD r 0
  let x := s.units
  let base := halfNo h
  let sp := (spindleUnits h).filter x.serves
  let bo := (bobbinUnits h).filter fun p => !x.bobbinRetired.contains p && !x.spared.contains (true, p)
  let di := (List.range 4).filter fun d => (vget s.distaffs { inService := false, run := none } (4 * base + d)).inService
  let all := sp.map (fun p => at_ p r) ++ bo.map (fun p => at_ (136 + p) r) ++ di.map (fun d => at_ (170 + 4 * base + d) r) ++
    (List.range 4).map (fun c => at_ (242 + 4 * base + c) 0) ++ (List.range 16).map fun k => at_ (260 + 16 * base + k) r
  roundUp (all.foldl max 0) 5 + 25

/-- A unit whose V_dom(1/1) and guardband exceed 850 mV (11 R307). -/
def marginFails (vdom : List (List Nat)) (domain : Nat) : Bool := decide (850 < (vdom.getD domain []).getD 0 0 + 25)

/-- Spares out one Spindle for margin when a healthy reserve of its half remains (11 R307). -/
def Units.spareSpindle (vdom : List (List Nat)) (x : Units) (p : Nat) : Units :=
  if !x.serves p || !marginFails vdom p then x
  else match (x.reserves (halfOfPhysical p)).find? fun q => q ≠ p && !marginFails vdom q with
    | some q => { (if (x.hosted p).isEmpty then x else x.takeOver p q) with spared := x.spared ++ [(false, p)] }
    | none => x

/-- Spares out one Bobbin for margin when its half's spare is working (11 R307). -/
def Units.spareBobbin (vdom : List (List Nat)) (x : Units) (p : Nat) : Units :=
  let works := fun q => !x.bobbinRetired.contains q && !x.spared.contains (true, q)
  if !works p || !marginFails vdom (136 + p) then x
  else match (bobbinUnits (halfOfBobbinUnit p)).find? fun q => works q && !x.bobbinHosts.toList.contains q && q ≠ p && !marginFails vdom (136 + q) with
    | some q => { x with bobbinHosts := x.bobbinHosts.map (fun b => if b = p then q else b), spared := x.spared ++ [(true, p)] }
    | none => x

/-- Margin sparing of every unit (11 R307): one change of mapping when any unit is spared. -/
def State.marginSparing (s : State) (vdom : List (List Nat)) : State :=
  let old := s.units
  let x := (List.range 34).foldl (Units.spareBobbin vdom) ((List.range 136).foldl (Units.spareSpindle vdom) old)
  if x.spared = old.spared then s
  else
    let test := old.shape.w = 12 || old.shape.e = 12
    ((s.remapped ((x.settle test .west).settle test .east) 4).clearMoved old)

/-- A half that has no allowed ratio goes out of service (11 R306); its SHAPE_CHANGE carries CAUSE bit 2, margin sparing, as no bit of 06 R154 names this change
(log 56). -/
def State.dropUnplanned (s : State) : State :=
  let bad := fun h => s.steward.maxRatio h = 4 && s.units.fold.get h ≠ 0
  let x := [Half.west, Half.east].foldl (fun (x : Units) h => if bad h then x.dropHalf h else x) s.units
  if !bad .west && !bad .east then s
  else
    let s := s.modSteward fun y => { y with out := ⟨y.out.w || bad .west, y.out.e || bad .east⟩ }
    s.remapped x 4

/-- The plan takes effect: a half whose present ratio is no longer allowed steps down first, then the rails are set (11 R306, R309 step 4). -/
def State.applyPlan (s : State) (h : Half) : State :=
  let x := s.steward
  let now := x.ratio.get h
  let new := max now (min 3 (x.maxRatio h))
  let s := s.modSteward fun x => { x with ratio := x.ratio.set h new, vdd := x.vdd.set h (railMv (x.volts h new)), avsTries := x.avsTries.set h 0,
                                          rising := x.rising.set h none }
  if now = new then s else s.emit (ratioRecord h now new 3)

/-- The largest change of any V_h(r) (11 R309, R317). -/
def planChange (old new : Halves (List Nat)) : Int :=
  let d := fun (h : Half) => (List.range 4).map fun r => ((new.get h).getD r 0 : Int) - ((old.get h).getD r 0 : Int)
  match d .west ++ d .east with
  | [] => 0
  | x :: r => r.foldl max x

/-- The measurement becomes the plan (11 R305 to R308): sparing, V_h(r), the stored copy, PLAN_COUNT. The change is
from the part's last stored plan (R308). -/
def State.makePlan (s : State) (vdom : List (List Nat)) : State :=
  let last := { s.steward with plan := (s.keep.plan.map fun (p : Halves (List Nat) × List (Bool × Nat)) => p.1).getD s.steward.plan }
  let old : Halves (List Nat) := ⟨(List.range 4).map (last.volts .west), (List.range 4).map (last.volts .east)⟩
  let s := s.marginSparing vdom
  let new : Halves (List Nat) := ⟨(List.range 4).map (s.planVolts vdom .west), (List.range 4).map (s.planVolts vdom .east)⟩
  let s := s.modSteward fun x => { x with plan := new, planCount := (x.planCount + 1) % 2 ^ 32, planDelta := planChange old new, planDetail := vdom }
  ({ s with keep := { s.keep with plan := some (new, s.units.spared) } }).dropUnplanned

/-- MARGIN_PLAN: its layout is the model's own (11 R309; log 16): V_h(r) old and new, MAX_RATIO old and new, the largest increase. -/
def planPayload (old new : Steward) (delta : Int) : Bytes :=
  let volts := fun (x : Steward) h => (List.range 4).flatMap fun r => le 2 (x.volts h r)
  volts old .west ++ volts old .east ++ volts new .west ++ volts new .east ++ le 1 (old.maxRatio .west) ++ le 1 (old.maxRatio .east) ++
  le 1 (new.maxRatio .west) ++ le 1 (new.maxRatio .east) ++ le 4 (wrap 32 delta)

/-- V_dom of 296 domains at four ratios (11 R305). -/
def planOk (vdom : List (List Nat)) : Bool := vdom.length = 296 && vdom.all fun r => r.length = 4 && r.all fun v => decide (v < 65536)

/-- REPLAN_MEASURE: the device is idle; measurement, plan, MARGIN_PLAN, and picking resumes (11 R309 steps 3 to 6). -/
def execReplanMeasure (vdom : List (List Nat)) (s : State) : Host.Outcome State Fault Refusal :=
  if !planOk vdom then .fault .malformedCommand
  else if s.board.phase ≠ .ready || s.steward.replan = 0 || !s.noHank then .next s
  else
    let old := s.steward
    let s := ((s.makePlan vdom).applyPlan .west).applyPlan .east
    let s := s.emit (devNotice 0x0603 notice 293 (planPayload old s.steward s.steward.planDelta))
    .next (s.modSteward fun x => { x with replan := 0 })

/-- A write of 1 to MARGIN_REPLAN (11 R309 steps 1 and 2). -/
def State.startReplan (s : State) : State := s.modSteward fun x => { x with replan := 1 }

/-- SRAM_POISON or LP_POISON for a word the scrubber finds uncorrectable (08 R215, R226). -/
def State.scrubWord (s : State) (sp domain w : Nat) : State :=
  match s.mem.upsets.find? fun c => c.1 = sp && c.2.1 = w with
  | none => s
  | some c =>
    let s := s.modMem fun m => m.meet sp w
    if c.2.2 then s.emit (devNotice (if sp = 0 then 0x0501 else 0x0504) error domain (faultPayload (8 * w) sp 0 0xFFFF 8)) else s

/-- SRAM address of offset `o` of a slice (08 R213). -/
def sliceAddress (slice o : Nat) : Nat := o / 256 * 2 ^ 17 + slice * 256 + o % 256

/-- A word that an error has struck: it holds it until a read meets it (08 R214). -/
def Memory.strike (m : Memory) (sp w : Nat) (bad : Bool) : Memory :=
  if m.poison.contains (sp, w) then m else { m with upsets := m.upsets.filter (fun c => !(c.1 = sp && c.2.1 = w)) ++ [(sp, w, bad)] }

/-- The number of a memory with check bits, and its 64-bit words (08 R211, R219, R225). -/
def storePlace : Store → Nat × Nat
  | .sram => (0, 2 ^ 29)
  | .lpddr => (1, lpBytes / 8)
  | .spindle => (3, 2 ^ 24)
  | .bobbin => (4, 2 ^ 21)
  | .distaff => (5, 2 ^ 18)

/-- Every word named is one of its memory. -/
def freshOk (fresh : List (Store × Nat × Bool)) : Bool := fresh.all fun c => decide (c.2.1 < (storePlace c.1).2)

/-- SRAM_SCRUB_ACCESS: one 64 B access in each slice of a slice group, in ascending offset (08 R213, R215). Slice group g holds slices 8g to 8g + 7. Errors that
have struck words elsewhere wait there for a read (R214, R219, R226; log 43). -/
def execSramScrubAccess (sg : Fin 64) (errors : WordErrors) (s : State) : Host.Outcome State Fault Refusal :=
  if !freshOk errors.fresh then .fault .malformedCommand
  else if s.board.phase ≠ .ready then .next s
  else
    let s := errors.fresh.foldl (fun (s : State) c => s.modMem fun m => m.strike (storePlace c.1).1 c.2.1 c.2.2) s
    let o := vget s.mem.scrub 0 sg
    let word := fun i => sliceAddress (8 * sg.val + i / 8) o / 8 + i % 8
    let s := errors.struck.foldl (fun (s : State) c => s.modMem fun m => m.strike 0 (word c.1.val) c.2) s
    let s := (List.range 64).foldl (fun s i => s.scrubWord 0 (178 + sg.val) (word i)) s
    .next (s.modMem fun m => { m with scrub := vset m.scrub sg ((o + 64) % 2 ^ 23) })

/-- LP_PATROL_SCRUB of one word (08 R226). -/
def execLpPatrolScrub (address : BitVec 40) (struck : Option Bool) (s : State) : Host.Outcome State Fault Refusal :=
  if s.board.phase ≠ .ready || lpBytes ≤ address.toNat then .next s
  else
    let w := address.toNat / 8
    let s := match struck with
      | some bad => s.modMem fun m => m.strike 1 w bad
      | none => s
    .next (s.scrubWord 1 (242 + address.toNat / 2 ^ 11 % 8) w)

end Sys2Proof.Machine
end

