-- ==== Sys2Proof/Machine/Values.lean ====
section
/-!
DEFINITION. The non-scalar dictionary entries as they read (10 R268 to R271, R287 to R293), the bytes of a save area (11 R314) and the dictionary digest (10 R289).
-/
namespace Sys2Proof.Machine

/-- PART_NUMBER 0x1000.01 (10 R291). -/
def partNumber : Bytes := ascii "OLF-9610-L640"

/-- The device certificate 0x1000.20 (12 R319). -/
def certificate : Bytes :=
  le 2 1 ++ zeros 2 ++ certPart 4 4 ++ serial ++ partNumber ++ zeros 3 ++ le 2 0x0101 ++ zeros 6 ++ certPart 48 8 ++ zeros 8 ++ certPart 64 1793 ++
  zeros 7 ++ certPart 1864 1568 ++ certPart 3432 1280

/-- A journal record as bytes (10 R288). -/
def JournalRec.bytes (j : JournalRec) : Bytes :=
  le 4 j.jseq ++ le 2 j.index ++ le 1 j.sub ++ le 1 j.path ++ le 8 j.old.toNat ++ le 8 j.new.toNat ++
  le 1 ((if j.rwp then 1 else 0) + (if j.flushed then 2 else 0)) ++ zeros 7

/-- A byte string padded with zeros to a length. -/
def padTo (n : Nat) (b : Bytes) : Bytes := b ++ zeros (n - b.length)

/-- Whole records from the front that fit in `n` bytes (11 R314). -/
def fitFront (n : Nat) : List Record → Bytes
  | [] => []
  | r :: rest => if n < r.note.size then [] else r.bytes ++ fitFront (n - r.note.size) rest

def RingSave.bytes (x : RingSave) : Bytes :=
  le 1 (if x.enabled then 1 else 0) ++ le 1 x.owner ++ zeros 2 ++ le 4 x.accepted.toNat ++ le 4 x.tail.toNat ++ le 4 x.head.toNat ++ le 8 x.seqBase ++
  le 8 x.nextSeq ++ zeros 32

def RunSave.bytes (x : RunSave) : Bytes :=
  le 1 x.ring ++ le 1 (1 + (if x.saving then 2 else 0)) ++ le 1 x.ckptSpace ++ zeros 5 ++ le 8 x.seq ++ le 8 x.ckptBase ++ le 8 x.ckptLength

/-- A save area as bytes (11 R314). -/
def Save.bytes (v : Save) : Bytes :=
  let head := le 2 1 ++ le 1 v.cause ++ le 1 (v.ratios.w + 4 * v.ratios.e) ++ le 4 v.saveSeq ++ le 4 v.powerOn ++ le 4 v.jseq ++ le 2 v.vdd.w ++ le 2 v.vdd.e ++
    le 4 83264 ++ zeros 8
  let body := v.rings.flatMap RingSave.bytes ++ (v.ledger.flatMap fun x => x.1 ++ le 8 x.2.1 ++ le 8 x.2.2.1 ++ le 8 x.2.2.2 ++ zeros 8) ++
    (v.running.flatMap fun x => match x with
      | some r => r.bytes
      | none => zeros 32) ++
    padTo 1024 ((v.groupStates.flatMap fun g => le 4 g.toNat) ++ le 1 v.halves.w ++ le 1 v.halves.e ++ le 4 v.holds.w ++ le 4 v.holds.e) ++
    padTo 8192 (v.journal.flatMap JournalRec.bytes) ++ padTo 65536 (fitFront 65536 v.records)
  head ++ digest (head ++ body) ++ body

/-- A VALID image of a slot: it passes the checks that start-up makes but for the key it needs, whatever its boot key (15 R383, R395 SLOT_INFO; log 27). -/
def State.slotValid (s : State) (x : FlashSlot) : Bool :=
  match x.image with
  | some i => !x.damaged && !s.image.revoked.getLsbD i.keyIndex && i.stepping = 0x0101 && decide (s.image.minSvn ≤ i.svn)
  | none => false

/-- SLOT_INFO (15 R395): zero where the slot holds no image. -/
def State.slotInfo (s : State) (x : FlashSlot) : Bytes :=
  match x.image with
  | some i => le 1 (if s.slotValid x then 1 else 0) ++ le 1 i.cfLevel ++ le 2 i.svn ++ le 4 i.version.toNat ++ le 4 i.schema.toNat ++ le 2 i.stepping.toNat ++ zeros 2 ++
      le 4 i.length ++ zeros 12 ++ i.bodyDigest
  | none => zeros 64

/-- Blocks of the staged image, and the length of one (15 R385). -/
def State.stageLength (s : State) : Nat := s.entry 0x1100 0x13
def State.blockCount (s : State) : Nat := (s.stageLength + 4095) / 4096
def State.blockLength (s : State) (b : Nat) : Nat := min 4096 (s.stageLength - 4096 * b)

/-- DICT_DIGEST (10 R289): every CONST and RWP entry in ascending (index, subindex). -/
def State.dictDigest (s : State) : Bytes :=
  let value := fun (r : Row) k =>
    if r.type.isScalar then le r.type.size (s.scalarValue r.index k)
    else if r.index = 0x1000 && k = 0x01 then partNumber
    else if r.index = 0x1000 && k = 0x10 then serial
    else catalogue.flatMap CatRecord.bytes
  digest ((schema.filter fun r => r.access = .const || r.access = .rwp).flatMap fun r =>
    (List.range (r.last + 1 - r.first)).flatMap fun i =>
      let v := value r (r.first + i)
      le 2 r.index ++ le 1 (r.first + i) ++ le 1 r.type.code ++ le 2 v.length ++ v)

/-- SPINDLE_STATUS and BOBBIN_STATUS (13 R364). -/
def Units.spindleStatus (x : Units) : Bytes := (List.range 136).flatMap fun p => le 1 (x.cls p + (if (x.hosted p).isEmpty then 0 else 128))
def Units.bobbinStatus (x : Units) : Bytes :=
  (List.range 34).flatMap fun p => le 1 ((if x.bobbinRetired.contains p then 1 else 0) + (if x.bobbinHosts.toList.contains p then 128 else 0))

/-- The value of a BYTES, STR or DIGEST entry that can be read. -/
def State.bytesValue (s : State) (index sub : Nat) : Bytes :=
  match index, sub with
  | 0x1000, 0x01 => partNumber
  | 0x1000, 0x06 => s.dictDigest
  | 0x1000, 0x08 => s.dict.journal.flatMap JournalRec.bytes
  | 0x1000, 0x10 => serial
  | 0x1000, 0x20 => certificate
  | 0x1000, 0x21 => idKeyDigest
  | 0x1010, 0x05 => s.units.spindleStatus
  | 0x1010, 0x06 => s.units.bobbinStatus
  | 0x1010, 0x08 => s.start.lost.flatten
  | 0x1100, 0x08 => s.slotInfo s.image.slotA
  | 0x1100, 0x09 => s.slotInfo s.image.slotB
  | 0x1100, 0x15 => le 512 (s.image.blocks.map fun b => 2 ^ b).sum
  | 0x1100, 0x17 => le 4 s.image.migration.1 ++ le 4 s.image.migration.2.1 ++ le 4 s.image.migration.2.2 ++ zeros 4
  | 0x5010, 0x05 => match s.mem.trainResults with
    | some n => (List.range 32768).map fun k => (Config.freeValue (n + k)).setWidth 8
    | none => []
  | 0x6000, 0x41 => match s.keep.report with
    | some v => v.bytes
    | none => []
  | 0x6100, 0x09 => s.steward.planDetail.flatMap fun r => r.flatMap (le 2)
  | 0x7000, 0x01 => s.dict.attestNonce
  | 0x7000, 0x04 => s.ident.report
  | 0x7000, 0x05 => s.dict.sealNonce
  | 0x7012, r => (s.ring r).chainHead
  | 0x7014, r => (s.ring r).genesis
  | 0x7020, r => (s.ring r).lastSeal
  | 0x7800, 0x08 => s.recorder.stored.flatMap Record.bytes
  | 0x7800, 0x18 => s.recorder.snaps.flatMap Record.bytes
  | 0x7800, 0x20 => s.keep.mirror.flatMap Record.bytes
  | 0x7800, 0x30 => catalogue.flatMap CatRecord.bytes
  | 0x7810, k => vget s.dict.triggers [] k
  | _, _ => []

end Sys2Proof.Machine
end

