-- ==== Sys2Proof/Machine/Settings.lean ====
section
/-!
DEFINITION. The change journal (10 R288), the rewrite of the settings areas (10 R287; 15 R391, R393) and what marks them.
-/
namespace Sys2Proof.Machine

/-- The path codes of 10 R275. -/
def pathCode : Path → Nat
  | .bar0 => 0
  | .i3c => 1
  | .vdm => 2
  | .device => 3

/-- The last `n` of a list. -/
def lastOf {α : Type} (n : Nat) (l : List α) : List α := l.drop (l.length - n)

/-- OLD and NEW of a non-scalar entry (10 R288). -/
def journalHash (b : Bytes) : BitVec 64 := BitVec.ofNat 64 (num (shake256 b 8) 0 8)

/-- Appends a change to the journal, which keeps the latest 256 records (10 R288). -/
def Dictionary.noteChange (x : Dictionary) (index sub path : Nat) (old new : BitVec 64) (rwp : Bool) : Dictionary :=
  let j := (x.jseq + 1) % 2 ^ 32
  let r : JournalRec := { jseq := j, index := index, sub := sub, path := path, old := old, new := new, rwp := rwp, flushed := false }
  { x with jseq := j, journal := lastOf 256 (x.journal ++ [r]), unflushed := if rwp then x.unflushed ++ [(j, entryKey index sub)] else x.unflushed }

/-- A key of the value table names an RWP entry. -/
def isRwpKey (k : Nat) : Bool := match rowOf (k / 256) (k % 256) with
  | some r => r.access = .rwp
  | none => false

/-- The RWP values that differ from their defaults: what a settings area holds (15 R391). -/
def Dictionary.rwpValues (x : Dictionary) : List (Nat × BitVec 64) := x.values.filter fun c => isRwpKey c.1

/-- The side of `Halves` that holds slot A or slot B. -/
def slotSide (b : Bool) : Half := if b then .east else .west

/-- A rewrite of the settings area starts, or follows the running one (10 R287). -/
def Dictionary.startFlush (x : Dictionary) : Dictionary :=
  if x.flushing then { x with flushAgain := true }
  else { x with flushing := true, flushAgain := false, flushValues := x.rwpValues,
                flushJseq := (x.unflushed.getLast?.map fun u => u.1).getD x.flushJseq }

def State.startFlush (s : State) : State := s.modDict Dictionary.startFlush

/-- The newest valid copy of an area: of two the one with the higher COPY_SEQ (15 R391). -/
def Area.newest (x : Area) : Option Settings :=
  match x.copy0, x.copy1 with
  | some a, some b => some (if a.copySeq < b.copySeq then b else a)
  | some a, none => some a
  | none, b => b

/-- Writes the copy that does not hold the newest valid one (15 R391). -/
def Area.write (x : Area) (v : Settings) : Area :=
  let second := match x.copy0, x.copy1 with
    | some a, some b => decide (b.copySeq ≤ a.copySeq)
    | some _, none => true
    | none, _ => false
  if second then { x with copy1 := some v } else { x with copy0 := some v }

/-- An erased area (15 R384). -/
def Area.erased : Area := ⟨none, none⟩

/-- A settings copy as bytes: its header with the digest, and a record for each RWP entry in ascending (index, subindex) (15 R391). -/
def Settings.bytes (x : Settings) : Bytes :=
  let value := fun (r : Row) k => ((x.values.find? fun c => c.1 = entryKey r.index k).map fun c => c.2.toNat).getD r.default
  let recs := (Machine.schema.filter fun r => r.access = .rwp).flatMap fun r => (List.range (r.last + 1 - r.first)).flatMap fun i =>
    le 2 r.index ++ le 1 (r.first + i) ++ le 1 r.type.code ++ le 4 r.type.size ++ padTo 8 (le r.type.size (value r (r.first + i)))
  let head := le 4 0x54534553 ++ le 2 1 ++ zeros 2 ++ le 4 x.schema.toNat ++ le 4 x.jseq ++ le 4 x.copySeq ++ le 4 recs.length ++ zeros 8
  head ++ digest (head ++ recs) ++ recs

/-- The values of an area after the changed entries of a flush (15 R393). -/
def mergeValues (old new : List (Nat × BitVec 64)) (keys : List Nat) : List (Nat × BitVec 64) :=
  old.filter (fun c => !keys.contains c.1) ++ new.filter fun c => keys.contains c.1

/-- The newest valid copy of a slot's area. -/
def Dictionary.area (x : Dictionary) (b : Bool) : Option Settings := (x.areas.get (slotSide b)).newest

/-- Writes values to a slot's area, with the next COPY_SEQ (15 R391). -/
def Dictionary.writeArea (x : Dictionary) (b : Bool) (schema : BitVec 32) (jseq : Nat) (values : List (Nat × BitVec 64)) : Dictionary :=
  let n := ((x.area b).map fun a => (a.copySeq + 1) % 2 ^ 32).getD 0
  { x with areas := x.areas.set (slotSide b) ((x.areas.get (slotSide b)).write { schema := schema, copySeq := n, jseq := jseq, values := values }) }

/-- SCHEMA_VERSION of the image in a slot (15 R380). -/
def Image.schemaOf (x : Image) (b : Bool) : BitVec 32 := ((if b then x.slotB else x.slotA).image.map fun i => i.schema).getD 0

/-- The rewrite has ended: the journal records it holds are marked flushed (10 R287, R288). -/
def Dictionary.flushed (x : Dictionary) : Dictionary :=
  let done := (x.unflushed.filter fun u => decide (u.1 ≤ x.flushJseq)).map fun u => u.1
  let mark := fun (j : JournalRec) => if done.contains j.jseq then { j with flushed := true } else j
  { x with flushing := false, flushValues := [], journal := x.journal.map mark, unflushed := x.unflushed.filter fun u => !done.contains u.1 }

/-- SCHEMA_VERSION of the running image, which its records follow (15 R391). -/
def State.runningSchema (s : State) (b : Bool) : BitVec 32 := (s.image.running.map fun i => i.schema).getD (s.image.schemaOf b)

/-- The end of a rewrite: the active slot's area in full, and while a trial runs the confirmed slot's area for every changed entry (15 R391, R393). In RECOVERY,
where no slot is active, the confirmed slot's area takes every changed entry (log 50). -/
def State.finishFlush (s : State) : State :=
  let x := s.dict
  let c := s.image.control.confirmed
  let keys := (x.unflushed.filter fun u => decide (u.1 ≤ x.flushJseq)).map fun u => u.2
  let merge := fun (x : Dictionary) =>
    x.writeArea c (s.image.schemaOf c) x.flushJseq (mergeValues (((x.area c).map fun a => a.values).getD []) x.flushValues keys)
  let y := match s.image.active with
    | none => merge x
    | some b =>
      let y := x.writeArea b (s.runningSchema b) x.flushJseq x.flushValues
      if s.image.trialState = 2 && b ≠ c then merge y else y
  let again := y.flushAgain
  let s := { s with dict := y.flushed }
  if again then s.modDict Dictionary.startFlush else s

/-- SETTINGS_FLUSH_TIMER: 10 s after the first change not yet written (10 R287). -/
def execSettingsFlushTimer (s : State) : Host.Outcome State Fault Refusal :=
  if s.board.phase ≠ .ready || s.dict.unflushed.isEmpty || s.dict.flushing then .next s else .next s.startFlush

/-- SETTINGS_REWRITE_DONE (10 R287). -/
def execSettingsRewriteDone (s : State) : Host.Outcome State Fault Refusal :=
  if s.board.phase ≠ .ready || !s.dict.flushing then .next s else .next s.finishFlush

/-- SETTINGS_RESTORE marks the active slot's area, and both areas during a trial (10 R287, 15 R393). -/
def State.markRestore (s : State) : State :=
  match s.image.active with
  | none => s
  | some b => s.modDict fun x =>
    { x with restoreMark := if s.image.trialState = 2 then ⟨true, true⟩ else x.restoreMark.set (slotSide b) true }

end Sys2Proof.Machine
end

