-- ==== Sys2Proof/Machine/Images.lean ====
section
/-!
DEFINITION. The device image: slots, verification, staging, trial, confirmation and fall-back (15 R378 to R390).
-/
namespace Sys2Proof.Machine

def Image.slot (x : Image) (b : Bool) : FlashSlot := if b then x.slotB else x.slotA
def Image.setSlot (x : Image) (b : Bool) (v : FlashSlot) : Image := if b then { x with slotB := v } else { x with slotA := v }

/-- The slot that staging targets: the one that is not confirmed; in RECOVERY the confirmed one (15 R379, R390). -/
def State.stageSlot (s : State) : Bool := if s.start.state = 4 then s.image.control.confirmed else !s.image.control.confirmed

/-- The flash ranges the device uses, as first address and size: the two copies of the control record, slot A and its settings area, slot B and its
settings area; it accesses nothing from 0x2900000 upward (15 R378). -/
def flashMap : List (Nat × Nat) :=
  [(0x0000000, 0x80000), (0x0080000, 0x80000), (0x0100000, 0x1000000), (0x1100000, 0x400000), (0x1500000, 0x1000000), (0x2500000, 0x400000)]

/-- Where a slot's image, its boot key record (its last 4 KiB) and its settings area begin (15 R378). -/
def slotAddress (b : Bool) : Nat := if b then 0x1500000 else 0x0100000
def bootKeyAddress (b : Bool) : Nat := slotAddress b + 0x1000000 - 4096
def areaAddress (b : Bool) : Nat := slotAddress b + 0x1000000

/-- Where copy 0 or copy 1 of a settings area begins (15 R391). -/
def copyAddress (b second : Bool) : Nat := areaAddress b + if second then 0x200000 else 0

/-- A control record as the flash holds it, its digest last (15 R379). -/
def Control.bytes (x : Control) : Bytes :=
  let fields := le 4 x.seq ++ le 1 (if x.confirmed then 1 else 0) ++ le 1 ((x.trial.map fun b => if b then 1 else 0).getD 0xFF) ++ le 1 x.count ++ le 1 x.window
  fields ++ digest fields

/-- The newest valid control record is copy 0 (15 R379). -/
def Image.newestFirst (x : Image) : Bool :=
  match x.copy0, x.copy1 with
  | some a, some b => decide (b.seq ≤ a.seq)
  | some _, none => true
  | none, _ => false

/-- A new control record is written to the copy that does not hold the newest valid one (15 R379). -/
def Image.control_ (x : Image) (confirmed : Bool) (trial : Option Bool) (count window : Nat) : Image :=
  let v : Control := { seq := (x.control.seq + 1) % 2 ^ 32, confirmed := confirmed, trial := trial, count := count, window := window }
  if x.newestFirst then { x with copy1 := some v } else { x with copy0 := some v }

/-- Flash that no block has written. -/
def Image.blank : Byte := 0xFF

/-- The staged image as bytes (15 R385). -/
def State.stagedBytes (s : State) : Bytes := (List.range s.stageLength).map (Sparse.get Image.blank s.image.staged)

/-- One row of SECTIONS (15 R380). -/
structure ImageSection where
  type : Nat
  offset : Nat
  length : Nat
  iv : Bytes
  digest : Bytes
  zeroed : Bool
  deriving DecidableEq, Repr

def imageSection (b : Bytes) (i : Nat) : ImageSection :=
  let o := 1856 + 80 * i
  { type := num b o 2, offset := num b (o + 8) 8, length := num b (o + 16) 8, iv := slice b (o + 24) 12, digest := slice b (o + 40) 32,
    zeroed := num b (o + 2) 2 = 0 && num b (o + 4) 4 = 0 && num b (o + 36) 4 = 0 && num b (o + 72) 8 = 0 }

def imageSections (b : Bytes) : List ImageSection := (List.range (num b 6 1)).map (imageSection b)

/-- Sections start at multiples of 4,096, in table order, within the image (15 R380). -/
def sectionsFit (n : Nat) : Nat → List ImageSection → Bool
  | _, [] => true
  | e, x :: rest => x.zeroed && x.offset % 4096 = 0 && decide (e ≤ x.offset) && decide (16 ≤ x.length) && decide (x.offset + x.length ≤ n) &&
    sectionsFit n (x.offset + x.length) rest

/-- Types 1 to 5 once each, type 6 at most once; the IVs distinct; unused rows zero (15 R380). -/
def sectionsOk (b : Bytes) (n : Nat) : Bool :=
  let xs := imageSections b
  let ts := xs.map fun x => x.type
  [1, 2, 3, 4, 5].all (fun t => ts.count t = 1) && decide (ts.count 6 ≤ 1) && ts.all (fun t => decide (1 ≤ t ∧ t ≤ 6)) &&
  decide ((xs.map fun x => x.iv).Nodup) && sectionsFit n 8192 xs && allZero (slice b (1856 + 80 * xs.length) (80 * (8 - xs.length)))

/-- Check 1 (15 R380, R383). -/
def imageFormatOk (b : Bytes) (n : Nat) : Bool :=
  num b 0 4 = 0x474D494F && num b 4 2 = 1 && (num b 6 1 = 5 || num b 6 1 = 6) && num b 20 4 = n && decide (num b 25 1 < 16) && allZero (slice b 26 6) &&
  allZero (slice b 1825 31) && allZero (slice b 5408 2784) && sectionsOk b n

/-- The header of an image (15 R380). -/
def imageInfo (b : Bytes) : ImageInfo :=
  { cfLevel := num b 7 1, svn := num b 12 2, version := BitVec.ofNat 32 (num b 8 4), schema := BitVec.ofNat 32 (num b 16 4),
    stepping := BitVec.ofNat 16 (num b 14 2), length := num b 20 4, keyIndex := num b 24 1, revoke := BitVec.ofNat 4 (num b 25 1),
    bodyDigest := digest (b.take 2496) }

/-- Check 2: the key slot is fused and not revoked, and holds IMAGE_KEY's digest (15 R382, R383). -/
def State.imageKeyOk (s : State) (b : Bytes) : Bool :=
  let k := num b 24 1
  decide (k < 4) && !s.image.revoked.getLsbD k && digest (slice b 32 1793) = (List.range 32).map (Config.imageKeyByte k)

/-- Checks 1 to 5 and the serial of check 6: STAGE_ERROR of the first that fails (15 R383). -/
def State.imageFault (s : State) (b : Bytes) (n : Nat) : Option Nat :=
  if !imageFormatOk b n then some 2
  else if !s.imageKeyOk b then some 4
  else if !Config.falconVerify (slice b 32 1793) (shake256 (ascii "OLF-IMAGE" ++ b.take 2496) 64) (slice b 2496 1280) then some 3
  else if num b 14 2 ≠ 0x0101 then some 5
  else if num b 12 2 < s.image.minSvn then some 6
  else if slice b 5392 16 ≠ serial then some 7
  else none

/-- The content key K, when its tag matches (15 R381). -/
def contentKey (b : Bytes) : Option Bytes :=
  let ss := (List.range 32).map (Config.decapsByte (slice b 3776 1568))
  let wk := shake256 (ascii "OLF-WRAP" ++ ss) 32
  let c := slice b 5344 32
  if gcmTag wk (zeros 12) (b.take 2496 ++ slice b 5392 16) c = slice b 5376 16 then some (gcmStream wk (zeros 12) c) else none

/-- Check 7: every digest and every tag (15 R381, R383). -/
def contentOk (b key : Bytes) : Bool :=
  (imageSections b).all fun x =>
    let bs := slice b x.offset x.length
    digest bs = x.digest && gcmTag key x.iv (b.take 32) (bs.take (x.length - 16)) = bs.drop (x.length - 16)

/-- Staging fails (15 R384). -/
def State.failStage (s : State) (error : Nat) : State := { s with image := { s.image with stage := 5, error := error } }

/-- STAGE_VERIFY_DONE (15 R383): a decapsulation waits for the generator (04 R99) and fails with no usable identity (12 R320). -/
def execStageVerifyDone (s : State) : Host.Outcome State Fault Refusal :=
  if s.board.phase ≠ .ready || s.image.stage ≠ 3 then .next s
  else
    let b := s.stagedBytes
    match s.imageFault b s.stageLength with
    | some e => .next (s.failStage e)
    | none =>
      if s.ident.state ≠ 1 then .next (s.failStage 9)
      else if !s.rotServes then .next s
      else
        let n := s.freeVal.toNat
        let s := { s.useFree with noise := { s.noise with rotOutputs := min (s.noise.rotOutputs + n) 0xFFFFFFFF } }
        match contentKey b with
        | none => .next (s.failStage 7)
        | some k =>
          if !contentOk b k then .next (s.failStage 8)
          else
            let x := s.image.setSlot s.stageSlot { image := some (imageInfo b), bootKey := none, damaged := false }
            .next { s with image := { x with stage := 4, error := 0, held := some (imageInfo b, k) } }

/-- IMAGE_CTRL is accepted (15 R384). -/
def State.imageCtrlOk (s : State) (v : Nat) : Bool :=
  let x := s.image
  match v with
  | 1 => (x.stage = 0 || x.stage = 4 || x.stage = 5) && x.trialState = 0 && decide (8192 ≤ s.stageLength ∧ s.stageLength ≤ 16773120)
  | 2 => x.stage = 2 && x.blocks.length = s.blockCount
  | 3 => x.stage ≠ 0
  | 4 => x.stage = 4
  | 5 => x.trialState = 2 && (s.start.state = 1 || s.start.state = 2 || s.start.state = 3)
  | 6 => x.trialState ≠ 0
  | _ => false

/-- BEGIN (15 R381, R384): the slot and its settings area are erased; no write of the confirmed area in use is touched outside RECOVERY. -/
def State.beginStage (s : State) : State :=
  let s := s.startFlush
  let b := s.stageSlot
  let s := s.modDict fun x => { x with areas := x.areas.set (slotSide b) Area.erased }
  { s with image := { (s.image.setSlot b FlashSlot.erased) with stage := 1, error := 0, held := none } }

/-- CANCEL (15 R384). -/
def State.cancelStage (s : State) : State :=
  { s with image := { (s.image.setSlot s.stageSlot FlashSlot.erased) with stage := 0, error := 0, held := none } }

/-- ARM: the boot key record with K, then the control record: a trial, or in RECOVERY the slot confirmed (15 R381, R387, R390). -/
def State.armImage (s : State) : State :=
  let b := s.stageSlot
  let x := s.image.setSlot b { image := s.image.held.map fun h => h.1, bootKey := s.image.held.map fun h => h.2, damaged := false }
  let x := { x with stage := 0, held := none }
  { s with image := if s.start.state = 4 then x.control_ b none 0 0 else x.control_ x.control.confirmed (some b) 0 (s.entry 0x1100 0x06) }

/-- CONFIRM: the trial slot is confirmed; REVOKE but the image's own key, and MIN_SVN, are burnt (15 R382, R388). -/
def State.confirmImage (s : State) : State :=
  match s.image.control.trial with
  | none => s
  | some b =>
    let x := s.image.control_ b none 0 0
    let x := { x with trialRunning := false }
    { s with image := match (x.slot b).image with
      | some i => { x with revoked := x.revoked ||| (i.revoke &&& ~~~(1#4 <<< i.keyIndex)), minSvn := min 64 (max x.minSvn i.svn) }
      | none => x }

/-- The IMAGE_FALLBACK record (15 R389). -/
def fallbackNotice (x : Image) (old new : Bool) (reason count : Nat) : Notice :=
  let v := fun b => ((x.slot b).image.map fun i => i.version.toNat).getD 0
  let n := fun (b : Bool) => if b then 1 else 0
  devNotice 0x0B06 error 294 (le 1 (n old) ++ le 1 (n new) ++ le 1 reason ++ le 1 count ++ le 4 (v old) ++ le 4 (v new) ++ zeros 4)

/-- DISARM: a running trial leaves IMAGE_FALLBACK, and the confirmed slot boots at the next start (15 R389). -/
def State.disarmImage (s : State) : State :=
  let x := s.image
  match x.control.trial with
  | none => s
  | some b =>
    let s' := { s with image := { (x.control_ x.control.confirmed none 0 0) with trialRunning := false } }
    if x.trialRunning then s'.emit (fallbackNotice x b x.control.confirmed 3 x.control.count) else s'

/-- The effect of an accepted write to IMAGE_CTRL; where the flash does not erase or program what it asks, staging fails with FLASH (15 R384). -/
def State.imageCtrl (s : State) (v : Nat) (ok : Bool) : State :=
  if v = 1 then s.beginStage
  else if v = 2 then { s with image := { s.image with stage := 3 } }
  else if !ok then s.failStage 1
  else match v with
    | 3 => s.cancelStage
    | 4 => s.armImage
    | 5 => s.confirmImage
    | 6 => s.disarmImage
    | _ => s

/-- The image region and the settings area of the slot are erased, behind the settings flush that BEGIN has started (15 R384; DEDUCED, log 47). -/
def State.endErase (s : State) : State :=
  let s := if s.dict.flushing then s.finishFlush else s
  s.modDict fun x => { x with areas := x.areas.set (slotSide s.stageSlot) Area.erased }

/-- ERASE_DONE (15 R384). -/
def execEraseDone (ok : Bool) (s : State) : Host.Outcome State Fault Refusal :=
  if s.board.phase ≠ .ready || s.image.stage ≠ 1 then .next s
  else if !ok then .next (s.failStage 1)
  else let t := s.endErase; .next { t with image := { t.image with stage := 2, blocks := [], received := 0, staged := [] } }

/-- A journal record would overwrite an RWP record that is not flushed (15 R385). -/
def Dictionary.journalBlocks (x : Dictionary) : Bool :=
  decide (256 ≤ x.journal.length) && (x.journal.head?.any fun j => j.rwp && !j.flushed)

/-- A write to IMAGE_BLOCK (15 R385): the status, and whether the flash programs the block is `ok`. Its value, which OLD and NEW hash, is the
STAGE_LENGTH bytes that its ENTRY_LEN counts (10 R288; DEDUCED, log 47). -/
def State.writeBlock (s : State) (path offset : Nat) (data : Bytes) (ok : Bool) : State × Nat :=
  let n := s.stageLength
  let b := offset / 4096
  let old := journalHash s.stagedBytes
  let note := fun (s : State) => s.modDict fun x => x.noteChange 0x1100 0x16 path old (journalHash s.stagedBytes) false
  if offset % 4096 ≠ 0 || n ≤ offset || data.length ≠ min 4096 (n - offset) then (s, 0x04)
  else if s.image.stage ≠ 2 then (s, 0x06)
  else if s.dict.flushing then (s, 0x08)
  else if s.dict.journalBlocks then (s.startFlush, 0x08)
  else if s.image.blocks.contains b then
    if (List.range data.length).all fun k => Sparse.get Image.blank s.image.staged (offset + k) = data.getD k 0 then (note s, 0) else (s, 0x06)
  else if !ok then (s.failStage 1, 0x06)
  else
    (note { s with image := { s.image with
      staged := Sparse.replace Image.blank s.image.staged offset data.length fun k => data.getD k 0, blocks := s.image.blocks ++ [b],
      received := s.image.received + data.length } }, 0)

end Sys2Proof.Machine
end

