-- ==== Sys2Proof/Machine/Seals.lean ====
section
/-!
DEFINITION. The signing service of the root of trust: attestation reports and ledger seals (12 R320 to R322, R329, R330), the generator's seeding (04 R103), and
the noise waits that reach the hold timeout (04 R99 to R103, R105).
-/
namespace Sys2Proof.Machine

/-- The 3,200 body bytes of an attestation report, one snapshot (12 R322). -/
def State.attestBody (s : State) : Bytes :=
  le 2 1 ++ zeros 2 ++ le 4 s.imageVersion ++ le 2 0x0101 ++ le 1 s.cfLevel ++ le 1 (if s.debug then 1 else 0) ++ le 4 s.units.epoch ++ le 4 s.keep.powerOn ++
  le 4 s.keep.resetCount ++ zeros 8 ++ s.dict.attestNonce ++ s.dictDigest ++ idKeyDigest ++
  s.rings.toList.flatMap fun x => x.chainHead ++ le 8 x.chainIndex ++ le 8 x.lastLedgerSeq

/-- An accepted write of 1 to ATTEST_REQUEST (12 R322). -/
def State.requestAttest (s : State) : State :=
  let s := { s with ident := s.ident.enqueue { kind := 0, ring := 0, body := s.attestBody } }
  { s with ident := { s.ident with attestState := 1 } }

/-- An accepted write to SEAL_RING: the ring's head as it stands, over SEAL_NONCE (12 R329). -/
def State.requestSeal (s : State) (r : Nat) : State :=
  { s with ident := s.ident.enqueue { kind := 1, ring := r, body := s.sealBody 1 r s.dict.sealNonce } }

/-- A requested seal of the ring waits (12 R329). -/
def Identity.sealWaits (x : Identity) (r : Nat) : Bool := x.queue.any fun q => q.kind = 1 && q.ring = r

/-- A signature: its draws raise the generator's output count by a number the manual does not give (04 R103; log 2), and the bytes are Falcon-1024's (log 11). -/
def State.signWith (s : State) (label : String) (body : Bytes) : Bytes × State :=
  let m := shake256 (ascii label ++ body) 64
  let n := s.freeVal.toNat
  let sig := (List.range 1280).map (Config.signatureByte s.out.free m)
  (sig, { s.useFree with noise := { s.noise with rotOutputs := min (s.noise.rotOutputs + n) 0xFFFFFFFF } })

/-- A signing request fails: ATTEST_STATE 3; an automatic seal leaves SEAL_FAILED and waits for the generator to unblock (12 R320, R322, R330). The layout of
SEAL_FAILED is the model's own (log 16). -/
def State.failSigning (s : State) (q : SignRequest) : State :=
  match q.kind with
  | 0 => { s with ident := { s.ident with attestState := 3 } }
  | 1 => s
  | _ =>
    let s := { s with ident := { s.ident with sealFailures := sat32 s.ident.sealFailures } }
    (s.modRing q.ring fun x => { x with autoSealHeld := true }).emit
      (devNotice 0x0A01 error 292 (le 1 q.ring ++ zeros 7 ++ slice q.body 8 8))

/-- Publishes a seal of a ring: SEAL_COUNT counts it (12 R329). -/
def State.publishSeal (s : State) (q : SignRequest) : State :=
  let n := (s.ring q.ring).sealCount + 1
  let body := q.body.take 4 ++ le 4 n ++ q.body.drop 8
  let g := s.signWith "OLF-SEAL" body
  g.2.modRing q.ring fun x => { x with lastSeal := body ++ g.1, sealCount := n, entriesAtSeal := num q.body 8 8 }

/-- Publishes an attestation report (12 R322). -/
def State.publishReport (s : State) (q : SignRequest) : State :=
  let g := s.signWith "OLF-ATTEST" q.body
  { g.2 with ident := { g.2.ident with report := q.body ++ g.1, attestState := 2 } }

/-- SIGNATURE_COMPLETE: the request at the head of the queue is signed once the generator serves it; with no usable identity it fails (12 R320, R321). -/
def execSignatureComplete (s : State) : Host.Outcome State Fault Refusal :=
  match s.board.phase, s.ident.queue with
  | .ready, q :: rest =>
    let t := { s with ident := { s.ident with queue := rest } }
    if s.ident.state ≠ 1 then .next (t.failSigning q)
    else if !s.rotServes then .next s
    else .next (if q.kind = 0 then t.publishReport q else t.publishSeal q)
  | _, _ => .next s

/-- The generator begins to serve: failed automatic seals are made over the heads as they stand (12 R330), and device-drawn header keys are drawn (04 R99). -/
def State.rotUnblocks (s : State) : State :=
  let s := (List.range 64).foldl (fun (s : State) r =>
    if !(s.ring r).autoSealHeld then s
    else { (s.modRing r fun x => { x with autoSealHeld := false }) with
           ident := s.ident.enqueue { kind := 2, ring := r, body := s.sealBody 0 r zero32 } }) s
  (List.range 8).foldl (fun (s : State) d => s.drawHeaderKey d) s

/-- ROT_RESEED: 512 conditioned bits of GR seed the generator first, and reseed it after 65,536 outputs, while GR is HEALTHY (04 R103). It waits while GR has
given fewer. -/
def execRotReseed (raw : RawBits) (s : State) : Host.Outcome State Fault Refusal :=
  let x := s.noise
  let bits := s.conditioned 136 raw
  if s.board.phase ≠ .ready || (s.group 136).state ≠ 1 || (x.rotSeeded && x.rotOutputs < 65536) || bits.length < 512 then .next s
  else
    let t := { s with noise := { x with rotSeeded := true, rotBlocked := false, rotSeed := le 64 (packNat (bits.take 512)), rotOutputs := 0 } }
    let t := if x.rotBlocked then t.emit (noiseNotice 0x0408 notice (noisePayload 2 0 0 none 0 0)) else t
    .next (if s.rotServes then t else t.rotUnblocks)

/-- NOISE_TIMEOUT as the record of a hank (04 R105). -/
def State.timeoutOf (s : State) (r : Run) (kind number state count consumer : Nat) : State :=
  s.emit (hankNotice 0x0406 error r.ring r.seq (noisePayload kind number state none count consumer))

/-- The record for an instruction that waited for a half. -/
def State.timeoutHalf (s : State) (r : Run) (h : Half) (consumer : Nat) : State :=
  s.timeoutOf r 1 (halfNo h) (s.noise.half.get h) (s.healthy h) consumer

/-- The record for a consumer of the root-of-trust generator; an unseeded generator is not serving: 1. -/
def State.timeoutRot (s : State) (r : Run) (consumer : Nat) : State :=
  s.timeoutOf r 2 0 (if s.rotServes then 0 else 1) s.noise.rotOutputs consumer

/-- An issued word's wait ends in NOISE_FAILED (04 R98, R99; 07 R185). -/
def State.failWait (s : State) (d k : Nat) : State :=
  let f : Failure := { status := stNoise, cause := 0, evRef := s.lastRef }
  s.modIssued d k fun i => { i with ran := true, noiseWait := false, failure := some f }

/-- The waiting word of an instruction on a Distaff, with its bits. -/
def Run.noiseWaiter (r : Run) (o : Op) : Option (Nat × Nat) :=
  (r.issued.find? fun i => i.noiseWait && (r.wordAt i.index).any fun c => c.1 = o).bind fun i => (r.wordAt i.index).map fun c => (i.index, c.2)

/-- The start wait or a hold of the running Open ANNEAL or SAMPLE ends it (04 R100 to R102). -/
def State.timeoutAnneal (s : State) (h : Half) (consumer : Nat) : State :=
  match s.engine with
  | some (_, r, _) => let s := s.timeoutHalf r h consumer; s.stopAnneal s.lastRef
  | none => s

/-- The start wait (04 R100): West is named first when neither half is READY. -/
def State.timeoutStart (s : State) : State :=
  match s.engine with
  | some (a, _, _) => if a.colourfast || !a.startWait || s.bothReady then s else s.timeoutAnneal (if s.noise.half.w ≠ 1 then .west else .east) 0
  | none => s

/-- A hold of one half (04 R101, R102). -/
def State.timeoutHold (s : State) (h : Half) : State :=
  match s.engine with
  | some (a, _, _) => if a.colourfast || a.startWait || !s.noise.holdTimer.get h then s else s.timeoutAnneal h 1
  | none => s

/-- An Open exchange: an EXCHANGE word of the Distaff, or the settle point of the ANNEAL or SAMPLE it runs (04 R98, R99). -/
def State.timeoutExchange (s : State) (d : Nat) : State :=
  match s.run d, s.engine with
  | some r, e =>
    if s.noise.half.w = 1 then s
    else match r.noiseWaiter .exchange, e with
      | some c, _ => (s.timeoutHalf r .west 2).failWait d c.1
      | none, some (a, _, q) =>
        if a.distaff = d && !a.colourfast && !a.startWait && a.exch && a.passesDone q .west && a.passesDone q .east && a.quiet then s.timeoutAnneal .west 2 else s
      | none, none => s
  | none, _ => s

/-- A device-drawn key: the header's, or that of a NOISE.SEED (04 R99). -/
def State.timeoutKey (s : State) (d : Nat) : State :=
  match s.run d with
  | some r =>
    if s.rotServes then s
    else if r.keyPending && r.failure.isNone && r.aborted.isNone then
      let s := s.timeoutRot r 3
      s.modRun d fun r => { r with failure := some (0xFFFF, { status := stNoise, cause := 0, evRef := s.lastRef }) }
    else match r.noiseWaiter .noiseSeed with
      | some c => (s.timeoutRot r 3).failWait d c.1
      | none => s
  | none => s

/-- NOISE.RAW in its CONDITIONED form (04 R99). -/
def State.timeoutRaw (s : State) (d : Nat) : State :=
  match s.run d with
  | some r => match r.noiseWaiter .noiseRaw with
    | some c =>
      let g := nrGroup c.2
      if (s.group g).state = 1 then s
      else (s.timeoutOf r 0 g (s.group g).state (s.group g).fails 4).failWait d c.1
    | none => s
  | none => s

/-- A request of the root of trust that the generator has not served: the signing request at the head of the queue, or the decapsulation of a staged image
(04 R103; 12 R321; 15 R383). -/
def State.timeoutRot5 (s : State) : State :=
  if s.rotServes then s
  else
    let note := fun (s : State) => s.emit (noiseNotice 0x0406 error (noisePayload 2 0 1 none s.noise.rotOutputs 5))
    match s.ident.queue with
    | q :: rest => (note { s with ident := { s.ident with queue := rest } }).failSigning q
    | [] =>
      let waits := s.image.stage = 3 && s.ident.state = 1 && (s.imageFault s.stagedBytes s.stageLength).isNone
      if waits then note (s.failStage 9) else s

/-- NOISE_TIMEOUT: a noise wait reaches the hold timeout (04 R98 to R103, R105). -/
def execNoiseTimeout (w : NoiseWait) (s : State) : Host.Outcome State Fault Refusal :=
  if s.board.phase ≠ .ready then .next s
  else match w with
    | .openStart => .next s.timeoutStart
    | .hold h => .next (s.timeoutHold h)
    | .openExchange d => .next (s.timeoutExchange d)
    | .deviceKey d => .next (s.timeoutKey d)
    | .raw d => .next (s.timeoutRaw d)
    | .rootOfTrust => .next s.timeoutRot5

end Sys2Proof.Machine
end

