-- ==== Sys2Proof/Machine/Dictionary.lean ====
section
/-!
DEFINITION. The dictionary's access paths: what a write does and when it is refused (10 R268 to R274), the BAR0 window (R276 to R279), MCTP (R280 to R285), and the
commands that are writes of one entry.
-/
namespace Sys2Proof.Machine

/-- Base and length in bytes of a share entry, in MiB: (09 R245, R267). -/
def shareRange (v : Nat) : Nat × Nat := (v % 2 ^ 32, v / 2 ^ 32)

/-- A value lies in the range of a scalar entry (10 R272, R278; 09 R245, R267; 12 R324). A reserved bit that is set is outside it (DEDUCED, log 51). -/
def State.inRange (s : State) (r : Row) (sub v : Nat) : Bool :=
  decide (v < 256 ^ r.type.size ∧ r.lo ≤ v ∧ v ≤ r.hi) && (match r.index with
    | 0x2020 => v / 256 ≠ 0 && v / 16 % 16 = 0
    | 0x2030 => decide ((shareRange v).1 + (shareRange v).2 ≤ 4032)
    | 0x2031 => decide ((shareRange v).1 + (shareRange v).2 ≤ 655360)
    | 0x7010 => v % 4096 = 0 && decide (v + 8192 * 2 ^ s.entry 0x7011 sub ≤ 2 ^ 64)
    | 0x7011 => decide (s.entry 0x7010 sub + 8192 * 2 ^ v ≤ 2 ^ 64)
    | _ => true)

/-- The share entry of another VF overlaps (09 R245). -/
def State.shareClash (s : State) (index sub v : Nat) : Bool :=
  let a := shareRange v
  (List.range 16).any fun k =>
    let b := shareRange (s.entry index k)
    1 ≤ k && k ≠ sub && decide (a.2 ≠ 0 ∧ b.2 ≠ 0 ∧ a.1 < b.1 + b.2 ∧ b.1 < a.1 + a.2)

/-- The state rules of the chapters accept a scalar write: those of 09 R245, 11 R309, 12 R322, R324, R329, 14 R371, 15 R384, R395. -/
def State.stateAllows (s : State) (index sub v : Nat) : Bool :=
  match index, sub with
  | 0x1100, 0x10 => s.imageCtrlOk v
  | 0x1100, 0x13 => s.image.stage = 0 || s.image.stage = 4 || s.image.stage = 5
  | 0x2020, r => !(s.ring r).enabled
  | 0x2030, f => !((List.range 64).any fun r => s.owner r = f && (s.ring r).enabled) && !s.shareClash 0x2030 f v
  | 0x2031, f => !((List.range 64).any fun r => s.owner r = f && (s.ring r).enabled) && !s.shareClash 0x2031 f v
  | 0x6100, 0x01 => s.steward.replan = 0
  | 0x7000, 0x02 => s.ident.attestState ≠ 1
  | 0x7000, 0x06 => !s.ident.sealWaits v
  | 0x7010, r => !(s.ring r).enabled
  | 0x7011, r => !(s.ring r).enabled
  | 0x7800, 0x01 => s.recorder.frozen false = decide (v = 2)
  | 0x7800, 0x02 => s.recorder.frozen true = decide (v = 2)
  | _, _ => true

/-- A half whose shape TEST_SHAPE would change at the next boundary (06 R157). -/
def State.testDiffers (s : State) : Bool :=
  [Half.west, Half.east].any fun h => s.units.fold.get h = 1 && (if s.testShape then s.units.shape.get h ≠ 12 else s.units.shape.get h = 12)

/-- A change of TEST_SHAPE or of debug mode asks for the next quiesced boundary, or no longer does (06 R157, 10 R293). -/
def State.requestTest (s : State) : State := { s with units := { s.units with testPending := s.testDiffers } }

/-- DEBUG_ON on what a finished hank's completion will carry (06 R168). -/
def Ending.markDebug (e : Ending) : Ending :=
  if e.distaff = 0xFF then e else { e with flags := e.flags ||| 8, ledgerFlags := e.ledgerFlags ||| 1 }

/-- Debug mode is enabled: every hank from its dispatch to its completion carries DEBUG_ON (06 R168, 10 R293). -/
def State.markDebug (s : State) : State :=
  let run := fun (d : Distaff) => { d with run := d.run.map fun r => { r with debugOn := true } }
  let ring := fun (x : Ring) => { x with hanks := x.hanks.map fun h => { h with ending := h.ending.map Ending.markDebug } }
  { s with distaffs := s.distaffs.map run, rings := s.rings.map ring }

/-- What a scalar entry does when a write of `v` has been applied; `ok`: the flash programs what it asks (10 R270, R273; 11 R299; 15 R384). -/
def State.entryAct (s : State) (index sub v : Nat) (ok : Bool) : State :=
  match index, sub with
  | 0x1000, 0x09 => s.startFlush
  | 0x1000, 0x0B => s.markRestore
  | 0x1100, 0x10 => s.imageCtrl v ok
  | 0x3820, g => s.rewarm g
  | 0x6000, _ => s.markWaits
  | 0x6100, 0x01 => s.startReplan
  | 0x7000, 0x02 => s.requestAttest
  | 0x7000, 0x06 => s.requestSeal v
  | 0x7800, 0x01 => if v = 1 then s.freeze false else s.thaw false 0
  | 0x7800, 0x02 => if v = 1 then s.freeze true else s.thaw true 0
  | 0x7800, 0x21 => { s with keep := s.keep.mirrorClear }
  | 0x8000, 0x01 => (if v = 1 then s.markDebug else s).requestTest
  | 0x8000, 0x02 => s.requestTest
  | _, _ => s

/-- A scalar write is applied: stored, journalled, and its action taken (10 R272, R273, R288). OLD of a WO entry is a free value (log 2). -/
def State.applyScalar (s : State) (path : Nat) (r : Row) (sub v : Nat) (ok : Bool) : State :=
  let new := BitVec.ofNat 64 v
  if r.access = .wo then ((s.modDict fun x => x.noteChange r.index sub path s.freeVal new false).useFree).entryAct r.index sub v ok
  else
    let old := BitVec.ofNat 64 (s.entry r.index sub)
    (s.modDict fun x => (x.store r.index sub new).noteChange r.index sub path old new (r.access = .rwp)).entryAct r.index sub v ok

/-- The device is halted: writes are refused (11 R313). -/
def State.halted (s : State) : Bool := s.board.phase = .haltedSag || s.board.phase = .haltedFatal

/-- A write to a scalar entry: the state after it and its status (10 R271, R272, R278, R283; 11 R313). -/
def State.putScalar (s : State) (path index sub v : Nat) (ok : Bool) : State × Nat :=
  if s.halted then (s, 0x06)
  else match s.rowNow index sub with
    | none => (s, 0x01)
    | some r =>
      if r.access = .ro || r.access = .const then (s, 0x03)
      else if !r.type.isScalar then (s, 0x04)
      else if !s.inRange r sub v then (s, 0x05)
      else if r.access ≠ .wo && s.entry index sub = v then (s, 0)
      else if !s.stateAllows index sub v then (s, 0x06)
      else (s.applyScalar path r sub v ok, 0)

/-- The bytes that a BYTES, STR or DIGEST entry holds for a write to change: CKPT_KEY is empty until it is written. -/
def State.heldBytes (s : State) (index sub : Nat) : Bytes :=
  if index = 0x7030 then (vget s.dict.ckptKeys none sub).getD [] else s.bytesValue index sub

/-- Bytes `o` onward replaced, the value growing to the end of the write (10 R279). -/
def overlay (old : Bytes) (o : Nat) (data : Bytes) : Bytes :=
  padTo o (old.take o) ++ data ++ old.drop (o + data.length)

/-- Stores the value of a writable non-scalar entry. -/
def State.storeBytes (s : State) (index sub : Nat) (b : Bytes) : State :=
  s.modDict fun x => match index, sub with
    | 0x7000, 0x01 => { x with attestNonce := b }
    | 0x7000, 0x05 => { x with sealNonce := b }
    | 0x7030, f => { x with ckptKeys := vset x.ckptKeys f (some b) }
    | 0x7810, k => { x with triggers := vset x.triggers k b }
    | _, _ => x

/-- A write of bytes to a non-scalar entry (10 R271, R279, R282; 12 R336; 14 R374; 15 R385). `ok`: the flash programs an image block. -/
def State.putBytes (s : State) (path index sub offset : Nat) (data : Bytes) (ok : Bool) : State × Nat :=
  if s.halted then (s, 0x06)
  else match s.rowNow index sub with
    | none => (s, 0x01)
    | some r =>
      if r.access = .ro || r.access = .const then (s, 0x03)
      else if r.type.isScalar then (s, 0x04)
      else if index = 0x1100 then s.writeBlock path offset data ok
      else if r.hi < offset + data.length then (s, 0x04)
      else
        let old := s.heldBytes index sub
        let new := overlay old offset data
        if index = 0x7810 && !triggerOk new then (s, 0x05)
        else if r.access ≠ .wo && new = old then (s, 0)
        else ((s.modDict fun x => x.noteChange index sub path (journalHash old) (journalHash new) false).storeBytes index sub new, 0)

/-- A read of a scalar entry (10 R270, R271, R277). -/
def State.getScalar (s : State) (index sub : Nat) : Sum Nat Nat :=
  match s.rowNow index sub with
  | none => .inr 0x01
  | some r => if r.access = .wo then .inr 0x02 else if !r.type.isScalar then .inr 0x04 else .inl (s.scalarValue index sub)

/-- ENTRY_LEN of an entry (10 R269, R276; 15 R385); of a scalar its size (log 28). -/
def State.entryLen (s : State) (r : Row) (sub : Nat) : Nat :=
  if r.type.isScalar then r.type.size
  else if r.index = 0x1100 && sub = 0x16 then s.stageLength
  else if r.index = 0x7030 then ((vget s.dict.ckptKeys none sub).map List.length).getD 0
  else (s.bytesValue r.index sub).length

def Row.entryMax (r : Row) : Nat := if r.type.isScalar then r.type.size else r.hi

/-- A read of `n` bytes of a non-scalar entry (10 R270, R271, R279). -/
def State.getBytes (s : State) (index sub offset n : Nat) : Sum Bytes Nat :=
  match s.rowNow index sub with
  | none => .inr 0x01
  | some r =>
    if r.access = .wo then .inr 0x02
    else if r.type.isScalar || s.entryLen r sub < offset + n then .inr 0x04
    else .inl (slice (s.bytesValue index sub) offset n)

/-- The answer of a host read. -/
def State.reply (s : State) (v : Nat) : State := { s with out := { s.out with reply := BitVec.ofNat 64 v } }

/-- INDEX and SUB of a slot (10 R276). -/
def Slot.index (x : Slot) : Nat := x.select.toNat / 256
def Slot.sub (x : Slot) : Nat := x.select.toNat % 256

/-- A waiting write or transfer of a slot is served: the state and its status (10 R278, R279). Bytes past the top of the 64-bit address space fall on the keys that
follow in the model's host memory (log 52). -/
def State.serveSlot (s : State) (x : Slot) (ok : Bool) : State × Nat :=
  match x.busy with
  | none => (s, x.code)
  | some (.inl v) => s.putScalar 0 x.index x.sub v.toNat ok
  | some (.inr (false, n)) =>
    match s.getBytes x.index x.sub x.xferOffset.toNat n with
    | .inl b => (s.put 2 (hostKey 0 x.xferAddr.toNat) b, 0)
    | .inr e => (s, e)
  | some (.inr (true, n)) => s.putBytes 0 x.index x.sub x.xferOffset.toNat (s.bytes 2 (hostKey 0 x.xferAddr.toNat) n) ok

/-- The request at the head of path 0's queue is served; BUSY falls (10 R278, R284). -/
def State.serveBar0 (s : State) (ok : Bool) : State :=
  match s.dict.bar0 with
  | [] => s
  | k :: rest =>
    let a := (s.modDict fun x => { x with bar0 := rest }).serveSlot (s.slot k) ok
    a.1.modSlot k fun x => { x with busy := none, code := a.2 }

/-- Every waiting request of path 0 is served, oldest first: a read on a path sees every write of that path that arrived before it (10 R284). -/
def State.serveAllBar0 (s : State) (ok : Bool) : State := s.dict.bar0.foldl (fun s _ => s.serveBar0 ok) s

/-- Path 0 is served until a slot's own request is done (10 R278: a read of STATUS waits until BUSY is 0). -/
def State.serveUntil (s : State) (k : Nat) (ok : Bool) : List Nat → State
  | [] => s
  | _ :: rest => if (s.slot k).busy.isNone then s else State.serveUntil (s.serveBar0 ok) k ok rest

/-- VALUE_READ (10 R277): all ones when the read fails. -/
def execValueRead (slot : Fin 16) (wide : Flashed Bool) (s : State) : Host.Outcome State Fault Refusal :=
  if !s.windowOpen then .next s
  else
    let s := s.serveAllBar0 wide.ok
    let x := s.slot slot
    let size := if wide.on then 2 ^ 64 else 2 ^ 32
    match s.getScalar x.index x.sub with
    | .inl v => .next ((s.modSlot slot fun x => { x with code := 0 }).reply (v % size))
    | .inr e => .next ((s.modSlot slot fun x => { x with code := e }).reply (size - 1))

/-- STATUS of a slot as it stands (10 R276). -/
def Slot.status (x : Slot) : Nat := x.code + x.kind * 2 ^ 8 + if x.busy.isSome then 2 ^ 31 else 0

/-- STATUS_READ (10 R278). -/
def execStatusRead (slot : Flashed (Fin 16)) (s : State) : Host.Outcome State Fault Refusal :=
  if !s.windowOpen then .next s
  else
    let s := s.serveUntil slot.on slot.ok s.dict.bar0
    .next (s.reply (s.slot slot.on).status)

/-- ENTRY_LEN and ENTRY_MAX of the entry a slot selects, zero when it is absent (10 R276). -/
def State.slotLengths (s : State) (x : Slot) : Nat × Nat :=
  match s.rowNow x.index x.sub with
  | some r => (s.entryLen r x.sub, r.entryMax)
  | none => (0, 0)

/-- A 32-bit read at an offset of a dictionary slot beside VALUE and STATUS, which VALUE_READ and STATUS_READ read: write-only and reserved offsets read
zero (10 R276). -/
def State.slotRead (s : State) (k o : Nat) : Nat :=
  let x := s.slot k
  match o with
  | 0x00 => x.select.toNat
  | 0x10 => x.status
  | 0x18 => x.xferAddr.toNat % 2 ^ 32
  | 0x1C => x.xferAddr.toNat / 2 ^ 32
  | 0x28 => x.xferOffset.toNat
  | 0x30 => (s.slotLengths x).1
  | 0x34 => (s.slotLengths x).2
  | _ => 0

/-- A 32-bit read of BAR0: zero at reserved offsets (09 R247). -/
def State.bar0Word (s : State) (fn o : Nat) : Nat :=
  if o < 0x40000 then s.ringRead fn (o / 0x1000) (o % 0x1000)
  else if o < 0x41000 && fn = 0 && s.windowOpen then s.slotRead ((o - 0x40000) / 0x100) (o % 0x100)
  else 0

/-- A read of BAR0: only aligned 32-bit and 64-bit reads return data (09 R247). -/
def State.bar0Read (s : State) (fn o size : Nat) : Nat :=
  if size = 4 && o % 4 = 0 then s.bar0Word fn o
  else if size = 8 && o % 8 = 0 then s.bar0Word fn o + 2 ^ 32 * s.bar0Word fn (o + 4)
  else 0

/-- The endpoint of an MCTP path. -/
def Dictionary.end_ (x : Dictionary) : Mctp → MctpEnd
  | .i3c => x.i3c
  | .vdm => x.vdm

def State.modEnd (s : State) (p : Mctp) (f : MctpEnd → MctpEnd) : State :=
  s.modDict fun x => match p with
    | .i3c => { x with i3c := f x.i3c }
    | .vdm => { x with vdm := f x.vdm }

/-- Sends the response of a request (10 R281, R284). -/
def State.respond (s : State) (p : Mctp) (command : Nat) (q : Request) (status : Nat) (data : Bytes) : State :=
  s.modEnd p fun x => { x with out := x.out ++ [respondTo command q status data] }

/-- A path is there: BAR0 and PCIe VDM under the same rule, I3C from start-up on (10 R275). -/
def State.pathOpen (s : State) : Path → Bool
  | .bar0 => s.windowOpen
  | .i3c => s.board.phase ≠ .reset
  | .vdm => s.windowOpen
  | .device => s.board.phase ≠ .reset

def mctpPath : Mctp → Path
  | .i3c => .i3c
  | .vdm => .vdm

/-- A request arrives: dropped (10 R280), answered BUSY at a full queue, or queued (R284). -/
def State.mctpArrive (s : State) (p : Mctp) (command : Nat) (q : Request) : State :=
  if !s.pathOpen (mctpPath p) || !q.vendorOk || q.protocol ≠ 1 then s
  else if 8 ≤ (s.dict.end_ p).queue.length then s.respond p command q 0x08 []
  else s.modEnd p fun x => { x with queue := x.queue ++ [(command, q)] }

/-- A message that is malformed or has a reserved field set (10 R281 to R283). -/
def requestBad (q : Request) (command : Nat) : Bool :=
  q.status ≠ 0 || q.reserved7 ≠ 0 || q.reserved14 ≠ 0 || ((command = 1 || command = 2 || command = 5) && q.offset ≠ 0) ||
  (if command = 2 || command = 4 then q.data.length ≠ q.length.toNat else !q.data.isEmpty) || ((command = 1 || command = 5) && q.length ≠ 0)

/-- MCTP WRITE: LENGTH must be the type's size (10 R282). -/
def State.mctpWrite (s : State) (p : Mctp) (q : Request) (ok : Bool) : State × Nat :=
  match s.rowNow q.index.toNat q.sub.toNat with
  | some r =>
    if !s.halted && (r.access ≠ .ro && r.access ≠ .const) && (!r.type.isScalar || q.data.length ≠ r.type.size) then (s, 0x04)
    else s.putScalar (pathCode (mctpPath p)) q.index.toNat q.sub.toNat (ofLe q.data) ok
  | none => s.putScalar (pathCode (mctpPath p)) q.index.toNat q.sub.toNat (ofLe q.data) ok

/-- The response data of GET_INFO (10 R282). -/
def State.infoBytes (s : State) (r : Row) (sub : Nat) : Bytes :=
  le 1 r.type.code ++ le 1 r.access.code ++ zeros 2 ++ le 4 (s.entryLen r sub) ++ le 4 r.entryMax

/-- A request is served: the state, its status and the response data (10 R282). -/
def State.serveRequest (s : State) (p : Mctp) (command : Nat) (q : Request) (ok : Bool) : State × Nat × Bytes :=
  let i := q.index.toNat
  let k := q.sub.toNat
  if command = 0 || 5 < command || requestBad q command then (s, 0x09, [])
  else if command = 1 then
    match s.getScalar i k with
    | .inl v => (s, 0, le (((s.rowNow i k).map fun (r : Row) => r.type.size).getD 0) v)
    | .inr e => (s, e, [])
  else if command = 2 then let a := s.mctpWrite p q ok; (a.1, a.2, [])
  else if command = 5 then
    match s.rowNow i k with
    | some r => (s, 0, s.infoBytes r k)
    | none => (s, 0x01, [])
  else if q.length = 0 || 4096 < q.length.toNat then (s, 0x04, [])
  else if command = 3 then
    match s.getBytes i k q.offset.toNat q.length.toNat with
    | .inl b => (s, 0, b)
    | .inr e => (s, e, [])
  else let a := s.putBytes (pathCode (mctpPath p)) i k q.offset.toNat q.data ok; (a.1, a.2, [])

/-- The request at the head of an MCTP path's queue is served and answered (10 R284). -/
def State.serveMctp (s : State) (p : Mctp) (ok : Bool) : State :=
  match (s.dict.end_ p).queue with
  | [] => s
  | (c, q) :: rest =>
    let a := (s.modEnd p fun x => { x with queue := rest }).serveRequest p c q ok
    a.1.respond p c q a.2.1 a.2.2

/-- The requests of a path that still wait are served, oldest first: a path's writes are applied in the order they arrive (10 R284). -/
def State.servePath (s : State) : Path → State
  | .bar0 => s.serveAllBar0 true
  | .i3c => s.dict.i3c.queue.foldl (fun s _ => s.serveMctp .i3c true) s
  | .vdm => s.dict.vdm.queue.foldl (fun s _ => s.serveMctp .vdm true) s
  | .device => s

/-- The queue of a path is full (10 R284). -/
def State.pathFull (s : State) : Path → Bool
  | .bar0 => decide (8 ≤ s.dict.bar0.length)
  | .i3c => decide (8 ≤ s.dict.i3c.queue.length)
  | .vdm => decide (8 ≤ s.dict.vdm.queue.length)
  | .device => false

/-- A write by a path as a command of its own, served after what that path has waiting, or answered with BUSY at a full queue (10 R284); its status is the answer
(log 8). -/
def State.pathWrite (s : State) (p : Path) (index sub v : Nat) (ok : Bool) : State :=
  if !s.pathOpen p then s else if s.pathFull p then s.reply 0x08 else let a := (s.servePath p).putScalar (pathCode p) index sub v ok; a.1.reply a.2

def State.pathBytes (s : State) (p : Path) (index sub offset : Nat) (data : Bytes) (ok : Bool) : State :=
  if !s.pathOpen p then s
  else if s.pathFull p then s.reply 0x08
  else
    let s := s.servePath p
    if data.isEmpty || 4096 < data.length then s.reply 0x04
    else let a := s.putBytes (pathCode p) index sub offset data ok; a.1.reply a.2

/-- DICT_WRITE (10 R272). -/
def execDictWrite (p : Path) (index : BitVec 16) (sub : BitVec 8) (v : BitVec 64) (s : State) : Host.Outcome State Fault Refusal :=
  .next (s.pathWrite p index.toNat sub.toNat v.toNat true)

/-- CONDITIONING_WRITE (04 R94). -/
def execConditioningWrite (p : Path) (g : Fin 137) (v : BitVec 8) (s : State) : Host.Outcome State Fault Refusal := .next (s.pathWrite p 0x3820 g v.toNat true)

/-- MARGIN_REPLAN (11 R309). -/
def execMarginReplan (p : Path) (v : BitVec 8) (s : State) : Host.Outcome State Fault Refusal := .next (s.pathWrite p 0x6100 0x01 v.toNat true)

/-- SETTINGS_FLUSH (10 R287). -/
def execSettingsFlush (p : Path) (v : BitVec 8) (s : State) : Host.Outcome State Fault Refusal := .next (s.pathWrite p 0x1000 0x09 v.toNat true)

/-- SETTINGS_RESTORE (10 R287, 15 R393). -/
def execSettingsRestore (p : Path) (v : BitVec 32) (s : State) : Host.Outcome State Fault Refusal := .next (s.pathWrite p 0x1000 0x0B v.toNat true)

/-- POWER_BUDGET_WRITE (10 R292, 11 R297): it applies from the next grant decision and evaluation, which read the entry. -/
def execPowerBudgetWrite (p : Path) (thermal : Bool) (v : BitVec 16) (s : State) : Host.Outcome State Fault Refusal :=
  .next (s.pathWrite p 0x6000 (if thermal then 0x02 else 0x01) v.toNat true)

/-- DEBUG_ENABLE_WRITE (10 R293). -/
def execDebugEnableWrite (p : Path) (v : BitVec 8) (s : State) : Host.Outcome State Fault Refusal := .next (s.pathWrite p 0x8000 0x01 v.toNat true)

/-- TEST_SHAPE_WRITE (06 R157). -/
def execTestShapeWrite (p : Path) (v : BitVec 8) (s : State) : Host.Outcome State Fault Refusal := .next (s.pathWrite p 0x8000 0x02 v.toNat true)

/-- ATTEST_REQUEST (12 R322). -/
def execAttestRequest (p : Path) (v : BitVec 8) (s : State) : Host.Outcome State Fault Refusal := .next (s.pathWrite p 0x7000 0x02 v.toNat true)

/-- SEAL_RING (12 R329). -/
def execSealRing (p : Path) (v : BitVec 8) (s : State) : Host.Outcome State Fault Refusal := .next (s.pathWrite p 0x7000 0x06 v.toNat true)

/-- CKPT_KEY_WRITE (12 R336). -/
def execCkptKeyWrite (p : Path) (fn : Fin 16) (key : Bytes) (s : State) : Host.Outcome State Fault Refusal := .next (s.pathBytes p 0x7030 fn 0 key true)

/-- FREEZE (14 R371). -/
def execFreeze (p : Path) (classT : Bool) (s : State) : Host.Outcome State Fault Refusal := .next (s.pathWrite p 0x7800 (if classT then 0x02 else 0x01) 1 true)

/-- THAW (14 R371, R372). -/
def execThaw (p : Path) (classT : Bool) (s : State) : Host.Outcome State Fault Refusal := .next (s.pathWrite p 0x7800 (if classT then 0x02 else 0x01) 2 true)

/-- MIRROR_CLEAR (14 R373). -/
def execMirrorClear (p : Path) (v : BitVec 32) (s : State) : Host.Outcome State Fault Refusal := .next (s.pathWrite p 0x7800 0x21 v.toNat true)

/-- BEGIN (15 R384). -/
def execBegin (p : Path) (s : State) : Host.Outcome State Fault Refusal := .next (s.pathWrite p 0x1100 0x10 1 true)

/-- VERIFY (15 R384). -/
def execVerify (p : Path) (s : State) : Host.Outcome State Fault Refusal := .next (s.pathWrite p 0x1100 0x10 2 true)

/-- CANCEL (15 R384). -/
def execCancel (p : Path) (s : State) : Host.Outcome State Fault Refusal := .next (s.pathWrite p 0x1100 0x10 3 true)

/-- ARM (15 R384, R387, R390). -/
def execArm (p : Flashed Path) (s : State) : Host.Outcome State Fault Refusal := .next (s.pathWrite p.on 0x1100 0x10 4 p.ok)

/-- CONFIRM (15 R384, R388). -/
def execConfirm (p : Path) (s : State) : Host.Outcome State Fault Refusal := .next (s.pathWrite p 0x1100 0x10 5 true)

/-- DISARM (15 R384, R389). -/
def execDisarm (p : Path) (s : State) : Host.Outcome State Fault Refusal := .next (s.pathWrite p 0x1100 0x10 6 true)

/-- IMAGE_BLOCK (15 R385). -/
def execImageBlock (p : Path) (offset : BitVec 32) (data : Bytes) (ok : Bool) (s : State) : Host.Outcome State Fault Refusal :=
  .next (s.pathBytes p 0x1100 0x16 offset.toNat data ok)

/-- READ (10 R282). -/
def execRead (p : Mctp) (q : Request) (s : State) : Host.Outcome State Fault Refusal := .next (s.mctpArrive p 1 q)

/-- WRITE (10 R282). -/
def execWrite (p : Mctp) (q : Request) (s : State) : Host.Outcome State Fault Refusal := .next (s.mctpArrive p 2 q)

/-- READ_BYTES (10 R282). -/
def execReadBytes (p : Mctp) (q : Request) (s : State) : Host.Outcome State Fault Refusal := .next (s.mctpArrive p 3 q)

/-- WRITE_BYTES (10 R282). -/
def execWriteBytes (p : Mctp) (q : Request) (s : State) : Host.Outcome State Fault Refusal := .next (s.mctpArrive p 4 q)

/-- GET_INFO (10 R282). -/
def execGetInfo (p : Mctp) (q : Request) (s : State) : Host.Outcome State Fault Refusal := .next (s.mctpArrive p 5 q)

/-- DICT_REQUEST_SERVICE: the oldest request of a path is applied and answered (10 R273, R284). -/
def execDictRequestService (q : Flashed Requester) (s : State) : Host.Outcome State Fault Refusal :=
  if s.board.phase = .reset then .next s
  else match q.on with
    | .slot k => .next (if s.dict.bar0.head? = some k.val then s.serveBar0 q.ok else s)
    | .mctp p => .next (s.serveMctp p q.ok)

/-- A control response: command, completion code 0 and data, as the MCTP base specification lays them out (10 R280; PRESUMED, log 7). -/
def State.control (s : State) (p : Mctp) (command : Nat) (data : Bytes) : State :=
  if !s.pathOpen (mctpPath p) then s else s.modEnd p fun x => { x with control := x.control ++ [le 1 command ++ le 1 0 ++ data] }

/-- SET_ENDPOINT_ID (10 R280); 0x00 and 0xFF are no endpoint IDs: completion code 2 (PRESUMED, log 7). -/
def execSetEndpointId (p : Mctp) (eid : BitVec 8) (s : State) : Host.Outcome State Fault Refusal :=
  if !s.pathOpen (mctpPath p) then .next s
  else if eid = 0 || eid = 0xFF then .next (s.modEnd p fun x => { x with control := x.control ++ [le 1 1 ++ le 1 2] })
  else .next ((s.modEnd p fun x => { x with eid := eid }).control p 1 (le 1 0 ++ le 1 eid.toNat ++ le 1 0))

/-- GET_ENDPOINT_ID (10 R280). -/
def execGetEndpointId (p : Mctp) (s : State) : Host.Outcome State Fault Refusal := .next (s.control p 2 (le 1 (s.dict.end_ p).eid.toNat ++ le 1 0 ++ le 1 0))

/-- GET_MCTP_VERSION_SUPPORT (10 R280). -/
def execGetMctpVersionSupport (p : Mctp) (s : State) : Host.Outcome State Fault Refusal := .next (s.control p 4 (le 1 1 ++ le 4 Config.mctpVersion.toNat))

/-- GET_MESSAGE_TYPE_SUPPORT: 0x00 and 0x7E (10 R280). -/
def execGetMessageTypeSupport (p : Mctp) (s : State) : Host.Outcome State Fault Refusal := .next (s.control p 5 (le 1 2 ++ le 1 0x00 ++ le 1 0x7E))

/-- GET_VENDOR_DEFINED_MSG_SUPPORT: the PCI vendor ID of the device's configuration space (10 R280). -/
def execGetVendorDefinedMsgSupport (p : Mctp) (s : State) : Host.Outcome State Fault Refusal :=
  .next (s.control p 6 (le 1 0xFF ++ le 1 0 ++ (le 2 Config.vendorId.toNat).reverse ++ (le 2 Config.mctpCommandSet.toNat).reverse))

end Sys2Proof.Machine
end

