-- ==== Sys2Proof/Machine/Movers.lean ====
section
/-!
DEFINITION. Data movement: LOAD and STORE (07 R192), COPY and GATHER (R193).
-/
namespace Sys2Proof.Machine

/-- The units a LOAD or STORE names. -/
def moverUnits (w : Nat) : List Nat := if ldBobbin w then (if wAll w then List.range 32 else [wUnit w]) else if wAll w then List.range 128 else [wUnit w]

/-- The buffer offset of a unit's part (07 R192). -/
def moverOffset (w u : Nat) : Nat := ldOff w + (if wAll w && ldStep w then u * ldLen w else 0)

/-- LOAD: buffer bytes to the local store of each unit (07 R192, R185). -/
def effLoad : WordEffect := fun r k w s =>
  let part := fun (u : Nat) (s : State) =>
    let g := s.readIdx r k (ldBuf w) (moverOffset w u) (ldLen w)
    let a := lsKey (ldBobbin w) u (ldLs w)
    match g.fail with
    | none => (g.st.put (lsSpace (ldBobbin w)) a g.bytes, none)
    | some f => (g.st.spoil (lsSpace (ldBobbin w)) a (ldLen w), some f)
  let x := eachUnit (moverUnits w) part s
  .done x.1 x.2

/-- STORE: local-store bytes to the buffer (07 R192, R185). With ALL set and STEP clear every unit writes the same range, in ascending order, and the last one's bytes
remain (log 57). -/
def effStore : WordEffect := fun r _ w s =>
  let part := fun (u : Nat) (s : State) =>
    let g := s.readLs (lsSpace (ldBobbin w)) (lsKey (ldBobbin w) u (ldLs w)) (ldLen w)
    match g.fail with
    | none => (g.st.writeIdx r (ldBuf w) (moverOffset w u) g.bytes, none)
    | some f => (g.st.spoilIdx r (ldBuf w) (moverOffset w u) (ldLen w), some f)
  let x := eachUnit (moverUnits w) part s
  .done x.1 x.2

/-- COPY: buffer bytes to buffer bytes (07 R193). Within one buffer, ranges that meet leave undefined bytes: the order of the move is not given (log 2). -/
def effCopy : WordEffect := fun r k w s =>
  let g := s.readIdx r k (cpSrc w) (cpSoff w) (cpLen w)
  if g.fail.isSome || (cpSrc w = cpDst w && meets (cpSoff w) (cpLen w) (cpDoff w) (cpLen w) && cpSoff w ≠ cpDoff w) then
    .done (g.st.spoilIdx r (cpDst w) (cpDoff w) (cpLen w)) g.fail
  else .done (g.st.writeIdx r (cpDst w) (cpDoff w) g.bytes) none

/-- GATHER: destination row k is source row IDX[k]; a row past SRC ends the hank with RANGE, and every other row is written (07 R185, R193).
Rows move in ascending order, so where DST is the buffer of SRC or IDX a later row sees what an earlier one wrote (log 57). -/
def effGather : WordEffect := fun r k w s =>
  let n := gaRow w
  let len := (r.buf (gaSrc w)).elim 0 fun b => b.length
  let part := fun (j : Nat) (s : State) =>
    let i := s.readIdx r k (gaIdx w) (4 * j) 4
    let row := ofLe i.bytes
    match i.fail with
    | some f => (i.st.spoilIdx r (gaDst w) (j * n) n, some f)
    | none =>
      if len < (row + 1) * n then let f := i.st.failRange r k; (f.1.spoilIdx r (gaDst w) (j * n) n, some f.2)
      else
        let g := i.st.readIdx r k (gaSrc w) (row * n) n
        match g.fail with
        | none => (g.st.writeIdx r (gaDst w) (j * n) g.bytes, none)
        | some f => (g.st.spoilIdx r (gaDst w) (j * n) n, some f)
  let x := eachUnit (List.range (gaCount w)) part s
  .done x.1 x.2

def execLoad (d : Fin 8) (s : State) : Host.Outcome State Fault Refusal := .next (s.word d .load effLoad)
def execStore (d : Fin 8) (s : State) : Host.Outcome State Fault Refusal := .next (s.word d .store effStore)
def execCopy (d : Fin 8) (s : State) : Host.Outcome State Fault Refusal := .next (s.word d .copy effCopy)
def execGather (d : Fin 8) (s : State) : Host.Outcome State Fault Refusal := .next (s.word d .gather effGather)

end Sys2Proof.Machine
end

