-- ==== Sys2Proof/Machine/HostFaults.lean ====
section
/-!
DEFINITION. HOST_READ_FAULT: what a faulting read of host memory does, by what it serves (09 R264).
-/
namespace Sys2Proof.Machine

/-- The effect of a word that can read a host buffer. -/
def hostReader (d : Nat) : Op → Option WordEffect
  | .ledgerMark => some (effLedgerMark d)
  | .load => some effLoad
  | .copy => some effCopy
  | .gather => some effGather
  | .stateSave => some (effSave d)
  | .stateRestore => some (effRestore d)
  | .coupleLoad => some (effCoupleLoad d)
  | .stateInit => some (effStateInit d)
  | .schedLoad => some (effSchedLoad d)
  | .anneal => some (effAnneal d false)
  | .sample => some (effAnneal d true)
  | .noiseSeed => some (effNoiseSeed d)
  | _ => none

/-- A word that holds its permits and has not run, or the next word when it needs none, runs with one of its host reads faulting: that part fails and every
other part completes (07 R185, 09 R264). -/
def State.faultBuffer (s : State) (d w kind address length : Nat) : State :=
  match s.run d with
  | none => s
  | some r =>
    match (r.wordAt w).bind fun c => (hostReader d c.1).map fun e => (c.1, c.2, e) with
    | none => s
    | some (o, bits, e) =>
      let e' : WordEffect := fun r k w s => e { r with bad := some { word := k, kind := kind, address := address, length := length } } k w s
      let stands := r.issued.any fun i => i.index = w && i.granted && !i.ran
      if stands && !(s.anneal.any fun a => a.distaff = d && a.word = w) then s.offer d w bits o e'
      else if w = r.next && requestDraw o bits = 0 then s.issueNext d o e'
      else s

/-- HOST_READ_FAULT (09 R264). -/
def execHostReadFault (what : HostRead) (kind : Fin 4) (address : BitVec 64) (length : BitVec 32) (s : State) : Host.Outcome State Fault Refusal :=
  if s.board.phase ≠ .ready then .next s
  else match what with
    | .entry r => .next (s.faultEntry r false kind address.toNat length.toNat)
    | .header r => .next (s.faultEntry r true kind address.toNat length.toNat)
    | .region => .next (s.faultRegion kind address.toNat length.toNat)
    | .buffer d w => .next (s.faultBuffer d w kind address.toNat length.toNat)
    | .transfer k => .next (s.faultTransfer k kind address.toNat length.toNat)

end Sys2Proof.Machine
end

