-- ==== Sys2Proof/Machine/Startup.lean ====
section
/-!
DEFINITION. The start: steps 1 to 10 of 13 R347, with image selection (R350), settings (10 R287; 15 R391 to R393), self-test and mapping (13 R351, R352), the margin
plan (11 R305 to R308), the keep store (R315), lost hanks (13 R355, R356) and the ledger chains (12 R323).
-/
namespace Sys2Proof.Machine

/-- A slot verifies at step 2: it has a boot key record, and checks 1 to 5 and 7 pass with the K of it. Checks 1, 3, 7 and the key digest passed when the slot
was staged and pass again unless its bytes have changed (13 R350; 15 R381, R383; log 47). -/
def State.slotVerifies (s : State) (flash : Bool) (b : Bool) : Bool := flash && (s.image.slot b).bootKey.isSome && s.slotValid (s.image.slot b)

/-- The slot boots. -/
def State.boot (s : State) (b trial : Bool) : State :=
  { s with image := { s.image with active := some b, running := (s.image.slot b).image, trialRunning := trial } }

/-- A trial ends by itself: a control record with no trial, and IMAGE_FALLBACK (15 R389). -/
def State.fallBack (s : State) (b : Bool) (reason count : Nat) : State :=
  let x := s.image
  ({ s with image := x.control_ x.control.confirmed none 0 0 }).emit (fallbackNotice x b x.control.confirmed reason count)

/-- Sets bits of START_LIMIT_CAUSE (13 R354). -/
def State.limit (s : State) (bit_ : Nat) (on : Bool) : State :=
  if on then { s with start := { s.start with cause := s.start.cause ||| BitVec.ofNat 16 (2 ^ bit_) } } else s

/-- The confirmed slot boots, or the other slot, which becomes confirmed, or none: RECOVERY (13 R350 steps 2 to 4). -/
def State.bootConfirmed (s : State) (flash : Bool) : State :=
  let c := s.image.control.confirmed
  if s.slotVerifies flash c then s.boot c false
  else if s.slotVerifies flash !c then
    let x := s.image
    (({ s with image := x.control_ (!c) none 0 0 }).emit (fallbackNotice x c (!c) 4 0)).boot (!c) false
  else s.limit 0 true

/-- Step 2 and the image's own self-test of step 3 (13 R350, R354; 15 R387, R389). A flash that does not answer verifies nothing and holds no new record
(16 R403). -/
def State.selectImage (s : State) (flash selfTest : Bool) : State :=
  let k := s.image.control
  match k.trial with
  | none => s.bootConfirmed flash
  | some b =>
    if !flash then s.bootConfirmed flash
    else if k.window ≤ k.count then (s.fallBack b 2 k.count).bootConfirmed flash
    else if !s.slotVerifies flash b then (s.fallBack b 1 k.count).bootConfirmed flash
    else
      let s := { s with image := s.image.control_ k.confirmed (some b) (k.count + 1) k.window }
      if selfTest then s.boot b true else ((s.limit 1 true).fallBack b 0 (k.count + 1)).bootConfirmed flash

/-- The marked settings area of a slot is replaced by schema defaults at a cold reset (10 R287). -/
def State.restoreArea (s : State) (b : Bool) : State :=
  s.modDict fun x =>
    if !x.restoreMark.get (slotSide b) then x
    else { x.writeArea b (s.image.schemaOf b) x.jseq [] with restoreMark := x.restoreMark.set (slotSide b) false }

/-- RWP entries that the manual tables. -/
def rwpCount : Nat := ((schema.filter fun r => r.access = .rwp).map fun r => r.last + 1 - r.first).sum

/-- The settings migration of a trial start whose slot has no valid copy (15 R392). Entries that no table lists are the images' own (log 12). -/
def State.migrate (s : State) : State :=
  match s.image.active, s.image.running with
  | some b, some i =>
    if !s.image.trialRunning || (s.dict.area b).isSome then s
    else
      let old := s.dict.area s.image.control.confirmed
      let o := (s.image.slot s.image.control.confirmed).image
      let more := Config.migrationExtra ((o.map fun j => j.version).getD 0) ((o.map fun j => j.schema).getD 0) i.version i.schema
      let held := (old.map fun a => (a.jseq, a.values)).getD (0, [])
      let report := if old.isSome then (rwpCount + more 0, more 1, more 2) else (0, rwpCount + more 0 + more 1, 0)
      { s with dict := s.dict.writeArea b i.schema held.1 held.2, image := { s.image with migration := report } }
  | _, _ => s

/-- The newest valid copy of the active slot's area; in RECOVERY of the confirmed slot's (log 50). -/
def State.activeArea (s : State) : Option Settings := s.dict.area (s.image.active.getD s.image.control.confirmed)

/-- The settings area is loaded (10 R287). -/
def State.loadSettings (s : State) : State :=
  match s.activeArea with
  | some a => s.modDict fun x => { x with values := if s.image.active.isSome then a.values else x.values, flushJseq := a.jseq }
  | none => s

/-- A kept journal record is applied again (10 R287). -/
def Dictionary.replay (from_ : Nat) (x : Dictionary) (j : JournalRec) : Dictionary :=
  if !j.rwp || j.jseq ≤ from_ then x
  else { x.store j.index j.sub j.new with unflushed := x.unflushed ++ [(j.jseq, entryKey j.index j.sub)] }

/-- The kept journal: of the save buffer, or after a cold start of the newest complete save area; its RWP records above the settings area are applied, over
what the I3C path has written before the keep-store step: those records have the higher JSEQ, so they are applied after them and stand (10 R285, R287; 11
R315). -/
def State.replayJournal (s : State) (kept : List JournalRec) : State :=
  let n := (s.activeArea.map fun a => a.jseq).getD 0
  let mark := fun (j : JournalRec) => if j.rwp then { j with flushed := decide (j.jseq ≤ n) } else j
  s.modDict fun x =>
    let early := x.journal.filter fun j => !kept.any fun k => k.jseq = j.jseq
    let y := kept.foldl (Dictionary.replay n) { x with unflushed := [] }
    let z := early.foldl (fun (z : Dictionary) j => z.store j.index j.sub j.new) y
    { z with journal := lastOf 256 (kept.map mark ++ early), unflushed := y.unflushed ++ x.unflushed }

/-- SELFTEST_FAIL (13 R410). -/
def selfTestNotice (step kind unit cls : Nat) : Notice :=
  devNotice 0x0B02 error 294 (le 1 step ++ le 1 kind ++ le 2 unit ++ le 1 cls ++ zeros 3)

def State.emitAll (s : State) (ns : List Notice) : State := ns.foldl State.emit s

/-- Step 4: both rails rise to 0.85 V (13 R347; 16 R399). -/
def State.raiseRails (s : State) : State := s.modSteward fun x => { x with vdd := ⟨850, 850⟩ }

/-- The 256 B lines of the SRAM beyond the spares of their slices, by number, each slice's in its order (08 R213, R216). -/
def faultyLines (i : StartInputs) : List Nat := i.sram.flatMap fun x => x.lines.map fun o => sliceAddress x.slice (256 * o.val) / 256

/-- Step 4: SRAM test and repair; the remap store has 1,024 lines, and a slice with a faulty line that finds no place in it fails (08 R216; 13 R354, R410). -/
def State.testSram (s : State) (i : StartInputs) : State :=
  let lines := faultyLines i
  let s := s.modMem fun m => { m with repairs := (i.sram.map fun x => x.rows.val + x.groups.val).sum, remapped := min lines.length 1024,
                                      remapLines := lines.take 1024 }
  let s := { s with start := { s.start with repaired := true } }
  (s.limit 2 (decide (1024 < lines.length))).emitAll ((((lines.drop 1024).map (· % 512)).dedup).map fun k => selfTestNotice 4 0 k 3)

/-- The units as the self-test finds them (13 R351, R352). -/
def testedUnits (i : StartInputs) : Units :=
  let cls := fun p => ((i.spindleFails.find? fun c => c.1 = p).map fun c => classOf c.2).getD 0
  let x : Units := { Units.reset with classes := Vector.ofFn (fun (p : Fin 136) => cls p.val), bobbinRetired := i.bobbinFails }
  let x := (x.tile .west).tile .east
  (((x.settle false .west).settle false .east).mapBobbins .west).mapBobbins .east

/-- Step 5: Spindle, Bobbin and Distaff self-test and mapping, with epoch 0 (13 R351, R352; 06 R154; 04 R90). -/
def State.testUnits (s : State) (i : StartInputs) : State :=
  let serve := fun (d : Nat) (x : Distaff) => { x with inService := !i.distaffFails.contains d }
  let s := { s with units := testedUnits i, distaffs := s.distaffs.mapIdx serve }
  let fails := (i.spindleFails.map fun c => (c.1, classOf c.2)).filter fun c => c.2 ≠ 0
  let s := s.emitAll ((fails.map fun c => selfTestNotice 5 1 c.1 c.2) ++ (i.bobbinFails.map fun p => selfTestNotice 5 2 p 3) ++
    i.distaffFails.map fun d => selfTestNotice 5 3 d 3)
  (s.shapeRecord ⟨0, 0⟩ 1).retireAll ((fails.filter fun c => c.2 = 3).map fun c => c.1)

/-- Step 6: LPDDR5X training, at most 150 ms, or at most 20 ms from the stored results; the time it takes and, on a cold start, the 32 KiB of results are free
values (08 R228, R229; 13 R347; log 2). -/
def State.trainLp (s : State) (i : StartInputs) (cold : Bool) : State :=
  let t := BitVec.ofNat 32 (s.freeVal.toNat % if cold then 150001 else 20001)
  let s := s.useFree
  let n := s.out.free
  let s := if cold then { s.modMem fun m => { m with trainResults := some n } with out := { s.out with free := n + 32768 } } else s
  (s.modMem fun m => { m with trainFail := i.lpTrainFails, trainTime := t }).limit 6 (i.lpTrainFails ≠ 0)

/-- V_dom rows that spare out exactly the units of a stored plan (11 R307, R308). -/
def sparedRows (spared : List (Bool × Nat)) : List (List Nat) :=
  (List.range 296).map fun d => if spared.any (fun u => d = if u.1 then 136 + u.2 else u.2) then [0xFFFF] else [0]

/-- A warm start reloads the last stored plan; before the first plan the nominal voltages apply (11 R308). -/
def State.reloadPlan (s : State) : State :=
  match s.keep.plan with
  | some p => ((s.marginSparing (sparedRows p.2)).modSteward fun x => { x with plan := p.1 }).dropUnplanned
  | none => s

/-- Step 8: the plan, before its voltages are set (11 R305 to R308). -/
def State.startPlan (s : State) (cold : Bool) (i : StartInputs) : State := if cold then s.makePlan i.vdom else s.reloadPlan

/-- The end of step 8: the plan voltages (11 R306). -/
def State.setPlan (s : State) : State := (s.applyPlan .west).applyPlan .east

/-- KEEP_STATE (11 R316). -/
def Keep.stateNow (x : Keep) : Nat :=
  if x.newest.isNone then (if x.torn || x.saveSeq ≠ 0 then 3 else 0) else if x.torn then 2 else 1

/-- The record KEEP_REPORT (11 R315). -/
def keepNotice (state : Nat) (v : Option Save) : Notice :=
  let f := fun (g : Save → Nat) => (v.map g).getD 0
  devNotice 0x0605 notice 293 (le 1 state ++ le 1 (f fun v => v.cause) ++ zeros 2 ++ le 4 (f fun v => v.saveSeq) ++ le 4 (f fun v => v.powerOn) ++ zeros 4)

/-- Step 9: the newest complete save area is exposed (11 R315; 13 R354). -/
def State.readKeep (s : State) (fault : Bool) : State :=
  let v := if fault then none else s.keep.newest.map fun c => c.2
  let k := if fault then 4 else s.keep.stateNow
  (({ s with keep := { s.keep with state := k, report := v } }).emit (keepNotice k v)).limit 8 fault

/-- COUNT of a ring of a save (13 R355). -/
def RingSave.outstanding (x : RingSave) : Nat := (x.accepted - x.tail).toNat

/-- A LOST_REPORT record (13 R355). -/
def Save.lostRecord (v : Save) (r : Nat) : Bytes :=
  match v.rings[r]? with
  | some x =>
    let n := x.outstanding
    le 1 r ++ le 1 x.owner ++ zeros 2 ++ le 4 n ++ le 8 (wrap 48 ((x.nextSeq : Int) - n)) ++ le 8 (wrap 48 ((x.nextSeq : Int) - 1)) ++
    le 8 ((v.ledger.getD r (zero32, 0, 0, 0)).2.2.1)
  | none => zeros 32

/-- The rings of a save with OUTSTANDING hanks, in ring order. -/
def Save.lostRings (v : Save) : List Nat := (List.range 64).filter fun r => (v.rings[r]?.any fun x => x.outstanding ≠ 0)

/-- The lost-hank report of a fresh save (13 R355, R356). -/
def State.reportLost (s : State) : State :=
  match s.keep.report with
  | some v =>
    let fresh := decide (s.keep.reportedSeq < v.saveSeq)
    let lost := if fresh then v.lostRings.map v.lostRecord else []
    let st := { s with start := { s.start with lost := lost, lostState := if !fresh then 2 else if lost.isEmpty then 0 else 1 },
                       keep := { s.keep with reportedSeq := v.saveSeq } }
    st.emitAll (lost.map fun b => devNotice 0x0B05 error 294 b)
  | none => { s with start := { s.start with lostState := 2 } }

/-- The ledger chains begin (12 R323). -/
def State.startChains (s : State) : State :=
  let prev := fun r => match s.keep.report with
    | some v => (v.ledger.getD r (zero32, 0, 0, 0)).1
    | none => zero32
  let gen := fun r => digest (ascii "OLF-LEDGER" ++ serial ++ le 4 s.keep.powerOn ++ le 4 s.keep.resetCount ++ le 1 r ++ prev r)
  let begin_ := fun (r : Nat) (x : Ring) => { x with genesis := gen r, chainHead := gen r, chainIndex := 0 }
  { s with rings := s.rings.mapIdx begin_ }

/-- The bits of START_LIMIT_CAUSE that the mapping and the plan decide (13 R354). -/
def State.limitUnits (s : State) : State :=
  let x := s.units
  let s := s.limit 3 ([Half.west, Half.east].any fun h => decide (x.h h ≤ 7))
  let s := s.limit 4 (x.bobbinHosts.toList.contains 0xFF)
  let s := s.limit 5 (s.distaffs.toList.any fun d => !d.inService)
  s.limit 7 (s.steward.out.w || s.steward.out.e)

/-- START_STATE of a device whose image has booted (13 R353, R354). -/
def State.startState (s : State) : Nat :=
  let c := s.start.cause
  let x := s.units
  let out := x.fold.w = 0 && x.fold.e = 0
  let none_ := s.distaffs.toList.all fun d => !d.inService
  if c.getLsbD 2 || c.getLsbD 6 || c.getLsbD 10 || out || none_ then 3
  else if c.getLsbD 3 || c.getLsbD 4 || c.getLsbD 5 || c.getLsbD 7 || x.shape.w ≠ 0 || x.shape.e ≠ 0 then 2
  else 1

/-- START_COMPLETE (13 R410). -/
def State.startNotice (s : State) : Notice :=
  let slot := match s.image.active with
    | some b => if b then 1 else 0
    | none => 0xFF
  devNotice 0x0B01 info 294 (le 1 s.start.state ++ le 1 s.start.lastReset ++ le 2 s.start.cause.toNat ++ le 4 s.start.time.toNat ++ le 4 s.imageVersion ++
    le 1 slot ++ zeros 3)

/-- START_LIMITED (13 R410). -/
def State.limitedNotice (s : State) : Notice :=
  devNotice 0x0B07 fatal 294 (le 1 s.start.state ++ zeros 1 ++ le 2 s.start.cause.toNat ++ zeros 4)

/-- The longest start in µs: 571 ms cold, 427 ms warm, and 125 ms more after a trial failure (13 R347, R348). -/
def State.startBound (s : State) : Nat := (if s.start.lastReset = 0 then 571000 else 427000) + if s.start.cause.getLsbD 1 then 125000 else 0

/-- Step 10: START_STATE is set and the records reach the recorder; START_TIME is a free value within its bound (13 R347, R353; log 2). -/
def State.ready (s : State) (state : Nat) : State :=
  let t := BitVec.ofNat 32 (s.freeVal.toNat % (s.startBound + 1))
  let s := { s.useFree with start := { s.start with state := state, time := t }, board := { s.board with phase := .ready } }
  let s := s.emit s.startNotice
  (if state = 3 || state = 4 then s.emit s.limitedNotice else s).arriveAll

/-- What a warm or hot reset keeps beside what every reset keeps: LPDDR5X contents with their check bits, its training results, the margin plan and the save
buffer's journal (13 R344, R345; 08 R229; 10 R287). -/
def State.keptWarm (s : State) : State :=
  let k := s.kept
  let lp := fun (c : Nat × Nat) => c.1 = 1
  { k with
    mem := { k.mem with lp := s.mem.lp, trainResults := s.mem.trainResults, poison := s.mem.poison.filter lp, upsets := s.mem.upsets.filter fun c => c.1 = 1 },
    steward := { k.steward with planDelta := s.steward.planDelta, planDetail := s.steward.planDetail },
    dict := { k.dict with journal := s.dict.journal } }

/-- A slot whose bytes have changed (15 R383). -/
def FlashSlot.damage (x : FlashSlot) (on : Bool) : FlashSlot := { x with damaged := x.damaged || on }

/-- Time zero: PERST# is deasserted, the straps are sampled, the counts rise (13 R344, R347; 12 R323; 16 R404). RESET_COUNT counts every start. What VDD_IO
alone serves stands until it is removed: the I3C address, the test access port and THERMTRIP# (16 R404, R405, R407). A test
access port that drives the pins as PERST# is deasserted is used without it (R405). -/
def State.timeZero (s : State) (i : StartInputs) (kind : Nat) : State :=
  let k := if kind = 0 then s.kept else s.keptWarm
  { k with
    board := { k.board with perst := false, coldNext := false, i3cSa := i.i3cSa, i3cDynamic := s.board.i3cDynamic, tap := s.board.tap,
                            tapDrives := s.board.tapDrives, tapMisused := s.board.tapMisused || s.board.tapDrives, boundary := s.board.boundary,
                            boundaryOut := s.board.boundaryOut, thermtrip := s.board.thermtrip },
    keep := { k.keep with resetCount := (k.keep.resetCount + 1) % 2 ^ 32, powerOn := if kind = 0 then (k.keep.powerOn + 1) % 2 ^ 32 else k.keep.powerOn },
    start := { k.start with lastReset := kind },
    image := { k.image with slotA := k.image.slotA.damage i.damagedA, slotB := k.image.slotB.damage i.damagedB },
    ident := { k.ident with state := if i.identityOk then 1 else 2 } }

/-- What the I3C path serves before ready: reads of 0x1000, 0x6000 and 0x7800 entries, writes of 0x6000.01 and 0x6000.02 (10 R285). -/
def servedEarly (command : Nat) (q : Request) : Bool :=
  if command = 1 || command = 3 then q.index = 0x1000 || q.index = 0x6000 || q.index = 0x7800
  else (command = 2 || command = 4) && q.index = 0x6000 && (q.sub = 1 || q.sub = 2)

/-- A dictionary request on the I3C path between step 3 and ready: served, or answered with BUSY (10 R285); a message of another vendor or protocol is dropped
(R280). -/
def State.serveEarly (s : State) (command : Nat) (q : Request) : State :=
  if !q.vendorOk || q.protocol ≠ 1 then s
  else if servedEarly command q then
    let a := s.serveRequest .i3c command q true
    a.1.respond .i3c command q a.2.1 a.2.2
  else s.respond .i3c command q 0x08 []

/-- What has arrived over the I3C path by the end of a start-up step, from step 3, is served there: the recorder can be read from then on, and holds what the
steps so far have reported (10 R285; 14 R368, R377). -/
def State.serveStep (s : State) (i : StartInputs) (k : Nat) : State :=
  ((i.early.filter fun e => e.1.val + 3 = k).map fun e => e.2).foldl (fun s e => s.serveEarly e.1 e.2) s.arriveAll

/-- Steps 4 to 8 up to the plan. -/
def State.startTests (s : State) (i : StartInputs) (kind : Nat) : State :=
  let s := ((s.testSram i).serveStep i 4).testUnits i
  let s := ((s.serveStep i 5).trainLp i (kind = 0)).serveStep i 6
  ((s.serveStep i 7).startPlan (kind = 0) i).serveStep i 8

/-- The kept journal of a start (10 R287). -/
def State.keptJournal (s : State) (i : StartInputs) (kind : Nat) : List JournalRec :=
  if kind ≠ 0 then s.dict.journal
  else if i.keepFault then [] else (s.keep.newest.map fun c => c.2.journal).getD []

/-- The end of step 8, and step 9 with the kept journal. -/
def State.startKeep (s : State) (i : StartInputs) (kept : List JournalRec) : State :=
  let s := s.setPlan
  let s := if i.fatalDuring then (s.emit (devNotice 0x0B04 fatal 294 (fatalPayload 4 0xFF 0xFF 0xFF 0))).limit 10 true else s
  (((((s.readKeep i.keepFault).replayJournal kept).reportLost).startChains).serveStep i 9).limitUnits

/-- Steps 1 to 3: the image and its settings; their records reach the recorder's own store (14 R368). -/
def State.startImage (s : State) (i : StartInputs) (kind : Nat) : State :=
  let s := (s.timeZero i kind).limit 9 !i.identityOk
  let s := s.selectImage i.flashAnswers i.imageSelfTest
  let s := if kind = 0 then (s.restoreArea false).restoreArea true else s
  s.migrate.loadSettings.arriveAll

/-- No voltage write of a half's rail is acknowledged during a start: the fatal stop, whose record sets bit 10 of START_LIMIT_CAUSE with START_STATE LIMITED
(16 R399; 13 R354, R358; log 35). -/
def State.startAvsFatal (s : State) (h : Half) : State :=
  let s := (({ s with board := { s.board with phase := .ready } }).avsRecord h).limit 10 true
  let s := { s with start := { s.start with state := 3 } }
  (s.emit s.limitedNotice).saveAndHalt 0 true .haltedFatal

/-- A whole start: kind 0 cold, 1 warm, 2 hot (13 R344, R347). With no image the ROM serves RECOVERY (R353; log 50). The settings rewrite that follows the
replay runs after ready (10 R287). -/
def State.startUp (s : State) (i : StartInputs) (kind : Nat) : State :=
  let kept := s.keptJournal i kind
  let s := s.startImage i kind
  if s.image.active.isNone then
    let s := i.early.foldl (fun s e => s.mctpArrive .i3c e.2.1 e.2.2) ((s.replayJournal kept).ready 4)
    if s.dict.unflushed.isEmpty then s else s.startFlush
  else
    let s := (s.serveStep i 3).raiseRails
    match i.avsFail with
    | some (h, false) => s.startAvsFatal h
    | some (h, true) => (s.startTests i kind).startAvsFatal h
    | none =>
      let s := (s.startTests i kind).startKeep i kept
      (s.ready s.startState).startFlush

/-- What a start finds names units and domains of the device: Spindles, Bobbins, Distaffs and slices once each, faulty lines only
beyond a slice's spares (08 R216); a cold start's V_dom rows. -/
def startOk (i : StartInputs) (cold : Bool) : Bool :=
  (i.spindleFails.all fun c => decide (c.1 < 136)) && decide ((i.spindleFails.map fun c => c.1).Nodup) &&
  (i.bobbinFails.all fun p => decide (p < 34)) && decide i.bobbinFails.Nodup && (i.distaffFails.all fun d => decide (d < 8)) && decide i.distaffFails.Nodup &&
  decide ((i.sram.map fun x => x.slice).Nodup) &&
  (i.sram.all fun x => decide x.lines.Nodup && (x.lines.isEmpty || x.rows.val = 64 || x.groups.val = 8)) && (!cold || planOk i.vdom)

/-- COLD_POWER_ON_START: PERST# is deasserted with every rail in range; cold when power was applied since the last start, warm otherwise (13 R344, R347). THERMTRIP#
asserted at a power-up holds the device in reset (16 R407), and so does a rail out of order until PERST# is asserted again (R400). -/
def execColdPowerOnStart (i : StartInputs) (s : State) : Host.Outcome State Fault Refusal :=
  let cold := i.powered || s.board.coldNext
  if !startOk i cold then .fault .malformedCommand
  else if !s.board.perst || s.board.phase ≠ .reset then .next s
  else if cold && (s.board.thermtrip || !i.railsInOrder) then .next { s with board := { s.board with perst := false, coldNext := true, tapMisused := s.board.tapMisused || s.board.tapDrives } }
  else .next (s.startUp i (if cold then 0 else 1))

/-- HOT_RESET: the device halts and runs the warm sequence (13 R344, R345). A device halted by a save stays halted, and its link is down (11 R313). -/
def execHotReset (i : StartInputs) (s : State) : Host.Outcome State Fault Refusal :=
  if !startOk i false then .fault .malformedCommand
  else if s.board.phase = .reset then .next s
  else if s.halted then .next { s with board := { s.board with linkWidth := 0, linkSpeed := 0 } }
  else .next (s.resetHalt.startUp { i with i3cSa := s.board.i3cSa } 2)

/-- TRST_DEASSERTION: after EXTEST, CLAMP or HIGHZ was used without PERST# asserted it is a warm reset (16 R405). -/
def execTrstDeassertion (i : StartInputs) (s : State) : Host.Outcome State Fault Refusal :=
  if !startOk i false then .fault .malformedCommand
  else
    let misused := s.board.tapMisused
    let s := { s with board := { s.board with tap := .idcode, tapDrives := false, tapMisused := false } }
    if !misused || s.board.phase = .reset then .next s else .next (s.resetHalt.startUp { i with i3cSa := s.board.i3cSa } 1)

/-- The output signals among the 29: ALERT#, THERMTRIP#, XSPI_CLK, XSPI_CS#, XSPI_RESET#, TDO, AVS_CLK and AVS_MDATA (16 R396). -/
def outputPins : BitVec 29 := 0x0E000E0C

/-- The levels at the 29 signals of the boundary-scan register, in the order of 16 R396 from SYSCLK: PERST#, ALERT#, THERMTRIP# and I3C_SA as the state has them,
the rest free values (16 R396, R405; log 29). Under EXTEST and CLAMP the output pins carry the output latches. -/
def State.pinLevels (s : State) : BitVec 29 :=
  let f := s.freeVal.toNat
  let low := fun (asserted : Bool) => if asserted then 0 else 1
  let pins := BitVec.ofNat 29 (bits f 0 0 + 2 * low s.board.perst + 4 * low s.alert + 8 * low s.board.thermtrip + 16 * bits f 6 4 + 128 * s.board.i3cSa.toNat + 512 * bits f 28 9)
  if s.board.tapDrives && s.board.tap ≠ .highz then (pins &&& ~~~outputPins) ||| (s.board.boundaryOut &&& outputPins) else pins

/-- TAP_INSTRUCTION: SAMPLE/PRELOAD and EXTEST capture the pins in the boundary-scan register, which is shifted out as IDCODE is while what comes through TDI goes
into it and its output latches; EXTEST, CLAMP and HIGHZ take the pins over; used while PERST# is deasserted they ask for the warm reset of R405. -/
def execTapInstruction (x : TapScan) (s : State) : Host.Outcome State Fault Refusal :=
  let t := x.instruction
  let drives := t = .extest || t = .clamp || t = .highz
  let s := { s with board := { s.board with tap := t, tapDrives := drives, tapMisused := s.board.tapMisused || (drives && !s.board.perst) } }
  .next (if t = .idcode then s.reply 0x19610A9B
    else if t = .samplePreload || t = .extest then
      let b := s.pinLevels
      ({ s.useFree with board := { s.board with boundary := x.tdi.getD b, boundaryOut := x.tdi.getD s.board.boundaryOut } }).reply b.toNat
    else s)

/-- The static address, 0x30 to 0x33 (16 R404). -/
def Board.staticAddress (x : Board) : Nat := 0x30 + x.i3cSa.toNat

/-- What GETPID, GETBCR and GETDCR answer, as numbers (16 R404). -/
def getPid : Nat := Config.i3cPid.toNat
def getBcr : Nat := Config.i3cBcr.toNat
def getDcr : Nat := Config.i3cDcr.toNat

/-- SETDASA: the I3C target takes a dynamic address at its static one; the bus is served from VDD_IO alone, before a start too (16 R404). -/
def execSetdasa (address : BitVec 7) (s : State) : Host.Outcome State Fault Refusal := .next { s with board := { s.board with i3cDynamic := some address } }

/-- ENTDAA: the target sends its provisional ID, BCR and DCR, and takes a dynamic address (16 R404). -/
def execEntdaa (address : BitVec 7) (s : State) : Host.Outcome State Fault Refusal :=
  .next (({ s with board := { s.board with i3cDynamic := some address } }).reply (getPid * 2 ^ 16 + getBcr * 2 ^ 8 + getDcr))

/-- RSTDAA (16 R404). -/
def execRstdaa (s : State) : Host.Outcome State Fault Refusal := .next { s with board := { s.board with i3cDynamic := none } }

end Sys2Proof.Machine
end

