-- ==== Sys2Proof/Machine/Vector.lean ====
section
/-!
DEFINITION. Bobbin arithmetic: the VEC.* words (07 R199, R200; 05 R120, R121, R140, R141).
-/
namespace Sys2Proof.Machine

/-- The format of an FP element type (07 R199). -/
def veFmt (t : Nat) : Fmt := if t = 1 then bf16 else fp32

/-- The exact value of an element of a type (07 R199). -/
def veVal (t b : Nat) : Num := if t = 2 then .int (signed 32 b) else (veFmt t).val b

/-- The quotient rounded once; of special values as IEEE 754 (07 R200, 05 R121; log 21). -/
def divide (f : Fmt) (x y : Num) : Nat :=
  match x, y with
  | .nan, _ => f.nan
  | _, .nan => f.nan
  | .inf _, .inf _ => f.nan
  | .inf a, .fin b _ _ => f.sign (a != b) f.top
  | .fin a _ _, .inf b => f.sign (a != b) 0
  | .fin a n e, .fin b m g =>
    if m = 0 then (if n = 0 then f.nan else f.sign (a != b) f.top)
    else let r := ratio n m (e - g); f.round (a != b) r.1 r.2

/-- The root rounded once; of special values as IEEE 754 (07 R200; log 21). -/
def squareRoot (f : Fmt) (x : Num) : Nat :=
  match x with
  | .nan => f.nan
  | .inf neg => if neg then f.nan else f.top
  | .fin neg n e => if n = 0 then f.sign neg 0 else if neg then f.nan else let r := ratio n 1 e; f.sqrtRound r.1 r.2

/-- INT32 from a number: rounded, saturated; NaN gives 0; the flag tells either (07 R200). -/
def toInt32 (x : Num) : Nat × Bool :=
  match x with
  | .nan => (0, true)
  | .inf neg => (if neg then 0x80000000 else 0x7FFFFFFF, true)
  | x => let i := x.toInt; let c := max (-(2 ^ 31)) (min (2 ^ 31 - 1) i); (wrap 32 c, c ≠ i)

/-- One element of a VEC.* word that is not a reduction: result bits and INT_OVERFLOW (07 R200). VEC.EXP of BF16 rounds the FP32 result of R141's step 5 to BF16
(log 58). -/
def vecOp (o : Op) (t tout a b c : Nat) : Nat × Bool :=
  let x := veVal t a
  let y := veVal t b
  if t = 2 then
    let i := signed 32 a
    let j := signed 32 b
    match o with
    | .vecAdd => (wrap 32 (i + j), false)
    | .vecSub => (wrap 32 (i - j), false)
    | .vecMul => (wrap 32 (i * j), false)
    | .vecFma => (wrap 32 (i * j + signed 32 c), false)
    | .vecDiv => if j = 0 then (0, true) else (wrap 32 (i.tdiv j), false)
    | .vecMax => (wrap 32 (max i j), false)
    | .vecMin => (wrap 32 (min i j), false)
    | _ => if tout = 2 then (a % 2 ^ 32, false) else ((veFmt tout).of x, false)
  else
    let f := veFmt t
    match o with
    | .vecAdd => (f.of (x.add y), false)
    | .vecSub => (f.of (x.sub y), false)
    | .vecMul => (f.of (x.mul y), false)
    | .vecFma => (f.of ((x.mul y).add (veVal t c)), false)
    | .vecDiv => (divide f x y, false)
    | .vecSqrt => (squareRoot f x, false)
    | .vecMax => (f.of (x.max y), false)
    | .vecMin => (f.of (x.min y), false)
    | .vecExp => (f.of (expf x), false)
    | _ => if tout = 2 then toInt32 x else ((veFmt tout).of x, false)

/-- One group of VEC.RSUM or VEC.RMAX (07 R200): the tree of R118 with RNA_FP32 nodes, rounded to the type (log 21). -/
def vecReduce (o : Op) (t rlog : Nat) (xs : List Nat) : Nat :=
  if t = 2 then
    match o with
    | .vecRsum => wrap 32 ((xs.map (signed 32)).sum)
    | _ => wrap 32 ((xs.map (signed 32)).foldl max (-(2 ^ 31)))
  else
    let ns := xs.map (veVal t)
    match o with
    | .vecRsum => (veFmt t).of (tree rlog ns)
    | _ => (veFmt t).of (ns.foldl Num.max (ns.headD .nan))

/-- An element of a Bobbin's store as it stands. -/
def State.vecAt (s : State) (u addr size i : Nat) : Nat := ofLe (s.bytes 4 (lsKey true u (64 * addr) + size * i) size)

/-- VEC.* on one Bobbin: elements in ascending index, each read as the store stands (07 R200). -/
def vecUnit (d : Nat) (o : Op) (w u : Nat) (s : State) : Done :=
  let t := veType w
  let n := veSize t
  let tout := if o = .vecCvt then veTypeOut w else t
  let m := veSize tout
  let dst := lsKey true u (64 * veDst w)
  let srcs := (bobbinRanges o w).dropLast
  let red := o = .vecRsum || o = .vecRmax
  let per := if red then 2 ^ veRlog w else 1
  let outs := (veCount w + per - 1) / per
  let check := srcs.foldl (fun (a : State × Option Failure) x => let g := a.1.readLs 4 (lsKey true u x.1) x.2; (g.st, firstFail a.2 g.fail)) (s, none)
  match check with
  | (s, some f) => (s.spoil 4 dst (outs * m), some f)
  | (s, none) =>
    let one := fun (s : State) (i : Nat) =>
      if red then
        let k := min per (veCount w - i * per)
        if k < per then
          -- a last group that is not whole: the manual gives no result (log 2)
          s.spoil 4 (dst + m * i) m
        else s.put 4 (dst + m * i) (le m (vecReduce o t (veRlog w) ((List.range per).map fun j => s.vecAt u (veA w) n (i * per + j))))
      else
        let r := vecOp o t tout (s.vecAt u (veA w) n i) (s.vecAt u (veB w) n (if veBcast w then 0 else i)) (s.vecAt u (veC w) n i)
        let s := s.put 4 (dst + m * i) (le m r.1)
        if r.2 then s.setIntOverflow d else s
    ((List.range outs).foldl one s, none)

/-- A VEC.* word on each Bobbin it names (07 R199). -/
def effVec (d : Nat) (o : Op) : WordEffect := fun _ _ w s => let x := eachUnit (bobbinsOf o w) (vecUnit d o w) s; .done x.1 x.2

def execVecAdd (d : Fin 8) (s : State) : Host.Outcome State Fault Refusal := .next (s.word d .vecAdd (effVec d .vecAdd))
def execVecSub (d : Fin 8) (s : State) : Host.Outcome State Fault Refusal := .next (s.word d .vecSub (effVec d .vecSub))
def execVecMul (d : Fin 8) (s : State) : Host.Outcome State Fault Refusal := .next (s.word d .vecMul (effVec d .vecMul))
def execVecFma (d : Fin 8) (s : State) : Host.Outcome State Fault Refusal := .next (s.word d .vecFma (effVec d .vecFma))
def execVecDiv (d : Fin 8) (s : State) : Host.Outcome State Fault Refusal := .next (s.word d .vecDiv (effVec d .vecDiv))
def execVecSqrt (d : Fin 8) (s : State) : Host.Outcome State Fault Refusal := .next (s.word d .vecSqrt (effVec d .vecSqrt))
def execVecMax (d : Fin 8) (s : State) : Host.Outcome State Fault Refusal := .next (s.word d .vecMax (effVec d .vecMax))
def execVecMin (d : Fin 8) (s : State) : Host.Outcome State Fault Refusal := .next (s.word d .vecMin (effVec d .vecMin))
def execVecExp (d : Fin 8) (s : State) : Host.Outcome State Fault Refusal := .next (s.word d .vecExp (effVec d .vecExp))
def execVecCvt (d : Fin 8) (s : State) : Host.Outcome State Fault Refusal := .next (s.word d .vecCvt (effVec d .vecCvt))
def execVecRsum (d : Fin 8) (s : State) : Host.Outcome State Fault Refusal := .next (s.word d .vecRsum (effVec d .vecRsum))
def execVecRmax (d : Fin 8) (s : State) : Host.Outcome State Fault Refusal := .next (s.word d .vecRmax (effVec d .vecRmax))

end Sys2Proof.Machine
end

