-- ==== Sys2Proof/Machine/Dispatch.lean ====
section
/-!
DEFINITION. The meaning of every command: one arm for each row of spec/opcode_table.json.
-/
namespace Sys2Proof.Machine

/-- The effect of one command on everything but the queue. -/
def exec (i : Instr) (s : State) : Host.Outcome State Fault Refusal :=
  match i with
  | .coldPowerOnStart inputs => Sys2Proof.Machine.execColdPowerOnStart inputs s
  | .perstAssert => Sys2Proof.Machine.execPerstAssert s
  | .hotReset inputs => Sys2Proof.Machine.execHotReset inputs s
  | .functionLevelReset fn => Sys2Proof.Machine.execFunctionLevelReset fn s
  | .supplySag cause saved => Sys2Proof.Machine.execSupplySag cause saved s
  | .thermtrip sensor celsius => Sys2Proof.Machine.execThermtrip sensor celsius s
  | .fatalStop cause half distaff address saved => Sys2Proof.Machine.execFatalStop cause half distaff address saved s
  | .avsWriteTimeout h => Sys2Proof.Machine.execAvsWriteTimeout h s
  | .linkUp log2Width setup => Sys2Proof.Machine.execLinkUp log2Width setup s
  | .enableRing fn r ctrl => Sys2Proof.Machine.execEnableRing fn r ctrl s
  | .disableRing fn r ctrl => Sys2Proof.Machine.execDisableRing fn r ctrl s
  | .sqDoorbell fn r d => Sys2Proof.Machine.execSqDoorbell fn r d s
  | .cqHead fn r h => Sys2Proof.Machine.execCqHead fn r h s
  | .abort fn r wide v => Sys2Proof.Machine.execAbort fn r wide v s
  | .registerWrite fn offset wide v => Sys2Proof.Machine.execRegisterWrite fn offset wide v s
  | .bar2Access offset len data => Sys2Proof.Machine.execBar2Access offset len data s
  | .msixUnmask fn e entry => Sys2Proof.Machine.execMsixUnmask fn e entry s
  | .submissionEntryRead r => Sys2Proof.Machine.execSubmissionEntryRead r s
  | .hostReadFault what kind address length => Sys2Proof.Machine.execHostReadFault what kind address length s
  | .hankPick => Sys2Proof.Machine.execHankPick s
  | .hankStart => Sys2Proof.Machine.execHankStart s
  | .unitAcquire d => Sys2Proof.Machine.execUnitAcquire d s
  | .wordComplete d w => Sys2Proof.Machine.execWordComplete d w s
  | .hankFinish r d => Sys2Proof.Machine.execHankFinish r d s
  | .barrier d => Sys2Proof.Machine.execBarrier d s
  | .waitSeq d => Sys2Proof.Machine.execWaitSeq d s
  | .waitSeqTimeout d => Sys2Proof.Machine.execWaitSeqTimeout d s
  | .signal d => Sys2Proof.Machine.execSignal d s
  | .ledgerMark d => Sys2Proof.Machine.execLedgerMark d s
  | .debugTrigger d => Sys2Proof.Machine.execDebugTrigger d s
  | .load d => Sys2Proof.Machine.execLoad d s
  | .store d => Sys2Proof.Machine.execStore d s
  | .copy d => Sys2Proof.Machine.execCopy d s
  | .gather d => Sys2Proof.Machine.execGather d s
  | .stateSave d => Sys2Proof.Machine.execStateSave d s
  | .stateRestore d => Sys2Proof.Machine.execStateRestore d s
  | .macAcc d => Sys2Proof.Machine.execMacAcc d s
  | .macEnd d => Sys2Proof.Machine.execMacEnd d s
  | .splitK d => Sys2Proof.Machine.execSplitK d s
  | .accOpen d => Sys2Proof.Machine.execAccOpen d s
  | .accClose d => Sys2Proof.Machine.execAccClose d s
  | .accPreload d => Sys2Proof.Machine.execAccPreload d s
  | .accPair d => Sys2Proof.Machine.execAccPair d s
  | .drainPlain d => Sys2Proof.Machine.execDrainPlain d s
  | .drainMax d => Sys2Proof.Machine.execDrainMax d s
  | .drainExpsum d => Sys2Proof.Machine.execDrainExpsum d s
  | .drainSum d => Sys2Proof.Machine.execDrainSum d s
  | .drainReadout d => Sys2Proof.Machine.execDrainReadout d s
  | .debugPeek d => Sys2Proof.Machine.execDebugPeek d s
  | .vecAdd d => Sys2Proof.Machine.execVecAdd d s
  | .vecSub d => Sys2Proof.Machine.execVecSub d s
  | .vecMul d => Sys2Proof.Machine.execVecMul d s
  | .vecFma d => Sys2Proof.Machine.execVecFma d s
  | .vecDiv d => Sys2Proof.Machine.execVecDiv d s
  | .vecSqrt d => Sys2Proof.Machine.execVecSqrt d s
  | .vecMax d => Sys2Proof.Machine.execVecMax d s
  | .vecMin d => Sys2Proof.Machine.execVecMin d s
  | .vecExp d => Sys2Proof.Machine.execVecExp d s
  | .vecCvt d => Sys2Proof.Machine.execVecCvt d s
  | .vecRsum d => Sys2Proof.Machine.execVecRsum d s
  | .vecRmax d => Sys2Proof.Machine.execVecRmax d s
  | .coupleLoad d => Sys2Proof.Machine.execCoupleLoad d s
  | .stateInit d => Sys2Proof.Machine.execStateInit d s
  | .schedLoad d => Sys2Proof.Machine.execSchedLoad d s
  | .anneal d => Sys2Proof.Machine.execAnneal d s
  | .sample d => Sys2Proof.Machine.execSample d s
  | .exchange d => Sys2Proof.Machine.execExchange d s
  | .energy d => Sys2Proof.Machine.execEnergy d s
  | .noiseSeed d => Sys2Proof.Machine.execNoiseSeed d s
  | .noiseRaw d raw => Sys2Proof.Machine.execNoiseRaw d raw s
  | .openNoiseStartWaitEnd => Sys2Proof.Machine.execOpenNoiseStartWaitEnd s
  | .openEvaluation l cell slot cycle => Sys2Proof.Machine.execOpenEvaluation l cell slot cycle s
  | .arbiterWindow h => Sys2Proof.Machine.execArbiterWindow h s
  | .flipTokenApply l h => Sys2Proof.Machine.execFlipTokenApply l h s
  | .spillColumnStream h => Sys2Proof.Machine.execSpillColumnStream h s
  | .settlePoint => Sys2Proof.Machine.execSettlePoint s
  | .cfPositionResolve ply => Sys2Proof.Machine.execCfPositionResolve ply s
  | .cfWindowRetire ply => Sys2Proof.Machine.execCfWindowRetire ply s
  | .restir l lane exchangeLane raw => Sys2Proof.Machine.execRestir l lane exchangeLane raw s
  | .healthWindowEnd g raw lead => Sys2Proof.Machine.execHealthWindowEnd g raw lead s
  | .noiseTimeout w => Sys2Proof.Machine.execNoiseTimeout w s
  | .rotReseed raw => Sys2Proof.Machine.execRotReseed raw s
  | .rotBlocked => Sys2Proof.Machine.execRotBlocked s
  | .conditioningWrite p g v => Sys2Proof.Machine.execConditioningWrite p g v s
  | .permitGrant => Sys2Proof.Machine.execPermitGrant s
  | .permitTimeout => Sys2Proof.Machine.execPermitTimeout s
  | .powerSample p pw pe tj => Sys2Proof.Machine.execPowerSample p pw pe tj s
  | .ratioEvaluation => Sys2Proof.Machine.execRatioEvaluation s
  | .ratioStepUp h => Sys2Proof.Machine.execRatioStepUp h s
  | .marginReplan p v => Sys2Proof.Machine.execMarginReplan p v s
  | .replanMeasure vdom => Sys2Proof.Machine.execReplanMeasure vdom s
  | .unitFault bobbin unit stage => Sys2Proof.Machine.execUnitFault bobbin unit stage s
  | .shapeRemap h => Sys2Proof.Machine.execShapeRemap h s
  | .sramScrubAccess sg errors => Sys2Proof.Machine.execSramScrubAccess sg errors s
  | .lpPatrolScrub address struck => Sys2Proof.Machine.execLpPatrolScrub address struck s
  | .dictWrite p index sub v => Sys2Proof.Machine.execDictWrite p index sub v s
  | .selectWrite slot v => Sys2Proof.Machine.execSelectWrite slot v s
  | .valueRead slot wide => Sys2Proof.Machine.execValueRead slot wide s
  | .valueWrite slot wide v => Sys2Proof.Machine.execValueWrite slot wide v s
  | .statusRead slot => Sys2Proof.Machine.execStatusRead slot s
  | .xferEntryToHost slot len => Sys2Proof.Machine.execXferEntryToHost slot len s
  | .xferHostToEntry slot len => Sys2Proof.Machine.execXferHostToEntry slot len s
  | .read p q => Sys2Proof.Machine.execRead p q s
  | .write p q => Sys2Proof.Machine.execWrite p q s
  | .readBytes p q => Sys2Proof.Machine.execReadBytes p q s
  | .writeBytes p q => Sys2Proof.Machine.execWriteBytes p q s
  | .getInfo p q => Sys2Proof.Machine.execGetInfo p q s
  | .setEndpointId p eid => Sys2Proof.Machine.execSetEndpointId p eid s
  | .getEndpointId p => Sys2Proof.Machine.execGetEndpointId p s
  | .getMctpVersionSupport p => Sys2Proof.Machine.execGetMctpVersionSupport p s
  | .getMessageTypeSupport p => Sys2Proof.Machine.execGetMessageTypeSupport p s
  | .getVendorDefinedMsgSupport p => Sys2Proof.Machine.execGetVendorDefinedMsgSupport p s
  | .settingsFlush p v => Sys2Proof.Machine.execSettingsFlush p v s
  | .settingsFlushTimer => Sys2Proof.Machine.execSettingsFlushTimer s
  | .settingsRestore p v => Sys2Proof.Machine.execSettingsRestore p v s
  | .powerBudgetWrite p thermal v => Sys2Proof.Machine.execPowerBudgetWrite p thermal v s
  | .debugEnableWrite p v => Sys2Proof.Machine.execDebugEnableWrite p v s
  | .testShapeWrite p v => Sys2Proof.Machine.execTestShapeWrite p v s
  | .attestRequest p v => Sys2Proof.Machine.execAttestRequest p v s
  | .sealRing p v => Sys2Proof.Machine.execSealRing p v s
  | .signatureComplete => Sys2Proof.Machine.execSignatureComplete s
  | .ckptKeyWrite p fn key => Sys2Proof.Machine.execCkptKeyWrite p fn key s
  | .freeze p classT => Sys2Proof.Machine.execFreeze p classT s
  | .thaw p classT => Sys2Proof.Machine.execThaw p classT s
  | .freezeLimitExpiry classT => Sys2Proof.Machine.execFreezeLimitExpiry classT s
  | .mirrorClear p v => Sys2Proof.Machine.execMirrorClear p v s
  | .eventRecordArrive => Sys2Proof.Machine.execEventRecordArrive s
  | .registerMatchCapture k register => Sys2Proof.Machine.execRegisterMatchCapture k register s
  | .captureEnd k => Sys2Proof.Machine.execCaptureEnd k s
  | .begin p => Sys2Proof.Machine.execBegin p s
  | .eraseDone ok => Sys2Proof.Machine.execEraseDone ok s
  | .imageBlock p offset data ok => Sys2Proof.Machine.execImageBlock p offset data ok s
  | .verify p => Sys2Proof.Machine.execVerify p s
  | .cancel p => Sys2Proof.Machine.execCancel p s
  | .arm p => Sys2Proof.Machine.execArm p s
  | .confirm p => Sys2Proof.Machine.execConfirm p s
  | .disarm p => Sys2Proof.Machine.execDisarm p s
  | .cfSpeculativeEvaluation ply position => Sys2Proof.Machine.execCfSpeculativeEvaluation ply position s
  | .arbiterPointerMove => Sys2Proof.Machine.execArbiterPointerMove s
  | .dictRequestService q => Sys2Proof.Machine.execDictRequestService q s
  | .settingsRewriteDone => Sys2Proof.Machine.execSettingsRewriteDone s
  | .stageVerifyDone => Sys2Proof.Machine.execStageVerifyDone s
  | .vfEnable enable control => Sys2Proof.Machine.execVfEnable enable control s
  | .setdasa address => Sys2Proof.Machine.execSetdasa address s
  | .entdaa address => Sys2Proof.Machine.execEntdaa address s
  | .rstdaa => Sys2Proof.Machine.execRstdaa s
  | .tapInstruction t => Sys2Proof.Machine.execTapInstruction t s
  | .trstDeassertion inputs => Sys2Proof.Machine.execTrstDeassertion inputs s
  | .vddIoLoss => Sys2Proof.Machine.execVddIoLoss s

end Sys2Proof.Machine
end

