-- ==== Sys2Proof/WellFormed.lean ====
section
/-!
DEFINITION. Which commands the device can meet: the operands that are free numbers or lists name things the device has.
Operands of bounded types (Fin, BitVec) name only what exists, and need no check. The checks are those the meanings make.
-/
namespace Sys2Proof

open Machine in
/-- The operands of a command name things of the device. A start that may be cold carries its V_dom rows; a command that is not well-formed stops as
`malformedCommand`. -/
def Instr.wf : Instr → Bool
  | .coldPowerOnStart i => startOk i true
  | .hotReset i => startOk i false
  | .bar2Access _ len data => bar2Ok len data
  | .replanMeasure vdom => planOk vdom
  | .unitFault bobbin unit stage => unitFaultOk bobbin unit stage
  | .trstDeassertion i => startOk i false
  | .sramScrubAccess _ errors => freshOk errors.fresh
  | .perstAssert | .functionLevelReset _ | .supplySag _ _ | .thermtrip _ _ | .fatalStop _ _ _ _ _ | .avsWriteTimeout _ | .linkUp _ _
  | .enableRing _ _ _ | .disableRing _ _ _ | .sqDoorbell _ _ _ | .cqHead _ _ _ | .abort _ _ _ _ | .registerWrite _ _ _ _ | .msixUnmask _ _ _
  | .submissionEntryRead _ | .hostReadFault _ _ _ _ | .hankPick | .hankStart | .unitAcquire _ | .wordComplete _ _ | .hankFinish _ _ | .barrier _
  | .waitSeq _ | .waitSeqTimeout _ | .signal _ | .ledgerMark _ | .debugTrigger _ | .load _ | .store _ | .copy _ | .gather _ | .stateSave _
  | .stateRestore _ | .macAcc _ | .macEnd _ | .splitK _ | .accOpen _ | .accClose _ | .accPreload _ | .accPair _ | .drainPlain _ | .drainMax _
  | .drainExpsum _ | .drainSum _ | .drainReadout _ | .debugPeek _ | .vecAdd _ | .vecSub _ | .vecMul _ | .vecFma _ | .vecDiv _ | .vecSqrt _
  | .vecMax _ | .vecMin _ | .vecExp _ | .vecCvt _ | .vecRsum _ | .vecRmax _ | .coupleLoad _ | .stateInit _ | .schedLoad _ | .anneal _ | .sample _
  | .exchange _ | .energy _ | .noiseSeed _ | .noiseRaw _ _ | .openNoiseStartWaitEnd | .openEvaluation _ _ _ _ | .arbiterWindow _
  | .flipTokenApply _ _ | .spillColumnStream _ | .settlePoint | .cfPositionResolve _ | .cfWindowRetire _ | .restir _ _ _ _ | .healthWindowEnd _ _ _
  | .noiseTimeout _ | .rotReseed _ | .rotBlocked | .conditioningWrite _ _ _ | .permitGrant | .permitTimeout | .powerSample _ _ _ _ | .ratioEvaluation
  | .ratioStepUp _ | .marginReplan _ _ | .shapeRemap _ | .lpPatrolScrub _ _ | .dictWrite _ _ _ _ | .selectWrite _ _
  | .valueRead _ _ | .valueWrite _ _ _ | .statusRead _ | .xferEntryToHost _ _ | .xferHostToEntry _ _ | .read _ _ | .write _ _ | .readBytes _ _
  | .writeBytes _ _ | .getInfo _ _ | .setEndpointId _ _ | .getEndpointId _ | .getMctpVersionSupport _ | .getMessageTypeSupport _
  | .getVendorDefinedMsgSupport _ | .settingsFlush _ _ | .settingsFlushTimer | .settingsRestore _ _ | .powerBudgetWrite _ _ _ | .debugEnableWrite _ _
  | .testShapeWrite _ _ | .attestRequest _ _ | .sealRing _ _ | .signatureComplete | .ckptKeyWrite _ _ _ | .freeze _ _ | .thaw _ _
  | .freezeLimitExpiry _ | .mirrorClear _ _ | .eventRecordArrive | .registerMatchCapture _ _ | .captureEnd _ | .begin _ | .eraseDone _
  | .imageBlock _ _ _ _ | .verify _ | .cancel _ | .arm _ | .confirm _ | .disarm _ | .cfSpeculativeEvaluation _ _ | .arbiterPointerMove
  | .dictRequestService _ | .settingsRewriteDone | .stageVerifyDone | .vfEnable _ _ | .setdasa _ | .entdaa _ | .rstdaa | .tapInstruction _
  | .vddIoLoss => true

end Sys2Proof
end

