-- ==== Sys2Proof/Safety.lean ====
section
/-!
DEFINITION. The terms claims are stated in: when a word is handed to its units and what completes it, which commands hand words, the canonical form of the memories,
and what a dictionary write leaves.
-/
namespace Sys2Proof.Machine

/-- The word that a word command on Distaff `d` hands to its units now: the state it is handed over in, its hank, its list index and its bits (07 R184, R186). It
is the oldest word of the instruction that holds its permits; failing one, the next word of the list, when it is this instruction, may issue, and needs no
permit. None while neither stands, while a device-drawn header key is still to be drawn, or while another unit's earlier word stands before it. -/
def State.atUnits (s : State) (d : Nat) (o : Op) : Option (State × Run × Nat × Nat) :=
  match s.board.phase, s.run d with
  | .ready, some r =>
    if r.keyPending then none
    else match r.granted o with
      | some c => some (s, r, c.1, c.2)
      | none => match r.nextWord with
        | some c =>
          let i : Issued := { index := r.next, granted := true, ran := false, noiseWait := false, noiseHeld := false, failure := none }
          let q := { r with next := r.next + 1, issued := r.issued ++ [i] }
          if c.1 = o && s.canIssue r o c.2 && requestDraw o c.2 = 0 && q.queueReady r.next o c.2 then some (s.setRun d (some q), q, r.next, c.2) else none
        | none => none
  | _, _ => none

/-- A word at its units still waits: for the hank it awaits, a read-out or the drain path, the running ANNEAL or SAMPLE, or noise (04 R98, R99; 05 R126, R135; 07 R189,
R209). Every other word runs. -/
def State.wordWaits (s : State) (r : Run) (o : Op) (k w : Nat) : Bool :=
  let us := spindlesOf o w
  let parts := fun (u : Nat) => match r.split u (wAcc w) with
    | some q => (List.range q.parts).map fun p => q.base + p
    | none => [u]
  match o with
  | .waitSeq => (s.awaited (bits w 94 89) (bits w 88 41) (bits w 40 25)).isNone
  | .stateSave => svPause w && r.issued.any fun i => decide (i.index < k) && !i.ran && (match r.wordAt i.index with
      | some c => (c.1 = .anneal || c.1 = .sample) && anProb c.2 = svProb w
      | none => false)
  | .macAcc | .accOpen | .accPreload => us.any fun u => s.laneBusy u ((s.spindle u).fillLane (wAcc w))
  | .macEnd => us.any fun u => s.laneBusy u ((s.spindle u).fillLane (wAcc w)) || s.laneBusy u ((s.spindle u).drainLane 0)
  | .accClose => us.any fun u => (if wAcc w = 0 && (s.spindle u).pair.isSome then [0, 1] else if r.header.mode = 1 && wAcc w ≠ 0 then [] else [wAcc w]).any fun l =>
      s.laneBusy u l
  | .accPair => us.any fun u => s.laneBusy u 0 || s.laneBusy u 1
  | .splitK => (List.range (skParts w - 1)).any fun p => s.laneBusy (wUnit w + 1 + p) ((s.spindle (wUnit w + 1 + p)).fillLane (wAcc w))
  | .drainPlain | .drainMax | .drainExpsum | .drainSum => us.any fun u => (parts u).any s.pathBusy
  | .anneal | .sample | .energy => (r.problem (anProb w)).isSome && s.anneal.isSome
  | .exchange => match r.problem (anProb w) with
    | none => false
    | some q => s.anneal.isSome || (decide (exStep w < q.steps) && decide (q.plies ≤ q.ladder.length) && r.header.mode ≠ 1 && s.noise.half.w ≠ 1)
  | .noiseSeed => nsDevice w && r.reuse[r.keys.length]?.isNone && !s.rotServes
  | .noiseRaw => !nrRaw w && (s.group (nrGroup w)).state ≠ 1
  | _ => false

/-- The word with list index `k` on Distaff `d` has run to its end with this failure, or none (07 R185, R186): only WORD_COMPLETE is still to come. -/
def State.ranWith (t : State) (d k : Nat) (f : Option Failure) : Prop :=
  ∃ r i, t.run d = some r ∧ i ∈ r.issued ∧ i.index = k ∧ i.ran = true ∧ i.noiseWait = false ∧ i.failure = f

/-- A Distaff whose hank is marked as waiting for its permits (11 R299). -/
def Distaff.marked (d : Distaff) : Distaff := { d with run := d.run.map fun r => { r with waitedPermit := true, budgetLimited := true } }

/-- The hanks on the Distaffs are as they were, but that those whose permit requests now wait are marked (11 R299, R300). -/
def State.onlyWaits (s t : State) : Prop := ∀ d : Fin 8, t.distaffs[d] = s.distaffs[d] ∨ t.distaffs[d] = s.distaffs[d].marked

/-- The Distaff and the instruction of a command that hands a word to its units. -/
def wordCommand : Instr → Option (Nat × Op)
  | .barrier d => some (d.val, .barrier)
  | .waitSeq d => some (d.val, .waitSeq)
  | .signal d => some (d.val, .signal)
  | .ledgerMark d => some (d.val, .ledgerMark)
  | .debugTrigger d => some (d.val, .debugTrigger)
  | .load d => some (d.val, .load)
  | .store d => some (d.val, .store)
  | .copy d => some (d.val, .copy)
  | .gather d => some (d.val, .gather)
  | .stateSave d => some (d.val, .stateSave)
  | .stateRestore d => some (d.val, .stateRestore)
  | .macAcc d => some (d.val, .macAcc)
  | .macEnd d => some (d.val, .macEnd)
  | .splitK d => some (d.val, .splitK)
  | .accOpen d => some (d.val, .accOpen)
  | .accClose d => some (d.val, .accClose)
  | .accPreload d => some (d.val, .accPreload)
  | .accPair d => some (d.val, .accPair)
  | .drainPlain d => some (d.val, .drainPlain)
  | .drainMax d => some (d.val, .drainMax)
  | .drainExpsum d => some (d.val, .drainExpsum)
  | .drainSum d => some (d.val, .drainSum)
  | .debugPeek d => some (d.val, .debugPeek)
  | .vecAdd d => some (d.val, .vecAdd)
  | .vecSub d => some (d.val, .vecSub)
  | .vecMul d => some (d.val, .vecMul)
  | .vecFma d => some (d.val, .vecFma)
  | .vecDiv d => some (d.val, .vecDiv)
  | .vecSqrt d => some (d.val, .vecSqrt)
  | .vecMax d => some (d.val, .vecMax)
  | .vecMin d => some (d.val, .vecMin)
  | .vecExp d => some (d.val, .vecExp)
  | .vecCvt d => some (d.val, .vecCvt)
  | .vecRsum d => some (d.val, .vecRsum)
  | .vecRmax d => some (d.val, .vecRmax)
  | .coupleLoad d => some (d.val, .coupleLoad)
  | .stateInit d => some (d.val, .stateInit)
  | .schedLoad d => some (d.val, .schedLoad)
  | .anneal d => some (d.val, .anneal)
  | .sample d => some (d.val, .sample)
  | .exchange d => some (d.val, .exchange)
  | .energy d => some (d.val, .energy)
  | .noiseSeed d => some (d.val, .noiseSeed)
  | .noiseRaw d _ => some (d.val, .noiseRaw)
  | _ => none

/-- One byte of a memory by number: 0 SRAM, 1 LPDDR5X, 2 host memory, 3 Spindle, 4 Bobbin, 5 Distaff local stores. -/
def State.byteAt (s : State) (sp a : Nat) : Byte := (s.mem.space sp).byte a

/-- The byte at offset `a` of a buffer of a hank. -/
def State.bufByte (s : State) (r : Run) (b : Buffer) (a : Nat) : Byte :=
  s.byteAt b.space (if b.space = 2 then hostKey r.owner (b.base + a) else b.base + a)

/-- A word can read `n` bytes of a buffer from offset `a`: no word of it fails its check, and a host buffer is still reached (08 R214, R217; 09 R264, R265). -/
abbrev State.readable (s : State) (r : Run) (b : Buffer) (a n : Nat) : Prop :=
  if b.space = 2 then r.noHost = false ∧ r.bad = none else (s.mem.check b.space (b.base + a) n).2 = none

/-- A word can read a range of a local store. -/
abbrev State.lsReadable (s : State) (bobbin : Bool) (u a n : Nat) : Prop := (s.mem.check (lsSpace bobbin) (lsKey bobbin u a) n).2 = none

/-- A path is there and has no request waiting, so that a command on it is served at once (10 R275, R284). -/
def State.pathIdle (s : State) (p : Path) : Bool := s.pathOpen p && (match p with
  | .bar0 => s.dict.bar0.isEmpty
  | .i3c => s.dict.i3c.queue.isEmpty
  | .vdm => s.dict.vdm.queue.isEmpty
  | .device => true)

/-- The path of a command that is one write of an entry. -/
def pathCommand : Instr → Option Path
  | .dictWrite p _ _ _ | .conditioningWrite p _ _ | .marginReplan p _ | .settingsFlush p _ | .settingsRestore p _ | .powerBudgetWrite p _ _ => some p
  | .debugEnableWrite p _ | .testShapeWrite p _ | .attestRequest p _ | .sealRing p _ | .ckptKeyWrite p _ _ | .freeze p _ | .thaw p _ | .mirrorClear p _ => some p
  | .arm p => some p.on
  | .begin p | .verify p | .cancel p | .confirm p | .disarm p | .imageBlock p _ _ _ => some p
  | _ => none

/-- Every memory is in its canonical form: addresses strictly rising, no byte listed that an unlisted address reads as. -/
def Memory.wf (m : Memory) : Bool := Mem.wf m.sram && Mem.wf m.lp && Mem.wf m.host && Mem.wf m.spindle && Mem.wf m.bobbin && Mem.wf m.distaff

/-- What a halt leaves of the FATAL mirror: as it stood, or, where the newest record was still being written, without that record and with the earlier index
(14 R373; log 53). -/
def Keep.mirrorAfter (x y : Keep) : Prop :=
  y = { x with mirrorOpen := false } ∨
  (x.mirrorOpen = true ∧ y = { x with mirror := x.mirror.dropLast, mirrorIndex := !x.mirrorIndex, mirrorOpen := false })

/-- The slots of the image after the changes that a start finds in the flash (15 R383). -/
def Image.afterDamage (x : Image) (i : StartInputs) : Image := { x with slotA := x.slotA.damage i.damagedA, slotB := x.slotB.damage i.damagedB }

/-- A write of an entry on a path was applied and journalled: status 0, and the record of 10 R288 under the next JSEQ. -/
def State.wrote (s t : State) (index sub path : Nat) : Prop :=
  t.out.reply = 0 ∧ ∃ j, j.index = index ∧ j.sub = sub ∧ j.path = path ∧ j.jseq = (s.dict.jseq + 1) % 2 ^ 32 ∧ t.dict.jseq = j.jseq ∧
    t.dict.journal = lastOf 256 (s.dict.journal ++ [j])

end Sys2Proof.Machine
end

