-- ==== Sys2Proof/Certificates/Slice0/Obligations.lean ====
section
/-!
DEFINITION. The statements for the provers, one `def Obligations.<Name> : Prop` each. Where a statement rests on a choice of the model, its docstring names the log
entry; what a statement assumes beside the device's phase names the form it speaks of.
-/

section
open Sys2Proof Sys2Proof.Machine

/-- A step takes the command at the front of the queue and is that command's effect with the queue's rest; the model's own step (log 1). -/
def Obligations.StepRunsFrontCommand : Prop :=
  ∀ (c : Instr) (s : State) (rest : List Instr), s.pending = c :: rest → step s = exec c { s with pending := rest }

/-- A well-formed command answers a next state from every state; no command is refused, and a command stops only where it is not well-formed, with the fault
malformedCommand. The fault and where it stands are the model's choice (log 39). -/
def Obligations.WellFormedCommandsAnswer : Prop :=
  ∀ (c : Instr) (s : State),
    (c.wf = true → ∃ t, exec c s = .next t) ∧ (∀ r, exec c s ≠ .refused r) ∧ ∀ f, exec c s = .fault f → c.wf = false ∧ f = .malformedCommand

/-- No command touches the queue of waiting commands: they are served first in, first out. -/
def Obligations.CommandsKeepTheQueue : Prop :=
  ∀ (c : Instr) (s t : State), exec c s = .next t → t.pending = s.pending

/-- The reset state: PERST# asserted, nothing ran, every ring at the reset values of its page with next sequence number 1, every noise group WARMING, both halves'
noise WARMING, and the test access port and pins at rest: IDCODE in the port, no pin driven by it or misused, ALERT# and THERMTRIP# released, no link and no I3C
address (04 R90, R92; 09 R250, R256; 13 R344). The values that no rule gives are the model's choice (log 3), IDCODE in the port the family's (log 29). Every
memory of the reset state is in its canonical form, and reads 0x00 everywhere (the model's choice, log 4). -/
def Obligations.ResetState : Prop :=
  (State.reset.pending = [] ∧ State.reset.board.phase = .reset ∧ State.reset.board.perst = true ∧
   (∀ r < 64, let x := State.reset.ring r
     x.enabled = false ∧ x.sqBase = 0 ∧ x.cqBase = 0 ∧ x.sqAccepted = 0 ∧ x.cqTail = 0 ∧ x.cqHead = 0 ∧ x.nextSeq = 1 ∧ x.hanks = []) ∧
   (∀ g < 137, (State.reset.group g).state = 0) ∧ State.reset.noise.half = ⟨0, 0⟩ ∧ (∀ d < 8, State.reset.run d = none) ∧
   State.reset.recorder.made = 0 ∧ State.reset.steward.queue = [] ∧ State.reset.steward.granted = [] ∧
   State.reset.board.tap = .idcode ∧ State.reset.board.tapDrives = false ∧ State.reset.board.tapMisused = false ∧ State.reset.board.boundary = 0 ∧
   State.reset.board.boundaryOut = 0 ∧ State.reset.alert = false ∧ State.reset.board.thermtrip = false ∧ State.reset.board.i3cDynamic = none ∧
   State.reset.board.linkWidth = 0 ∧ State.reset.board.linkSpeed = 0) ∧
  (State.reset.mem.wf = true ∧ ∀ sp a, State.reset.byteAt sp a = 0)

/-- Every step keeps every memory (SRAM, LPDDR5X, host memory and the three kinds of local store) in its canonical form; the form is the model's own (log 4). -/
def Obligations.StepKeepsMemoryCanonical : Prop :=
  ∀ (s t : State), s.mem.wf = true → step s = .next t → t.mem.wf = true

/-- A start whose regulators answer runs to its end: the device is ready with PERST# deasserted and START_STATE 1 to 4, LAST_RESET tells the kind, RESET_COUNT rises
by 1 at every start and POWER_ON_COUNT at a cold start only, and every ring is disabled and empty with its bases, SQ_ACCEPTED and CQ_TAIL at 0 and next sequence
number 1 (12 R323; 13 R344, R347, R349, R353). The hot reset of a running device alone, and THERMTRIP# holding a cold start alone, are the model's reading (log
35). A cold start is held in reset by THERMTRIP# or by a rail out of order: PERST# is deasserted, the next start stays cold, a test access port that drives the
pins is now misused, and nothing else has happened (16 R400, R405, R407). A hot reset of a halted device only drops its link (11 R313; log 35). A start whose
regulator never acknowledges takes the half out of service and stops the device, with START_STATE 3 and bit 10 of START_LIMIT_CAUSE, when a slot verifies at
step 2; when none does it ends in RECOVERY before the rails rise (13 R350, R353, R354, R358; 16 R399). The halt at that moment is the model's reading (log 35). -/
def Obligations.StartsReachReady : Prop :=
  (∀ (s : State) (i : StartInputs) (c : Instr) (kind : Nat), startOk i (decide (kind = 0)) = true → i.avsFail = none →
     (c = .coldPowerOnStart i ∧ kind = (if i.powered || s.board.coldNext then 0 else 1) ∧ s.board.phase = .reset ∧ s.board.perst = true ∧
         (kind = 0 → s.board.thermtrip = false ∧ i.railsInOrder = true)) ∨
       (c = .hotReset i ∧ kind = 2 ∧ s.board.phase = .ready) ∨
       (c = .trstDeassertion i ∧ kind = 1 ∧ s.board.phase ≠ .reset ∧ s.board.tapMisused = true) →
     ∃ t, exec c s = .next t ∧ t.board.phase = .ready ∧ t.board.perst = false ∧ 1 ≤ t.start.state ∧ t.start.state ≤ 4 ∧ t.start.lastReset = kind ∧
       t.keep.resetCount = (s.keep.resetCount + 1) % 2 ^ 32 ∧
       t.keep.powerOn = (if kind = 0 then (s.keep.powerOn + 1) % 2 ^ 32 else s.keep.powerOn) ∧
       (∀ r < 64, let x := t.ring r
         x.enabled = false ∧ x.sqBase = 0 ∧ x.cqBase = 0 ∧ x.sqAccepted = 0 ∧ x.cqTail = 0 ∧ x.nextSeq = 1 ∧ x.hanks = []) ∧
       (∀ d < 8, t.run d = none) ∧ t.anneal = none) ∧
  (∀ (s : State) (i : StartInputs),
     (startOk i true = true → s.board.phase = .reset → s.board.perst = true → (i.powered || s.board.coldNext) = true →
       (s.board.thermtrip = true ∨ i.railsInOrder = false) →
       exec (.coldPowerOnStart i) s = .next { s with board := { s.board with perst := false, coldNext := true,
                                                                              tapMisused := s.board.tapMisused || s.board.tapDrives } }) ∧
     (startOk i false = true → s.halted = true →
       exec (.hotReset i) s = .next { s with board := { s.board with linkWidth := 0, linkSpeed := 0 } }) ∧
     (∀ h late, startOk i false = true → s.board.phase = .ready → i.avsFail = some (h, late) →
       let u := { s with image := s.image.afterDamage i }
       ∃ t, exec (.hotReset i) s = .next t ∧
         if u.slotVerifies i.flashAnswers false = true ∨ u.slotVerifies i.flashAnswers true = true then
           t.board.phase = .haltedFatal ∧ t.board.alertSave = true ∧ t.steward.out.get h = true ∧ t.units.shape.get h = 0xFF ∧ t.start.state = 3 ∧
             t.start.cause.getLsbD 10 = true
         else t.board.phase = .ready ∧ t.start.state = 4))

/-- PERST# asserted stops a running device without a save: in reset, link down, ALERT# released, and requests that wait are discarded (10 R285). Only the board, the
dictionary's queues, what the hanks in execution leave in memory, and a FATAL record still on its way into the mirror (14 R373; log 53), change (13 R345). After
a sag save, sag detection stays off (R346). The loss of VDD_IO loses everything volatile and takes no save: the next start is cold; the keep store, the flash,
the fuses and host memory stay (13 R344; 16 R401), and every input holds its state (R396). Bytes that are lost read as 0x00 (the model's choice, log 4); the
reset values of the units, the noise groups and the rings that no rule gives are log 3, and what stands on the board log 35. -/
def Obligations.ResetsOfARunningDevice : Prop :=
  (∀ (s : State), s.board.perst = false → s.board.phase ≠ .reset →
     ∃ t, exec .perstAssert s = .next t ∧ t = { s with board := t.board, mem := t.mem, out := t.out, dict := s.dict.discard, keep := t.keep } ∧ s.keep.mirrorAfter t.keep ∧
       t.board = { s.board with phase := .reset, perst := true, sagOff := decide (s.board.phase = .haltedSag) || s.board.sagOff, alertSave := false, selfRefresh := true, linkWidth := 0, linkSpeed := 0 } ∧
       ((∀ d < 8, ∀ r, s.run d = some r → s.savingOn d r = true → r.header.ckptSpace ≠ 0) → t.mem.sram = s.mem.sram) ∧ (s.board.phase ≠ .ready → t.mem = s.mem ∧ (s.keep.mirrorOpen = false → t.out = s.out))) ∧
  (∀ (s : State), ∃ t, exec .vddIoLoss s = .next t ∧ t.board = { Board.reset with perst := s.board.perst, i3cSa := s.board.i3cSa } ∧ t.rings = State.reset.rings ∧ t.distaffs = State.reset.distaffs ∧
     t.units = Units.reset ∧ t.noise = Noise.reset ∧ t.recorder = Recorder.reset ∧ t.dispatcher = State.reset.dispatcher ∧ t.anneal = none ∧
     (∀ sp a, sp ≠ 2 → t.byteAt sp a = 0) ∧ t.mem.poison = [] ∧ (∃ k, s.keep.mirrorAfter k ∧ t.keep = { k with torn := t.keep.torn, report := none, state := 0 }) ∧
     (s.keep.newest.isSome → t.keep.torn = s.keep.torn) ∧ t.image.slotA = s.image.slotA ∧ t.image.slotB = s.image.slotB ∧
     t.image.copy0 = s.image.copy0 ∧ t.image.copy1 = s.image.copy1 ∧ t.dict.areas = s.dict.areas ∧ t.image.minSvn = s.image.minSvn ∧ t.image.revoked = s.image.revoked ∧
     (s.board.phase ≠ .ready → t.mem.host = s.mem.host))

/-- A supply sag of a running device halts it with ALERT# asserted and writes the save area that does not hold the newest save, with the cause and the next
SAVE_SEQ, when VKEEP carries it to its header; the rings, units, noise groups, grants and Distaffs stand as they were, and LPDDR5X reads as memory nothing has
written from then on (11 R304, R310, R311, R313, R314; 08 R229; log 4). -/
def Obligations.SagHaltsAndSaves : Prop :=
  ∀ (s : State) (cause : BitVec 4) (saved : Bool), s.board.phase = .ready → s.sagCause cause.toNat ≠ 0 →
    ∃ t, exec (.supplySag cause saved) s = .next t ∧ t.board = { s.board with phase := .haltedSag, alertSave := true } ∧
      t.rings = s.rings ∧ t.units = s.units ∧ t.noise = s.noise ∧ t.steward = s.steward ∧ t.distaffs = s.distaffs ∧ t.image = s.image ∧
      t.mem.lp = [] ∧ ((∀ d < 8, ∀ r, s.run d = some r → s.savingOn d r = true → r.header.ckptSpace ≠ 0) → t.mem.sram = s.mem.sram) ∧ t.keep.saveSeq = s.keep.saveSeq + 1 ∧ t.keep.torn = !saved ∧
      (∀ b v, s.keep.newest = some (b, v) → (if b then t.keep.area1 = some v else t.keep.area0 = some v)) ∧
      (saved = true → ∃ v, (t.keep.area0 = some v ∨ t.keep.area1 = some v) ∧ v.cause = s.sagCause cause.toNat ∧ v.saveSeq = s.keep.saveSeq + 1 ∧
        v.rings = (List.range 64).map s.ringSave ∧ v.journal = s.dict.journal ∧ v.halves = s.noise.half)

/-- A fatal stop, a thermal trip of a running or halted device, and the third failure of an AVSBus voltage write halt the device with ALERT# asserted, put a FATAL
record into the FATAL mirror and write a save with CAUSE 0 (13 R358, R410; 16 R399, R407). A device that a sag has halted stays so (its save: log 35).
THERMTRIP# is latched. A failed AVSBus write before the third only counts (16 R399). -/
def Obligations.FatalStopsHaltTheDevice : Prop :=
  (∀ (s : State) (c : Instr) (saved : Bool), s.board.phase ≠ .reset →
     ((∃ cause half distaff address, c = .fatalStop cause half distaff address saved ∧ s.board.phase = .ready) ∨
       (∃ sensor celsius, c = .thermtrip sensor celsius ∧ 115 ≤ celsius ∧ s.board.thermtrip = false ∧ saved = true) ∨
       (∃ h, c = .avsWriteTimeout h ∧ 2 ≤ s.steward.avsTries.get h ∧ saved = true ∧ s.board.phase = .ready)) →
     ∃ t, exec c s = .next t ∧ t.board.phase = (if s.board.phase = .haltedSag then .haltedSag else .haltedFatal) ∧ t.board.alertSave = true ∧ (∃ x ∈ t.keep.mirror, x.note.type = 0x0B04 ∧ x.mirrored = true) ∧
       t.rings = s.rings ∧ t.distaffs = s.distaffs ∧ t.keep.saveSeq = s.keep.saveSeq + 1 ∧
       (saved = true → ∃ v, (t.keep.area0 = some v ∨ t.keep.area1 = some v) ∧ v.cause = 0 ∧ v.saveSeq = s.keep.saveSeq + 1) ∧
       (∀ sensor celsius, c = .thermtrip sensor celsius → t.board.thermtrip = true) ∧
       (∀ h, c = .avsWriteTimeout h → t.steward.out.get h = true ∧ t.units.shape.get h = 0xFF)) ∧
  (∀ (s : State) (h : Half), s.board.phase = .ready → s.steward.avsTries.get h < 2 →
     exec (.avsWriteTimeout h) s = .next { s with steward := { s.steward with avsTries := s.steward.avsTries.set h (s.steward.avsTries.get h + 1) } })

/-- LINK_UP records the trained width and rate and what enumeration sets in the configuration space, a base address as a multiple of its register's size, and writes
LINK_NARROW to the recorder unless the link is x16 at 32 GT/s; nothing else changes (09 R241, R242, R246). A link does not train at a width of 2, and such a
command changes nothing (log 5). The I3C target's dynamic address is assigned by SETDASA and ENTDAA and reset by RSTDAA; a test access port instruction stands
in the port, EXTEST, CLAMP and HIGHZ drive the pins, SAMPLE/PRELOAD and EXTEST capture them in the boundary-scan register, through which what comes in at TDI
goes to the cells and their output latches, and TRST# puts IDCODE back and frees the pins when none of them was misused (16 R404, R405; the port's state at
TRST#: log 29). VF Enable, ARI Capable Hierarchy and NumVFs take the written values; VF n is there exactly while both bits are set and n is at most NumVFs (09
R244). Clearing VF Enable is the function-level reset of 09 R265: every ring's page is at its reset values. MSI-X: unmasking an entry writes its address and
data, sends a message held for it once, when MSI-X is enabled, and clears its pending bit; the entries masked since are masked, and no other changes (09 R249;
log 6). -/
def Obligations.LinkAndFunctionCommands : Prop :=
  (∀ (s : State) (w : Fin 5) (q : PcieSetup), (w.val = 1 → exec (.linkUp w q) s = .next s) ∧ (s.board.phase ≠ .reset → w.val ≠ 1 →
     ∃ t, exec (.linkUp w q) s = .next t ∧ t = { s with board := t.board, recorder := t.recorder, pcie := t.pcie } ∧
       t.pcie = { s.pcie with maxPayload := 128 * 2 ^ q.maxPayload.val, maxRead := 128 * 2 ^ q.maxRead.val, ecrcGenerate := q.ecrcGenerate,
                              ecrcCheck := q.ecrcCheck, d3hot := q.d3hot, bars := t.pcie.bars } ∧
       (∀ k < 5, (t.pcie.bars.getD k 0).toNat = (q.bars.getD k 0).toNat / 2 ^ barLog2.getD k 0 * 2 ^ barLog2.getD k 0) ∧
       t.board = { s.board with linkWidth := 2 ^ w.val, linkSpeed := q.speed.val + 1 } ∧
       (if w.val = 4 ∧ q.speed.val = 4 then t.recorder = s.recorder
         else ∃ n, n.type = 0x0901 ∧ n.severity = notice ∧ t.recorder = { s.recorder with inbox := s.recorder.inbox ++ [n], made := s.recorder.made + 1 }))) ∧
  (∀ (s : State) (a : BitVec 7) (x : TapScan) (i : StartInputs),
     let on : Bool := x.instruction = .extest || x.instruction = .clamp || x.instruction = .highz
     let u := { s with board := { s.board with tap := x.instruction, tapDrives := on, tapMisused := s.board.tapMisused || (on && !s.board.perst) } }
     let scans := x.instruction = .samplePreload ∨ x.instruction = .extest
     exec (.setdasa a) s = .next { s with board := { s.board with i3cDynamic := some a } } ∧
     (∃ t, exec (.entdaa a) s = .next t ∧ t = { s with board := { s.board with i3cDynamic := some a }, out := { s.out with reply := t.out.reply } } ∧
       t.out.reply.toNat = Config.i3cPid.toNat * 65536 + Config.i3cBcr.toNat * 256 + Config.i3cDcr.toNat) ∧
     exec .rstdaa s = .next { s with board := { s.board with i3cDynamic := none } } ∧
     (∃ t, exec (.tapInstruction x) s = .next t ∧ t = { s with board := t.board, out := t.out } ∧
       t.board = { u.board with boundary := if scans then x.tdi.getD u.pinLevels else s.board.boundary,
                                boundaryOut := if scans then x.tdi.getD s.board.boundaryOut else s.board.boundaryOut } ∧
       (scans → t.out.reply.toNat = u.pinLevels.toNat) ∧ (x.instruction = .idcode → t.out.reply = 0x19610A9B)) ∧
     (x.instruction = .extest ∨ x.instruction = .clamp → ∀ k : Nat, outputPins.getLsbD k = true → u.pinLevels.getLsbD k = s.board.boundaryOut.getLsbD k) ∧
     (startOk i false = true → s.board.tapMisused = false →
       exec (.trstDeassertion i) s = .next { s with board := { s.board with tap := .idcode, tapDrives := false, tapMisused := false } })) ∧
  (∀ (s : State) (e a : Bool) (n : Fin 16), s.board.phase = .ready → s.linkOpen 0 = true →
     ∃ t, exec (.vfEnable e ⟨a, n⟩) s = .next t ∧ t.vfEnable = e ∧ t.ari = a ∧ t.numVfs = n.val ∧
       (∀ fn, t.fnThere fn = true ↔ fn = 0 ∨ (e = true ∧ a = true ∧ fn ≤ n.val)) ∧
       (s.vfEnable = false ∨ e = true → t = { s with vfEnable := e, ari := a, numVfs := n.val }) ∧
       (s.vfEnable = true → e = false → (∀ r < 64, t.ring r = (t.ring r).clearPage ∧ (t.ring r).nextSeq = (s.ring r).nextSeq ∧ (t.ring r).genesis = (s.ring r).genesis ∧
         (t.ring r).sealCount = (s.ring r).sealCount) ∧ ∀ g : Fin 16, t.functions[g] = Function.reset)) ∧
  (∀ (s : State) (fn : Fin 16) (e : Fin 2048) (address : BitVec 64) (data : BitVec 32) (masked : List (Fin 2048)) (on : Bool),
     s.board.phase = .ready → s.linkOpen fn = true → s.fnThere fn = true →
     ∃ t, exec (.msixUnmask fn e ⟨address, data, masked, on⟩) s = .next t ∧ t = { s with functions := t.functions, out := t.out } ∧
       (∀ g : Fin 16, g ≠ fn → t.functions[g] = s.functions[g]) ∧ t.functions[fn].msixEnabled = on ∧
       (∀ k : Fin 2048, t.functions[fn].unmasked.contains k.val = true ↔
         k = e ∨ (k ∉ masked ∧ s.functions[fn].unmasked.contains k.val = true)) ∧
       (∀ k : Fin 2048, Sparse.get 0 t.functions[fn].table k.val = if k = e then data ++ address else Sparse.get 0 s.functions[fn].table k.val) ∧
       (if on = true ∧ s.functions[fn].pending.contains e.val = true then
           t.out = { s.out with msix := s.out.msix ++ [(fn.val, e.val)] } ∧ t.functions[fn].pending.contains e.val = false
         else t.out = s.out ∧ t.functions[fn].pending = s.functions[fn].pending))

/-- A function-level reset of a VF puts every register of every ring page it owns to its reset value and keeps the ring's next sequence number. Its oldest hanks, up
to the first in execution, leave the ring, and the ring's chain takes for each, in sequence order, the entry of State.appendEntry with status ABORTED (0xF0),
cause FLR (0x02) and no completion record: the chain index rises by their number. A hank in execution is aborted and cut off from host memory. The reset resets
the function's MSI-X, and marks the Spindles and Bobbins it held last to be cleared; the rings, units and functions of others stay. Of the PF it does so for
every function, writes no entry to the ledger area, and clears VF Enable (09 R265; 12 R323, R328). -/
def Obligations.FunctionLevelResetClearsItsRings : Prop :=
  ∀ (s : State) (fn : Fin 16), s.board.phase = .ready → s.fnThere fn = true →
    let mine := fun (k : Nat) => fn.val = 0 ∨ k = fn.val
    ∃ t, exec (.functionLevelReset fn) s = .next t ∧ (fn.val = 0 → t.vfEnable = false) ∧
      (∀ r < 64, if mine (s.owner r) then
          let x := s.ring r
          ∃ es : List Ending, es.length ≤ x.hanks.length ∧ (∀ e ∈ es, e.status = 0xF0 ∧ e.cause = 0x02 ∧ e.silent = true ∧ e.results = []) ∧
            let gone := x.hanks.take es.length
            let chained := (gone.zip es).foldl (fun (u : State) c => u.appendEntry r c.1 c.2 (decide (fn.val ≠ 0) && x.gap.isNone)) s
            t.ring r = { x.clearPage with
              hanks := (t.ring r).hanks, progSeq := (gone.getLast?.map fun h => h.seq).getD x.progSeq, progVal := if gone.isEmpty then x.progVal else 0xFFFF,
              done := (gone.map fun h => (h.seq, 0xF0)).reverse ++ x.done, chainHead := (chained.ring r).chainHead,
              chainIndex := x.chainIndex + es.length, lastLedgerSeq := (chained.ring r).lastLedgerSeq, gap := (t.ring r).gap } ∧
            (t.ring r).hanks.map (fun h => h.seq) = (x.hanks.drop es.length).map (fun h => h.seq) ∧
            ((x.hanks.map fun h => h.seq).Nodup →
              es.length = (x.hanks.takeWhile fun h => h.stage ≠ .running && (h.stage ≠ .finished || h.ending.isSome)).length)
        else t.ring r = s.ring r) ∧
      (∀ d < 8, ∀ q, s.run d = some q → mine (s.owner q.ring) → (∃ h ∈ (s.ring q.ring).hanks, h.seq = q.seq ∧ h.stage = .running) → q.ring < 64 →
        ∃ q', t.run d = some q' ∧ q'.aborted = some 0x02 ∧ q'.noHost = true) ∧
      (∀ g : Fin 16, if mine g then t.functions[g] = Function.reset else t.functions[g] = s.functions[g]) ∧
      (∀ l < 128, t.spindle l = if (s.spindle l).lastOwner.any (fun f => decide (fn.val = 0) || decide (f = fn.val)) then { s.spindle l with clearNext := true } else s.spindle l) ∧
      (∀ b < 32, t.bobbin b = if (s.bobbin b).lastOwner.any (fun f => decide (fn.val = 0) || decide (f = fn.val)) then { s.bobbin b with clearNext := true } else s.bobbin b) ∧
      t.board = s.board ∧ t.image = s.image

/-- ENABLE_RING on a ring page the function owns: with the device READY or READY_DEGRADED, the ring disabled, LOG2_DEPTH 4 to 12 and both bases on 4 KiB boundaries,
the ring is enabled with SQ_ACCEPTED, CQ_TAIL and CQ_HEAD at 0 and SEQ_BASE at the next sequence number; nothing else changes, and a write that does not meet
this changes nothing (09 R250, R251, R256; 13 R353). That a write to an enabled ring changes nothing is the model's reading (log 36). DISABLE_RING: an enabled
ring that is not BUSY is disabled and its FAULT falls; while BUSY is 1 the write is ignored; on a disabled ring it sets LOG2_DEPTH (09 R251, R264). Beside the
ring only the pick reservation may move, which follows the rings, and with it the marks of waiting requests (11 R299, R300). -/
def Obligations.RingsEnableAndDisable : Prop :=
  (∀ (s : State) (fn : Fin 16) (r : Fin 64) (ctrl : BitVec 32), s.reaches fn r = true →
     let x := s.ring r
     let depth := bits ctrl.toNat 11 8
     let ok := (s.start.state = 1 ∨ s.start.state = 2) ∧ x.enabled = false ∧ 4 ≤ depth ∧ depth ≤ 12 ∧ x.sqBase.toNat % 4096 = 0 ∧ x.cqBase.toNat % 4096 = 0
     ∃ t, exec (.enableRing fn r ctrl) s = .next t ∧ t = { s with rings := t.rings } ∧ (∀ k : Fin 64, k ≠ r → t.rings[k] = s.rings[k]) ∧
       (if ok then t.ring r = { x with enabled := true, log2Depth := depth, sqAccepted := 0, cqTail := 0, cqHead := 0, seqBase := x.nextSeq, advance := 0, allowance := 0 }
         else t.ring r = x)) ∧
  (∀ (s : State) (fn : Fin 16) (r : Fin 64) (ctrl : BitVec 32), s.reaches fn r = true →
     let x := s.ring r
     ∃ t, exec (.disableRing fn r ctrl) s = .next t ∧ t = { s with rings := t.rings, steward := t.steward, distaffs := t.distaffs } ∧ s.onlyWaits t ∧ (∀ k : Fin 64, k ≠ r → t.rings[k] = s.rings[k]) ∧
       t.steward = { s.steward with reservation := t.steward.reservation } ∧
       t.ring r = (if x.enabled = false then { x with log2Depth := bits ctrl.toNat 11 8 }
         else if x.sqAccepted = x.cqTail then { x with enabled := false, fault := false } else x))

/-- SQ_DOORBELL with D: with E = D − SQ_ACCEPTED not zero and at most the credits, an enabled ring accepts E hanks, which take the next E sequence numbers; a
doorbell of the value it holds changes nothing; any other is ignored and counted (09 R253, R254, R256). A halted device ignores every doorbell (11 R313).
CQ_HEAD takes a value that does not pass CQ_TAIL; any other is ignored and counted in BAD_HEAD (09 R255). -/
def Obligations.DoorbellsAndHeadsMoveWithinCredits : Prop :=
  (∀ (s : State) (fn : Fin 16) (r : Fin 64) (d : BitVec 32), s.reaches fn r = true →
     let x := s.ring r
     let e := (d - x.sqAccepted).toNat
     (s.board.phase ≠ .ready → exec (.sqDoorbell fn r d) s = .next s) ∧ (s.board.phase = .ready → ∃ t, exec (.sqDoorbell fn r d) s = .next t ∧ t = { s with rings := t.rings, dict := t.dict } ∧ (∀ k : Fin 64, k ≠ r → t.rings[k] = s.rings[k]) ∧
       (if x.enabled = true ∧ e = 0 then t = s
        else if x.enabled = true ∧ e + (x.sqAccepted - x.cqHead).toNat ≤ 2 ^ x.log2Depth then
          t.dict = s.dict ∧ (t.ring r).sqAccepted = d ∧ (t.ring r).nextSeq = (x.nextSeq + e) % 2 ^ 48 ∧
          (∃ new, (t.ring r).hanks = x.hanks ++ new ∧ new.map (fun h => h.seq) = (List.range e).map (fun k => (x.nextSeq + k) % 2 ^ 48) ∧
            ∀ h ∈ new, h.stage = .accepted) ∧ (t.ring r).badDoorbell = x.badDoorbell ∧ (t.ring r).cqTail = x.cqTail ∧ (t.ring r).cqHead = x.cqHead
        else t.ring r = { x with badDoorbell := min (x.badDoorbell + 1) 0xFFFF } ∧
          t.dict = { s.dict with ignoredDoorbells := min (s.dict.ignoredDoorbells + 1) 0xFFFFFFFF }))) ∧
  (∀ (s : State) (fn : Fin 16) (r : Fin 64) (h : BitVec 32), s.reaches fn r = true →
     let x := s.ring r
     ∃ t, exec (.cqHead fn r h) s = .next t ∧ t = { s with rings := t.rings } ∧ (∀ k : Fin 64, k ≠ r → t.rings[k] = s.rings[k]) ∧
       t.ring r = (if (h - x.cqHead).toNat ≤ (x.cqTail - x.cqHead).toNat then { x with cqHead := h } else { x with badHead := min (x.badHead + 1) 0xFFFF }))

/-- A 64-bit write of ABORT reaches the hank it names and, with THROUGH (bit 63), every hank of the ring above it. A hank that waits for its pick finishes with
ABORTED, HOST and no EVENT_REF; one whose entry is still to be read, or that is picked, carries the abort to its end. A hank in execution is stopped: no further
word issues, and the words already issued stay issued, but for a WAIT.SEQ without limit, which nothing else need end (log 19). A finished hank and every other
keep their course, and rings and Distaffs of others stay (09 R262). An ABORT of 32 bits does nothing (R247), nor one of a halted device (11 R313). -/
def Obligations.AbortFinishesAWaitingHank : Prop :=
  ∀ (s : State) (fn : Fin 16) (r : Fin 64) (v : BitVec 64), s.reaches fn r = true →
    let x := s.ring r
    let seq := v.toNat % 2 ^ 48
    let hit := fun (h : Hank) => h.seq = seq ∨ (2 ^ 63 ≤ v.toNat ∧ seq < h.seq)
    exec (.abort fn r false v) s = .next s ∧ (s.board.phase ≠ .ready → exec (.abort fn r true v) s = .next s) ∧
    (s.board.phase = .ready → seq < x.seqBase ∨ x.seqBase + x.sqAccepted.toNat ≤ seq → exec (.abort fn r true v) s = .next s) ∧
    (s.board.phase = .ready → x.seqBase ≤ seq → seq < x.seqBase + x.sqAccepted.toNat → (x.hanks.map fun h => h.seq).Nodup →
      ∃ t, exec (.abort fn r true v) s = .next t ∧
        t = { s with rings := t.rings, steward := t.steward, out := t.out, distaffs := t.distaffs, mem := t.mem, anneal := t.anneal } ∧
        (∀ k : Fin 64, k ≠ r → t.rings[k] = s.rings[k]) ∧ t.ring r = { x with hanks := (t.ring r).hanks } ∧
        (t.ring r).hanks.map (fun h => h.seq) = x.hanks.map (fun h => h.seq) ∧
        (∀ h ∈ x.hanks, (¬hit h ∨ h.stage = .running ∨ h.stage = .finished → h ∈ (t.ring r).hanks) ∧
          (hit h → h.stage = .waiting → ∃ g ∈ (t.ring r).hanks, g.seq = h.seq ∧ g.stage = .finished ∧
            (g.ending.map fun e => (e.status, e.cause, e.evRef, e.distaff, e.silent)) = some (0xF0, 0x01, 0, 0xFF, false)) ∧
          (hit h → h.stage = .accepted → { h with abortWith := some 0x01 } ∈ (t.ring r).hanks) ∧
          (hit h → h.stage = .picked → { h with abortWith := some (h.abortWith.getD 0x01) } ∈ (t.ring r).hanks) ∧
          (hit h → h.stage = .running → ∀ d q, s.run d = some q → q.ring = r.val → q.seq = h.seq →
            ∃ p, t.run d = some p ∧ p.next = q.next ∧ p.words = q.words ∧ p.failure = q.failure ∧ p.noHost = q.noHost ∧
              if q.ended = true ∧ q.aborted = none then p.aborted = none ∧ p.issued = q.issued
              else p.aborted = some (q.aborted.getD 0x01) ∧
                p.issued.map (fun i => (i.index, i.granted)) = (q.issued.filter fun i => !q.endless i).map fun i => (i.index, i.granted))) ∧
        ∀ d : Fin 8, (∀ q, s.run d = some q → q.aborted = none ∧ ∀ h ∈ x.hanks, hit h → ¬(q.ring = r.val ∧ q.seq = h.seq)) →
          t.distaffs[d] = s.distaffs[d] ∨ t.distaffs[d] = s.distaffs[d].marked)

/-- REGISTER_WRITE: 32-bit writes of SQ_BASE and CQ_BASE replace the named half while the ring is disabled; a write of SQ_DOORBELL, RING_CTRL or CQ_HEAD, a 64-bit
write of ABORT, and the writes of a dictionary slot are the commands of those registers; an access that is not aligned changes nothing (09 R247, R250; 10 R276). -/
def Obligations.RegisterWriteReachesTheRegister : Prop :=
  ∀ (s : State) (fn : Fin 16) (r : Fin 64) (k : Fin 16) (v : BitVec 64),
    let low := v.toNat % 2 ^ 32
    let page := fun (o : Nat) => BitVec.ofNat 20 (r.val * 0x1000 + o)
    let slot := fun (o : Nat) => BitVec.ofNat 20 (0x40000 + k.val * 0x100 + o)
    let v32 := BitVec.ofNat 32 low
    (s.reaches fn r = true → (s.ring r).enabled = false →
      exec (.registerWrite fn (page 0x008) false v) s = .next (s.modRing r fun x => { x with sqBase := BitVec.ofNat 64 (x.sqBase.toNat / 2 ^ 32 * 2 ^ 32 + low) }) ∧
      exec (.registerWrite fn (page 0x00C) false v) s = .next (s.modRing r fun x => { x with sqBase := BitVec.ofNat 64 (low * 2 ^ 32 + x.sqBase.toNat % 2 ^ 32) }) ∧
      exec (.registerWrite fn (page 0x010) false v) s = .next (s.modRing r fun x => { x with cqBase := BitVec.ofNat 64 (x.cqBase.toNat / 2 ^ 32 * 2 ^ 32 + low) }) ∧
      exec (.registerWrite fn (page 0x014) false v) s = .next (s.modRing r fun x => { x with cqBase := BitVec.ofNat 64 (low * 2 ^ 32 + x.cqBase.toNat % 2 ^ 32) })) ∧
    exec (.registerWrite fn (page 0x000) false v) s = exec (.sqDoorbell fn r v32) s ∧
    exec (.registerWrite fn (page 0x018) false v) s = (if low / 2 ^ 31 = 1 then exec (.enableRing fn r v32) s else exec (.disableRing fn r v32) s) ∧
    exec (.registerWrite fn (page 0x028) false v) s = exec (.cqHead fn r v32) s ∧
    exec (.registerWrite fn (page 0x038) true v) s = exec (.abort fn r true v) s ∧
    (fn.val = 0 → exec (.registerWrite fn (slot 0x00) false v) s = exec (.selectWrite k v32) s ∧
      exec (.registerWrite fn (slot 0x08) true v) s = exec (.valueWrite k true v) s) ∧
    ∀ o wide, o.toNat % (if wide = true then 8 else 4) ≠ 0 → exec (.registerWrite fn o wide v) s = .next s

/-- BAR2_ACCESS, over an open link: with debug mode on, a write to SRAM or LPDDR5X replaces exactly the bytes it carries, and a read returns as many bytes as it
asks for, as they stand but where the device keeps data of its own, poisoned when a word fails its check; with debug mode off a write is dropped, a read returns
zeros, and BAR2_DROPPED counts the access (09 R248; 08 R212, R214; 14 R368). -/
def Obligations.Bar2ReachesMemoryInDebugMode : Prop :=
  ∀ (s : State) (offset : BitVec 41) (len : Nat) (data : Option Bytes) (sp a : Nat), s.board.phase = .ready → s.linkOpen 0 = true → bar2Ok len data = true →
    bar2Place offset.toNat len = some (sp, a) →
    ∃ t, exec (.bar2Access offset len data) s = .next t ∧
      (s.debug = false → t = { s with dict := { s.dict with bar2Dropped := min (s.dict.bar2Dropped + 1) 0xFFFFFFFF }, out := t.out } ∧
        (data = none → t.out.bar2 = zeros len)) ∧
      (s.debug = true → ∀ b, data = some b → t = { s with mem := t.mem } ∧
        ∀ p c, t.byteAt p c = if p = sp ∧ a ≤ c ∧ c < a + len then b.getD (c - a) 0 else s.byteAt p c) ∧
      (s.debug = true → data = none → t = { s with mem := t.mem, out := t.out } ∧ (∀ p c, t.byteAt p c = s.byteAt p c) ∧ t.out.bar2.length = len ∧
        (∀ k < len, sp = 1 ∨ deviceOwn (a + k) = false → t.out.bar2[k]? = some (s.byteAt sp (a + k))) ∧ t.out.bar2Poisoned = (s.mem.check sp a len).2.isSome)

/-- SUBMISSION_ENTRY_READ: a sound entry whose header's lengths agree with HANK_LEN makes the hank wait with the entry's fields and the header's ceiling; an entry
with a fault ends the hank with ABORTED, HEADER without a pick, HANK_REJECT is written and HANKS_REJECTED rises (09 R252; 07 R181). -/
def Obligations.EntryReadMakesTheHankWait : Prop :=
  ∀ (s : State) (r : Fin 64) (h : Hank), s.board.phase = .ready → (s.ring r).unread = some h → h.abortWith = none →
    (s.ring r).hanks.filter (fun g => g.seq = h.seq) = [h] →
    let b := s.entryBytes r h
    let e := entryFields b
    let header := headerOf (s.bytes 2 (hostKey (s.owner r) e.hankAddr) 256)
    ∃ t g, exec (.submissionEntryRead r) s = .next t ∧ (t.ring r).hanks.filter (fun g => g.seq = h.seq) = [g] ∧
      (∀ k : Fin 64, k ≠ r → t.rings[k] = s.rings[k]) ∧ t.mem = s.mem ∧ s.onlyWaits t ∧ t.units = s.units ∧
      (if s.entryFaults r b e = [] then g.stage = .waiting ∧ g.entry = e ∧ g.ceiling = min 5 header.ceiling ∧ g.noIrq = bit header.flags 0 ∧ t.recorder = s.recorder
        else g.stage = .finished ∧ (g.ending.map fun e => (e.status, e.cause)) = some (0xF0, 0x10) ∧
          (∃ n, n.type = 0x0701 ∧ n.source = r.val ∧ n.sourceSeq = h.seq ∧ t.recorder.inbox = s.recorder.inbox ++ [n]) ∧
          t.dict.hanksRejected = min (s.dict.hanksRejected + 1) 0xFFFFFFFF)

/-- A faulting read of a submission entry raises the ring's FAULT, ends its oldest unread hank with ABORTED, HEADER, writes HOST_READ_FAULT and counts it; one of
the hank header before the pick does so without FAULT; one of the hank region at the pick puts the hank on its Distaff with ABORTED, HEADER and a HANK_DIGEST of
zero; one of the buffer that a LOAD into one Spindle reads fails that word with ECC_UNCORRECTED for poisoned data and RANGE otherwise; a faulting read of a
dictionary transfer ends it with BAD_REQUEST (09 R252, R264; 10 R279). That entries are read in order, so that the read serves the oldest unread hank, is log
34. -/
def Obligations.HostReadFaultsAreReported : Prop :=
  ∀ (s : State) (kind : Fin 4) (address : BitVec 64) (length : BitVec 32), s.board.phase = .ready →
    (∀ (r : Fin 64) (h : Hank), (s.ring r).unread = some h → h.abortWith = none →
      ∃ t, exec (.hostReadFault (.entry r) kind address length) s = .next t ∧ (t.ring r).fault = true ∧ t.mem = s.mem ∧
        t.dict.hostErrors = min (s.dict.hostErrors + 1) 0xFFFFFFFF ∧
        (∃ n ∈ t.recorder.inbox, n.type = 0x0902 ∧ n.payload = faultPayload address.toNat 2 kind 0xFFFE length.toNat) ∧
        ∃ g ∈ (t.ring r).hanks, g.seq = h.seq ∧ g.stage = .finished ∧ (g.ending.map fun e => (e.status, e.cause)) = some (0xF0, 0x10)) ∧
    (∀ (r : Fin 64) (h : Hank), (s.ring r).unread = some h → h.abortWith = none →
      let e := entryFields (s.entryBytes r h)
      e.hankAddr % 64 = 0 → e.hankAddr + 256 ≤ 2 ^ 64 →
      ∃ t, exec (.hostReadFault (.header r) kind address length) s = .next t ∧ (t.ring r).fault = (s.ring r).fault ∧ t.mem = s.mem ∧
        t.dict.hostErrors = min (s.dict.hostErrors + 1) 0xFFFFFFFF ∧
        (∃ n ∈ t.recorder.inbox, n.type = 0x0902 ∧ n.payload = faultPayload address.toNat 2 kind 0xFFFE length.toNat) ∧
        ∃ g ∈ (t.ring r).hanks, g.seq = h.seq ∧ g.entry = e ∧ g.stage = .finished ∧ (g.ending.map fun e => (e.status, e.cause)) = some (0xF0, 0x10)) ∧
    (∀ (ring : Nat) (h : Hank) (d : Nat), s.pickedHank = some (ring, h) → s.freeDistaff = some d → h.abortWith = none →
      ∃ t q, exec (.hostReadFault .region kind address length) s = .next t ∧ t.dispatcher.picked = none ∧ t.mem = s.mem ∧ t.run d = some q ∧ q.ring = ring ∧
        q.seq = h.seq ∧ (q.failure.map fun f => (f.1, f.2.status, f.2.cause)) = some (0xFFFF, 0xF0, 0x10) ∧ q.hankDigest = zero32 ∧ q.words = [] ∧
        t.dict.hostErrors = min (s.dict.hostErrors + 1) 0xFFFFFFFF ∧
        ∃ n ∈ t.recorder.inbox, n.type = 0x0902 ∧ n.payload = faultPayload address.toNat 2 kind 0xFFFF length.toNat) ∧
    (∀ (d : Fin 8) (w bits : Nat) (r : Run) (b : Buffer), s.run d = some r → (∃ i ∈ r.issued, i.index = w ∧ i.granted = true ∧ i.ran = false) →
      r.wordAt w = some (.load, bits) → r.queueReady w .load bits = true → (∀ a, s.anneal = some a → ¬(a.distaff = d.val ∧ a.word = w)) →
      r.buf (ldBuf bits) = some b → b.space = 2 → r.noHost = false → ldBobbin bits = false → wAll bits = false →
      meets address.toNat length.toNat (b.base + ldOff bits) (ldLen bits) = true →
      ∃ t f, exec (.hostReadFault (.buffer d w) kind address length) s = .next t ∧ t.ranWith d w (some f) ∧
        f.status = (if kind.val = 3 then 0x50 else 0xF0) ∧ (kind.val ≠ 3 → f.cause = cRange) ∧
        t.dict.hostErrors = min (s.dict.hostErrors + 1) 0xFFFFFFFF ∧
        ∃ n ∈ t.recorder.inbox, n.type = 0x0902 ∧ n.payload = faultPayload address.toNat 2 kind w length.toNat) ∧
    ∀ (k : Fin 16) (n : Nat), (s.slot k).busy = some (.inr (true, n)) →
      ∃ t, exec (.hostReadFault (.transfer k) kind address length) s = .next t ∧ (t.slot k).busy = none ∧ (t.slot k).code = 0x09 ∧ t.mem = s.mem ∧
        t.dict.bar0.contains k.val = false ∧ t.dict.hostErrors = min (s.dict.hostErrors + 1) 0xFFFFFFFF

/-- HANK_PICK takes the head of the pointer's ring when it fits the power headroom: the hank is picked, the ring's allowance falls by 1, and the reservation that
stood for it is lifted; one stands afterwards exactly when the ring stays eligible with allowance left and its new head waits and does not fit, and then for
that head's ceiling. While the head waits and does not fit, a reservation stands for its ceiling, and HANK_PICK takes the head of the first ring above the
pointer that is eligible, whose head fits and whose advance is below its weight: that advance rises by 1. With no such ring it picks nothing. Nothing of other
rings changes (09 R260; 11 R300). ARBITER_POINTER_MOVE: the pointer leaves a ring with no allowance left, or that is not eligible, for the next ring number,
whose allowance becomes its weight less the advance it has taken, and its advance 0; a reservation for the ring it leaves is lifted (09 R260; 11 R300). -/
def Obligations.PicksFollowThePointer : Prop :=
  (∀ (s : State) (h : Hank), let p := s.dispatcher.pointer
     let x := s.ring p
     let own := s.steward.reservation = none ∨ ∃ c, s.steward.reservation = some (p, c)
     p < 64 → s.mayPick = true → x.eligible = true → x.allowance ≠ 0 → x.head = some h → h.stage = .waiting → own →
     (s.fits h.ceiling = true →
       ∃ t, exec .hankPick s = .next t ∧ t = { s with rings := t.rings, dispatcher := t.dispatcher, steward := t.steward, distaffs := t.distaffs } ∧ s.onlyWaits t ∧
         t.dispatcher = { s.dispatcher with picked := some (p, h.seq), dispatched := s.dispatcher.dispatched + 1 } ∧
         t.ring p = { x with allowance := x.allowance - 1, hanks := (t.ring p).hanks } ∧
         (t.ring p).hanks = x.hanks.map (fun g => if g.seq = h.seq then { g with stage := .picked, wasPicked := true } else g) ∧
         (∀ k : Fin 64, k.val ≠ p → t.rings[k] = s.rings[k]) ∧
         t.steward = { s.steward with reservation := match (t.ring p).head with
           | some g => if (t.ring p).eligible = true ∧ x.allowance - 1 ≠ 0 ∧ g.stage = .waiting ∧ s.fits g.ceiling = false then some (p, g.ceiling) else none
           | none => none }) ∧
     (s.fits h.ceiling = false →
       let may := fun (k : Nat) => p < k ∧ k < 64 ∧ (s.ring k).eligible = true ∧ s.headFits k = true ∧ (s.ring k).advance < s.weight k
       ∃ t, exec .hankPick s = .next t ∧ t = { s with rings := t.rings, dispatcher := t.dispatcher, steward := t.steward, distaffs := t.distaffs } ∧ s.onlyWaits t ∧
         t.steward = { s.steward with reservation := some (p, h.ceiling) } ∧
         ((∀ k, ¬may k) → t.rings = s.rings ∧ t.dispatcher = s.dispatcher) ∧
         ∀ k g, may k → (∀ j < k, ¬may j) → (s.ring k).head = some g →
           t.dispatcher = { s.dispatcher with picked := some (k, g.seq), dispatched := s.dispatcher.dispatched + 1 } ∧
           t.ring k = { s.ring k with advance := (s.ring k).advance + 1,
                                      hanks := (s.ring k).hanks.map (fun f => if f.seq = g.seq then { f with stage := .picked, wasPicked := true } else f) } ∧
           ∀ j : Fin 64, j.val ≠ k → t.rings[j] = s.rings[j])) ∧
  (∀ (s : State), let p := s.dispatcher.pointer
     s.board.phase = .ready → p < 64 → ((s.ring p).eligible = false ∨ (s.ring p).allowance = 0) →
     ∃ t, exec .arbiterPointerMove s = .next t ∧ t = { s with rings := t.rings, dispatcher := t.dispatcher, steward := t.steward, distaffs := t.distaffs } ∧
       s.onlyWaits t ∧
       t.dispatcher.pointer = (p + 1) % 64 ∧ t.dispatcher.picked = s.dispatcher.picked ∧
       (t.ring ((p + 1) % 64)).allowance = s.weight ((p + 1) % 64) - (s.ring ((p + 1) % 64)).advance ∧ (t.ring ((p + 1) % 64)).advance = 0 ∧
       (t.ring p).allowance = 0 ∧ (∀ k < 64, (t.ring k).hanks = (s.ring k).hanks) ∧
       t.steward = { s.steward with reservation := t.steward.reservation } ∧ ∀ c, t.steward.reservation = some c → c.1 = (p + 1) % 64)

/-- HANK_START: the picked hank begins on the lowest-numbered free Distaff at its first word; a hank the checks of 07 R179 refuse carries the status, cause and word
of its first fault in order, and executes nothing (01 R19; 07 R171, R179, R181). -/
def Obligations.HankStartsOnTheLowestFreeDistaff : Prop :=
  ∀ (s : State) (ring : Nat) (h : Hank) (d : Nat), s.board.phase = .ready → s.pickedHank = some (ring, h) → s.freeDistaff = some d →
    let at_ := hostKey (s.owner ring) h.entry.hankAddr
    let b := s.bytes 2 at_ (regionLen (headerOf (s.bytes 2 at_ 256)))
    ∃ t r, exec .hankStart s = .next t ∧ t.dispatcher.picked = none ∧ t.run d = some r ∧ r.ring = ring ∧ r.seq = h.seq ∧ r.next = 0 ∧ r.issued = [] ∧
      r.acquired = false ∧ (∀ e : Fin 8, e.val < d → s.distaffs[e].inService = false ∨ (s.run e).isSome = true) ∧ ((∀ e q, s.run e = some q → (q.ring, q.seq) ≠ (ring, h.seq)) → ∀ e, e ≠ d → t.run e = s.run e) ∧
      (h.abortWith = none → ∀ j, hankReject ({ s with dispatcher := { s.dispatcher with picked := none } }.setting ring h.seq) b = some j →
        ∃ f, r.failure = some (j.word, f) ∧ f.status = j.status ∧ f.cause = j.cause) ∧
      (∀ a, h.abortWith = some a → r.aborted = some a)

/-- UNIT_ACQUIRE: a hank that waits for its units takes its whole set at once, when every unit of it is free and no hank dispatched earlier waits for one; a
Spindle's local store that another function held last reads zero afterwards, and no other Spindle's store, lanes or holder change; it executes under the mapping
as it stands then. One that has waited over a change of mapping and no longer fits the shapes ends with SHAPE_DEGRADED (01 R20; 06 R153, R155; 07 R183; 08 R220;
log 45). -/
def Obligations.AcquisitionTakesTheWholeSet : Prop :=
  ∀ (s : State) (d : Fin 8) (r : Run), s.board.phase = .ready → s.run d = some r → r.waitsUnits = true → s.unitsFree r = true →
    (∀ u ∈ r.unitSet.1, s.halfFaulted (halfOfSpindle u) = false) → (∀ b ∈ r.unitSet.2, s.halfFaulted (halfOfBobbin b) = false) →
    let misfit := if r.epoch = s.units.epoch then none else shapesReject (s.setting r.ring r.seq) r.header r.words 0 (Tracker.start r.header)
    (∀ j, misfit = some j → ∃ t q f n, exec (.unitAcquire d) s = .next t ∧ t = { s with distaffs := t.distaffs, dict := t.dict, recorder := t.recorder } ∧
      t.run d = some q ∧ q.acquired = false ∧ q.failure = some (j.word, f) ∧ f.status = 0x60 ∧ f.cause = 0 ∧ t.recorder.inbox = s.recorder.inbox ++ [n] ∧ n.type = 0x0701) ∧
    (misfit = none → ∃ t q, exec (.unitAcquire d) s = .next t ∧ t.run d = some q ∧ q.acquired = true ∧ q.spindles = r.unitSet.1 ∧ q.bobbins = r.unitSet.2 ∧
      q.epoch = s.units.epoch ∧ q.shapes = s.units.shape ∧
      (∀ u ∈ r.unitSet.1, (t.spindle u).holder = some (r.ring, r.seq) ∧ (t.spindle u).lastOwner = some r.owner ∧
        ((∃ f, (s.spindle u).lastOwner = some f ∧ f ≠ r.owner) → ∀ a < 2 ^ 20, t.byteAt 3 (u * 2 ^ 20 + a) = 0)) ∧
      (∀ u < 128, u ∉ r.unitSet.1 → t.spindle u = s.spindle u ∧ ∀ a < 2 ^ 20, t.byteAt 3 (u * 2 ^ 20 + a) = s.byteAt 3 (u * 2 ^ 20 + a)) ∧
      (∀ b ∈ r.unitSet.2, (t.bobbin b).holder = some (r.ring, r.seq)) ∧ t.mem.sram = s.mem.sram ∧ t.mem.lp = s.mem.lp ∧ t.mem.host = s.mem.host)

/-- A word that needs permits issues, in list order, when the conditions of its issue stand: it joins the issued words, not granted and not run, and its request of
the calibrated draw of its class and units joins the end of the steward's queue; no unit and no memory changes, and other Distaffs' hanks are only marked where
their requests wait (07 R184, R186; 11 R294, R295). A word that shares a unit with an earlier word of its hank that has not run stays where it is: its unit's
queue runs in list order (07 R184). So does a drain of a split reduction behind a MAC.* of any of its parts that has not run (05 R135; 06 R159). WORD_COMPLETE:
a word that has run leaves the list of issued words and its permits return; a failure decides the hank when its word stands earliest, but an uncorrectable read
in a hank a fault has stopped decides it alone; other Distaffs keep their hanks, and memory, Spindles, Bobbins and rings stay (07 R185, R186; 11 R295; 13 R362). -/
def Obligations.WordsRequestAndReturnPermits : Prop :=
  (∀ (s : State) (c : Instr) (d : Nat) (o : Op) (r : Run) (w : Nat), wordCommand c = some (d, o) → s.board.phase = .ready → s.run d = some r → r.keyPending = false →
     r.granted o = none → r.nextWord = some (o, w) → s.canIssue r o w = true → requestDraw o w ≠ 0 →
     ∃ t q, exec c s = .next t ∧ t = { s with steward := t.steward, distaffs := t.distaffs } ∧ t.run d = some q ∧ q.next = r.next + 1 ∧
       q.issued = r.issued ++ [{ index := r.next, granted := false, ran := false, noiseWait := false, noiseHeld := false, failure := none }] ∧
       t.steward = { s.steward with queue := s.steward.queue ++ [{ distaff := d, word := r.next, draw := requestDraw o w }] } ∧
       (∀ e : Fin 8, e.val ≠ d → t.distaffs[e] = s.distaffs[e] ∨ t.distaffs[e] = s.distaffs[e].marked) ∧
       (s.steward.queue ≠ [] → q.budgetLimited = true)) ∧
  (∀ (s : State) (c : Instr) (d : Nat) (o : Op) (r : Run), wordCommand c = some (d, o) → s.board.phase = .ready → s.run d = some r → r.keyPending = false →
     (∀ i ∈ r.issued, i.granted = true → i.ran = false → ∀ w, r.wordAt i.index = some (o, w) →
       ∃ j ∈ r.issued, j.index < i.index ∧ j.ran = false ∧ ∃ p x, r.wordAt j.index = some (p, x) ∧
         ((∃ u, u ∈ spindlesOf o w ∧ u ∈ spindlesOf p x) ∨
           (o.isDrain = true ∧ p.isMac = true ∧ wAcc w = wAcc x ∧
             ∃ q ∈ r.splits, q.slot = wAcc w ∧ q.base ∈ spindlesOf o w ∧ ∃ m < q.parts, q.base + m ∈ spindlesOf p x))) →
     r.nextWord = none → exec c s = .next s) ∧
  (∀ (s : State) (d : Fin 8) (w : Nat) (r : Run) (i : Issued), s.board.phase = .ready → s.run d = some r →
     r.issued.find? (fun j => j.index = w && j.ran) = some i → (s.units.drains.any fun x => x.distaff = d.val && x.word = w) = false →
     ∃ t q, exec (.wordComplete d w) s = .next t ∧ t = { s with distaffs := t.distaffs, steward := t.steward, units := { s.units with tree := t.units.tree } } ∧ t.run d = some q ∧
       q.issued = r.issued.filter (fun j => j.index ≠ w) ∧ (∀ e : Fin 8, e ≠ d → t.distaffs[e] = s.distaffs[e] ∨ t.distaffs[e] = s.distaffs[e].marked) ∧
       t.units.tree = s.units.tree.filter (fun e => !(e.distaff = d.val && e.word = w)) ∧
       t.steward.granted = s.steward.granted.filter (fun p => !(p.distaff = d.val && p.word = w)) ∧ t.steward.queue = s.steward.queue ∧
       (r.faultMet = false → (i.failure = none → q.failure = r.failure) ∧ (∀ f, i.failure = some f → r.failure = none → q.failure = some (w, f)) ∧
         ∀ f v g, i.failure = some f → r.failure = some (v, g) → q.failure = if w < v then some (w, f) else some (v, g)) ∧
       ∀ f, i.failure = some f → f.status = 0x50 → r.eccMet = none → q.faulted = false ∧ (r.faultMet = true → q.failure = some (w, f)))

/-- HANK_FINISH of a hank that is over and has an older hank of its ring before it: its Distaff is free, its units are released, and its ring keeps the record of
how it ended, with the status of the first failing word or ABORTED; no completion record is written before the older hank's (07 R183, R185; 09 R259). The
completion of a ring's only hank, once it has finished and the record its EVENT_REF names has been stored: the 64-byte record stands at slot CQ_TAIL mod depth
with its phase, CQ_TAIL rises by 1, RING_PROGRESS shows the hank complete, the ledger chain takes one entry, which stands in slot CHAIN_INDEX mod S of the PF's
ledger area when the ring has one, and no other byte of host memory changes (09 R257 to R259; 12 R323, R324; 14 R366). -/
def Obligations.FinishedHanksCompleteInOrder : Prop :=
  (∀ (s : State) (d : Fin 8) (ring : Fin 64) (r : Run) (g : Hank) (rest : List Hank), s.board.phase = .ready → s.run d = some r → r.ring = ring.val →
     r.over = true → (s.ring ring).hanks = g :: rest → g.stage ≠ .finished → g.seq ≠ r.seq → r.atRead = true →
     ∃ t, exec (.hankFinish ring d) s = .next t ∧ t.run d = none ∧ (∀ u < 128, (t.spindle u).holder ≠ some (r.ring, r.seq)) ∧
       (∀ b < 32, (t.bobbin b).holder ≠ some (r.ring, r.seq)) ∧ (∀ e, e ≠ d.val → t.run e = s.run e) ∧ (t.ring ring).cqTail = (s.ring ring).cqTail ∧
       t.mem = s.mem ∧
       ∀ h ∈ (t.ring ring).hanks, h.seq = r.seq → h.stage = .finished ∧
         (h.ending.map fun e => (e.status, e.cause, e.evRef, e.distaff, e.hankDigest)) =
           some (r.outcome.1, r.outcome.2.1, r.outcome.2.2, d.val, r.hankDigest)) ∧
  (∀ (s : State) (d : Fin 8) (ring : Fin 64) (h : Hank) (e : Ending), s.board.phase = .ready → s.run d = none → (s.ring ring).hanks = [h] →
     h.stage = .finished → h.ending = some e → e.evRef ≤ s.recorder.arrived → e.silent = false → (s.ring ring).gap = none →
     let x := s.ring ring
     let at_ := hostKey (s.owner ring) (x.cqBase.toNat + 64 * (x.cqTail.toNat % 2 ^ x.log2Depth))
     let entry := entryOf s ring h e (x.chainIndex + 1)
     let area := s.entry 0x7010 ring
     let slot := hostKey 0 (area + 8192 * (x.chainIndex % 2 ^ s.entry 0x7011 ring))
     ∃ t, exec (.hankFinish ring d) s = .next t ∧ (t.ring ring).hanks = [] ∧ (t.ring ring).cqTail = x.cqTail + 1 ∧ (t.ring ring).progSeq = h.seq ∧
       (t.ring ring).progVal = 0xFFFF ∧ (t.ring ring).done = (h.seq, e.status) :: x.done ∧ (t.ring ring).chainIndex = x.chainIndex + 1 ∧
       (t.ring ring).lastLedgerSeq = h.seq ∧ t.bytes 2 at_ 8 = le 8 h.entry.tag.toNat ∧ t.bytes 2 (at_ + 8) 8 = le 8 h.seq ∧
       t.bytes 2 (at_ + 16) 2 = le 2 e.status ∧ t.bytes 2 (at_ + 18) 1 = le 1 e.cause ∧ t.bytes 2 (at_ + 32) 8 = le 8 e.evRef ∧
       t.bytes 2 (at_ + 60) 4 = le 4 (if x.cqTail.toNat / 2 ^ x.log2Depth % 2 = 0 then 1 else 0) ∧
       (t.ring ring).chainHead = digest (x.chainHead ++ entry) ∧
       (area ≠ 0 → slot + entry.length ≤ at_ ∨ at_ + 64 ≤ slot → t.bytes 2 slot entry.length = entry) ∧
       (∀ a, a < at_ ∨ at_ + 64 ≤ a → area = 0 ∨ a < slot ∨ slot + entry.length ≤ a → t.byteAt 2 a = s.byteAt 2 a) ∧ t.distaffs = s.distaffs ∧ t.units = s.units ∧
       ∀ k : Fin 64, k ≠ ring → t.rings[k] = s.rings[k])

/-- BARRIER runs to its end with no failure; with RELEASE it frees exactly those Spindles and Bobbins of the hank that no later word names, whose other contents
stay, and without it nothing but the hank's own bookkeeping changes (07 R187). SIGNAL writes its hank's sequence number and VALUE to its ring's progress entry,
the stages it has reached stand, and, with IRQ, it raises vector 32r + IRQ_SEL of the owner's table: sent when it is unmasked, held while it is masked, and
nothing while MSI-X is disabled (07 R188; 09 R249). LEDGER.MARK records the digest of its range under its mark and its list index; a range it cannot read fails
the word with ECC_UNCORRECTED and records nothing (07 R190; 08 R217). DEBUG.TRIGGER starts a capture of its trigger set, as it stands then, for its hank, with
debug mode on and none running; while one runs T_MISSED counts it; with debug mode off it does nothing (07 R198; 14 R375). -/
def Obligations.ControlWordsDoTheirWork : Prop :=
  (∀ (s s0 : State) (d : Fin 8) (r : Run) (k w : Nat), s.atUnits d .barrier = some (s0, r, k, w) →
     let named := fun (set : Op → Nat → List Nat) (u : Nat) => ∃ x ∈ r.words.drop r.next, ∃ o, wordOp x.toNat = some o ∧ u ∈ set o x.toNat
     let frees := fun (u : Nat) => (s.spindle u).holder = some (r.ring, r.seq) ∧ ¬(u ∈ r.spindles ∧ named spindlesOf u)
     let freesB := fun (b : Nat) => (s.bobbin b).holder = some (r.ring, r.seq) ∧ ¬(b ∈ r.bobbins ∧ named bobbinsOf b)
     ∃ t, exec (.barrier d) s = .next t ∧ t.ranWith d k none ∧ t = { s with units := t.units, distaffs := t.distaffs } ∧
       (bit w 94 = false → t.units = s.units) ∧
       (bit w 94 = true → t.units = { s.units with spindles := t.units.spindles, bobbins := t.units.bobbins } ∧
         (∀ u < 128, (frees u → t.spindle u = { s.spindle u with holder := none }) ∧ (¬frees u → t.spindle u = s.spindle u)) ∧
         ∀ b < 32, (freesB b → t.bobbin b = { s.bobbin b with holder := none }) ∧ (¬freesB b → t.bobbin b = s.bobbin b))) ∧
  (∀ (s s0 : State) (d : Fin 8) (r : Run) (k w : Nat) (h : Hank) (f : Function), s.atUnits d .signal = some (s0, r, k, w) → r.ring < 64 →
     (s.ring r.ring).hanks.find? (fun h => h.seq = r.seq) = some h → s.functions[r.owner]? = some f →
     let e := 32 * r.ring + h.entry.irqSel
     ∃ t, exec (.signal d) s = .next t ∧ t.ranWith d k none ∧ t = { s with rings := t.rings, functions := t.functions, out := t.out, distaffs := t.distaffs } ∧
       (t.ring r.ring).progSeq = r.seq ∧ (t.ring r.ring).progVal = bits w 94 79 ∧
       (t.ring r.ring).hanks.find? (fun h => h.seq = r.seq) = some { h with signalled := max h.signalled (bits w 94 79) } ∧ (∀ j, j ≠ r.ring → t.ring j = s.ring j) ∧
       t.out.msix = s.out.msix ++ (if bit w 78 = true ∧ f.msixEnabled = true ∧ f.unmasked.contains e = true then [(r.owner, e)] else []) ∧
       (bit w 78 = true → f.msixEnabled = true → f.unmasked.contains e = false → ∃ g, t.functions[r.owner]? = some g ∧ g.pending.contains e = true)) ∧
  (∀ (s s0 : State) (d : Fin 8) (r : Run) (k w : Nat) (b : Buffer), s.atUnits d .ledgerMark = some (s0, r, k, w) → r.buf (lmBuf w) = some b →
     (s.readable r b (lmOff w) (lmLen w) →
       ∃ t q, exec (.ledgerMark d) s = .next t ∧ t.ranWith d k none ∧ t = { s with mem := t.mem, distaffs := t.distaffs } ∧ (∀ sp a, t.byteAt sp a = s.byteAt sp a) ∧
         t.run d = some q ∧ q.marks = r.marks ++ [(lmMark w, k, digest ((List.range (lmLen w)).map fun j => s.byteAt b.space
           ((if b.space = 2 then hostKey r.owner (b.base + lmOff w) else b.base + lmOff w) + j)))]) ∧
     (b.space ≠ 2 → (s.mem.check b.space (b.base + lmOff w) (lmLen w)).2 ≠ none →
       ∃ t q f n, exec (.ledgerMark d) s = .next t ∧ t.ranWith d k (some f) ∧ f.status = 0x50 ∧ t.run d = some q ∧ q.marks = r.marks ∧ (∀ sp a, t.byteAt sp a = s.byteAt sp a) ∧
         t.recorder.inbox = s.recorder.inbox ++ [n] ∧ n.type = (if b.space = 0 then 0x0502 else 0x0503) ∧ t.units = s.units ∧ t.rings = s.rings)) ∧
  (∀ (s s0 : State) (d : Fin 8) (r : Run) (k w : Nat), s.atUnits d .debugTrigger = some (s0, r, k, w) →
     let j := bits w 94 91
     ∃ t, exec (.debugTrigger d) s = .next t ∧ t.ranWith d k none ∧ t = { s with recorder := t.recorder, distaffs := t.distaffs, out := t.out } ∧
       (s.debug = false → t.recorder = s.recorder) ∧
       (s.debug = true → (vget s.recorder.captures none j = none →
           (∃ c, vget t.recorder.captures none j = some c ∧ c.cause = 0 ∧ c.hank = some (r.ring, r.seq) ∧ c.rseq = 0 ∧ c.set_ = vget s.dict.triggers [] j) ∧
           ∀ i, i ≠ j → vget t.recorder.captures none i = vget s.recorder.captures none i) ∧
         (vget s.recorder.captures none j ≠ none → t.recorder = { s.recorder with tMissed := min (s.recorder.tMissed + 1) 0xFFFFFFFF })))

/-- WAIT.SEQ ends once the awaited hank has signalled STAGE or completed; with REQUIRE_OK a hank that completed with a status other than OK and OK_VARIANT ends this
one with ABORTED, DEPENDENCY. While the hank is awaited only the waiting word's own issue changes anything; WAIT_SEQ_TIMEOUT then ends the hank with ABORTED,
WAIT, unless TIMEOUT is 0, and HANKS_REJECTED counts the hank once; after the awaited hank has signalled or completed the timeout does nothing (07 R180, R189,
R210). -/
def Obligations.WaitSeqEndsByItsHankOrTimeout : Prop :=
  ∀ (s s0 : State) (d : Fin 8) (r : Run) (k w : Nat), s.atUnits d .waitSeq = some (s0, r, k, w) →
    (∀ st, s.awaited (bits w 94 89) (bits w 88 41) (bits w 40 25) = some st →
      ∃ t f, exec (.waitSeq d) s = .next t ∧ t.ranWith d k f ∧ t.mem = s.mem ∧ t.units = s.units ∧ t.rings = s.rings ∧
        (f.map fun x => (x.status, x.cause)) = (if bit w 24 = true ∧ ∃ v, st = some v ∧ v ≠ 0x00 ∧ v ≠ 0x01 then some (0xF0, 0x33) else none)) ∧
    (s.awaited (bits w 94 89) (bits w 88 41) (bits w 40 25) = none → exec (.waitSeq d) s = .next s0) ∧
    (r.granted .waitSeq = some (k, w) → s0 = s → s.awaited (bits w 94 89) (bits w 88 41) (bits w 40 25) ≠ none → exec (.waitSeqTimeout d) s = .next s) ∧
    (r.granted .waitSeq = some (k, w) → s0 = s → bits w 23 4 ≠ 0 → s.awaited (bits w 94 89) (bits w 88 41) (bits w 40 25) = none →
      ∃ t f, exec (.waitSeqTimeout d) s = .next t ∧ (∃ q i, t.run d = some q ∧ i ∈ q.issued ∧ i.index = k ∧ i.ran = true ∧ i.failure = some f) ∧
        f.status = 0xF0 ∧ f.cause = 0x32 ∧ t.mem = s.mem ∧ t.units = s.units ∧
        ((∀ e q, s.run e = some q → q.ring = r.ring → q.seq = r.seq → q.rejected = false) → t.dict.hanksRejected = min (s.dict.hanksRejected + 1) 0xFFFFFFFF) ∧
        (r.rejected = true → t.dict.hanksRejected = s.dict.hanksRejected))

/-- LOAD: every unit it names receives the buffer's bytes at its local-store range, and no other byte of any memory changes (07 R192). STORE: the buffer receives
the local-store bytes of every unit it names, at offsets one length apart with STEP; with ALL and no STEP every unit writes one range, whose bytes are then the
last unit's (that order is the model's choice, log 57). No other byte of any memory changes (07 R192). COPY: the destination range takes the source bytes,
within one buffer too; where the two ranges of one buffer meet without being the same the destination bytes are undefined (free values, log 2). No other byte of
any memory changes (07 R193). GATHER, its rows clear of its source and its indices, in any placement: destination row j holds source row IDX[j], and bytes
outside the rows do not change; an index past SRC ends the hank with ABORTED, RANGE, and every other row is written (07 R185, R193). -/
def Obligations.MoversMoveBytes : Prop :=
  (∀ (s s0 : State) (d : Fin 8) (r : Run) (k w : Nat) (b : Buffer), s.atUnits d .load = some (s0, r, k, w) → r.buf (ldBuf w) = some b → b.space ≤ 2 →
     (∀ u ∈ moverUnits w, s.readable r b (moverOffset w u) (ldLen w)) → ldLs w + ldLen w ≤ (if ldBobbin w = true then 2 ^ 19 else 2 ^ 20) →
     let sp := lsSpace (ldBobbin w)
     let from_ := fun (u : Nat) => if b.space = 2 then hostKey r.owner (b.base + moverOffset w u) else b.base + moverOffset w u
     ∃ t, exec (.load d) s = .next t ∧ t.ranWith d k none ∧ t = { s with mem := t.mem, distaffs := t.distaffs } ∧
       (∀ u ∈ moverUnits w, ∀ j < ldLen w, t.byteAt sp (lsKey (ldBobbin w) u (ldLs w) + j) = s.byteAt b.space (from_ u + j)) ∧
       ∀ p a, (p ≠ sp ∨ ∀ u ∈ moverUnits w, ∀ j < ldLen w, a ≠ lsKey (ldBobbin w) u (ldLs w) + j) → p ≤ 5 → t.byteAt p a = s.byteAt p a) ∧
  (∀ (s s0 : State) (d : Fin 8) (r : Run) (k w : Nat) (b : Buffer), s.atUnits d .store = some (s0, r, k, w) → r.buf (ldBuf w) = some b → b.space ≤ 2 →
     (∀ u ∈ moverUnits w, s.lsReadable (ldBobbin w) u (ldLs w) (ldLen w)) →
     (b.space = 2 → r.noHost = false ∧ ∀ u ∈ moverUnits w, b.base + moverOffset w u + ldLen w ≤ 2 ^ 64) →
     let to_ := fun (u : Nat) => if b.space = 2 then hostKey r.owner (b.base + moverOffset w u) else b.base + moverOffset w u
     ∃ t, exec (.store d) s = .next t ∧ t.ranWith d k none ∧ t = { s with mem := t.mem, distaffs := t.distaffs } ∧
       (∀ u ∈ moverUnits w, wAll w = false ∨ ldStep w = true ∨ (moverUnits w).getLast? = some u →
         ∀ j < ldLen w, t.byteAt b.space (to_ u + j) = s.byteAt (lsSpace (ldBobbin w)) (lsKey (ldBobbin w) u (ldLs w) + j)) ∧
       ∀ p a, (p ≠ b.space ∨ ∀ u ∈ moverUnits w, a < to_ u ∨ to_ u + ldLen w ≤ a) → p ≤ 5 → t.byteAt p a = s.byteAt p a) ∧
  (∀ (s s0 : State) (d : Fin 8) (r : Run) (k w : Nat) (a b : Buffer), s.atUnits d .copy = some (s0, r, k, w) → r.buf (cpSrc w) = some a → r.buf (cpDst w) = some b →
     a.space ≤ 2 → b.space ≤ 2 → s.readable r a (cpSoff w) (cpLen w) → (b.space = 2 → r.noHost = false) →
     let from_ := if a.space = 2 then hostKey r.owner (a.base + cpSoff w) else a.base + cpSoff w
     let to_ := if b.space = 2 then hostKey r.owner (b.base + cpDoff w) else b.base + cpDoff w
     let overlap := cpSrc w = cpDst w ∧ meets (cpSoff w) (cpLen w) (cpDoff w) (cpLen w) = true ∧ cpSoff w ≠ cpDoff w
     ∃ t, exec (.copy d) s = .next t ∧ t.ranWith d k none ∧ t = { s with mem := t.mem, distaffs := t.distaffs, out := t.out } ∧
       (¬overlap → t.out = s.out ∧ ∀ j < cpLen w, t.byteAt b.space (to_ + j) = s.byteAt a.space (from_ + j)) ∧
       ∀ p c, (p ≠ b.space ∨ c < to_ ∨ to_ + cpLen w ≤ c) → p ≤ 5 → t.byteAt p c = s.byteAt p c) ∧
  (∀ (s s0 : State) (d : Fin 8) (r : Run) (k w : Nat) (x y z : Buffer), s.atUnits d .gather = some (s0, r, k, w) → r.buf (gaSrc w) = some x →
     r.buf (gaIdx w) = some y → r.buf (gaDst w) = some z → x.space ≤ 2 → y.space ≤ 2 → z.space ≤ 2 →
     let key := fun (b : Buffer) => if b.space = 2 then r.owner * 2 ^ 64 + b.base else b.base
     let idx := fun (j : Nat) => ofLe (s.bytes y.space (key y + 4 * j) 4)
     let n := gaRow w
     let fits := fun (j : Nat) => (idx j + 1) * n ≤ x.length
     (∀ b ∈ [x, y, z], b.space = 2 → r.noHost = false ∧ b.base + max b.length (max (4 * gaCount w) (gaCount w * n)) ≤ 2 ^ 64) →
     (z.space ≠ x.space ∨ key z + gaCount w * n ≤ key x ∨ key x + x.length ≤ key z) →
     (z.space ≠ y.space ∨ key z + gaCount w * n ≤ key y ∨ key y + 4 * gaCount w ≤ key z) →
     (∀ j < gaCount w, s.readable r y (4 * j) 4 ∧ (fits j → s.readable r x (idx j * n) n)) →
     ∃ t f, exec (.gather d) s = .next t ∧ t.ranWith d k f ∧
       (∀ j < gaCount w, fits j → ∀ c < n, t.byteAt z.space (key z + j * n + c) = s.byteAt x.space (key x + idx j * n + c)) ∧
       (∀ p a, (p ≠ z.space ∨ a < key z ∨ key z + gaCount w * n ≤ a) → p ≤ 5 → t.byteAt p a = s.byteAt p a) ∧
       ((∀ j < gaCount w, fits j) → f = none ∧ t = { s with mem := t.mem, distaffs := t.distaffs }) ∧
       ((∃ j < gaCount w, ¬fits j) → (f.map fun g => (g.status, g.cause)) = some (0xF0, 0x31)))

/-- The VEC.* words on the Bobbins they name: element i of the destination is the operation of elements i of the sources (element 0 of SRC_B with BCAST_B), a
reduction's result i that of group i, any element that sets it leaves INT_OVERFLOW, and no other byte of any memory changes (05 R118; 07 R199, R200). The
destination is clear of the sources, or in place with elements of one size; groups are whole. INT32 elements: sums, differences, products and VEC.FMA are taken
modulo 2^32, VEC.DIV truncates toward zero and gives 0 with INT_OVERFLOW on division by 0, and VEC.MAX and VEC.MIN compare as signed numbers (07 R200). -/
def Obligations.VectorWordsWorkElementByElement : Prop :=
  (∀ (s s0 : State) (c : Instr) (d : Nat) (o : Op) (r : Run) (k w : Nat), wordCommand c = some (d, o) → o.uclass = 2 → s.atUnits d o = some (s0, r, k, w) →
     (∀ x ∈ bobbinRanges o w, x.1 + x.2 ≤ 2 ^ 19) → (∀ u ∈ bobbinsOf o w, ∀ x ∈ (bobbinRanges o w).dropLast, s.lsReadable true u x.1 x.2) →
     let size := veSize (veType w)
     let tout := if o = .vecCvt then veTypeOut w else veType w
     let m := veSize tout
     let red := o = .vecRsum ∨ o = .vecRmax
     let per := 2 ^ veRlog w
     let outs := if red then veCount w / per else veCount w
     let dst := fun (u : Nat) => lsKey true u (64 * veDst w)
     let res := fun (u i : Nat) => vecOp o (veType w) tout (s.vecAt u (veA w) size i) (s.vecAt u (veB w) size (if veBcast w = true then 0 else i)) (s.vecAt u (veC w) size i)
     let clear := fun (a : Nat) => 64 * a + size * veCount w ≤ 64 * veDst w ∨ 64 * veDst w + m * outs ≤ 64 * a
     (red → veCount w % per = 0 ∧ clear (veA w)) →
     (¬red → ∀ a ∈ [veA w] ++ (if o.readsB = true then [veB w] else []) ++ (if o = .vecFma then [veC w] else []),
       clear a ∨ (a = veDst w ∧ m = size ∧ veBcast w = false)) →
     ∃ t q, exec c s = .next t ∧ t.ranWith d k none ∧ t = { s with mem := t.mem, distaffs := t.distaffs } ∧ t.run d = some q ∧
       (∀ u ∈ bobbinsOf o w, ∀ i < outs, t.bytes 4 (dst u + m * i) m = le m (if red then
           vecReduce o (veType w) (veRlog w) ((List.range per).map fun j => s.vecAt u (veA w) size (i * per + j)) else (res u i).1)) ∧
       (q.intOverflow = true ↔ r.intOverflow = true ∨ (¬red ∧ ∃ u ∈ bobbinsOf o w, ∃ i < veCount w, (res u i).2 = true)) ∧
       ∀ p a, (p ≠ 4 ∨ ∀ u ∈ bobbinsOf o w, a < dst u ∨ dst u + m * outs ≤ a) → p ≤ 5 → t.byteAt p a = s.byteAt p a) ∧
  (∀ (a b c : BitVec 32),
     vecOp .vecAdd 2 2 a.toNat b.toNat c.toNat = ((a + b).toNat, false) ∧ vecOp .vecSub 2 2 a.toNat b.toNat c.toNat = ((a - b).toNat, false) ∧
     vecOp .vecMul 2 2 a.toNat b.toNat c.toNat = ((a * b).toNat, false) ∧ vecOp .vecFma 2 2 a.toNat b.toNat c.toNat = ((a * b + c).toNat, false) ∧
     vecOp .vecDiv 2 2 a.toNat b.toNat c.toNat = (if b = 0 then (0, true) else ((a.sdiv b).toNat, false)) ∧
     vecOp .vecMax 2 2 a.toNat b.toNat c.toNat = ((if b.toInt ≤ a.toInt then a else b).toNat, false) ∧
     vecOp .vecMin 2 2 a.toNat b.toNat c.toNat = ((if a.toInt ≤ b.toInt then a else b).toNat, false))

/-- MAC.ACC in Open mode on an INT slot of one Spindle: each cell adds the exact sum of its K products, in 40 bits, and nothing but that lane, the fields-valid mark
and the hank's own bookkeeping changes (05 R111, R118, R124; 07 R194, R195). MAC.ACC of one Spindle outside a split, on a floating slot in Open mode and on the
skein in Colourfast, with a codebook or without. A floating slot adds, cell by cell, the terms of the fixed tree in ascending k, each addition rounded. The
skein adds its exact products under EWIN modulo 2^256, takes the flags of special products, and PCOUNT rises by 1,024 a product column; operands outside the
exponent window, or too many products, end the hank with WINDOW_FAULT and change no Spindle (05 R111, R114, R118, R127, R128; 06 R148; 07 R194, R195). The flag
of a product of two infinities is the model's reading (log 46). MAC.END in Open mode on the fill side of an INT pair: after its products the sides swap, the
former drain side is the fill side and zero, and a drain side that no drain had read counts in PAIR_DISCARDS (05 R125, R126). -/
def Obligations.MacAddsProductsAndSwapsThePair : Prop :=
  (∀ (s s0 : State) (d : Fin 8) (r : Run) (k w : Nat), s.atUnits d .macAcc = some (s0, r, k, w) → wAll w = false → r.header.mode = 0 →
     let u := wUnit w
     let x := s.spindle u
     let lane := x.fillLane (wAcc w)
     let n := fun (f : Nat) => 256 * (macK w / gwWidth (wGw w)) + (if isMx f = true then macK w else 0)
     let a := (s.tile u (macA w) (macFa w) (macK w) (gwWidth (wGw w)) 0 []).2
     let b := (s.tile u (macB w) (macFb w) (macK w) (gwWidth (wGw w)) 0 []).2
     x.isInt (wAcc w) = true → lane < 8 → s.laneBusy u lane = false → macCbk w = 0 →
     s.lsReadable false u (64 * macA w) (n (macFa w)) → s.lsReadable false u (64 * macB w) (n (macFb w)) →
     ∃ t, exec (.macAcc d) s = .next t ∧ t.ranWith d k none ∧ t = { s with mem := t.mem, units := t.units, distaffs := t.distaffs } ∧
       (∀ c < 1024, (t.spindle u).lane lane c =
         BitVec.ofInt 40 ((x.lane lane c).toInt + ((List.range (macK w)).map fun j => ((a.at_ (c / 32) j).mul (b.at_ (c % 32) j)).toInt).sum)) ∧
       (∀ l < 8, l ≠ lane → ∀ c, (t.spindle u).lane l c = x.lane l c) ∧ (∀ v < 128, v ≠ u → t.spindle v = s.spindle v) ∧
       ∀ p c, t.byteAt p c = s.byteAt p c) ∧
  (∀ (s s0 : State) (d : Fin 8) (r : Run) (k w : Nat), s.atUnits d .macAcc = some (s0, r, k, w) → wAll w = false → r.split (wUnit w) (wAcc w) = none →
     let u := wUnit w
     let x := s.spindle u
     let cf := r.header.mode = 1
     let lane := x.fillLane (wAcc w)
     let gw := gwWidth (wGw w)
     let n := fun (f : Nat) => 256 * (macK w / gw) + (if isMx f = true then macK w else 0)
     let coded := macFb w = 1 ∧ macCbk w ≠ 0
     let cb := if coded then s.bytes 3 (lsKey false u (64 * macCb w)) 16 else []
     let a := (s.tile u (macA w) (macFa w) (macK w) gw 0 []).2
     let b := (s.tile u (macB w) (macFb w) (macK w) gw (macCbk w) cb).2
     let xs := fun (c j : Nat) => a.x (c / 32) j + b.x (c % 32) j
     let product := fun (c j : Nat) => ((a.at_ (c / 32) j).mul (b.at_ (c % 32) j)).scale (xs c j)
     s.laneBusy u lane = false → (coded → s.lsReadable false u (64 * macCb w) 16) →
     s.lsReadable false u (64 * macA w) (n (macFa w)) → s.lsReadable false u (64 * macB w) (n (macFb w)) →
     ∃ t f, exec (.macAcc d) s = .next t ∧ t.ranWith d k f ∧ t = { s with mem := t.mem, units := t.units, dict := t.dict, distaffs := t.distaffs } ∧
       (∀ p c, t.byteAt p c = s.byteAt p c) ∧ (∀ v < 128, v ≠ u → t.spindle v = s.spindle v) ∧
       (¬cf → x.isInt (wAcc w) = false → lane < 8 → f = none ∧ t.dict = s.dict ∧
         (∀ c < 1024, (t.spindle u).lane lane c = BitVec.ofNat 40 (addTerms ((x.lane lane c).toNat % 2 ^ 32)
           (cellTerms (isMx (macFa w) || isMx (macFb w)) (s.subWidth u gw) (xs c) (a.line (c / 32)) (b.line (c % 32))))) ∧
         ∀ l < 8, l ≠ lane → ∀ c, (t.spindle u).lane l c = x.lane l c) ∧
       (cf → windowOk x.ewin x.pcount a b = true → f = none ∧ t.dict = s.dict ∧ (t.spindle u).pcount = x.pcount + 1024 * macK w ∧ (t.spindle u).ewin = x.ewin ∧
         ∀ c < 1024, (t.spindle u).skein c =
             signed 256 (wrap 256 (x.skein c + ((List.range (macK w)).map fun j => skeinTerm x.ewin (product c j)).sum)) ∧
           (t.spindle u).flag c = (List.range (macK w)).foldl (fun g j => g ||| skeinFlag (product c j)) (x.flag c)) ∧
       (cf → windowOk x.ewin x.pcount a b = false → (f.map fun g => g.status) = some 0x30 ∧ t.units = s.units ∧
         t.dict = { s.dict with windowFaults := min (s.dict.windowFaults + 1) 0xFFFFFFFF })) ∧
  (∀ (s s0 : State) (d : Fin 8) (r : Run) (k w : Nat) (side drained : Bool), s.atUnits d .macEnd = some (s0, r, k, w) → wAll w = false → r.header.mode = 0 →
     let u := wUnit w
     let x := s.spindle u
     let fill := if side = true then 1 else 0
     let n := fun (f : Nat) => 256 * (macK w / gwWidth (wGw w)) + (if isMx f = true then macK w else 0)
     let a := (s.tile u (macA w) (macFa w) (macK w) (gwWidth (wGw w)) 0 []).2
     let b := (s.tile u (macB w) (macFb w) (macK w) (gwWidth (wGw w)) 0 []).2
     wAcc w = 0 → x.pair = some (side, drained) → x.isInt 0 = true → s.laneBusy u 0 = false → s.laneBusy u 1 = false → macCbk w = 0 →
     s.lsReadable false u (64 * macA w) (n (macFa w)) → s.lsReadable false u (64 * macB w) (n (macFb w)) →
     ∃ t, exec (.macEnd d) s = .next t ∧ t.ranWith d k none ∧ t = { s with mem := t.mem, units := t.units, dict := t.dict, distaffs := t.distaffs } ∧
       (t.spindle u).pair = some (!side, false) ∧ (∀ c < 1024, (t.spindle u).lane (1 - fill) c = 0) ∧
       (∀ c < 1024, (t.spindle u).lane fill c =
         BitVec.ofInt 40 ((x.lane fill c).toInt + ((List.range (macK w)).map fun j => ((a.at_ (c / 32) j).mul (b.at_ (c % 32) j)).toInt).sum)) ∧
       t.dict = (if drained = true then s.dict else { s.dict with pairDiscards := min (s.dict.pairDiscards + 1) 0xFFFFFFFF }) ∧
       (∀ v < 128, v ≠ u → t.spindle v = s.spindle v) ∧ ∀ p c, t.byteAt p c = s.byteAt p c)

/-- ACC.OPEN in Open mode clears the slot of each Spindle it names and opens it with its kind; in Colourfast it clears the skein, its flags and PCOUNT and sets EWIN
(0 for kind INT). The other lanes and Spindles, and memory, do not change (05 R123, R127). In Open mode ACC.CLOSE discards a slot's contents and closes it, both
slots for slot 0 of a pair (that they then read 0 is the model's choice, log 20); ACC.PAIR opens slots 0 and 1 with one kind, both empty, slot 0 the fill side;
SPLIT.K clears the slot on parts 1 to P − 1 and opens the split (05 R123, R125; 06 R158; 07 R196). Memory and other Spindles do not change. ACC.PRELOAD in Open
mode puts its source into the slot: INT32 elements sign-extended to 40 bits, BF16 elements as FP32 bits, FP32 elements as they stand; other lanes, other
Spindles and memory do not change (05 R130). -/
def Obligations.SlotWordsOpenCloseAndFill : Prop :=
  (∀ (s s0 : State) (d : Fin 8) (r : Run) (k w : Nat), s.atUnits d .accOpen = some (s0, r, k, w) →
     (∀ u ∈ spindlesOf .accOpen w, (s.spindle u).pair = none ∧ s.laneBusy u (wAcc w) = false) →
     ∃ t, exec (.accOpen d) s = .next t ∧ t.ranWith d k none ∧ t = { s with units := t.units, distaffs := t.distaffs } ∧
       (∀ u ∈ spindlesOf .accOpen w, vget (t.spindle u).open_ none (wAcc w) = some (aoInt w) ∧
         (∀ l < 8, l ≠ wAcc w → vget (t.spindle u).open_ none l = vget (s.spindle u).open_ none l) ∧
         (if r.header.mode = 1 then (t.spindle u).pcount = 0 ∧ (t.spindle u).ewin = (if aoInt w = true then 0 else aoEwin w) ∧
             ∀ c, (∀ l < 8, (t.spindle u).lane l c = 0) ∧ (t.spindle u).flag c = 0
           else vget (t.spindle u).overflow true (wAcc w) = false ∧ (t.spindle u).ewin = (s.spindle u).ewin ∧ (∀ c < 1024, (t.spindle u).lane (wAcc w) c = 0) ∧
             ∀ l < 8, l ≠ wAcc w → ∀ c, (t.spindle u).lane l c = (s.spindle u).lane l c)) ∧
       ∀ v < 128, v ∉ spindlesOf .accOpen w → t.spindle v = s.spindle v) ∧
  (∀ (s s0 : State) (d : Fin 8) (r : Run) (k w : Nat), r.header.mode = 0 → (∀ u l, s.laneBusy u l = false) →
     (s.atUnits d .accClose = some (s0, r, k, w) →
       ∃ t, exec (.accClose d) s = .next t ∧ t.ranWith d k none ∧ t = { s with units := t.units, distaffs := t.distaffs } ∧
         (∀ u ∈ spindlesOf .accClose w, ∀ l < 8, l = wAcc w ∨ (wAcc w = 0 ∧ (s.spindle u).pair ≠ none ∧ l = 1) →
           vget (t.spindle u).open_ (some true) l = none ∧ ∀ c < 1024, (t.spindle u).lane l c = 0) ∧
         (∀ u ∈ spindlesOf .accClose w, wAcc w = 0 → (t.spindle u).pair = none) ∧ ∀ v < 128, v ∉ spindlesOf .accClose w → t.spindle v = s.spindle v) ∧
     (s.atUnits d .accPair = some (s0, r, k, w) →
       ∃ t, exec (.accPair d) s = .next t ∧ t.ranWith d k none ∧ t = { s with units := t.units, distaffs := t.distaffs } ∧
         (∀ u ∈ spindlesOf .accPair w, (t.spindle u).pair = some (false, true) ∧ vget (t.spindle u).open_ none 0 = some (aoInt w) ∧
           vget (t.spindle u).open_ none 1 = some (aoInt w) ∧ ∀ c < 1024, (t.spindle u).lane 0 c = 0 ∧ (t.spindle u).lane 1 c = 0) ∧
         ∀ v < 128, v ∉ spindlesOf .accPair w → t.spindle v = s.spindle v) ∧
     (s.atUnits d .splitK = some (s0, r, k, w) → wUnit w + skParts w ≤ 128 → (∀ u ∈ spindlesOf .splitK w, (s.spindle u).pair = none) →
       ∃ t q, exec (.splitK d) s = .next t ∧ t.ranWith d k none ∧ t = { s with units := t.units, distaffs := t.distaffs } ∧ t.run d = some q ∧
         q.splits = { base := wUnit w, slot := wAcc w, parts := skParts w, logs := [] } :: r.splits ∧
         (∀ p, 1 ≤ p → p < skParts w → ∀ c < 1024, (t.spindle (wUnit w + p)).lane (wAcc w) c = 0) ∧
         ∀ v < 128, v ≤ wUnit w ∨ wUnit w + skParts w ≤ v → t.spindle v = s.spindle v)) ∧
  (∀ (s s0 : State) (d : Fin 8) (r : Run) (k w : Nat), s.atUnits d .accPreload = some (s0, r, k, w) → wAll w = false → r.header.mode = 0 → apFmt w ≤ 2 →
     let u := wUnit w
     let lane := (s.spindle u).fillLane (wAcc w)
     let size := if apFmt w = 1 then 2 else 4
     let at_ := fun (c : Nat) => ofLe (s.bytes 3 (lsKey false u (64 * apSrc w) + size * c) size)
     lane < 8 → s.laneBusy u lane = false → s.lsReadable false u (64 * apSrc w) (1024 * size) →
     ∃ t, exec (.accPreload d) s = .next t ∧ t.ranWith d k none ∧ t = { s with mem := t.mem, units := t.units, distaffs := t.distaffs } ∧
       (∀ c < 1024, (t.spindle u).lane lane c = (if apFmt w = 2 then BitVec.ofInt 40 (signed 32 (at_ c))
         else if apFmt w = 1 then BitVec.ofNat 40 (at_ c * 65536) else BitVec.ofNat 40 (at_ c))) ∧
       (∀ l < 8, l ≠ lane → ∀ c, (t.spindle u).lane l c = (s.spindle u).lane l c) ∧ (∀ v < 128, v ≠ u → t.spindle v = s.spindle v) ∧
       ∀ p c, t.byteAt p c = s.byteAt p c)

/-- A drain of one Spindle, in either mode, to its local store or to a buffer, of a slot, a skein or a split. Cell c of the tile holds the converted value of the
slot with its bias and scale, the parts of a split combined; a raw output is the skein's bytes, flags and PCOUNT; NO_WRITE leaves the tile out, and a folding
drain with LAST writes its stream register behind it. A folding drain folds the tile into its stream register, a read-out of the slot begins on every part, and
no other byte of any memory changes (05 R133 to R142; 06 R159; 07 R197). -/
def Obligations.DrainWritesTheTile : Prop :=
  ∀ (s s0 : State) (c : Instr) (d : Nat) (o : Op) (r : Run) (k w : Nat), wordCommand c = some (d, o) → o.isDrain = true → s.atUnits d o = some (s0, r, k, w) →
    wAll w = false →
    let u := wUnit w
    let x := s.spindle u
    let fmt := drOut w
    let split := r.split u (wAcc w)
    let parts := match split with
      | some q => (List.range q.parts).map fun p => q.base + p
      | none => [u]
    let y := fun (c : Nat) => s.withBias r u w c (s.cellY r u (wAcc w) c)
    let out := fun (c : Nat) => outOf fmt (y c).1 (drScale w)
    let lane := if r.header.mode = 1 then 0 else x.drainLane (wAcc w)
    let tile := if fmt = 4 then rawBytes x (x.isInt (wAcc w)) (fun c => (parts.map fun p => (s.spindle p).skein c).sum)
        (fun c => parts.foldl (fun f p => f ||| (s.spindle p).flag c) 0) (parts.map fun p => (s.spindle p).pcount).sum
      else (List.range 1024).flatMap fun c => le (outSize fmt) (out c).1
    let fold := (vget x.streams Stream.unset (drStream w)).fold o w fun c => (out c).1
    let data := (if drNoWrite w = true then [] else tile) ++ (if o.isFold = true ∧ drLast w = true then fold.1.bytes else [])
    (∀ p ∈ parts, s.pathBusy p = false) →
    ∀ sp dst, (drSel w = false → sp = 3 ∧ dst = lsKey false u (64 * drAddr w)) →
      (drSel w = true → ∃ b, r.buf (drBuf w) = some b ∧ b.space = sp ∧ sp ≤ 2 ∧ (sp = 2 → r.noHost = false) ∧
        dst = if sp = 2 then hostKey r.owner (b.base + 4096 * drOff w) else b.base + 4096 * drOff w) →
      ∃ t q, exec c s = .next t ∧ t.ranWith d k none ∧ t = { s with mem := t.mem, units := t.units, dict := t.dict, distaffs := t.distaffs, out := t.out } ∧
        t.run d = some q ∧ t.bytes sp dst data.length = data ∧ (∀ p a, (p ≠ sp ∨ a < dst ∨ dst + data.length ≤ a) → p ≤ 5 → t.byteAt p a = s.byteAt p a) ∧
        t.units.drains = s.units.drains ++ parts.map (fun p => { distaff := d, word := k, spindle := p, slot := lane, clear := drClr w }) ∧
        (split = none → (t.spindle u).lanes = x.lanes ∧ t.out = s.out) ∧
        (q.intOverflow = true ↔ r.intOverflow = true ∨ (fmt ≠ 4 ∧ ∃ c < 1024, (y c).2 = true ∨ (out c).2 = true)) ∧
        (o.isFold = false → (t.spindle u).streams = x.streams) ∧
        (o.isFold = true → vget (t.spindle u).streams Stream.unset (drStream w) = fold.1 ∧
          ∀ j, j ≠ drStream w → vget (t.spindle u).streams Stream.unset j = vget x.streams Stream.unset j) ∧
        t.dict.streamOverruns = (if o.isFold = true ∧ fold.2 = true then min (s.dict.streamOverruns + 1) 0xFFFFFFFF else s.dict.streamOverruns) ∧
        ∀ v < 128, v ∉ parts → v ≠ u → t.spindle v = s.spindle v

/-- DRAIN_READOUT ends the read-outs of a Distaff's oldest drain, before which every product on its way to the lane has left the tree; with CLR the drained lane is
then zero, and without it no lane changes; memory does not change (05 R135). That MAC.END waits for the read-out of the side it clears, and which side of a pair
a word means, are the model's readings (log 20, log 46). DEBUG.PEEK of an Open slot with no product in the tree writes the 32 bits of each cell as they stand
and a zero IN_FLIGHT word. With products in the tree the rows from row 5 on still show every one of them, and so does every row when IN_FLIGHT is 0; an earlier
row may miss some, and IN_FLIGHT is then 1. The slot stays as it is (05 R137; 07 R198). That the peek shows the host's slot under a split is the model's reading
(log 46), and that of a pair it shows the fill side too (log 20). -/
def Obligations.ReadoutsAndPeeks : Prop :=
  (∀ (s : State) (d : Fin 8) (r : Run) (x : Drain), s.board.phase = .ready → s.run d = some r → r.header.mode = 0 →
     s.units.drains.find? (fun y => y.distaff = d.val) = some x → s.units.drains.filter (fun y => y.distaff = d.val && y.word = x.word) = [x] →
     x.spindle < 128 → x.slot < 8 →
     ∃ t, exec (.drainReadout d) s = .next t ∧ t = { s with units := t.units } ∧
       t.units.drains = s.units.drains.filter (fun y => !(y.distaff = d.val && y.word = x.word)) ∧
       t.units.tree = s.units.tree.filter (fun e => !(e.spindle = x.spindle && e.lane = x.slot)) ∧
       (x.clear = true → ∀ c < 1024, (t.spindle x.spindle).lane x.slot c = 0) ∧ (x.clear = false → t.units.spindles = s.units.spindles) ∧
       (∀ l < 8, l ≠ x.slot → ∀ c, (t.spindle x.spindle).lane l c = (s.spindle x.spindle).lane l c) ∧ ∀ v < 128, v ≠ x.spindle → t.spindle v = s.spindle v) ∧
  (∀ (s s0 : State) (d : Fin 8) (r : Run) (k w : Nat), s.atUnits d .debugPeek = some (s0, r, k, w) → r.header.mode = 0 → drSel w = false →
     let u := wUnit w
     let lane := (s.spindle u).fillLane (wAcc w)
     let x := s.hostSlot r (s.leadOf r u lane) lane
     let dst := lsKey false u (64 * drAddr w)
     ∃ t, exec (.debugPeek d) s = .next t ∧ t.ranWith d k none ∧ t = { s with mem := t.mem, distaffs := t.distaffs, out := t.out } ∧
       (s.inTree u lane = [] → t.out = s.out ∧ (∀ c < 1024, t.bytes 3 (dst + 4 * c) 4 = le 4 ((x.lane lane c).toNat % 2 ^ 32)) ∧ t.bytes 3 (dst + 4096) 4 = zeros 4) ∧
       (∀ c < 1024, 160 ≤ c ∨ t.bytes 3 (dst + 4096) 4 = zeros 4 → t.bytes 3 (dst + 4 * c) 4 = le 4 ((x.lane lane c).toNat % 2 ^ 32)) ∧
       (t.bytes 3 (dst + 4096) 4 = zeros 4 ∨ t.bytes 3 (dst + 4096) 4 = le 4 1) ∧
       ∀ p a, (p ≠ 3 ∨ a < dst ∨ dst + 4100 ≤ a) → p ≤ 5 → t.byteAt p a = s.byteAt p a)

/-- STATE.SAVE outside a running ANNEAL or SAMPLE, into an LPDDR5X area that holds the checkpoint, with every byte it reads sound: CKPT_GEN_MAX rises by 1 and is
the hank's checkpoint generation, the area begins with the checkpoint's magic number, version and generation, and no byte outside the area changes. Into a
smaller area the word fails with ABORTED, RANGE and writes nothing (07 R209; 12 R334 to R338). The units whose state it holds are those the hank's other words
name (log 13); with PAUSE 0 any problem field is accepted (log 59). -/
def Obligations.SaveWritesACheckpoint : Prop :=
  ∀ (s s0 : State) (d : Fin 8) (r : Run) (k w : Nat), s.atUnits d .stateSave = some (s0, r, k, w) → svPause w = false → r.aborted = none →
    r.header.ckptSpace = 1 →
    let need := 4096 + contentLength (sectionsOf (r.problems.toList.filterMap id) r.unitSet.1.length r.unitSet.2.length r.bufs)
    let base := r.header.ckptBase
    let gen := (s.keep.genMax + 1) % 2 ^ 64
    (r.header.ckptLength < need → ∃ t f, exec (.stateSave d) s = .next t ∧ t.ranWith d k (some f) ∧ f.status = 0xF0 ∧ f.cause = 0x31 ∧ t.mem = s.mem ∧ t.keep = s.keep) ∧
    (need ≤ r.header.ckptLength → r.hankDigest.length = 32 → s.mem.poison = [] → s.mem.upsets = [] →
      ∃ t q, exec (.stateSave d) s = .next t ∧ t.ranWith d k none ∧ t.run d = some q ∧ q.ckptGen = gen ∧ t.keep = { s.keep with genMax := gen } ∧
        t.units = s.units ∧ t.bytes 1 base 4 = le 4 0x4B434C4F ∧ t.bytes 1 (base + 4) 2 = le 2 1 ∧ t.bytes 1 (base + 8) 8 = le 8 gen ∧
        ∀ p a, (p ≠ 1 ∨ a < base ∨ base + r.header.ckptLength ≤ a) → p ≤ 5 → t.byteAt p a = s.byteAt p a)

/-- STATE.RESTORE from an area of LPDDR5X with every byte sound ends with no failure exactly when the area begins with a valid checkpoint that the hank fits and
whose digest and key tag are right; it then brings back the saved Spindles' registers, the saved problems and the key in force where there was one, and
CKPT_GEN_MAX is at least its generation. An area that begins with no checkpoint fails with CKPT_INCOMPLETE, writes CKPT_REJECT of order 1 and changes no unit
and no byte (12 R335, R337, R340, R341). What the sections stand for is log 13; that a restored key is appended to the hank's keys is log 34, and that INTKIND
is compared in every state log 40. -/
def Obligations.RestoreChecksAndBringsBack : Prop :=
  ∀ (s s0 : State) (d : Fin 8) (r : Run) (k w : Nat), s.atUnits d .stateRestore = some (s0, r, k, w) → r.header.ckptSpace = 1 → s.mem.poison = [] → s.mem.upsets = [] →
    let h := s.bytes 1 r.header.ckptBase 4096
    let secs := headerSections h
    let body := fun (c : Section) => s.bytes 1 (r.header.ckptBase + c.off) c.len
    let ks := (secs.filter fun c => c.type = 6).flatMap body
    let sk := fun (ck : Bytes) => sealingKey ck (slice h 16 16) (num h 8 8)
    let key := if bit (num h 6 2) 1 = true then some fuseKey else vget s.dict.ckptKeys none r.owner
    let valid := 4096 ≤ r.header.ckptLength ∧ num h 0 4 = 0x4B434C4F ∧ num h 4 2 = 1 ∧ slice h 4064 32 = digest (h.take 4064)
    let right := fun (x : Snapshot) => (∀ c ∈ secs, c.off + c.len ≤ r.header.ckptLength) ∧ s.snapshotIn h (secs.flatMap body) = some x ∧ x.fits r w = true ∧
      digest ((secs.filter fun c => c.type ≠ 6).flatMap fun c => sectionDigest (body c)) = slice h 96 32 ∧
      ∃ ck, key = some ck ∧ gcmTag (sk ck) (zeros 12) (h.take 384) (ks.take 320) = slice ks 320 16
    ∃ t q f, exec (.stateRestore d) s = .next t ∧ t.ranWith d k f ∧ t.run d = some q ∧
      (f = none ↔ valid ∧ num h 6 2 % 2 = r.header.mode ∧ (r.header.mode = 1 → num h 32 1 = s.cfLevel) ∧ (bit (num h 6 2) 1 = true → slice h 16 16 = serial) ∧
        ∃ x, right x) ∧
      (num h 0 4 ≠ 0x4B434C4F → (f.map fun g => (g.status, g.cause)) = some (0x20, 0) ∧ t.units = s.units ∧ t.keep = s.keep ∧ (∀ sp a, t.byteAt sp a = s.byteAt sp a) ∧
        ∃ n, t.recorder.inbox = s.recorder.inbox ++ [n] ∧ n.type = 0x0A04 ∧ n.payload = le 1 1 ++ zeros 7) ∧
      ∀ x, f = none → right x → t.keep = { s.keep with genMax := max s.keep.genMax x.gen } ∧ q.restoredGen = x.gen ∧
        (∀ ck, key = some ck → let inForce := plainKey (gcmStream (sk ck) (zeros 12) (ks.take 320))
          q.keys = r.keys ++ inForce.toList ∧ q.keyIndex = if inForce.isSome then some r.keys.length else r.keyIndex) ∧
        (∀ p < 4, vget q.problems none p = (vget x.problems none p).or (vget r.problems none p)) ∧
        ((x.spindles.map fun c => c.1).Nodup → ∀ c ∈ x.spindles, c.1 < 128 → (t.spindle c.1).lanes = c.2.1.lanes ∧ (t.spindle c.1).streams = c.2.1.streams ∧
          (t.spindle c.1).pcount = c.2.1.pcount ∧ (t.spindle c.1).holder = (s.spindle c.1).holder)

/-- A word at its units that need not wait, in any form, runs to its end, with a failure or none (an ANNEAL or SAMPLE may run on, as the running one of its hank);
the board, the steward, the dispatcher, the images, the start's report and the signing queue stand as they were (07 R184 to R186). -/
def Obligations.WordsRunToTheirEnd : Prop :=
  ∀ (s s0 : State) (c : Instr) (d : Nat) (o : Op) (r : Run) (k w : Nat), wordCommand c = some (d, o) → s.atUnits d o = some (s0, r, k, w) →
    s.wordWaits r o k w = false → (∀ e raw, c = .noiseRaw e raw → 8 * nrLen w ≤ (if nrRaw w = true then rawBits raw else s.conditioned (nrGroup w) raw).length) →
    ∃ t, exec c s = .next t ∧ ((∃ f, t.ranWith d k f) ∨ ((o = .anneal ∨ o = .sample) ∧ ∃ a, t.anneal = some a ∧ a.distaff = d ∧ a.word = k)) ∧
      t.board = s.board ∧ t.steward = s.steward ∧ t.dispatcher = s.dispatcher ∧ t.image = s.image ∧ t.start = s.start ∧ t.ident = s.ident ∧
      t.vfEnable = s.vfEnable ∧ t.ari = s.ari ∧ t.numVfs = s.numVfs

/-- COUPLE.LOAD (no function-level reset has cut its hank off) of readable, finite input whose rows keep their margin gives the hank its problem: n, form, scale,
row weights, the problem's schedule as it was and no plies; every fields-valid mark that names the problem is cleared. Input that is not finite, or a row beyond
the field range, ends the hank with ABORTED, INPUT_REJECT and leaves the problem as it was (02 R27 to R35, R53; 03 R57; 07 R201). What COUPLE.LOAD of readable
input writes: the 64-byte load report (SCALE, MAXABS, N, N_PAD, HEADROOM_MIN, FLAGS and the rest) and, on success alone, the coupling store in column order, in
which a pair i < j holds for both entries the code nearest to qmax × J / M of the upper triangle's J (a host codebook: the index of the nearest entry), and the
diagonal and the padding hold code 0. After input that is not finite the report's numbers but N, N_PAD and the counts are 0 with BAD_VALUE; after a row beyond
the field range it is as on success with HEADROOM_FAIL. Beside these buffers and the Spindles' bias areas no byte changes (02 R25, R28 to R30, R33, R34; 03 R59;
07 R201). -/
def Obligations.CoupleLoadFormsTheProblem : Prop :=
  (∀ (s s0 : State) (d : Fin 8) (r : Run) (k w : Nat), s.atUnits d .coupleLoad = some (s0, r, k, w) → r.noHost = false →
     let n := clN w
     let size := clSize (clType w)
     let a := s.readIdx r k (clSrc w) 0 (n * n * size)
     let b := s.readIdx r k (clBias w) 0 (n * size)
     let c := s.readIdx r k (clCb w) 0 (padOf n / 8)
     let x : Source := { n := n, form := clForm w, qubo := clQubo w, type := clType w, coupling := a.bytes.toArray,
                         bias := if clBias w = 0x3F then #[] else b.bytes.toArray, hasBias := clBias w ≠ 0x3F, book := if clForm w = 3 then c.bytes.toArray else #[] }
     a.fail = none → (clBias w ≠ 0x3F → b.fail = none) → (clForm w = 3 → c.fail = none) →
     ∃ t q f, exec (.coupleLoad d) s = .next t ∧ t.ranWith d k f ∧ t.run d = some q ∧
       (if x.finite = true ∧ 0 ≤ x.headroom then
           f = none ∧ (∃ p, q.problem (anProb w) = some p ∧ p.n = n ∧ p.form = clForm w ∧ p.mNum = x.m ∧ p.rowWeight = (List.range n).map x.weight ∧ p.plies = 0 ∧
             p.stats = [] ∧ p.steps = ((r.problem (anProb w)).map fun y => y.steps).getD 0) ∧ ∀ u < 128, (t.spindle u).mark ≠ some (anProb w)
         else (f.map fun g => (g.status, g.cause)) = some (0xF0, 0x30) ∧ q.problem (anProb w) = r.problem (anProb w)) ∧
       ∀ p < 4, p ≠ anProb w → q.problem p = r.problem p) ∧
  (∀ (s s0 : State) (d : Fin 8) (r : Run) (k w : Nat) (rep dst : Buffer), s.atUnits d .coupleLoad = some (s0, r, k, w) → r.noHost = false →
     let n := clN w
     let pad := padOf n
     let size := clSize (clType w)
     let a := s.readIdx r k (clSrc w) 0 (n * n * size)
     let b := s.readIdx r k (clBias w) 0 (n * size)
     let c := s.readIdx r k (clCb w) 0 (pad / 8)
     let x : Source := { n := n, form := clForm w, qubo := clQubo w, type := clType w, coupling := a.bytes.toArray,
                         bias := if clBias w = 0x3F then #[] else b.bytes.toArray, hasBias := clBias w ≠ 0x3F, book := if clForm w = 3 then c.bytes.toArray else #[] }
     let key := fun (y : Buffer) => if y.space = 2 then hostKey r.owner y.base else y.base
     let col := columnBytes (clForm w) pad
     let qmax := qmaxOf (clForm w)
     a.fail = none → (clBias w ≠ 0x3F → b.fail = none) → (clForm w = 3 → c.fail = none) → r.buf (clReport w) = some rep → r.buf (clDst w) = some dst →
     rep.space ≤ 2 → dst.space ≤ 2 → (rep.space ≠ dst.space ∨ key rep + 64 ≤ key dst ∨ key dst + pad * col ≤ key rep) →
     ∃ t, exec (.coupleLoad d) s = .next t ∧
       (let at_ := fun (o m : Nat) => t.bytes rep.space (key rep + o) m
        let flags := (if clQubo w = true then 1 else 0) + (if clForm w = 3 then 4 else 0)
        at_ 24 4 = le 4 n ∧ at_ 28 4 = le 4 pad ∧ at_ 56 8 = zeros 8 ∧
        (x.finite = false → at_ 0 24 = zeros 24 ∧ at_ 40 8 = zeros 8 ∧ at_ 48 4 = le 4 (flags + 16) ∧ at_ 52 4 = zeros 4) ∧
        (x.finite = true → at_ 0 4 = le 4 (fp32.round false x.m (qmax * 2 ^ 151)) ∧ at_ 4 4 = le 4 (fp32.round false x.m (2 ^ 151)) ∧
          at_ 16 8 = le 8 (wrap 64 x.offset) ∧ at_ 40 8 = le 8 (wrap 64 x.headroom) ∧
          at_ 48 4 = le 4 (flags + (if x.top = 0 then 2 else 0) + (if x.headroom < 0 then 8 else 0)))) ∧
       (if x.finite = true ∧ 0 ≤ x.headroom then
           (∀ j < pad, ∀ i < pad, if clForm w = 1 then t.byteAt dst.space (key dst + j * col + i) = BitVec.ofNat 8 (x.store i j)
             else (t.byteAt dst.space (key dst + j * col + i / 2)).toNat / 16 ^ (i % 2) % 16 = x.store i j) ∧
           (∀ i j, i = j ∨ n ≤ i ∨ n ≤ j → x.store i j = if clForm w ≤ 1 then 0 else 8) ∧
           (∀ i < n, ∀ j < n, i ≠ j → clForm w ≤ 2 →
             let code := if clForm w = 2 then (x.store i j : Int) - 8 else signed (if clForm w = 1 then 8 else 4) (x.store i j)
             2 * ((qmax : Int) * x.j i j - code * (x.m : Int)).natAbs ≤ x.m) ∧
           (∀ i < n, ∀ j < n, i ≠ j → clForm w = 3 → x.store i j < 16 ∧ ∀ e < 16,
             (x.j i j - 4 * (x.cb (i / 256) (x.store i j)).getD 0).natAbs ≤ (x.j i j - 4 * (x.cb (i / 256) e).getD 0).natAbs)
         else ∀ v, v < pad * col → t.byteAt dst.space (key dst + v) = s.byteAt dst.space (key dst + v)) ∧
       ∀ p v, p ≤ 5 → p ≠ 3 → (p ≠ rep.space ∨ v < key rep ∨ key rep + 64 ≤ v) → (p ≠ dst.space ∨ v < key dst ∨ key dst + pad * col ≤ v) → t.byteAt p v = s.byteAt p v)

/-- STATE.INIT within its limits, with readable states, coupling store and biases, gives the problem its plies, the variables at +1 that the state bits set, fresh
statistics in ladder slot p, and every Spindle's fields; the problem's schedule and couplings stay (02 R46, R52; 03 R56, R57; 07 R202). That STATE.INIT puts ply
p into ladder slot p is the model's choice (log 41). SCHED.LOAD of a readable schedule and ladder within R43 gives the problem its schedule buffer and length
and its ladder, and puts ply p into ladder slot p; with L = 0 the schedule stays, which is the model's reading (log 32). A step or multiplier outside R43 ends
the hank with ABORTED, INPUT_REJECT (02 R43; 07 R203). -/
def Obligations.StateAndScheduleAreLoaded : Prop :=
  (∀ (s s0 : State) (d : Fin 8) (r : Run) (k w : Nat) (q : Problem), s.atUnits d .stateInit = some (s0, r, k, w) → r.problem (anProb w) = some q →
     let g := s.readIdx r k (siStates w) 0 (siPlies w * (q.pad / 8))
     let store := g.st.checkStore r k q 0 (q.pad * columnBytes q.form q.pad)
     siBias w = 0x3F → g.fail = none → store.2 = none → (store.1.checkBiases q (anProb w) (List.range 128)).2 = none →
     siPlies w ≤ plyLimit (max s.units.fold.w s.units.fold.e) q.n → siPlies w ≤ plyLimit 1 q.n →
     siPlies w * (q.pad / 8) ≤ ((r.buf (siStates w)).map fun b => b.length).getD 0 → s.units.shape.w ≠ 0xFF → s.units.shape.e ≠ 0xFF →
     let st := g.bytes
     ∃ t y p, exec (.stateInit d) s = .next t ∧ t.ranWith d k none ∧ t.run d = some y ∧ y.problem (anProb w) = some p ∧ p.plies = siPlies w ∧
       (∀ j < siPlies w, ∀ i < q.n, p.plus j i = bit (st.getD (j * (q.pad / 8) + i / 8) 0).toNat (i % 8)) ∧ p.stats.length = siPlies w ∧
       (∀ (j : Nat) (x : PlyStat), p.stats[j]? = some x → x.ladderSlot = j ∧ x.flips = 0 ∧ x.bestStep = 0xFFFFFFFF) ∧ p.n = q.n ∧ p.sched = q.sched ∧ p.steps = q.steps ∧
       ∀ u < 128, (t.spindle u).mark = some (anProb w)) ∧
  (∀ (s s0 : State) (d : Fin 8) (r : Run) (k w : Nat) (q : Problem), s.atUnits d .schedLoad = some (s0, r, k, w) → r.problem (anProb w) = some q → r.noHost = false →
     let a := s.readIdx r k (slSched w) 0 (16 * slL w)
     let b := s.readIdx r k (slLadder w) 0 (4 * slCount w)
     (slL w ≠ 0 → a.fail = none) → b.fail = none →
     let mult := (List.range (slCount w)).map fun i => num b.bytes (4 * i) 4
     let ok := ((List.range (slL w)).all fun t => stepOk (slice a.bytes (16 * t) 16)) && mult.all tempOk
     ∃ t y p f, exec (.schedLoad d) s = .next t ∧ t.ranWith d k f ∧ t.run d = some y ∧ y.problem (anProb w) = some p ∧ (∀ sp a, t.byteAt sp a = s.byteAt sp a) ∧
       (if ok = true then f = none ∧ p.ladder.map BitVec.toNat = mult ∧ (slL w ≠ 0 → p.sched = slSched w ∧ p.steps = slL w) ∧
           (slL w = 0 → p.sched = q.sched ∧ p.steps = q.steps) ∧ (∀ (j : Nat) (x : PlyStat), p.stats[j]? = some x → x.ladderSlot = j) ∧ p.spins = q.spins ∧ p.plies = q.plies
         else (f.map fun g => (g.status, g.cause)) = some (0xF0, 0x30) ∧ p = q))

/-- ANNEAL and SAMPLE with a record within its rules, on fields that stand: in Open mode with a half not NOISE_READY the word waits at its start; in Colourfast,
with the schedule readable, it runs from its first step. A record outside its rules ends the hank with ABORTED, INPUT_REJECT; a Colourfast word with no key in
force with ABORTED, NO_KEY (04 R100, R107; 07 R204, R205). -/
def Obligations.AnnealAndSampleStart : Prop :=
  ∀ (s s0 : State) (c : Instr) (d : Nat) (o : Op) (r : Run) (k w : Nat) (q : Problem), wordCommand c = some (d, o) → o = .anneal ∨ o = .sample →
    s.atUnits d o = some (s0, r, k, w) → r.problem (anProb w) = some q → s.anneal = none →
    anOff w + 64 ≤ ((r.buf (anParam w)).map fun b => b.length).getD 0 → (s.readIdx r k (anParam w) (anOff w) 64).fail = none →
    (∀ u < 128, (s.spindle u).mark = some (anProb w)) →
    let b := (s.readIdx r k (anParam w) (anOff w) 64).bytes
    let ok := if o = .sample then sampleRecordOk r q b else annealRecordOk r q b
    (ok = false → ∃ t f, exec c s = .next t ∧ t.ranWith d k (some f) ∧ f.status = 0xF0 ∧ f.cause = 0x30 ∧ t.anneal = none) ∧
    (ok = true → s.pliesFit q = true → (o = .sample → bit (num b 3 1) 1 = false) →
      (r.header.mode = 1 → r.key = none → ∃ t f, exec c s = .next t ∧ t.ranWith d k (some f) ∧ f.status = 0xF0 ∧ f.cause = 0x14 ∧ t.anneal = none) ∧
      (r.header.mode ≠ 1 → s.bothReady = false → ∃ t a, exec c s = .next t ∧ t.anneal = some a ∧ a.distaff = d ∧ a.word = k ∧ a.startWait = true ∧
        (o = .anneal → ∀ sp x, t.byteAt sp x = s.byteAt sp x) ∧ t.units = s.units) ∧
      (r.header.mode = 1 → r.key ≠ none → o = .anneal → bit (num b 3 1) 0 = false → (s.checkSched r k q 0 (num b 8 4)).2 = none →
        ∃ t a, exec c s = .next t ∧ t.anneal = some a ∧ a.distaff = d ∧ a.word = k ∧ a.startWait = false ∧ a.step = num b 8 4 ∧ a.last = num b 12 4 ∧
          a.colourfast = true ∧ a.stream = num b 4 2 ∧ a.walks.length = q.plies ∧ (∀ x ∈ a.walks, x.sweep = 0 ∧ x.position = 0) ∧ t.units = s.units) ∧
      (r.header.mode = 1 → r.key ≠ none → o = .sample → bit (num b 3 1) 0 = false → 0 < num b 12 4 + num b 16 4 * num b 6 2 →
        ∃ t a, exec c s = .next t ∧ t.anneal = some a ∧ a.distaff = d ∧ a.word = k ∧ a.sample = true ∧ a.step = 0 ∧ a.sweeps = 1 ∧ a.walks.length = q.plies))

/-- EXCHANGE with a step within the schedule and fields that stand, in Colourfast with a key in force, in Open with West NOISE_READY, makes the round of 02 R47 on
the present energies, its words those of the key in force or of the exchange lane: the accepted pairs swap their ladder slots, their mask is written to the
output, and the states of the plies and every field stay as they were. ENERGY, with no ANNEAL or SAMPLE running, writes each ply's energy, and changes no byte
outside its output (02 R45, R47; 04 R98, R109; 07 R206). That each EXCHANGE word keys the exchange lane afresh is the model's reading (log 32). -/
def Obligations.ExchangeAndEnergyWriteTheirOutputs : Prop :=
  ∀ (s s0 : State) (d : Fin 8) (r : Run) (k w : Nat) (q : Problem) (b : Buffer), s.anneal = none → r.problem (anProb w) = some q →
    (∀ u < 128, (s.spindle u).mark = some (anProb w)) → b.space ≤ 1 →
    (s.atUnits d .exchange = some (s0, r, k, w) → (if r.header.mode = 1 then r.key ≠ none else s.noise.half.w = 1) → exStep w < q.steps →
      q.plies ≤ q.ladder.length → (s.checkSched r k q (exStep w) (exStep w)).2 = none →
      ((s.checkSched r k q (exStep w) (exStep w)).1.checkBiases q (anProb w) (List.range 128)).2 = none → r.buf (exOut w) = some b →
      let f := s.freshStir
      let z := if r.header.mode = 1 then s else { f with noise := { f.noise with exchange := { LaneKey.reset with key := vget f.noise.stir 0 (f.hostOf 0) } } }
      let x := z.exchangeNow (r.header.mode = 1) (r.key.getD 0) (exStream w) (exIndex w) (anProb w) q (exOdd w)
        ((q.temps (s.schedStep r q (exStep w)).1).map fun c => c.2)
      ∃ t y p, exec (.exchange d) s = .next t ∧ t.ranWith d k none ∧ t.run d = some y ∧ y.problem (anProb w) = some p ∧ p = x.1 ∧ p.spins = q.spins ∧
        p.ladder = q.ladder ∧ p.stats.length = q.stats.length ∧ t.bytes b.space b.base 8 = le 8 x.2.1 ∧ t.units = s.units ∧ t.noise = x.2.2.noise ∧
        (r.header.mode = 1 → t.noise = s.noise) ∧
        ∀ sp a, (sp ≠ b.space ∨ a < b.base ∨ b.base + 8 ≤ a) → sp ≤ 5 → t.byteAt sp a = s.byteAt sp a) ∧
    (s.atUnits d .energy = some (s0, r, k, w) → q.blocksOk = true → s.pliesFit q = true → r.buf (enOut w) = some b →
      16 * q.plies ≤ b.length → (s.checkBiases q (anProb w) (List.range 128)).2 = none →
      ∃ t, exec (.energy d) s = .next t ∧ t.ranWith d k none ∧ t = { s with mem := t.mem, distaffs := t.distaffs } ∧
        (∀ p < q.plies, t.bytes b.space (b.base + 16 * p) 8 = le 8 (wrap 64 (s.energyOf q (anProb w) p)) ∧
          t.bytes b.space (b.base + 16 * p + 8) 4 = le 4 (q.userEnergy (s.energyOf q (anProb w) p))) ∧
        ∀ sp a, (sp ≠ b.space ∨ a < b.base ∨ b.base + 16 * q.plies ≤ a) → sp ≤ 5 → t.byteAt sp a = s.byteAt sp a)

/-- NOISE.SEED puts a key in force: the 32 bytes of its buffer, or in its DEVICE form an output of the root-of-trust generator, and waits while that serves none.
NOISE.RAW writes the group's conditioned stream, or its raw bits, once it reaches its length, bit k of the stream at bit k of the range (04 R85, R86, R99, R103,
R107; 07 R208). -/
def Obligations.NoiseWordsDrawKeysAndBits : Prop :=
  ∀ (s s0 : State) (d : Fin 8) (r : Run) (k w : Nat),
    (s.atUnits d .noiseSeed = some (s0, r, k, w) → nsDevice w = false → (s.readIdx r k (nsBuf w) (nsOff w) 32).fail = none →
      ∃ t q, exec (.noiseSeed d) s = .next t ∧ t.ranWith d k none ∧ t.run d = some q ∧ q.keys = r.keys ++ [(s.readIdx r k (nsBuf w) (nsOff w) 32).bytes] ∧
        q.keyIndex = some r.keys.length ∧ t.noise = s.noise ∧ t.units = s.units) ∧
    (s.atUnits d .noiseSeed = some (s0, r, k, w) → nsDevice w = true → r.reuse[r.keys.length]? = none →
      (s.rotServes = true → ∃ t q key, exec (.noiseSeed d) s = .next t ∧ t.ranWith d k none ∧ t.run d = some q ∧ q.keys = r.keys ++ [key] ∧ key.length = 32 ∧
        q.keyIndex = some r.keys.length ∧ t.noise.rotOutputs = min (s.noise.rotOutputs + 1) 0xFFFFFFFF ∧ t.mem = s.mem) ∧
      (s.rotServes = false → ∃ t q, exec (.noiseSeed d) s = .next t ∧ t.run d = some q ∧ q.keys = r.keys ∧ t.noise = s.noise)) ∧
    ∀ (raw : RawBits) (b : Buffer), s.atUnits d .noiseRaw = some (s0, r, k, w) → (nrRaw w = true ∨ (s.group (nrGroup w)).state = 1) →
      let bs := if nrRaw w = true then rawBits raw else s.conditioned (nrGroup w) raw
      8 * nrLen w ≤ bs.length → r.buf (nrBuf w) = some b → b.space ≤ 1 →
      ∃ t, exec (.noiseRaw d raw) s = .next t ∧ t.ranWith d k none ∧ t = { s with mem := t.mem, distaffs := t.distaffs } ∧
        t.bytes b.space (b.base + nrOff w) (nrLen w) = le (nrLen w) (packNat (bs.take (8 * nrLen w))) ∧
        ∀ sp a, (sp ≠ b.space ∨ a < b.base + nrOff w ∨ b.base + nrOff w + nrLen w ≤ a) → sp ≤ 5 → t.byteAt sp a = s.byteAt sp a

/-- OPEN_NOISE_START_WAIT_END: once both halves are NOISE_READY the waiting Open ANNEAL or SAMPLE starts at its first step, and every lane's key is its Spindle's
stir register (04 R97, R100). SETTLE_POINT of a step of an Open ANNEAL without exchange, trace or pending save, once both halves have made their passes and
nothing is pending or in flight: the best state of each ply keeps the least energy; the next step begins with no pass made, or after the last step the word ends
(02 R44, R46; 03 R71). -/
def Obligations.OpenStartsAndSettlePoints : Prop :=
  (∀ (s : State) (a : AnnealRun) (r : Run) (q : Problem), s.engine = some (a, r, q) → a.startWait = true → a.colourfast = false → s.bothReady = true →
     (if a.sample = true then a.first < a.last else a.first ≤ a.last ∧ a.step = a.first ∧ (s.checkSched r a.word q 0 a.step).2 = none) →
     ∃ t b, exec .openNoiseStartWaitEnd s = .next t ∧ t.anneal = some b ∧ b.startWait = false ∧ b.distaff = a.distaff ∧ b.word = a.word ∧ b.step = a.step ∧
       b.seen = ⟨[], []⟩ ∧ t.noise.loaded = t.noise.stir ∧ t.noise.lanes = [] ∧ (∀ p < 136, s.stirFed p = false → vget t.noise.stir 0 p = vget s.noise.stir 0 p) ∧
       t.units = s.units ∧ t.board = s.board) ∧
  (∀ (s : State) (a : AnnealRun) (r : Run) (q : Problem), s.engine = some (a, r, q) → a.colourfast = false → a.startWait = false → a.sample = false → a.exch = false →
     a.traceStride = 0 → a.savePending = none → a.passesDone q .west = true → a.passesDone q .east = true → a.quiet = true → (∃ i ∈ r.issued, i.index = a.word) →
     (a.step < a.last → (s.checkSched r a.word q (a.step + 1) (a.step + 1)).2 = none) → (s.checkBiases q a.problem (List.range 128)).2 = none →
     ∃ t y p, exec .settlePoint s = .next t ∧ t.run a.distaff = some y ∧ y.problem a.problem = some p ∧ p.spins = q.spins ∧
       (∀ j x z, q.stats[j]? = some x → p.stats[j]? = some z → j < q.plies →
         z.bestEnergy = min x.bestEnergy (s.energyOf q a.problem j) ∧ (s.energyOf q a.problem j < x.bestEnergy → z.bestStep = a.step ∧ z.best = q.ups j)) ∧
       (a.step < a.last → ∃ b, t.anneal = some b ∧ b.step = a.step + 1 ∧ b.passes = ⟨0, 0⟩ ∧ b.word = a.word) ∧
       (a.last ≤ a.step → t.anneal = none ∧ t.ranWith a.distaff a.word none))

/-- OPEN_EVALUATION of the next occupied slot of a cell, in a READY half with passes left, whose variable has no request pending: the new value is the decision of
the present field and the cell's noise word; a flip sends a request to the half's arbiter, no flip sends none, and the slot's turn is taken (03 R68, R69; 04
R96). -/
def Obligations.OpenEvaluationDecidesOnTheField : Prop :=
  ∀ (s : State) (a : AnnealRun) (r : Run) (q : Problem) (l : Fin 128) (cell : Fin 1024) (slot : Fin 8) (cycle word : Nat) (lane : LaneKey),
    s.engine = some (a, r, q) → a.colourfast = false → a.startWait = false →
    let h := halfOfSpindle l
    let place := fun (k : Nat) => ((1024 * k + cell.val) / max 1 q.m, l.val * q.m + (1024 * k + cell.val) % max 1 q.m)
    let id := fun (k : Nat) => 8192 * l.val + 1024 * k + cell.val
    let p := (place slot).1
    let i := (place slot).2
    a.passesDone q h = false → s.noise.half.get h = 1 → p < q.plies → i < q.n → q.halfOf i = h → (a.seen.get h).contains (id slot) = false →
    (∀ k < slot.val, (place k).1 < q.plies → (place k).2 < q.n → (a.seen.get h).contains (id k) = true) → a.pendingVar q p i = false →
    (s.noise.lane (s.hostOf l) (cell / 8)).serve (s.hostOf l) (cell / 8) cell cycle = some (word, lane) →
    let new := decide_ a.rule a.dist (q.plus p i) (s.field q p i) word (a.tfx.getD p 0) (a.bfx.getD p 0)
    ∃ t b, exec (.openEvaluation l cell slot cycle) s = .next t ∧ t = { s with noise := t.noise, anneal := some b } ∧
      t.noise = s.noise.setLane (s.hostOf l) (cell / 8) lane ∧ b.deciding = a.deciding ∧ b.tokens = a.tokens ∧
      (b.passes.get h = a.passes.get h + 1 ∨ b.seen.get h = id slot :: a.seen.get h) ∧
      (if new = q.plus p i then b.arriving = a.arriving
        else ∃ x, x.ply = p ∧ x.var = i ∧ x.up = new ∧ x.cycle = cycle ∧ b.arriving.get h = a.arriving.get h ++ [x])

/-- ARBITER_WINDOW: the requests of the previous window are taken in arbiter order (cycle, ply, variable), at most 16 and as many as the half's capacity admits;
with TANGLE_GUARD off every one of them commits, with it on those that are not stale in their half and not coupled to a lower variable of their ply among them;
each request commits once, as a flip token of its ply, variable and value, in that order. Every request of the previous window is answered, those of the present
window come up for the next, and the other half's requests and tokens stay (03 R64, R69, R70, R74; a request coupled to one that is returned: log 41). -/
def Obligations.ArbiterAnswersThePreviousWindow : Prop :=
  ∀ (s : State) (a : AnnealRun) (r : Run) (q : Problem) (h g : Half), s.engine = some (a, r, q) → a.colourfast = false → a.startWait = false → g ≠ h →
    ∃ t b new, exec (.arbiterWindow h) s = .next t ∧ t = { s with distaffs := t.distaffs, units := t.units, anneal := some b } ∧
      b.tokens.get h = a.tokens.get h ++ new ∧ new.length ≤ 16 ∧ (∀ x ∈ new, ∃ y ∈ a.deciding.get h, x.ply = y.ply ∧ x.var = y.var ∧ x.up = y.up ∧ x.half = h ∧ x.applied = []) ∧
      b.arriving.get h = [] ∧ (b.deciding.get h).map (fun x => (x.ply, x.var, x.up)) = (a.arriving.get h).map (fun x => (x.ply, x.var, x.up)) ∧
      b.tokens.get g = a.tokens.get g ∧ b.arriving.get g = a.arriving.get g ∧ b.deciding.get g = a.deciding.get g ∧ t.units.spindles = s.units.spindles ∧
      ∃ sorted : List FlipRequest, sorted.Perm (a.deciding.get h) ∧ sorted.Pairwise (fun x y => x.before y = true) ∧
        let cand := sorted.take (s.capacity q a h)
        let go := if a.tangleGuard = true then
          cand.filter fun x => !x.staleHalf && !(cand.any fun y => decide (y.ply = x.ply) && decide (y.var < x.var) && s.coupled r q x.var y.var) else cand
        new.map (fun x => (x.ply, x.var, x.up)) = go.map fun x => (x.ply, x.var, x.up)

/-- FLIP_TOKEN_APPLY: a Spindle adds the oldest token it lacks, with its column readable, to every field of the token's ply, c times twice the new state, and the
token's own Spindle takes the new state; other Spindles' fields, and memory, stay. The column of a spilled problem is read from its buffer in SRAM, where an
uncorrectable word is a read of the device's own: the fatal stop (its cause 0 is the model's reading, log 43). SPILL_COLUMN_STREAM gives the oldest unbuffered
commit its column, in the lowest free buffer, in which no bad word is left (02 R36; 03 R61 to R63, R67; 08 R212, R217). -/
def Obligations.TokensAddToEveryField : Prop :=
  ∀ (s : State) (a : AnnealRun) (r : Run) (q : Problem) (l : Fin 128) (h : Half) (x : Token), s.engine = some (a, r, q) →
    (a.nextToken l h = some x → x.buffered = true → x.half = h → q.plies * q.m ≤ 8192 → x.ply < q.plies →
      (if q.spilled = true then (s.mem.check 0 (columnBuffer x.buffer + l.val * columnBytes q.form q.m) (columnBytes q.form q.m)).2 = none
        else (s.checkStore r a.word q (x.var * columnBytes q.form q.pad + l.val * columnBytes q.form q.m) (columnBytes q.form q.m)).2 = none) →
      ∃ t b p y, exec (.flipTokenApply l h) s = .next t ∧ t.anneal = some b ∧ t.run a.distaff = some y ∧ y.problem a.problem = some p ∧
        (∀ i < q.n, q.spindleOf i = l.val → t.field q x.ply i = signed 32 (wrap 32 (s.field q x.ply i + s.coef r q i x.var * 2 * spin x.up))) ∧
        (∀ j < q.plies, j ≠ x.ply → ∀ i < q.n, t.field q j i = s.field q j i) ∧ (∀ v < 128, v ≠ l.val → t.spindle v = s.spindle v) ∧
        p = (if q.spindleOf x.var = l.val then q.setSpin x.ply x.var x.up else q) ∧
        b.tokens.get h = (applyFirst l (a.tokens.get h)).filter (fun z => decide (z.applied.length < 128)) ∧ ∀ sp c, t.byteAt sp c = s.byteAt sp c) ∧
    (a.nextToken l h = some x → x.buffered = true → q.spilled = true → s.board.phase = .ready →
      (s.mem.check 0 (columnBuffer x.buffer + l.val * columnBytes q.form q.m) (columnBytes q.form q.m)).2 ≠ none →
      ∃ t, exec (.flipTokenApply l h) s = .next t ∧ t.board.phase = .haltedFatal ∧ t.units.spindles = s.units.spindles ∧
        ∃ n ∈ t.keep.mirror, n.note.type = 0x0B04 ∧ n.mirrored = true) ∧
    ((a.tokens.get h).find? (fun z => !z.buffered) = some x → (s.checkStore r a.word q (x.var * columnBytes q.form q.pad) (columnBytes q.form q.pad)).2 = none →
      ∃ t b, exec (.spillColumnStream h) s = .next t ∧ t = { s with mem := t.mem, anneal := some b } ∧
        b.tokens.get h = bufferFirst (a.freeBuffer q) (a.tokens.get h) ∧
        (t.mem.check 0 (columnBuffer (a.freeBuffer q)) (columnBytes q.form q.pad)).2 = none ∧ ∀ sp c, t.byteAt sp c = s.byteAt sp c)

/-- Colourfast. CF_SPECULATIVE_EVALUATION of a position at or ahead of the ply's resolution point, at most 8 windows ahead, notes the decision on the present field.
CF_POSITION_RESOLVE takes a valid evaluation of its position as final, decides now otherwise, and a flip commits as a token with the ply's next commit number.
CF_WINDOW_RETIRE retires a window whose positions are resolved and whose commits are applied (03 R76, R80, R81). -/
def Obligations.ColourfastWalkResolvesInOrder : Prop :=
  ∀ (s : State) (a : AnnealRun) (r : Run) (q : Problem) (ply : Fin 64) (v : Walk) (key : Nat), s.engine = some (a, r, q) → a.colourfast = true → a.walks[ply.val]? = some v →
    r.key = some key → v.sweep < a.sweeps → a.savePending = none →
    (∀ pos, v.position ≤ pos → pos < q.n → pos / 64 ≤ v.position / 64 + 8 → (a.evals.any fun e => e.ply = ply.val && e.position = pos) = false →
      ∃ b e, exec (.cfSpeculativeEvaluation ply pos) s = .next { s with anneal := some b } ∧ b = { a with evals := a.evals ++ [e] } ∧ e.ply = ply.val ∧ e.position = pos ∧
        e.var = a.visit key q ply v pos ∧ e.up = s.cfDecide q a key ply e.var v ∧ e.valid = true) ∧
    (let i := a.visit key q ply v v.position
     let e := a.evals.find? fun e => e.ply = ply.val && e.position = v.position
     let up := match e with
       | some e => if e.valid = true then e.up else s.cfDecide q a key ply i v
       | none => s.cfDecide q a key ply i v
     v.position < q.n → v.position / 64 = v.retired → ((a.tokens.w ++ a.tokens.e).any fun x => x.ply = ply.val && !x.applied.contains (q.spindleOf i)) = false →
     a.freeColumns q ≠ 0 →
     ∃ t b z, exec (.cfPositionResolve ply) s = .next t ∧ t.anneal = some b ∧ b.walks[ply.val]? = some z ∧ z.position = v.position + 1 ∧ z.sweep = v.sweep ∧
       t.units.spindles = s.units.spindles ∧ t.mem = s.mem ∧
       (if up = q.plus ply i then b.tokens = a.tokens ∧ z.commits = v.commits
         else z.commits = v.commits + 1 ∧ ∃ x : Token, b.tokens.get (q.halfOf i) = a.tokens.get (q.halfOf i) ++ [x] ∧ x.ply = ply.val ∧ x.var = i ∧ x.up = up ∧
           x.cseq = (v.commits + 1) % 16)) ∧
    (64 * (v.retired + 1) < q.n → 64 * (v.retired + 1) ≤ v.position → ((a.tokens.w ++ a.tokens.e).any fun x => x.ply = ply.val) = false →
      exec (.cfWindowRetire ply) s = .next { s with anneal := some { a with walks := a.walks.set ply { v with retired := v.retired + 1 } } })

/-- HEALTH_WINDOW_END of a group that is given a whole window of its stream: BIAS is the window's ones less 32,768, CORR twice its equal adjacent pairs less 65,535,
as estimates of R87; a window within both limits passes and lengthens PASS_RUN, any other fails, counts in FAILS and clears it. A WARMING group is HEALTHY after
16 passes in a row, a HEALTHY one FAILED at a failing window, a FAILED one HEALTHY after 4 passes in a row, a RETIRED one stays; a change writes a record and
moves the group's half as its HEALTHY groups reach the ready threshold or fall below it (04 R86, R87, R89 to R92). Bits that end no window change nothing; how a
window is handed over is the model's own (log 42). -/
def Obligations.WindowsMoveTheGroups : Prop :=
  (∀ (s : State) (g : Fin 137) (raw : RawBits) (lead : List Bool), s.window g lead raw = none → exec (.healthWindowEnd g raw lead) s = .next s) ∧
  ∀ (s : State) (g : Fin 137) (raw : RawBits) (lead bs : List Bool), s.board.phase ≠ .reset → s.window g lead raw = some bs →
    let x := s.group g
    let ones := bs.countP id
    let pairs := (bs.zip bs.tail).countP fun p => p.1 = p.2
    let b := windowBias ones
    let c := windowCorr pairs
    let pass := b.natAbs ≤ s.entry 0x3800 1 ∧ c.natAbs ≤ s.entry 0x3800 2
    bs.length = 65536 ∧
    ∃ t, exec (.healthWindowEnd g raw lead) s = .next t ∧
      t = { s with noise := t.noise, recorder := t.recorder, distaffs := t.distaffs, anneal := t.anneal } ∧
      (let y := t.group g
       y.bias = BitVec.ofInt 16 b ∧ y.corr = BitVec.ofInt 16 c ∧ y.fails = (if pass then x.fails else min (x.fails + 1) 0xFFFF) ∧
       y.passRun = (if pass then min 255 (x.passRun + 1) else 0) ∧ y.streak = (if y.state = x.state ∧ pass then x.streak + 1 else 0) ∧
       y.state = (if x.state = 0 then (if pass ∧ 15 ≤ x.streak then 1 else 0) else if x.state = 1 then (if pass then 1 else 2)
         else if x.state = 2 then (if pass ∧ 3 ≤ x.streak then 1 else 2) else x.state) ∧
       (∀ k : Fin 137, k ≠ g → t.noise.groups[k] = s.noise.groups[k]) ∧
       (y.state = x.state → t.noise.half = s.noise.half ∧ t.recorder = s.recorder ∧ t.distaffs = s.distaffs ∧ t.anneal = s.anneal) ∧
       (y.state ≠ x.state → (∃ n ∈ t.recorder.inbox, n.type = (if y.state = 2 then 0x0401 else if x.state = 2 then 0x0402 else 0x0403)) ∧
         (g.val < 136 → t.noise.half.get (halfOfPhysical g) = (if t.readyThreshold (halfOfPhysical g) ≤ t.healthy (halfOfPhysical g) then 1
           else if s.noise.wasReady.get (halfOfPhysical g) = true then 2 else 0)) ∧ (g.val = 136 → t.noise.half = s.noise.half)))

/-- A due RESTIR of a lane combines 64 bits of its Spindle's stir register, from bit 2l on, into the low 64 key bits, and no other key bit or lane changes; the
conditioned bits of the group that feeds the register go round that group's registers first, and no other register changes; the first seed of the root-of-trust
generator and its reseeds take 512 bits while GR is HEALTHY, and a generator that served keeps serving, its output count back at 0; at 1,048,576 outputs without
GR it blocks and writes ROT_BLOCKED (04 R95, R97, R103, R105). -/
def Obligations.RestirAndRootOfTrust : Prop :=
  (∀ (s : State) (l lane : Fin 128) (raw : RawBits), let p := s.hostOf l
    let k := s.noise.lane p lane
    p < 136 → k.due = true →
    ∃ t, exec (.restir l lane false raw) s = .next t ∧ t = { s with noise := t.noise } ∧
      t.noise = { s.noise with stir := t.noise.stir, lanes := t.noise.lanes, turn := t.noise.turn } ∧
      (s.stirSource p = none → t.noise.stir = s.noise.stir) ∧
      (∀ g, s.stirSource p = some g → (∀ x, s.stirSource x ≠ some g → vget t.noise.stir 0 x = vget s.noise.stir 0 x) ∧
        let ts := s.takers g
        ∀ j x, ts[j]? = some x → ts.Nodup → x < 136 →
          vget t.noise.stir 0 x = shiftStir (vget s.noise.stir 0 x) (dealt (s.conditioned g raw) (vget s.noise.turn 0 g) ts.length j)) ∧ (t.noise.lane p lane).due = false ∧
      (∀ i < 64, (t.noise.lane p lane).key.getLsbD i = (k.key.getLsbD i ^^ (vget t.noise.stir 0 p).getLsbD ((i + 2 * lane.val) % 256))) ∧
      (∀ i, 64 ≤ i → (t.noise.lane p lane).key.getLsbD i = k.key.getLsbD i) ∧
      ∀ p2 l2, 128 * p2 + l2 ≠ 128 * p + lane.val → t.noise.lane p2 l2 = s.noise.lane p2 l2) ∧
  (∀ (s : State) (raw : RawBits), let bs := s.conditioned 136 raw
    let v := packNat (bs.take 512)
    s.board.phase = .ready → (s.group 136).state = 1 → (s.noise.rotSeeded = false ∨ 65536 ≤ s.noise.rotOutputs) → 512 ≤ bs.length →
    ∃ t, exec (.rotReseed raw) s = .next t ∧ t.noise.rotSeeded = true ∧ t.noise.rotBlocked = false ∧ t.noise.rotSeed = le 64 v ∧ t.mem = s.mem ∧
      t.units = s.units ∧ t.noise.groups = s.noise.groups ∧
      (s.noise.rotSeeded = true → s.noise.rotBlocked = false → t = { s with noise := { s.noise with rotSeed := le 64 v, rotOutputs := 0 } })) ∧
  ∀ (s : State), (s.group 136).state ≠ 1 → s.noise.rotSeeded = true → s.noise.rotBlocked = false → 1048576 ≤ s.noise.rotOutputs →
    ∃ t n, exec .rotBlocked s = .next t ∧ t = { s with noise := { s.noise with rotBlocked := true }, recorder := t.recorder } ∧
      t.recorder.inbox = s.recorder.inbox ++ [n] ∧ n.type = 0x0407

/-- NOISE_TIMEOUT ends the wait it names in NOISE_FAILED with its record: the start wait or a hold of an Open ANNEAL or SAMPLE, a NOISE.RAW on a group that is not
HEALTHY, a NOISE.SEED or a header key on a generator that serves none, a signing request of the root of trust, whose ATTEST_STATE reads 3 (04 R98 to R103, R105;
12 R322). EVENT_REF as the count of the records made is the model's reading (log 9). -/
def Obligations.NoiseTimeoutsEndTheWait : Prop :=
  ∀ (s : State), s.board.phase = .ready →
    (∀ (a : AnnealRun) (r : Run) (q : Problem) (h : Half) (w : NoiseWait), s.engine = some (a, r, q) → a.colourfast = false → (∃ i ∈ r.issued, i.index = a.word) →
      (w = .openStart ∧ a.startWait = true ∧ s.bothReady = false) ∨ (w = .hold h ∧ a.startWait = false ∧ s.noise.holdTimer.get h = true ∧ a.quiet = true) →
      ∃ t f n, exec (.noiseTimeout w) s = .next t ∧ t.anneal = none ∧ t.ranWith a.distaff a.word (some f) ∧ f.status = 0x10 ∧ f.cause = 0 ∧ f.evRef = s.recorder.made + 1 ∧
        n ∈ t.recorder.inbox ∧ n.type = 0x0406 ∧ n.source = r.ring ∧ n.sourceSeq = r.seq ∧ t.board = s.board ∧ t.steward = s.steward) ∧
    (∀ (d : Fin 8) (r : Run) (k x : Nat), s.run d = some r →
      (r.noiseWaiter .noiseRaw = some (k, x) → (s.group (nrGroup x)).state ≠ 1 →
        ∃ t f n, exec (.noiseTimeout (.raw d)) s = .next t ∧ t = { s with distaffs := t.distaffs, recorder := t.recorder } ∧ t.ranWith d k (some f) ∧ f.status = 0x10 ∧
          t.recorder.inbox = s.recorder.inbox ++ [n] ∧ n.type = 0x0406 ∧ (∀ e, e ≠ d.val → t.run e = s.run e)) ∧
      (r.noiseWaiter .noiseSeed = some (k, x) → r.keyPending = false → s.rotServes = false →
        ∃ t f n, exec (.noiseTimeout (.deviceKey d)) s = .next t ∧ t = { s with distaffs := t.distaffs, recorder := t.recorder } ∧ t.ranWith d k (some f) ∧ f.status = 0x10 ∧
          t.recorder.inbox = s.recorder.inbox ++ [n] ∧ n.type = 0x0406 ∧ (∀ e, e ≠ d.val → t.run e = s.run e)) ∧
      (r.keyPending = true → r.failure = none → r.aborted = none → s.rotServes = false →
        ∃ t n f, exec (.noiseTimeout (.deviceKey d)) s = .next t ∧ t = { s with distaffs := t.distaffs, recorder := t.recorder } ∧
          t.run d = some { r with failure := some (0xFFFF, f) } ∧ f.status = 0x10 ∧ t.recorder.inbox = s.recorder.inbox ++ [n] ∧ n.type = 0x0406)) ∧
    ∀ (q : SignRequest) (rest : List SignRequest), s.ident.queue = q :: rest → q.kind = 0 → s.rotServes = false →
      ∃ t n, exec (.noiseTimeout .rootOfTrust) s = .next t ∧ t = { s with ident := { s.ident with queue := rest, attestState := 3 }, recorder := t.recorder } ∧
        t.recorder.inbox = s.recorder.inbox ++ [n] ∧ n.type = 0x0406

/-- PERMIT_GRANT grants the oldest waiting request when nothing is granted and no pick is reserved that can be made, or within the headroom that a reservation
leaves; its word may then run. A request it does not grant waits, with BUDGET_LIMITED (11 R295, R296, R299, R300). That a request goes alone under a reservation
while a picked hank waits for a Distaff is the model's reading (log 34), and during a replan (log 40). The failure of a request withdrawn by PERMIT_TIMEOUT
names its record 0x0602: EVENT_REF is the number the record has, which is the count of the records made (09 R259; the count is the model's reading, log 9). -/
def Obligations.PermitGrantServesTheOldest : Prop :=
  (∀ (s : State) (p : Permit) (rest : List Permit), s.board.phase = .ready → s.steward.queue = p :: rest →
     let goes := (s.steward.g = 0 ∧ (s.steward.reservation = none ∨ s.dispatcher.picked.isSome = true ∨ s.steward.replan ≠ 0)) ∨
       (s.steward.g ≠ 0 ∧ (p.draw : Int) ≤ s.headroom ∧ ∀ r c, s.steward.reservation = some (r, c) → s.fitDraw c + p.draw ≤ s.headroom)
     (¬goes → ∃ t, exec .permitGrant s = .next t ∧ t = { s with distaffs := t.distaffs } ∧ s.onlyWaits t ∧
       ∀ r, s.run p.distaff = some r → t.run p.distaff = some { r with waitedPermit := true, budgetLimited := true }) ∧
     (goes →
     ∃ t, exec .permitGrant s = .next t ∧ t = { s with steward := { s.steward with queue := rest, granted := s.steward.granted ++ [p] }, distaffs := t.distaffs } ∧
       (∀ d, d ≠ p.distaff → t.run d = s.run d) ∧
       ∀ r, s.run p.distaff = some r → t.run p.distaff = some { r with issued := r.issued.map fun i => if i.index = p.word then { i with granted := true } else i })) ∧
  (∀ (s : State) (p : Permit) (rest : List Permit) (r : Run) (i : Issued), s.board.phase = .ready → s.steward.queue = p :: rest → s.run p.distaff = some r → i ∈ r.issued →
     i.index = p.word → i.noiseWait = false →
     ∃ t f, exec .permitTimeout s = .next t ∧ t.ranWith p.distaff p.word (some f) ∧ f.status = 0x40 ∧ f.evRef = s.recorder.made + 1 ∧ t.recorder.made = s.recorder.made + 1)

/-- PERMIT_TIMEOUT withdraws the oldest waiting request: its word fails with PERMIT_TIMEOUT, so that its hank ends with it; one record 0x0602 of severity ERROR
carries the hank's source and sequence, the word, POWER_BUDGET, D and G; PERMIT_TIMEOUTS counts it, and the request behind it is the head (11 R298). -/
def Obligations.PermitTimeoutWithdrawsTheRequest : Prop :=
  ∀ (s : State) (p : Permit) (rest : List Permit) (r : Run) (i : Issued), s.board.phase = .ready → s.steward.queue = p :: rest → s.run p.distaff = some r → i ∈ r.issued →
    i.index = p.word → i.noiseWait = false →
    ∃ t f n, exec .permitTimeout s = .next t ∧
      t = { s with steward := { s.steward with queue := rest, timeouts := min (s.steward.timeouts + 1) 0xFFFFFFFF }, distaffs := t.distaffs, recorder := t.recorder } ∧
      t.ranWith p.distaff p.word (some f) ∧ f.status = 0x40 ∧ f.cause = 0 ∧ t.recorder.inbox = s.recorder.inbox ++ [n] ∧
      n.type = 0x0602 ∧ n.severity = 2 ∧ n.hank = true ∧ n.source = r.ring ∧ n.sourceSeq = r.seq ∧
      n.payload = le 2 p.word ++ le 2 s.budget ++ le 4 p.draw ++ le 4 s.steward.g ++ zeros 4

/-- POWER_SAMPLE takes the sampled draws and junctions. RATIO_EVALUATION moves T_h as R303's first step says. With P above the budget it sets the budget ceiling of
the half that step 2 takes one step below its ratio; otherwise, of the halves that their budget ceiling holds below A_h it takes the one at the slower ratio,
West of two at one ratio, and its ceiling rises by one step exactly when P + P_h × (ϕ(next) / ϕ(present) − 1) ≤ 0.95 × POWER_BUDGET; the other half's stays.
Then a half faster than the slowest of its ceilings falls by one step, and the rise of one slower than it begins and waits for the rail, which RATIO_STEP_UP
then ends with its record (08 R239; 11 R302, R303). The layout of RATIO_CHANGE is the model's own (log 16). -/
def Obligations.SamplesSetTheRatios : Prop :=
  (∀ (s : State) (p pw pe : Nat) (a b : Int), s.board.phase ≠ .reset →
    exec (.powerSample p pw pe none) s = .next { s with steward := { s.steward with p := p, ph := ⟨pw, pe⟩ } } ∧
    exec (.powerSample p pw pe (some (a, b))) s = .next { s with steward := { s.steward with p := p, ph := ⟨pw, pe⟩, tj := ⟨a, b⟩ } }) ∧
  (∀ (s : State), s.board.phase = .ready →
    let x := s.steward
    let held := fun (h : Half) => s.allowedRatio h < x.budget.get h ∧ x.budget.get h = x.ratio.get h
    let phi := fun (h : Half) (r : Nat) => (4 - r) * (x.volts h r) ^ 2
    let fitsUp := fun (h : Half) => let r := x.ratio.get h
      100 * (x.p * phi h r + x.ph.get h * phi h (r - 1)) ≤ 95 * s.budget * phi h r + 100 * x.ph.get h * phi h r
    ∃ t, exec .ratioEvaluation s = .next t ∧ t = { s with steward := t.steward, distaffs := t.distaffs, recorder := t.recorder } ∧
      t.steward.queue = x.queue ∧ t.steward.granted = x.granted ∧ t.steward.plan = x.plan ∧
      (x.p ≤ s.budget →
        t.steward.budget.w = (if held .west ∧ (held .east → x.ratio.e ≤ x.ratio.w) ∧ fitsUp .west then x.budget.w - 1 else x.budget.w) ∧
        t.steward.budget.e = (if held .east ∧ (held .west → x.ratio.w < x.ratio.e) ∧ fitsUp .east then x.budget.e - 1 else x.budget.e)) ∧
      (s.budget < x.p →
        t.steward.budget.w = (if x.ratio.w < 3 ∧ (x.ratio.e < 3 → x.ph.e < x.ph.w ∨ (x.ph.e = x.ph.w ∧ x.ratio.w ≤ x.ratio.e)) then x.ratio.w + 1 else x.budget.w) ∧
        t.steward.budget.e = (if x.ratio.e < 3 ∧ (x.ratio.w < 3 → x.ph.w < x.ph.e ∨ (x.ph.e = x.ph.w ∧ x.ratio.e < x.ratio.w)) then x.ratio.e + 1 else x.budget.e)) ∧
      ∀ h, let want := max (s.allowedRatio h) (max (t.steward.thermal.get h) (t.steward.budget.get h))
        t.steward.thermal.get h = (if s.thermalLimit ≤ x.tj.get h then min 3 (x.ratio.get h + 1)
          else if s.allowedRatio h < x.thermal.get h ∧ x.tj.get h ≤ s.thermalLimit - 500 ∧ x.cool.get h = 9 then x.thermal.get h - 1
          else x.thermal.get h) ∧
        t.steward.ratio.get h = (if x.ratio.get h < want then x.ratio.get h + 1 else x.ratio.get h) ∧
        (x.ratio.get h < want → t.steward.rising.get h = none ∧ t.steward.vdd.get h = max 600 (min 850 (x.volts h (x.ratio.get h + 1))) ∧
          ∃ n ∈ t.recorder.inbox, n.type = 0x0601 ∧ n.payload.take 3 = le 1 (halfNo h) ++ le 1 (x.ratio.get h) ++ le 1 (x.ratio.get h + 1)) ∧
        (want < x.ratio.get h → x.rising.get h = none →
          (∃ k, t.steward.rising.get h = some (x.ratio.get h - 1, k)) ∧ t.steward.vdd.get h = max 600 (min 850 (x.volts h (x.ratio.get h - 1))))) ∧
  ∀ (s : State) (h : Half) (r w : Nat), s.board.phase = .ready → s.steward.rising.get h = some (r, w) →
    ∃ t n, exec (.ratioStepUp h) s = .next t ∧
      t = { s with steward := { s.steward with ratio := s.steward.ratio.set h r, rising := s.steward.rising.set h none }, recorder := t.recorder } ∧
      t.recorder.inbox = s.recorder.inbox ++ [n] ∧ n.type = 0x0601 ∧ n.payload.take 3 = le 1 (halfNo h) ++ le 1 (s.steward.ratio.get h) ++ le 1 r

/-- A write of 1 to MARGIN_REPLAN asks for a measurement; REPLAN_MEASURE of a device with no hank then makes the plan: every V_h(r) is the largest V_dom(r) of the
domains in service on the half's rail (its Spindles and Bobbins that serve, its Distaffs in service, its LPDDR5X controllers with their one value, its router
segments), rounded up to 5 mV, plus 25 mV; PLAN_COUNT rises by 1, the plan is kept, and the spared units with it (log 35), the rails follow it, MARGIN_PLAN is
written and picking may resume (08 R237; 11 R305, R306, R308, R309). -/
def Obligations.ReplanMakesThePlan : Prop :=
  (∀ (s : State) (p : Path), s.board.phase = .ready → s.start.state ≠ 4 → s.pathIdle p = true → s.steward.replan = 0 →
    ∃ t, exec (.marginReplan p 1) s = .next t ∧ t = { s with steward := { s.steward with replan := 1 }, dict := t.dict, out := t.out } ∧ t.out.reply = 0) ∧
  ∀ (s : State) (vdom : List (List Nat)), s.board.phase = .ready → planOk vdom = true → s.steward.replan ≠ 0 → s.noHank = true →
    ∃ t, exec (.replanMeasure vdom) s = .next t ∧ t.steward.replan = 0 ∧ t.steward.planCount = (s.steward.planCount + 1) % 2 ^ 32 ∧ t.steward.planDetail = vdom ∧
      t.keep.plan = some (t.steward.plan, t.units.spared) ∧ (∃ n ∈ t.recorder.inbox, n.type = 0x0603) ∧
      (∀ h, (t.steward.plan.get h).length = 4 ∧ t.steward.vdd.get h = max 600 (min 850 (t.steward.volts h (t.steward.ratio.get h))) ∧
        t.steward.ratio.get h = max (s.steward.ratio.get h) (min 3 (t.steward.maxRatio h)) ∧
        let domains := (spindleUnits h).filter t.units.serves ++
          ((bobbinUnits h).filter fun p => !t.units.bobbinRetired.contains p && !t.units.spared.contains (true, p)).map (136 + ·) ++
          ((List.range 8).filter fun d => d / 4 = halfNo h && (vget t.distaffs { inService := false, run := none } d).inService).map (170 + ·) ++
          (List.range 4).map (242 + 4 * halfNo h + ·) ++ (List.range 16).map (260 + 16 * halfNo h + ·)
        ∀ r < 4, let at_ := fun d => (vdom.getD d []).getD (if 242 ≤ d ∧ d < 250 then 0 else r) 0
          ∃ m ∈ domains.map at_, (∀ v ∈ domains.map at_, v ≤ m) ∧ (t.steward.plan.get h).getD r 0 = (m + 4) / 5 * 5 + 25) ∧
      t.distaffs = s.distaffs ∧ t.rings = s.rings ∧ t.mem.sram = s.mem.sram ∧ t.mem.lp = s.mem.lp ∧ t.mem.host = s.mem.host

/-- UNIT_FAULT in a unit that a hank holds: UNIT_FAULT is written with the class the unit then has, the fault waits to be mapped, and the hank stops. A unit that no
hank holds has no fault. SHAPE_REMAP of a quiesced half with one retired host and a reserve: the reserve takes its logical Spindles, which read zero, every
other carrier stays, the epoch rises by 1, SHAPE_CHANGE is written and the retired Spindle's group is RETIRED (04 R90; 06 R153, R154; 08 R220; 13 R359, R360).
Under a fold the holder is the hank of the lowest held logical unit (log 26), and a command on an unheld unit changes nothing (log 5): both are the model's. -/
def Obligations.FaultsStopTheHankAndRemap : Prop :=
  (∀ (s : State) (bobbin : Bool) (unit : Fin 136) (stage : Fin 7), s.board.phase = .ready → unitFaultOk bobbin unit stage = true →
    (s.unitHolder bobbin unit = none → exec (.unitFault bobbin unit stage) s = .next s) ∧
    ∀ (c : Nat × Nat) (d : Nat) (r : Run), s.unitHolder bobbin unit = some c → s.distaffOf c.1 c.2 = some d → s.run d = some r → r.aborted = none → r.failure = none → r.eccMet = none →
      s.savingOn d r = false →
      ∃ t q n x, exec (.unitFault bobbin unit stage) s = .next t ∧
        t = { s with recorder := t.recorder, start := { s.start with faults := min (s.start.faults + 1) 0xFFFFFFFF }, units := { s.units with faults := t.units.faults },
                     distaffs := t.distaffs, anneal := t.anneal } ∧
        t.run d = some q ∧ q.faulted = true ∧ q.faultMet = true ∧ t.recorder.inbox = s.recorder.inbox ++ [n] ∧ n.type = 0x0B03 ∧ n.source = c.1 ∧ n.sourceSeq = c.2 ∧
        (bobbin, unit.val, x) ∈ t.units.faults ∧ (bobbin = false → classOf [stage] ≤ x ∧ s.units.cls unit ≤ x) ∧ (bobbin = true → x = 3) ∧
        n.payload = le 1 (if bobbin = true then 2 else 1) ++ le 1 unit ++ le 1 stage ++ le 1 x ++ zeros 4 ∧ ∀ e, e ≠ d → t.run e = s.run e) ∧
  ∀ (s : State) (h : Half) (p q : Nat), s.board.phase = .ready → s.units.testPending = false → s.units.faults = [(false, p, 3)] → p < 136 → halfOfPhysical p = h →
    s.quiesced h = true → s.units.cls p ≤ 3 → s.units.hosted p ≠ [] → (s.units.reserves h).find? (fun u => u ≠ p) = some q →
    ∃ t, exec (.shapeRemap h) s = .next t ∧ t.units.faults = [] ∧ t.units.epoch = (s.units.epoch + 1) % 2 ^ 32 ∧ t.units.cls p = 3 ∧
      (∀ l < 128, vget t.units.hosts 0xFF l = if vget s.units.hosts 0xFF l = p then q else vget s.units.hosts 0xFF l) ∧ t.units.bobbinHosts = s.units.bobbinHosts ∧
      (∃ n ∈ t.recorder.inbox, n.type = 0x0C01) ∧ (t.group p).state = 3 ∧
      (∀ l < 128, ∀ a < 2 ^ 20, t.byteAt 3 (l * 2 ^ 20 + a) = if vget s.units.hosts 0xFF l = p then 0 else s.byteAt 3 (l * 2 ^ 20 + a)) ∧
      ∀ sp a, sp < 3 → t.byteAt sp a = s.byteAt sp a

/-- The scrubbers change no byte. SRAM_SCRUB_ACCESS of a slice group reads one 64-byte access in each of its slices at the group's offset, which moves on by 64, and
LP_PATROL_SCRUB one word; an error that has struck a word elsewhere waits there for a read; a correctable error that struck a word is corrected and counted, an
uncorrectable one poisons its word, counts and writes SRAM_POISON or LP_POISON (08 R213 to R215, R226). That an access may bring errors to words elsewhere is
the model's choice (log 43). -/
def Obligations.ScrubbersCorrectOrPoison : Prop :=
  ∀ (s : State) (sg i : Fin 64) (a : BitVec 40) (bad : Bool), s.board.phase = .ready → s.mem.upsets = [] → a.toNat < lpBytes →
    let o := vget s.mem.scrub 0 sg
    let w := sliceAddress (8 * sg.val + i.val / 8) o / 8 + i.val % 8
    let next := vset s.mem.scrub sg ((o + 64) % 2 ^ 23)
    exec (.sramScrubAccess sg ⟨[], []⟩) s = .next { s with mem := { s.mem with scrub := next } } ∧
    (∀ st x bad, st ≠ .sram → x < (storePlace st).2 → s.mem.poison.contains ((storePlace st).1, x) = false →
      exec (.sramScrubAccess sg ⟨[], [(st, x, bad)]⟩) s = .next { s with mem := { s.mem with scrub := next, upsets := [((storePlace st).1, x, bad)] } }) ∧ exec (.lpPatrolScrub a none) s = .next s ∧
    (s.mem.poison.contains (0, w) = false → ∃ t, exec (.sramScrubAccess sg ⟨[(i, bad)], []⟩) s = .next t ∧ t = { s with mem := t.mem, recorder := t.recorder } ∧
      (bad = false → t.recorder = s.recorder ∧ t.mem = { s.mem with scrub := next, sramCe := min (s.mem.sramCe + 1) 0xFFFFFFFF }) ∧
      (bad = true → (∃ n, t.recorder.inbox = s.recorder.inbox ++ [n] ∧ n.type = 0x0501) ∧
        t.mem = { s.mem with scrub := next, sramUe := min (s.mem.sramUe + 1) 0xFFFFFFFF, poison := s.mem.poison ++ [(0, w)] })) ∧
    (s.mem.poison.contains (1, a.toNat / 8) = false → ∃ t, exec (.lpPatrolScrub a (some bad)) s = .next t ∧ t = { s with mem := t.mem, recorder := t.recorder } ∧
      (bad = false → t.recorder = s.recorder ∧ t.mem = { s.mem with lpCe := min (s.mem.lpCe + 1) 0xFFFFFFFF }) ∧
      (bad = true → (∃ n, t.recorder.inbox = s.recorder.inbox ++ [n] ∧ n.type = 0x0504) ∧
        t.mem = { s.mem with lpUe := min (s.mem.lpUe + 1) 0xFFFFFFFF, poison := s.mem.poison ++ [(1, a.toNat / 8)] }))

/-- A command that is one write of an entry is served after every request that waits on its path, and is not taken while the path is not there; at a full queue it
is answered BUSY, unexecuted (10 R275, R284). That it is served after what waits, and that a closed path changes nothing, are the model's reading (log 36).
DICT_WRITE of an RW or RWP scalar with no action of its own, within its range and allowed by its chapter: the entry holds the value, no other entry changes, and
a change adds one journal record; a write to an absent entry, a read-only one, or out of range changes nothing and answers its status. POWER_BUDGET_WRITE,
CONDITIONING_WRITE, DEBUG_ENABLE_WRITE, TEST_SHAPE_WRITE and CKPT_KEY_WRITE do so for theirs, with the effects of 04 R94, 06 R157 and 10 R293 (10 R271 to R273,
R288, R292, R293; 12 R336). PASS_RUN read as 0 in WARMING is the model's reading (log 40), and so is a pending test shape only where a shape would change (log
36). -/
def Obligations.EntryWritesTakeEffect : Prop :=
  (∀ (s : State) (c : Instr) (p : Path), pathCommand c = some p →
     (s.pathOpen p = false → exec c s = .next s) ∧ (s.pathOpen p = true → s.pathFull p = true → exec c s = .next (s.reply 0x08)) ∧
     (s.pathOpen p = true → s.pathFull p = false → exec c s = exec c (s.servePath p))) ∧
  (∀ (s : State) (p : Path), s.board.phase = .ready → s.start.state ≠ 4 → s.pathIdle p = true →
     (∀ (index : BitVec 16) (sub : BitVec 8) (v : BitVec 64), let i := index.toNat
       let k := sub.toNat
       (∀ r : Row, rowOf i k = some r → (r.access = .rw ∨ r.access = .rwp) → r.type.isScalar = true → i ≠ 0x3820 → i ≠ 0x8000 →
         (s.inRange r k v.toNat = true → s.stateAllows i k v.toNat = true →
           ∃ t, exec (.dictWrite p index sub v) s = .next t ∧ t = { s with dict := t.dict, distaffs := t.distaffs, out := t.out } ∧ s.onlyWaits t ∧
             (i ≠ 0x6000 → t.distaffs = s.distaffs) ∧ t.out.reply = 0 ∧ t.entry i k = v.toNat ∧
             (∀ a b, entryKey a b ≠ entryKey i k → t.entry a b = s.entry a b) ∧ (s.entry i k = v.toNat → t.dict = s.dict) ∧ (s.entry i k ≠ v.toNat → s.wrote t i k (pathCode p))) ∧
         (s.inRange r k v.toNat = true → s.stateAllows i k v.toNat = false → s.entry i k ≠ v.toNat → exec (.dictWrite p index sub v) s = .next (s.reply 6)) ∧
         (s.inRange r k v.toNat = false → exec (.dictWrite p index sub v) s = .next (s.reply 5))) ∧
       (rowOf i k = none → exec (.dictWrite p index sub v) s = .next (s.reply 1)) ∧
       ∀ r : Row, rowOf i k = some r → (r.access = .ro ∨ r.access = .const) → exec (.dictWrite p index sub v) s = .next (s.reply 3)) ∧
     (∀ (thermal : Bool) (v : BitVec 16), let k := if thermal = true then 2 else 1
       (if thermal = true then 70 ≤ v.toNat ∧ v.toNat ≤ 105 else 350 ≤ v.toNat ∧ v.toNat ≤ 950) → s.entry 0x6000 k ≠ v.toNat →
       ∃ t, exec (.powerBudgetWrite p thermal v) s = .next t ∧ t = { s with dict := t.dict, distaffs := t.distaffs, out := t.out } ∧ s.onlyWaits t ∧ t.entry 0x6000 k = v.toNat ∧ s.wrote t 0x6000 k (pathCode p)) ∧
     (∀ (g : Fin 137) (v : BitVec 8), v.toNat ≤ 1 → s.entry 0x3820 g ≠ v.toNat →
       ∃ t, exec (.conditioningWrite p g v) s = .next t ∧ t.entry 0x3820 g = v.toNat ∧ s.wrote t 0x3820 g (pathCode p) ∧ t.mem = s.mem ∧ t.units = s.units ∧
         (∀ k : Fin 137, k ≠ g → t.noise.groups[k] = s.noise.groups[k]) ∧
         (if (s.group g).state = 3 then t.noise = s.noise else (t.group g).state = 0 ∧ (t.group g).streak = 0 ∧ (t.group g).passRun = 0)) ∧
     (∀ v : BitVec 8, v.toNat ≤ 1 → s.entry 0x8000 1 ≠ v.toNat →
       ∃ t, exec (.debugEnableWrite p v) s = .next t ∧ (t.debug = true ↔ v = 1) ∧ s.wrote t 0x8000 1 (pathCode p) ∧ t.mem = s.mem ∧ t.steward = s.steward ∧
         (v = 1 → ∀ d r, t.run d = some r → r.debugOn = true) ∧ (v = 0 → t.distaffs = s.distaffs ∧ t.rings = s.rings)) ∧
     (∀ v : BitVec 8, v.toNat ≤ 1 → s.entry 0x8000 2 ≠ v.toNat →
       ∃ t, exec (.testShapeWrite p v) s = .next t ∧ t = { s with dict := t.dict, units := { s.units with testPending := t.testDiffers }, out := t.out } ∧
         t.entry 0x8000 2 = v.toNat ∧ s.wrote t 0x8000 2 (pathCode p)) ∧
     ∀ (fn : Fin 16) (key : Bytes), key.length = 32 → (∀ k, vget s.dict.ckptKeys none fn = some k → k.length ≤ 32) →
       ∃ t, exec (.ckptKeyWrite p fn key) s = .next t ∧ t = { s with dict := t.dict, out := t.out } ∧ vget t.dict.ckptKeys none fn = some key ∧
         s.wrote t 0x7030 fn (pathCode p) ∧ ∀ g : Fin 16, g ≠ fn → t.dict.ckptKeys[g] = s.dict.ckptKeys[g])

/-- SETTINGS_FLUSH and the timer after a change start a rewrite of the settings area with the RWP values as they stand, SETTINGS_REWRITE_DONE ends it: the active
slot's area holds them under the next COPY_SEQ, and the records it holds are flushed; SETTINGS_RESTORE marks the active slot's area (10 R287, R288; 15 R391,
R393). -/
def Obligations.SettingsReachTheFlash : Prop :=
  ∀ (s : State) (p : Path) (b : Bool), s.board.phase = .ready → s.image.active = some b → s.pathIdle p = true →
    (s.dict.flushing = false → ∃ t, exec (.settingsFlush p 1) s = .next t ∧ t = { s with dict := t.dict, out := t.out } ∧ t.dict.flushing = true ∧
      t.dict.flushValues = s.dict.rwpValues ∧ t.dict.values = s.dict.values ∧ s.wrote t 0x1000 0x09 (pathCode p)) ∧
    (s.dict.flushing = true → ∃ t, exec (.settingsFlush p 1) s = .next t ∧ t.dict.flushing = true ∧ t.dict.flushAgain = true ∧ t.dict.flushValues = s.dict.flushValues) ∧
    (s.dict.unflushed ≠ [] → s.dict.flushing = false → ∃ t, exec .settingsFlushTimer s = .next t ∧ t = { s with dict := t.dict } ∧ t.dict.flushing = true ∧
      t.dict.flushValues = s.dict.rwpValues ∧ t.dict.journal = s.dict.journal) ∧
    (s.image.trialState ≠ 2 → s.dict.flushing = true → s.dict.flushAgain = false →
      ∃ t a, exec .settingsRewriteDone s = .next t ∧ t = { s with dict := t.dict } ∧ a.values = s.dict.flushValues ∧ a.jseq = s.dict.flushJseq ∧
        a.schema = ((s.image.running.map fun i => i.schema).getD (s.image.schemaOf b)) ∧ a.copySeq = (match s.dict.area b with
          | some x => (x.copySeq + 1) % 2 ^ 32
          | none => 0) ∧
        (let x := s.dict.areas.get (slotSide b)
         let y := t.dict.areas.get (slotSide b)
         t.dict.areas.get (slotSide (!b)) = s.dict.areas.get (slotSide (!b)) ∧
         (y = { x with copy0 := some a } ∧ x.copy1 = s.dict.area b ∨ y = { x with copy1 := some a } ∧ x.copy0 = s.dict.area b)) ∧
        ((∀ x, s.dict.area b = some x → x.copySeq + 1 < 2 ^ 32) → t.dict.area b = some a) ∧
        t.dict.flushing = false ∧ t.dict.values = s.dict.values ∧ (∀ u ∈ t.dict.unflushed, s.dict.flushJseq < u.1) ∧
        (∀ u ∈ s.dict.unflushed, u.1 ≤ s.dict.flushJseq → ∀ j ∈ t.dict.journal, j.jseq = u.1 → j.flushed = true)) ∧
    (s.image.trialState ≠ 2 → ∃ t, exec (.settingsRestore p 0x5AD00001) s = .next t ∧ t = { s with dict := t.dict, out := t.out } ∧
      t.dict.restoreMark = s.dict.restoreMark.set (slotSide b) true ∧ s.wrote t 0x1000 0x0B (pathCode p))

/-- The BAR0 window: SELECT_WRITE selects an entry and sets CODE to OK; VALUE_WRITE and a transfer with a good length and address join the queue of path 0, in
order, with BUSY set; a full queue answers BUSY; a bad length or address ends at once; while BUSY is 1 the writes of the slot are ignored. VALUE_READ returns
the value or all ones with the code, STATUS_READ the status (10 R276 to R279, R284). DICT_REQUEST_SERVICE of the slot at the head of path 0: its write is
applied with the status of the write, its transfer moves the entry's bytes to host memory or host bytes into the entry, BUSY falls and the next request is at
the head; no other byte of memory changes (10 R273, R278, R279, R284). A transfer that passes 2^64 runs on into the keys of host memory that follow (the model's
choice, log 52). -/
def Obligations.WindowSlotsQueueAndServe : Prop :=
  (∀ (s : State) (k : Fin 16) (v : BitVec 32) (w : BitVec 64) (n : BitVec 13), s.windowOpen = true →
     let x := s.slot k
     let frame := fun (t : State) => t = { s with dict := t.dict } ∧ (∀ j : Fin 16, j ≠ k → t.dict.slots[j] = s.dict.slots[j]) ∧
       t.dict = { s.dict with slots := t.dict.slots, bar0 := t.dict.bar0 }
     let queued := fun (c : Instr) (q : Sum (BitVec 64) (Bool × Nat)) => ∃ t, exec c s = .next t ∧ frame t ∧
       (if s.dict.bar0.length < 8 then t.slot k = { x with busy := some q } ∧ t.dict.bar0 = s.dict.bar0 ++ [k.val] else t.slot k = { x with code := 0x08 } ∧ t.dict.bar0 = s.dict.bar0)
     (x.busy = none →
       (∃ t, exec (.selectWrite k v) s = .next t ∧ frame t ∧ t.dict.bar0 = s.dict.bar0 ∧ 
         t.slot k = { x with select := v &&& 0xFFFFFF, kind := s.kindOf ((v &&& 0xFFFFFF).toNat / 256) ((v &&& 0xFFFFFF).toNat % 256), code := 0 }) ∧
       queued (.valueWrite k true w) (.inl w) ∧ queued (.valueWrite k false w) (.inl (w &&& 0xFFFFFFFF)) ∧
       (1 ≤ n.toNat → n.toNat ≤ 4096 → x.xferAddr.toNat % 64 = 0 →
         queued (.xferEntryToHost k n) (.inr (false, n.toNat)) ∧ queued (.xferHostToEntry k n) (.inr (true, n.toNat))) ∧
       ((n = 0 ∨ 4096 < n.toNat) → ∃ t, exec (.xferEntryToHost k n) s = .next t ∧ frame t ∧ t.slot k = { x with code := 0x04 } ∧ exec (.xferHostToEntry k n) s = .next t) ∧
       (1 ≤ n.toNat → n.toNat ≤ 4096 → x.xferAddr.toNat % 64 ≠ 0 →
         ∃ t, exec (.xferEntryToHost k n) s = .next t ∧ frame t ∧ t.slot k = { x with code := 0x09 } ∧ exec (.xferHostToEntry k n) s = .next t) ∧
       ∀ ok, exec (.statusRead ⟨k, ok⟩) s = .next (s.reply x.status)) ∧
     (x.busy ≠ none → exec (.selectWrite k v) s = .next s ∧ (∀ wide, exec (.valueWrite k wide w) s = .next s) ∧ exec (.xferEntryToHost k n) s = .next s ∧
       exec (.xferHostToEntry k n) s = .next s) ∧
     (s.dict.bar0 = [] → ∀ wide ok, let size := if wide = true then 2 ^ 64 else 2 ^ 32
       (∀ y, s.getScalar x.index x.sub = .inl y → ∃ t, exec (.valueRead k ⟨wide, ok⟩) s = .next t ∧ t.slot k = { x with code := 0 } ∧
         t = { s with dict := t.dict, out := t.out } ∧ t.out.reply = BitVec.ofNat 64 (y % size)) ∧
       ∀ e, s.getScalar x.index x.sub = .inr e → ∃ t, exec (.valueRead k ⟨wide, ok⟩) s = .next t ∧ t.slot k = { x with code := e } ∧
         t = { s with dict := t.dict, out := t.out } ∧ t.out.reply = BitVec.ofNat 64 (size - 1))) ∧
  (∀ (s : State) (k : Fin 16) (ok : Bool) (rest : List Nat), s.board.phase = .ready → s.dict.bar0 = k.val :: rest →
     let x := s.slot k
     let at_ := hostKey 0 x.xferAddr.toNat
     (∀ v r, x.busy = some (.inl v) → s.rowNow x.index x.sub = some r → (r.access = .rw ∨ r.access = .rwp) → r.type.isScalar = true → x.index ≠ 0x3820 → x.index ≠ 0x8000 →
       s.inRange r x.sub v.toNat = true → s.stateAllows x.index x.sub v.toNat = true →
       ∃ t, exec (.dictRequestService ⟨.slot k, ok⟩) s = .next t ∧ t = { s with dict := t.dict, distaffs := t.distaffs } ∧ s.onlyWaits t ∧
         t.slot k = { x with busy := none, code := 0 } ∧ t.dict.bar0 = rest ∧ t.entry x.index x.sub = v.toNat) ∧
     (∀ n b, x.busy = some (.inr (false, n)) → s.getBytes x.index x.sub x.xferOffset.toNat n = .inl b →
       ∃ t, exec (.dictRequestService ⟨.slot k, ok⟩) s = .next t ∧ t = { s with dict := t.dict, mem := t.mem } ∧ t.slot k = { x with busy := none, code := 0 } ∧
         t.dict.bar0 = rest ∧ t.bytes 2 at_ n = b ∧ ∀ sp a, (sp ≠ 2 ∨ a < at_ ∨ at_ + n ≤ a) → sp ≤ 5 → t.byteAt sp a = s.byteAt sp a) ∧
     (∀ n, x.busy = some (.inr (true, n)) → x.select = 0x700001 → s.start.state ≠ 4 → s.dict.attestNonce.length = 32 → x.xferOffset.toNat + n ≤ 32 →
       ∃ t, exec (.dictRequestService ⟨.slot k, ok⟩) s = .next t ∧ t = { s with dict := t.dict } ∧ t.slot k = { x with busy := none, code := 0 } ∧ t.dict.bar0 = rest ∧
         ∀ i < 32, t.dict.attestNonce[i]? = some (if x.xferOffset.toNat ≤ i ∧ i < x.xferOffset.toNat + n then s.byteAt 2 (at_ + (i - x.xferOffset.toNat))
           else s.dict.attestNonce.getD i 0)))

/-- MCTP: a dictionary message of the device's vendor and protocol version 1 joins its path's queue, and is answered BUSY at eight; any other is dropped. Served, in
order of arrival, it is answered with its status and data: READ with the value, READ_BYTES with the bytes, GET_INFO with the entry's type and access, WRITE and
WRITE_BYTES with the status of the write, a malformed one with BAD_REQUEST (10 R280 to R284). The MCTP control messages: SET_ENDPOINT_ID sets the endpoint ID of
its path, GET_ENDPOINT_ID answers it, and the others answer what the endpoint supports, message types 0x00 and 0x7E among it; each answers once, on its own
path, and changes nothing else (10 R280; the layouts and codes of the responses: log 7). -/
def Obligations.MessagesAreQueuedAndAnswered : Prop :=
  (∀ (s : State) (p : Mctp) (q : Request) (c : Nat) (i : Instr), s.pathOpen (mctpPath p) = true →
     ((c = 1 ∧ i = .read p q) ∨ (c = 2 ∧ i = .write p q) ∨ (c = 3 ∧ i = .readBytes p q) ∨ (c = 4 ∧ i = .writeBytes p q) ∨ (c = 5 ∧ i = .getInfo p q) →
       ((q.vendorOk = false ∨ q.protocol ≠ 1) → exec i s = .next s) ∧
       (q.vendorOk = true → q.protocol = 1 → ∃ t, exec i s = .next t ∧ t = { s with dict := t.dict } ∧ t.dict.values = s.dict.values ∧ t.dict.journal = s.dict.journal ∧
         (if (s.dict.end_ p).queue.length < 8 then t.dict.end_ p = { s.dict.end_ p with queue := (s.dict.end_ p).queue ++ [(c, q)] }
           else t.dict.end_ p = { s.dict.end_ p with out := (s.dict.end_ p).out ++ [respondTo c q 0x08 []] }))) ∧
     ∀ (rest : List (Nat × Request)) (ok : Bool), (s.dict.end_ p).queue = (c, q) :: rest →
       ∃ t st data, exec (.dictRequestService ⟨.mctp p, ok⟩) s = .next t ∧ (t.dict.end_ p).queue = rest ∧ (t.dict.end_ p).out = (s.dict.end_ p).out ++ [respondTo c q st data] ∧
         (c = 0 ∨ 5 < c → st = 0x09 ∧ data = []) ∧
         (requestBad q c = true → st = 0x09 ∧ data = [] ∧ t.dict.values = s.dict.values ∧ t.dict.journal = s.dict.journal) ∧
         (requestBad q c = false →
           (c = 1 → ∀ v, s.getScalar q.index.toNat q.sub.toNat = .inl v → st = 0 ∧ ∃ r, s.rowNow q.index.toNat q.sub.toNat = some r ∧ data = le r.type.size v) ∧
           (c = 1 → ∀ e, s.getScalar q.index.toNat q.sub.toNat = .inr e → st = e ∧ data = []) ∧
           (c = 2 → ∀ r, s.board.phase = .ready → s.rowNow q.index.toNat q.sub.toNat = some r → (r.access = .rw ∨ r.access = .rwp) → r.type.isScalar = true →
             q.data.length = r.type.size → q.index ≠ 0x3820 → q.index ≠ 0x8000 → s.inRange r q.sub.toNat (ofLe q.data) = true →
             s.stateAllows q.index.toNat q.sub.toNat (ofLe q.data) = true → st = 0 ∧ t.entry q.index.toNat q.sub.toNat = ofLe q.data) ∧
           (c = 3 → 1 ≤ q.length.toNat → q.length.toNat ≤ 4096 → ∀ b, s.getBytes q.index.toNat q.sub.toNat q.offset.toNat q.length.toNat = .inl b → st = 0 ∧ data = b) ∧
           (c = 4 → s.board.phase = .ready → s.start.state ≠ 4 → 1 ≤ q.length.toNat → q.index = 0x7000 → q.sub = 5 → q.offset = 0 → q.length = 32 → s.dict.sealNonce.length = 32 →
             st = 0 ∧ t.dict.sealNonce = q.data) ∧
           (c = 5 → ∀ r, s.rowNow q.index.toNat q.sub.toNat = some r → st = 0 ∧ data.length = 12 ∧ data.take 2 = le 1 r.type.code ++ le 1 r.access.code) ∧
           (c = 5 → s.rowNow q.index.toNat q.sub.toNat = none → st = 0x01 ∧ data = []))) ∧
  (∀ (s : State) (p : Mctp) (e : BitVec 8), s.pathOpen (mctpPath p) = true →
     let x := s.dict.end_ p
     let answers := fun (c : Instr) (code id : Nat) (body : Bytes → Prop) => ∃ t b, exec c s = .next t ∧ t = { s with dict := t.dict } ∧ t.dict.values = s.dict.values ∧
       t.dict.end_ p = { x with eid := BitVec.ofNat 8 id, control := x.control ++ [le 1 code ++ le 1 0 ++ b] } ∧ body b ∧
       (p = .i3c → t.dict.vdm = s.dict.vdm) ∧ (p = .vdm → t.dict.i3c = s.dict.i3c)
     (e ≠ 0 → e ≠ 0xFF → answers (.setEndpointId p e) 1 e.toNat fun b => b.getD 1 0 = e) ∧
     (e = 0 ∨ e = 0xFF → ∃ t, exec (.setEndpointId p e) s = .next t ∧ t.dict.end_ p = { x with control := x.control ++ [[1, 2]] }) ∧
     answers (.getEndpointId p) 2 x.eid.toNat (fun b => b.getD 0 0 = x.eid) ∧ answers (.getMctpVersionSupport p) 4 x.eid.toNat (fun b => b.getD 0 0 = 1) ∧
     answers (.getMessageTypeSupport p) 5 x.eid.toNat (fun b => b = [2, 0x00, 0x7E]) ∧ answers (.getVendorDefinedMsgSupport p) 6 x.eid.toNat (fun b => b.length = 6))

/-- ATTEST_REQUEST and SEAL_RING queue one request each, the report's ATTEST_STATE reading 1, and are refused while one waits. SIGNATURE_COMPLETE of the head
request with a usable identity and a generator that serves publishes the report of 4,480 bytes, or the ring's seal, whose SEAL_COUNT rises by 1; with no
identity the request fails: a report in ATTEST_STATE 3, a host's seal with no seal made, an automatic one with SEAL_FAILED and its count (12 R320 to R322, R329,
R330). That SEAL_COUNT is taken as the seal is published is the model's reading (log 37), the layout of SEAL_FAILED its own (log 16). -/
def Obligations.SigningServesInOrder : Prop :=
  ∀ (s : State) (p : Path), s.board.phase = .ready →
    (s.pathIdle p = true → s.start.state ≠ 4 → s.ident.attestState ≠ 1 → ∃ t q, exec (.attestRequest p 1) s = .next t ∧ t = { s with dict := t.dict, ident := t.ident, out := t.out } ∧
      t.out.reply = 0 ∧ t.ident.attestState = 1 ∧ q ∈ t.ident.queue ∧ q.kind = 0 ∧ t.ident.queue.length = s.ident.queue.length + 1 ∧ ∀ y ∈ s.ident.queue, y ∈ t.ident.queue) ∧
    (s.pathIdle p = true → s.start.state ≠ 4 → s.ident.attestState = 1 → exec (.attestRequest p 1) s = .next (s.reply 6)) ∧
    (∀ r : BitVec 8, r.toNat < 64 → s.pathIdle p = true → s.start.state ≠ 4 →
      (s.ident.sealWaits r.toNat = false → ∃ t q, exec (.sealRing p r) s = .next t ∧ t = { s with dict := t.dict, ident := t.ident, out := t.out } ∧ t.out.reply = 0 ∧
        q ∈ t.ident.queue ∧ q.kind = 1 ∧ q.ring = r.toNat ∧ q.body = s.sealBody 1 r.toNat s.dict.sealNonce ∧ t.ident.queue.length = s.ident.queue.length + 1) ∧
      (s.ident.sealWaits r.toNat = true → exec (.sealRing p r) s = .next (s.reply 6))) ∧
    ∀ (q : SignRequest) (rest : List SignRequest), s.ident.queue = q :: rest →
      (s.ident.state = 1 → s.rotServes = true → q.kind = 0 → ∃ t sig, exec .signatureComplete s = .next t ∧ t.ident.queue = rest ∧ t.ident.attestState = 2 ∧
        t.ident.report = q.body ++ sig ∧ sig.length = 1280 ∧ t.rings = s.rings ∧ t.mem = s.mem) ∧
      (s.ident.state = 1 → s.rotServes = true → q.kind = 1 → q.ring < 64 → ∃ t sig, exec .signatureComplete s = .next t ∧ t.ident.queue = rest ∧
        (t.ring q.ring).sealCount = (s.ring q.ring).sealCount + 1 ∧
        (t.ring q.ring).lastSeal = q.body.take 4 ++ le 4 ((s.ring q.ring).sealCount + 1) ++ q.body.drop 8 ++ sig ∧ sig.length = 1280 ∧
        (∀ k : Fin 64, k.val ≠ q.ring → t.rings[k] = s.rings[k]) ∧ t.mem = s.mem) ∧
      (s.ident.state = 1 → s.rotServes = false → exec .signatureComplete s = .next s) ∧
      (s.ident.state ≠ 1 → q.kind = 0 → exec .signatureComplete s = .next { s with ident := { s.ident with queue := rest, attestState := 3 } }) ∧
      (s.ident.state ≠ 1 → q.kind = 1 → exec .signatureComplete s = .next { s with ident := { s.ident with queue := rest } }) ∧
      (s.ident.state ≠ 1 → q.kind = 2 → q.ring < 64 → ∃ t n, exec .signatureComplete s = .next t ∧ t.ring q.ring = { s.ring q.ring with autoSealHeld := true } ∧
        t = { s with ident := { s.ident with queue := rest, sealFailures := min (s.ident.sealFailures + 1) 0xFFFFFFFF }, rings := t.rings, recorder := t.recorder } ∧
        (∀ k : Fin 64, k.val ≠ q.ring → t.rings[k] = s.rings[k]) ∧ t.recorder.inbox = s.recorder.inbox ++ [n] ∧ n.type = 0x0A01 ∧ n.payload.take 1 = le 1 q.ring)

/-- FREEZE and THAW of a class, the freeze limit, and MIRROR_CLEAR: a freeze begins with nothing lost, a thaw by either leaves the class unfrozen with
RECORDER_THAWED (its class, its cause, how long the freeze stood, which FREEZE_LIMIT bounds and at the limit is, and what it lost), a freeze of a frozen class
and a thaw of one that is not are refused, and MIRROR_CLEAR empties the FATAL mirror, its index moving to the other copy and the earlier one standing as it was
(14 R371 to R373). EVENT_RECORD_ARRIVE: the oldest record on VC1 reaches the recorder under the next RSEQ; class E stores it when there is room; in a full
buffer the shortest prefix of the records of its severity or lower, oldest first, leaves for it, or, where all of them would not make room, it is dropped and
counted; a frozen class counts it and stores nothing, a FATAL record joins the FATAL mirror, whose earlier index copy stands, every armed event-match set that
it matches captures in debug mode, or is missed, and a record of the notified severity raises the event vector. REGISTER_MATCH_CAPTURE compares the register of
SELECTOR[0] and an armed set captures when the comparison turns true in debug mode; CAPTURE_END stores one snapshot of its set, the newest staying, and
FREEZE_AFTER freezes both classes; with debug mode disabled meanwhile it stores none (09 R261; 14 R366, R369, R371, R373 to R376; log 49); that only the newest
FATAL write may be under way is log 53. -/
def Obligations.RecorderTakesRecordsAndSnapshots : Prop :=
  (∀ (s : State) (p : Path) (classT : Bool), s.board.phase = .ready → s.pathIdle p = true →
     (s.recorder.frozen classT = false → ∃ t, exec (.freeze p classT) s = .next t ∧ t = { s with dict := t.dict, recorder := t.recorder, out := t.out } ∧ t.out.reply = 0 ∧
       t.recorder = (if classT = true then { s.recorder with tFrozen := true, tLostNow := 0 } else { s.recorder with eFrozen := true, eLostNow := 0 })) ∧
     (s.recorder.frozen classT = true → exec (.freeze p classT) s = .next (s.reply 6)) ∧
     (s.recorder.frozen classT = false → exec (.thaw p classT) s = .next (s.reply 6) ∧ exec (.freezeLimitExpiry classT) s = .next s) ∧
     (s.recorder.frozen classT = true → ∀ c ∈ [Instr.thaw p classT, .freezeLimitExpiry classT],
       ∃ t n, exec c s = .next t ∧ t = { s with dict := t.dict, recorder := t.recorder, out := t.out } ∧ t.recorder.frozen classT = false ∧
         t.recorder.frozen (!classT) = s.recorder.frozen (!classT) ∧ t.recorder.inbox = s.recorder.inbox ++ [n] ∧ n.type = 0x0D01 ∧ t.recorder.stored = s.recorder.stored ∧
         ∃ ms, ms ≤ s.entry 0x7800 4 ∧ (c = .freezeLimitExpiry classT → ms = s.entry 0x7800 4) ∧
           n.payload = le 1 (if classT = true then 1 else 0) ++ le 1 (if c = .freezeLimitExpiry classT then 1 else 0) ++ le 2 0 ++ le 4 ms ++
             le 8 (if classT = true then s.recorder.tLostNow else s.recorder.eLostNow)) ∧
     ∃ t, exec (.mirrorClear p 0x5AD00002) s = .next t ∧ t = { s with dict := t.dict, keep := t.keep, out := t.out } ∧ t.out.reply = 0 ∧
       t.keep = { s.keep with mirror := [], mirrorFirst := s.keep.mirrorRange.2, mirrorIndex := !s.keep.mirrorIndex, mirrorOther := s.keep.mirrorRange, mirrorOpen := false }) ∧
  (∀ (s : State), s.board.phase = .ready →
     (∀ (n : Notice) (rest : List Notice), s.recorder.inbox = n :: rest →
       ∃ t x, exec .eventRecordArrive s = .next t ∧ x.note = n ∧ x.rseq = s.recorder.arrived + 1 ∧ t.recorder.inbox = rest ∧ t.recorder.arrived = s.recorder.arrived + 1 ∧
         t.mem = s.mem ∧ t.rings = s.rings ∧ t.dict = s.dict ∧ t.distaffs = s.distaffs ∧
         (s.recorder.eFrozen = true → t.recorder.stored = s.recorder.stored ∧ t.recorder.eLost = min (s.recorder.eLost + 1) 0xFFFFFFFF) ∧
         (s.recorder.eFrozen = false → recordsSize s.recorder.stored + n.size ≤ s.eventRoom → t.recorder.stored = s.recorder.stored ++ [x] ∧ t.recorder.drops = s.recorder.drops) ∧
         (let free := s.eventRoom - recordsSize s.recorder.stored
          let low := s.recorder.stored.filter fun y => y.note.severity ≤ n.severity
          s.recorder.eFrozen = false → free < n.size →
           (n.size ≤ free + recordsSize low → t.recorder.drops = s.recorder.drops ∧
             ∃ (stay : List Record) (k : Nat), t.recorder.stored = stay ++ [x] ∧ stay.Sublist s.recorder.stored ∧ (stay.filter fun y => y.note.severity ≤ n.severity) = low.drop (k + 1) ∧
               (stay.filter fun y => n.severity < y.note.severity) = (s.recorder.stored.filter fun y => n.severity < y.note.severity) ∧
               n.size ≤ free + recordsSize (low.take (k + 1)) ∧ free + recordsSize (low.take k) < n.size) ∧
           (free + recordsSize low < n.size → n.severity < 4 → t.recorder.stored = s.recorder.stored ∧
             ∀ v < 4, vget t.recorder.drops 0 v = if v = n.severity then min (vget s.recorder.drops 0 v + 1) 0xFFFFFFFF else vget s.recorder.drops 0 v)) ∧
         (let fires := fun k => let set_ := vget s.dict.triggers [] k
            s.debug && bit (num set_ 0 1) 0 && num set_ 1 1 = 2 && (num set_ 4 2 = 0xFFFF || num set_ 4 2 = n.type) && decide (num set_ 6 1 ≤ n.severity)
          let missed := (List.range 16).countP fun k => fires k && (vget s.recorder.captures none k).isSome
          t.recorder.tMissed = (if missed = 0 then s.recorder.tMissed else min (s.recorder.tMissed + missed) 0xFFFFFFFF) ∧
          ∀ k < 16, if fires k = true ∧ vget s.recorder.captures none k = none then
              ∃ c, vget t.recorder.captures none k = some c ∧ c.set_ = vget s.dict.triggers [] k ∧ c.cause = 2 ∧ c.hank = none ∧ c.rseq = x.rseq
            else vget t.recorder.captures none k = vget s.recorder.captures none k) ∧
         (n.severity = fatal → x.mirrored = true ∧ t.keep.mirror = newestFit 1040384 (s.keep.mirror ++ [x]) ∧ t.keep.mirrorIndex = !s.keep.mirrorIndex ∧
           t.keep.mirrorOther = s.keep.mirrorRange ∧ t.keep.mirrorOpen = true) ∧
         (n.severity ≠ fatal → t.keep = { s.keep with mirrorOpen := false }) ∧ (n.severity < s.entry 0x2000 8 → t.out.msix = s.out.msix ∧ t.functions = s.functions) ∧
         (∀ f, s.functions[0]? = some f → f.msixEnabled = true → f.unmasked.contains (s.entry 0x2000 6) = true → s.entry 0x2000 8 ≤ n.severity →
           t.out.msix = s.out.msix ++ [(0, s.entry 0x2000 6)])) ∧
     (∀ (k : Fin 16) (v : BitVec 64), let t0 := vget s.dict.triggers [] k
       let sel := (selectorsOf t0).headD 0
       let value := (s.selectedNow sel).or ((s.selectedWidth sel).map fun w => v.toNat % 2 ^ w)
       num t0 1 1 = 1 →
       (value = none → exec (.registerMatchCapture k v) s = .next s) ∧
       ∀ y, value = some y →
         ∃ t, exec (.registerMatchCapture k v) s = .next t ∧ t = { s with recorder := t.recorder, out := { s.out with free := t.out.free } } ∧
           vget t.recorder.matched false k = triggerTrue t0 y ∧
           (let fires := bit (num t0 0 1) 0 && triggerTrue t0 y && !vget s.recorder.matched false k && s.debug
            (fires = false → t.recorder.captures = s.recorder.captures ∧ t.recorder.tMissed = s.recorder.tMissed) ∧
            (fires = true → vget s.recorder.captures none k ≠ none →
              t.recorder.captures = s.recorder.captures ∧ t.recorder.tMissed = min (s.recorder.tMissed + 1) 0xFFFFFFFF) ∧
            (fires = true → vget s.recorder.captures none k = none →
              ∃ c, vget t.recorder.captures none k = some c ∧ c.set_ = t0 ∧ c.cause = 1 ∧ c.hank = none ∧ c.rseq = 0 ∧
                (∀ j : Fin 16, j ≠ k → t.recorder.captures[j] = s.recorder.captures[j]) ∧ t.recorder.tMissed = s.recorder.tMissed))) ∧
     ∀ (k : Fin 16) (c : Capture), vget s.recorder.captures none k = some c →
       (s.debug = false → ∃ t, exec (.captureEnd k) s = .next t ∧ t = { s with recorder := t.recorder, out := t.out } ∧
         t.recorder = { s.recorder with captures := t.recorder.captures } ∧ vget t.recorder.captures none k = none) ∧
       (s.debug = true → ∃ t r, exec (.captureEnd k) s = .next t ∧ t = { s with recorder := t.recorder, out := t.out } ∧ vget t.recorder.captures none k = none ∧
         r.note.type = 0x0E00 + k.val ∧ r.rseq = s.recorder.tMade + 1 ∧ t.recorder.tMade = s.recorder.tMade + 1 ∧
         r.note.payload = le 1 c.cause ++ le 1 (num c.set_ 2 1) ++ zeros 6 ++ le 8 c.rseq ++ c.values ∧
         (s.recorder.tFrozen = false → t.recorder.snaps = newestFit 262144 (s.recorder.snaps ++ [r])) ∧
         (s.recorder.tFrozen = true → t.recorder.snaps = s.recorder.snaps ∧ t.recorder.tLost = min (s.recorder.tLost + 1) 0xFFFFFFFF) ∧
         (bit (num c.set_ 0 1) 1 = true → t.recorder.eFrozen = true ∧ t.recorder.tFrozen = true) ∧
         (bit (num c.set_ 0 1) 1 = false → t.recorder.eFrozen = s.recorder.eFrozen ∧ t.recorder.tFrozen = s.recorder.tFrozen)))

/-- Staging: BEGIN erases the slot that staging targets and its settings area, behind the settings flush it starts; ERASE_DONE leaves the area erased and opens the
stage for blocks; IMAGE_BLOCK programs exactly its bytes; VERIFY of a whole image starts verification, whose end is STAGED exactly when every check of R383
passes, else FAILED with the first failing check's error; without a usable identity it fails, and while the generator does not serve it waits; CANCEL ends a
stage with the slot erased (04 R99; 12 R320; 15 R383 to R385). The erase behind the flush is the model's reading (log 47), REFUSED_STATE for a block that the
flash does not program, STAGE_ERROR cleared by BEGIN and error 9 without an identity are too (log 37). ARM of a staged image writes its boot key record, with
the content key, and a control record with a trial of it, or in RECOVERY one that confirms it; where the flash does not take them staging fails with FLASH;
CONFIRM of a running trial confirms its slot, burns its REVOKE but its own key and raises MIN_SVN to its SVN; DISARM ends a trial, and a running one writes
IMAGE_FALLBACK. Each writes its control record, SEQ one higher, to the copy that does not hold the newest (15 R379, R381, R382, R384, R387 to R390). That a
flash write which is not taken makes ARM fail staging is the model's reading (log 47). -/
def Obligations.ImagesAreStagedArmedAndConfirmed : Prop :=
  (∀ (s : State) (p : Path), s.board.phase = .ready → s.pathIdle p = true →
     let x := s.image
     let b := s.stageSlot
     let held := fun (y : Image) => y.copy0 = x.copy0 ∧ y.copy1 = x.copy1 ∧ y.slot (!b) = x.slot (!b) ∧ y.minSvn = x.minSvn ∧ y.revoked = x.revoked ∧ y.running = x.running
     let kept := fun (t : State) => t = { s with dict := t.dict, image := t.image, out := t.out } ∧ held t.image
     ((x.stage = 0 ∨ x.stage = 4 ∨ x.stage = 5) → x.trialState = 0 → 8192 ≤ s.stageLength → s.stageLength ≤ 16773120 →
       ∃ t, exec (.begin p) s = .next t ∧ kept t ∧ t.out.reply = 0 ∧ t.image.stage = 1 ∧ t.image.error = 0 ∧ t.image.slot b = FlashSlot.erased ∧
         t.dict.areas.get (slotSide b) = Area.erased ∧ t.dict.areas.get (slotSide (!b)) = s.dict.areas.get (slotSide (!b))) ∧
     (x.stage = 1 → (∃ t, exec (.eraseDone true) s = .next t ∧ t = { s with image := { x with stage := 2, blocks := [], received := 0, staged := [] }, dict := t.dict } ∧
         t.dict.areas.get (slotSide b) = Area.erased ∧ t.dict.values = s.dict.values ∧
         (s.dict.flushing = false → t.dict = { s.dict with areas := s.dict.areas.set (slotSide b) Area.erased }) ∧
         (s.dict.flushing = true → t.dict.flushing = s.dict.flushAgain ∧ ∀ u ∈ t.dict.unflushed, s.dict.flushJseq < u.1)) ∧
       exec (.eraseDone false) s = .next { s with image := { x with stage := 5, error := 1 } }) ∧
     (∀ (o : BitVec 32) (d : Bytes), x.stage = 2 → o.toNat % 4096 = 0 → o.toNat < s.stageLength → d.length = min 4096 (s.stageLength - o.toNat) → s.dict.flushing = false →
       s.dict.journalBlocks = false → x.blocks.contains (o.toNat / 4096) = false →
       (∃ t, exec (.imageBlock p o d true) s = .next t ∧ kept t ∧ t.out.reply = 0 ∧ t.image.stage = 2 ∧ t.image.blocks = x.blocks ++ [o.toNat / 4096] ∧
         t.image.received = x.received + d.length ∧
         ∀ a, Sparse.get Image.blank t.image.staged a = if o.toNat ≤ a ∧ a < o.toNat + d.length then d.getD (a - o.toNat) 0 else Sparse.get Image.blank x.staged a) ∧
       exec (.imageBlock p o d false) s = .next ({ s with image := { x with stage := 5, error := 1 } }.reply 6)) ∧
     (x.stage = 2 → x.blocks.length = s.blockCount → ∃ t, exec (.verify p) s = .next t ∧ kept t ∧ t.out.reply = 0 ∧ t.image = { x with stage := 3 }) ∧
     (x.stage = 3 → let img := s.stagedBytes
       let fails := fun e => { s with image := { x with stage := 5, error := e } }
       (∀ e, s.imageFault img s.stageLength = some e → exec .stageVerifyDone s = .next (fails e)) ∧
       (s.imageFault img s.stageLength = none →
         (s.ident.state ≠ 1 → exec .stageVerifyDone s = .next (fails 9)) ∧ (s.ident.state = 1 → s.rotServes = false → exec .stageVerifyDone s = .next s) ∧
         (s.ident.state = 1 → s.rotServes = true → ∃ t, exec .stageVerifyDone s = .next t ∧ held t.image ∧ t = { s with image := t.image, noise := t.noise, out := t.out } ∧
           t.noise = { s.noise with rotOutputs := t.noise.rotOutputs } ∧ min s.noise.rotOutputs 0xFFFFFFFF ≤ t.noise.rotOutputs ∧
           (contentKey img = none → t.image = { x with stage := 5, error := 7 }) ∧
           ∀ k, contentKey img = some k →
             (contentOk img k = false → t.image = { x with stage := 5, error := 8 }) ∧
             (contentOk img k = true → t.image.stage = 4 ∧ t.image.error = 0 ∧ t.image.slot b = { image := some (imageInfo img), bootKey := none, damaged := false } ∧
               t.image.held = some (imageInfo img, k))))) ∧
     (x.stage ≠ 0 → ∃ t, exec (.cancel p) s = .next t ∧ kept t ∧ t.out.reply = 0 ∧ t.image.stage = 0 ∧ t.image.slot b = FlashSlot.erased)) ∧
  (∀ (s : State) (p : Path), s.board.phase = .ready → s.pathIdle p = true → s.image.control.seq + 1 < 2 ^ 32 →
     let x := s.image
     let b := s.stageSlot
     let answered := fun (t : State) => t.out.reply = 0 ∧ t = { s with dict := t.dict, image := t.image, recorder := t.recorder, out := t.out }
     let wrote := fun (t : State) (confirmed : Bool) (trial : Option Bool) (window : Nat) =>
       let v : Control := { seq := x.control.seq + 1, confirmed := confirmed, trial := trial, count := 0, window := window }
       t.image.control = v ∧ (t.image.copy0 = some v ∧ t.image.copy1 = x.copy1 ∨ t.image.copy1 = some v ∧ t.image.copy0 = x.copy0) ∧
         (x.copy0 ≠ none ∨ x.copy1 ≠ none → t.image.copy0 = some x.control ∨ t.image.copy1 = some x.control)
     (x.stage = 4 →
       (∃ t, exec (.arm ⟨p, true⟩) s = .next t ∧ answered t ∧ t.recorder = s.recorder ∧ t.image.stage = 0 ∧ t.image.held = none ∧
         t.image.slot b = { image := x.held.map fun h => h.1, bootKey := x.held.map fun h => h.2, damaged := false } ∧ t.image.slot (!b) = x.slot (!b) ∧
         (if s.start.state = 4 then wrote t b none 0 else wrote t x.control.confirmed (some b) (s.entry 0x1100 0x06))) ∧
       ∃ t, exec (.arm ⟨p, false⟩) s = .next t ∧ answered t ∧ t.recorder = s.recorder ∧ t.image = { x with stage := 5, error := 1 }) ∧
     (∀ c i, x.control.trial = some c → x.trialRunning = true → s.start.state = 1 ∨ s.start.state = 2 ∨ s.start.state = 3 → (x.slot c).image = some i →
       ∃ t, exec (.confirm p) s = .next t ∧ answered t ∧ t.recorder = s.recorder ∧ wrote t c none 0 ∧ t.image.trialRunning = false ∧
         t.image.slotA = x.slotA ∧ t.image.slotB = x.slotB ∧ t.image.minSvn = min 64 (max x.minSvn i.svn) ∧
         ∀ k < 4, t.image.revoked.getLsbD k = (x.revoked.getLsbD k || (i.revoke.getLsbD k && k ≠ i.keyIndex))) ∧
     ∀ c, x.control.trial = some c →
       ∃ t, exec (.disarm p) s = .next t ∧ answered t ∧ wrote t x.control.confirmed none 0 ∧ t.image.trialRunning = false ∧
         t.image.slotA = x.slotA ∧ t.image.slotB = x.slotB ∧ (x.trialRunning = false → t.recorder = s.recorder) ∧
         (x.trialRunning = true → ∃ n, t.recorder.inbox = s.recorder.inbox ++ [n] ∧ n.type = 0x0B06))

end
end

