-- ==== Sys2Proof/Laws/Sparse.lean ====
section
/-!
SUPPORT. What the sparse tables behind every memory can do: what a replacement leaves to read, that it keeps the canonical form, and that equal tables of that form
read alike.
-/
namespace Sys2Proof.Machine

@[simp] theorem Sparse.get_nil {α : Type} (d : α) (i : Nat) : Sparse.get d [] i = d := rfl

/-- The canonical form: no listed value is the default, and the keys rise. -/
theorem Sparse.wf_iff {α : Type} [DecidableEq α] (d : α) (m : Sparse α) :
    Sparse.wf d m = true ↔ (∀ c ∈ m, c.2 ≠ d) ∧ m.Pairwise fun a b => a.1 < b.1 := by
  induction m with
  | nil => simp [Sparse.wf]
  | cons c r ih =>
    obtain ⟨k, v⟩ := c
    cases r with
    | nil => simp [Sparse.wf]
    | cons c' r' =>
      obtain ⟨k', v'⟩ := c'
      rw [Sparse.wf]
      simp only [Bool.and_eq_true, decide_eq_true_eq, ih, List.mem_cons, List.pairwise_cons, forall_eq_or_imp]
      refine ⟨fun ⟨⟨h1, h2⟩, ⟨h3, h4⟩, h5, h6⟩ => ⟨⟨h1, h3, h4⟩, ⟨h2, fun b hb => h2.trans (h5 b hb)⟩, h5, h6⟩,
        fun ⟨⟨h1, h3, h4⟩, ⟨h2, _⟩, h5, h6⟩ => ⟨⟨h1, h2⟩, ⟨h3, h4⟩, h5, h6⟩⟩

theorem Sparse.get_append {α : Type} (d : α) (a b : Sparse α) (i : Nat) :
    Sparse.get d (a ++ b) i = if (∃ c ∈ a, c.1 = i) then Sparse.get d a i else Sparse.get d b i := by
  induction a with
  | nil => simp
  | cons c r ih =>
    obtain ⟨k, v⟩ := c
    by_cases h : k = i
    · simp [Sparse.get, h]
    · rw [List.cons_append, Sparse.get, if_neg h, ih, Sparse.get, if_neg h]
      simp only [List.mem_cons, exists_eq_or_imp, h, false_or]

theorem Sparse.get_of_not_mem {α : Type} (d : α) (a : Sparse α) (i : Nat) (h : ∀ c ∈ a, c.1 ≠ i) : Sparse.get d a i = d := by
  induction a with
  | nil => rfl
  | cons c r ih =>
    rw [Sparse.get, if_neg (h c (by simp)), ih fun x hx => h x (by simp [hx])]

/-- Dropping entries of other keys does not change what a key reads. -/
theorem Sparse.get_filter {α : Type} (d : α) (a : Sparse α) (p : Nat → Bool) (i : Nat) :
    Sparse.get d (a.filter fun c => p c.1) i = if p i then Sparse.get d a i else d := by
  induction a with
  | nil => simp
  | cons c r ih =>
    obtain ⟨k, v⟩ := c
    by_cases hk : p k = true
    · rw [List.filter_cons_of_pos (by simpa using hk), Sparse.get, Sparse.get]
      by_cases h : k = i
      · subst h; simp [hk]
      · simp [h, ih]
    · rw [List.filter_cons_of_neg (by simpa using hk), ih, Sparse.get]
      by_cases h : k = i
      · subst h; simp [hk]
      · simp [h]

/-- What a run of fresh entries reads as. -/
theorem Sparse.get_fresh {α : Type} [DecidableEq α] (d : α) (base len : Nat) (f : Nat → α) (i : Nat) :
    Sparse.get d ((List.range len).filterMap fun k => let v := f k; if v = d then none else some (base + k, v)) i =
      if base ≤ i ∧ i < base + len then f (i - base) else d := by
  induction len with
  | zero =>
    rw [if_neg (by omega)]
    rfl
  | succ n ih =>
    rw [List.range_succ, List.filterMap_append, Sparse.get_append, ih]
    split
    · obtain ⟨c, hc, rfl⟩ := ‹_›
      obtain ⟨k, hk, he⟩ := List.mem_filterMap.1 hc
      have hk := List.mem_range.1 hk
      dsimp only at he
      split at he
      · cases he
      · cases he
        rw [if_pos (by omega), if_pos (by dsimp only; omega)]
    · rename_i hn
      by_cases hi : i = base + n
      · subst hi
        by_cases hv : f n = d
        · simp [hv]
        · simp [hv, Sparse.get]
      · have : Sparse.get d (List.filterMap (fun k => let v := f k; if v = d then none else some (base + k, v)) [n]) i = d := by
          apply Sparse.get_of_not_mem
          intro c hc
          obtain ⟨k, hk, he⟩ := List.mem_filterMap.1 hc
          have hk : k = n := by simpa using hk
          dsimp only at he
          split at he
          · cases he
          · cases he; subst hk; exact fun h => hi h.symm
        rw [this]
        by_cases hr : base ≤ i ∧ i < base + n
        · rw [if_pos (by omega)]
          by_contra hc
          refine hn ⟨(i, f (i - base)), List.mem_filterMap.2 ⟨i - base, List.mem_range.2 (by omega), ?_⟩, rfl⟩
          dsimp only
          rw [if_neg (fun h => hc h.symm), Nat.add_sub_cancel' hr.1]
        · rw [if_neg (by omega)]

/-- Read after write: the replaced entries read as written, every other key as before. -/
theorem Sparse.get_replace {α : Type} [DecidableEq α] (d : α) (m : Sparse α) (base len : Nat) (f : Nat → α) (i : Nat) :
    Sparse.get d (Sparse.replace d m base len f) i = if base ≤ i ∧ i < base + len then f (i - base) else Sparse.get d m i := by
  rw [Sparse.replace, List.append_assoc, Sparse.get_append, Sparse.get_append, Sparse.get_fresh,
    Sparse.get_filter d m (fun k => decide (k < base)), Sparse.get_filter d m (fun k => decide (base + len ≤ k))]
  by_cases h1 : i < base
  · simp only [if_neg (by omega : ¬(base ≤ i ∧ i < base + len)), h1, decide_true, if_true]
    split
    · rfl
    · rename_i hn
      have hg : Sparse.get d m i = d := Sparse.get_of_not_mem d m i fun c hc he => hn ⟨c, List.mem_filter.2 ⟨hc, by simpa [he] using h1⟩, he⟩
      split
      · exact hg.symm
      · rw [if_neg (by simp; omega)]; exact hg.symm
  · rw [if_neg (by
      rintro ⟨c, hc, rfl⟩
      exact h1 (by simpa using (List.mem_filter.1 hc).2))]
    by_cases h2 : i < base + len
    · simp only [if_pos (⟨by omega, h2⟩ : base ≤ i ∧ i < base + len)]
      split
      · rfl
      · rename_i hn
        rw [if_neg (by simp; omega)]
        by_contra hc
        refine hn ⟨(i, f (i - base)), List.mem_filterMap.2 ⟨i - base, List.mem_range.2 (by omega), ?_⟩, rfl⟩
        rw [if_neg (fun h => hc h.symm), Nat.add_sub_cancel' (by omega)]
    · simp only [if_neg (by omega : ¬(base ≤ i ∧ i < base + len))]
      rw [if_neg (by
        rintro ⟨c, hc, rfl⟩
        obtain ⟨k, hk, he⟩ := List.mem_filterMap.1 hc
        have hk := List.mem_range.1 hk
        split at he
        · cases he
        · cases he; exact h2 (by dsimp only; omega)), if_pos (by simp; omega)]

/-- A replacement keeps the canonical form. -/
theorem Sparse.wf_replace {α : Type} [DecidableEq α] (d : α) (m : Sparse α) (base len : Nat) (f : Nat → α) (h : Sparse.wf d m = true) :
    Sparse.wf d (Sparse.replace d m base len f) = true := by
  rw [Sparse.wf_iff] at h ⊢
  obtain ⟨hv, hp⟩ := h
  have fresh : ∀ c ∈ (List.range len).filterMap (fun k => let v := f k; if v = d then none else some (base + k, v)),
      c.2 ≠ d ∧ base ≤ c.1 ∧ c.1 < base + len := by
    intro c hc
    obtain ⟨k, hk, he⟩ := List.mem_filterMap.1 hc
    have hk := List.mem_range.1 hk
    dsimp only at he
    split at he
    · cases he
    · cases he; exact ⟨‹_›, by dsimp only; omega, by dsimp only; omega⟩
  rw [Sparse.replace]
  refine ⟨fun c hc => ?_, ?_⟩
  · rcases List.mem_append.1 hc with hc | hc
    · rcases List.mem_append.1 hc with hc | hc
      · exact hv c (List.mem_filter.1 hc).1
      · exact (fresh c hc).1
    · exact hv c (List.mem_filter.1 hc).1
  · rw [List.pairwise_append, List.pairwise_append]
    refine ⟨⟨hp.filter _, ?_, ?_⟩, hp.filter _, ?_⟩
    · refine List.Pairwise.filterMap (R := fun a b : Nat => a < b) _ ?_ List.pairwise_lt_range
      intro a b hab c hc c' hc'
      dsimp only at hc hc'
      split at hc
      · cases hc
      · split at hc'
        · cases hc'
        · cases hc; cases hc'; dsimp only; omega
    · intro a ha b hb
      have h1 : a.1 < base := by simpa using (List.mem_filter.1 ha).2
      have := (fresh b hb).2.1
      omega
    · intro a ha b hb
      have h1 : base + len ≤ b.1 := by simpa using (List.mem_filter.1 hb).2
      rcases List.mem_append.1 ha with ha | ha
      · have h2 : a.1 < base := by simpa using (List.mem_filter.1 ha).2
        omega
      · have := (fresh a ha).2.2
        omega

/-- Tables of canonical form that read alike are equal. -/
theorem Sparse.ext_get {α : Type} [DecidableEq α] (d : α) (m n : Sparse α) (hm : Sparse.wf d m = true) (hn : Sparse.wf d n = true)
    (h : ∀ i, Sparse.get d m i = Sparse.get d n i) : m = n := by
  rw [Sparse.wf_iff] at hm hn
  induction m generalizing n with
  | nil =>
    cases n with
    | nil => rfl
    | cons c r =>
      obtain ⟨k, v⟩ := c
      exact absurd (h k).symm (by simpa [Sparse.get] using hn.1 (k, v) (by simp))
  | cons c r ih =>
    obtain ⟨k, v⟩ := c
    cases n with
    | nil => exact absurd (h k) (by simpa [Sparse.get] using hm.1 (k, v) (by simp))
    | cons c' r' =>
      obtain ⟨k', v'⟩ := c'
      have hp := List.pairwise_cons.1 hm.2
      have hq := List.pairwise_cons.1 hn.2
      have blank : ∀ (l : Sparse α) (b j : Nat), (∀ x ∈ l, b < x.1) → j ≤ b → Sparse.get d l j = d := fun l b j hl hj =>
        Sparse.get_of_not_mem d l j fun x hx he => by have := hl x hx; omega
      have hk : k = k' := by
        rcases Nat.lt_trichotomy k k' with hlt | heq | hgt
        · have h1 := h k
          rw [Sparse.get, if_pos rfl, Sparse.get, if_neg (by omega), blank r' k' k hq.1 (by omega)] at h1
          exact absurd h1 (hm.1 (k, v) (by simp))
        · exact heq
        · have h1 := h k'
          rw [Sparse.get, if_neg (by omega), blank r k k' hp.1 (by omega), Sparse.get, if_pos rfl] at h1
          exact absurd h1.symm (hn.1 (k', v') (by simp))
      subst hk
      have hv : v = v' := by simpa [Sparse.get] using h k
      subst hv
      rw [ih r' ⟨fun x hx => hm.1 x (by simp [hx]), hp.2⟩ ⟨fun x hx => hn.1 x (by simp [hx]), hq.2⟩ fun i => ?_]
      by_cases hi : k = i
      · subst hi
        rw [blank r k k hp.1 (le_refl _), blank r' k k hq.1 (le_refl _)]
      · simpa [Sparse.get, hi] using h i

end Sys2Proof.Machine
end

