-- ==== Sys2Proof/Laws/State.lean ====
section
/-!
SUPPORT. One lemma per field of State per named update: what the field holds after it. All true by unfolding the update, so that no later proof unfolds a record.
-/
namespace Sys2Proof.Machine

@[simp] theorem State.modRing_pending (s : State) (i : Nat) (f : Ring → Ring) : (s.modRing i f).pending = s.pending := rfl
@[simp] theorem State.modRing_board (s : State) (i : Nat) (f : Ring → Ring) : (s.modRing i f).board = s.board := rfl
@[simp] theorem State.modRing_functions (s : State) (i : Nat) (f : Ring → Ring) : (s.modRing i f).functions = s.functions := rfl
@[simp] theorem State.modRing_vfEnable (s : State) (i : Nat) (f : Ring → Ring) : (s.modRing i f).vfEnable = s.vfEnable := rfl
@[simp] theorem State.modRing_ari (s : State) (i : Nat) (f : Ring → Ring) : (s.modRing i f).ari = s.ari := rfl
@[simp] theorem State.modRing_numVfs (s : State) (i : Nat) (f : Ring → Ring) : (s.modRing i f).numVfs = s.numVfs := rfl
@[simp] theorem State.modRing_pcie (s : State) (i : Nat) (f : Ring → Ring) : (s.modRing i f).pcie = s.pcie := rfl
@[simp] theorem State.modRing_rings (s : State) (i : Nat) (f : Ring → Ring) : (s.modRing i f).rings = vmod s.rings i f := rfl
@[simp] theorem State.modRing_dispatcher (s : State) (i : Nat) (f : Ring → Ring) : (s.modRing i f).dispatcher = s.dispatcher := rfl
@[simp] theorem State.modRing_distaffs (s : State) (i : Nat) (f : Ring → Ring) : (s.modRing i f).distaffs = s.distaffs := rfl
@[simp] theorem State.modRing_units (s : State) (i : Nat) (f : Ring → Ring) : (s.modRing i f).units = s.units := rfl
@[simp] theorem State.modRing_mem (s : State) (i : Nat) (f : Ring → Ring) : (s.modRing i f).mem = s.mem := rfl
@[simp] theorem State.modRing_noise (s : State) (i : Nat) (f : Ring → Ring) : (s.modRing i f).noise = s.noise := rfl
@[simp] theorem State.modRing_anneal (s : State) (i : Nat) (f : Ring → Ring) : (s.modRing i f).anneal = s.anneal := rfl
@[simp] theorem State.modRing_steward (s : State) (i : Nat) (f : Ring → Ring) : (s.modRing i f).steward = s.steward := rfl
@[simp] theorem State.modRing_dict (s : State) (i : Nat) (f : Ring → Ring) : (s.modRing i f).dict = s.dict := rfl
@[simp] theorem State.modRing_recorder (s : State) (i : Nat) (f : Ring → Ring) : (s.modRing i f).recorder = s.recorder := rfl
@[simp] theorem State.modRing_keep (s : State) (i : Nat) (f : Ring → Ring) : (s.modRing i f).keep = s.keep := rfl
@[simp] theorem State.modRing_ident (s : State) (i : Nat) (f : Ring → Ring) : (s.modRing i f).ident = s.ident := rfl
@[simp] theorem State.modRing_image (s : State) (i : Nat) (f : Ring → Ring) : (s.modRing i f).image = s.image := rfl
@[simp] theorem State.modRing_start (s : State) (i : Nat) (f : Ring → Ring) : (s.modRing i f).start = s.start := rfl
@[simp] theorem State.modRing_out (s : State) (i : Nat) (f : Ring → Ring) : (s.modRing i f).out = s.out := rfl

@[simp] theorem State.modDistaff_pending (s : State) (i : Nat) (f : Distaff → Distaff) : (s.modDistaff i f).pending = s.pending := rfl
@[simp] theorem State.modDistaff_board (s : State) (i : Nat) (f : Distaff → Distaff) : (s.modDistaff i f).board = s.board := rfl
@[simp] theorem State.modDistaff_functions (s : State) (i : Nat) (f : Distaff → Distaff) : (s.modDistaff i f).functions = s.functions := rfl
@[simp] theorem State.modDistaff_vfEnable (s : State) (i : Nat) (f : Distaff → Distaff) : (s.modDistaff i f).vfEnable = s.vfEnable := rfl
@[simp] theorem State.modDistaff_ari (s : State) (i : Nat) (f : Distaff → Distaff) : (s.modDistaff i f).ari = s.ari := rfl
@[simp] theorem State.modDistaff_numVfs (s : State) (i : Nat) (f : Distaff → Distaff) : (s.modDistaff i f).numVfs = s.numVfs := rfl
@[simp] theorem State.modDistaff_pcie (s : State) (i : Nat) (f : Distaff → Distaff) : (s.modDistaff i f).pcie = s.pcie := rfl
@[simp] theorem State.modDistaff_rings (s : State) (i : Nat) (f : Distaff → Distaff) : (s.modDistaff i f).rings = s.rings := rfl
@[simp] theorem State.modDistaff_dispatcher (s : State) (i : Nat) (f : Distaff → Distaff) : (s.modDistaff i f).dispatcher = s.dispatcher := rfl
@[simp] theorem State.modDistaff_distaffs (s : State) (i : Nat) (f : Distaff → Distaff) : (s.modDistaff i f).distaffs = vmod s.distaffs i f := rfl
@[simp] theorem State.modDistaff_units (s : State) (i : Nat) (f : Distaff → Distaff) : (s.modDistaff i f).units = s.units := rfl
@[simp] theorem State.modDistaff_mem (s : State) (i : Nat) (f : Distaff → Distaff) : (s.modDistaff i f).mem = s.mem := rfl
@[simp] theorem State.modDistaff_noise (s : State) (i : Nat) (f : Distaff → Distaff) : (s.modDistaff i f).noise = s.noise := rfl
@[simp] theorem State.modDistaff_anneal (s : State) (i : Nat) (f : Distaff → Distaff) : (s.modDistaff i f).anneal = s.anneal := rfl
@[simp] theorem State.modDistaff_steward (s : State) (i : Nat) (f : Distaff → Distaff) : (s.modDistaff i f).steward = s.steward := rfl
@[simp] theorem State.modDistaff_dict (s : State) (i : Nat) (f : Distaff → Distaff) : (s.modDistaff i f).dict = s.dict := rfl
@[simp] theorem State.modDistaff_recorder (s : State) (i : Nat) (f : Distaff → Distaff) : (s.modDistaff i f).recorder = s.recorder := rfl
@[simp] theorem State.modDistaff_keep (s : State) (i : Nat) (f : Distaff → Distaff) : (s.modDistaff i f).keep = s.keep := rfl
@[simp] theorem State.modDistaff_ident (s : State) (i : Nat) (f : Distaff → Distaff) : (s.modDistaff i f).ident = s.ident := rfl
@[simp] theorem State.modDistaff_image (s : State) (i : Nat) (f : Distaff → Distaff) : (s.modDistaff i f).image = s.image := rfl
@[simp] theorem State.modDistaff_start (s : State) (i : Nat) (f : Distaff → Distaff) : (s.modDistaff i f).start = s.start := rfl
@[simp] theorem State.modDistaff_out (s : State) (i : Nat) (f : Distaff → Distaff) : (s.modDistaff i f).out = s.out := rfl

@[simp] theorem State.setRun_pending (s : State) (i : Nat) (r : Option Run) : (s.setRun i r).pending = s.pending := rfl
@[simp] theorem State.setRun_board (s : State) (i : Nat) (r : Option Run) : (s.setRun i r).board = s.board := rfl
@[simp] theorem State.setRun_functions (s : State) (i : Nat) (r : Option Run) : (s.setRun i r).functions = s.functions := rfl
@[simp] theorem State.setRun_vfEnable (s : State) (i : Nat) (r : Option Run) : (s.setRun i r).vfEnable = s.vfEnable := rfl
@[simp] theorem State.setRun_ari (s : State) (i : Nat) (r : Option Run) : (s.setRun i r).ari = s.ari := rfl
@[simp] theorem State.setRun_numVfs (s : State) (i : Nat) (r : Option Run) : (s.setRun i r).numVfs = s.numVfs := rfl
@[simp] theorem State.setRun_pcie (s : State) (i : Nat) (r : Option Run) : (s.setRun i r).pcie = s.pcie := rfl
@[simp] theorem State.setRun_rings (s : State) (i : Nat) (r : Option Run) : (s.setRun i r).rings = s.rings := rfl
@[simp] theorem State.setRun_dispatcher (s : State) (i : Nat) (r : Option Run) : (s.setRun i r).dispatcher = s.dispatcher := rfl
@[simp] theorem State.setRun_units (s : State) (i : Nat) (r : Option Run) : (s.setRun i r).units = s.units := rfl
@[simp] theorem State.setRun_mem (s : State) (i : Nat) (r : Option Run) : (s.setRun i r).mem = s.mem := rfl
@[simp] theorem State.setRun_noise (s : State) (i : Nat) (r : Option Run) : (s.setRun i r).noise = s.noise := rfl
@[simp] theorem State.setRun_anneal (s : State) (i : Nat) (r : Option Run) : (s.setRun i r).anneal = s.anneal := rfl
@[simp] theorem State.setRun_steward (s : State) (i : Nat) (r : Option Run) : (s.setRun i r).steward = s.steward := rfl
@[simp] theorem State.setRun_dict (s : State) (i : Nat) (r : Option Run) : (s.setRun i r).dict = s.dict := rfl
@[simp] theorem State.setRun_recorder (s : State) (i : Nat) (r : Option Run) : (s.setRun i r).recorder = s.recorder := rfl
@[simp] theorem State.setRun_keep (s : State) (i : Nat) (r : Option Run) : (s.setRun i r).keep = s.keep := rfl
@[simp] theorem State.setRun_ident (s : State) (i : Nat) (r : Option Run) : (s.setRun i r).ident = s.ident := rfl
@[simp] theorem State.setRun_image (s : State) (i : Nat) (r : Option Run) : (s.setRun i r).image = s.image := rfl
@[simp] theorem State.setRun_start (s : State) (i : Nat) (r : Option Run) : (s.setRun i r).start = s.start := rfl
@[simp] theorem State.setRun_out (s : State) (i : Nat) (r : Option Run) : (s.setRun i r).out = s.out := rfl

@[simp] theorem State.modRun_pending (s : State) (i : Nat) (f : Run → Run) : (s.modRun i f).pending = s.pending := rfl
@[simp] theorem State.modRun_board (s : State) (i : Nat) (f : Run → Run) : (s.modRun i f).board = s.board := rfl
@[simp] theorem State.modRun_functions (s : State) (i : Nat) (f : Run → Run) : (s.modRun i f).functions = s.functions := rfl
@[simp] theorem State.modRun_vfEnable (s : State) (i : Nat) (f : Run → Run) : (s.modRun i f).vfEnable = s.vfEnable := rfl
@[simp] theorem State.modRun_ari (s : State) (i : Nat) (f : Run → Run) : (s.modRun i f).ari = s.ari := rfl
@[simp] theorem State.modRun_numVfs (s : State) (i : Nat) (f : Run → Run) : (s.modRun i f).numVfs = s.numVfs := rfl
@[simp] theorem State.modRun_pcie (s : State) (i : Nat) (f : Run → Run) : (s.modRun i f).pcie = s.pcie := rfl
@[simp] theorem State.modRun_rings (s : State) (i : Nat) (f : Run → Run) : (s.modRun i f).rings = s.rings := rfl
@[simp] theorem State.modRun_dispatcher (s : State) (i : Nat) (f : Run → Run) : (s.modRun i f).dispatcher = s.dispatcher := rfl
@[simp] theorem State.modRun_units (s : State) (i : Nat) (f : Run → Run) : (s.modRun i f).units = s.units := rfl
@[simp] theorem State.modRun_mem (s : State) (i : Nat) (f : Run → Run) : (s.modRun i f).mem = s.mem := rfl
@[simp] theorem State.modRun_noise (s : State) (i : Nat) (f : Run → Run) : (s.modRun i f).noise = s.noise := rfl
@[simp] theorem State.modRun_anneal (s : State) (i : Nat) (f : Run → Run) : (s.modRun i f).anneal = s.anneal := rfl
@[simp] theorem State.modRun_steward (s : State) (i : Nat) (f : Run → Run) : (s.modRun i f).steward = s.steward := rfl
@[simp] theorem State.modRun_dict (s : State) (i : Nat) (f : Run → Run) : (s.modRun i f).dict = s.dict := rfl
@[simp] theorem State.modRun_recorder (s : State) (i : Nat) (f : Run → Run) : (s.modRun i f).recorder = s.recorder := rfl
@[simp] theorem State.modRun_keep (s : State) (i : Nat) (f : Run → Run) : (s.modRun i f).keep = s.keep := rfl
@[simp] theorem State.modRun_ident (s : State) (i : Nat) (f : Run → Run) : (s.modRun i f).ident = s.ident := rfl
@[simp] theorem State.modRun_image (s : State) (i : Nat) (f : Run → Run) : (s.modRun i f).image = s.image := rfl
@[simp] theorem State.modRun_start (s : State) (i : Nat) (f : Run → Run) : (s.modRun i f).start = s.start := rfl
@[simp] theorem State.modRun_out (s : State) (i : Nat) (f : Run → Run) : (s.modRun i f).out = s.out := rfl

@[simp] theorem State.modIssued_pending (s : State) (i k : Nat) (f : Issued → Issued) : (s.modIssued i k f).pending = s.pending := rfl
@[simp] theorem State.modIssued_board (s : State) (i k : Nat) (f : Issued → Issued) : (s.modIssued i k f).board = s.board := rfl
@[simp] theorem State.modIssued_functions (s : State) (i k : Nat) (f : Issued → Issued) : (s.modIssued i k f).functions = s.functions := rfl
@[simp] theorem State.modIssued_vfEnable (s : State) (i k : Nat) (f : Issued → Issued) : (s.modIssued i k f).vfEnable = s.vfEnable := rfl
@[simp] theorem State.modIssued_ari (s : State) (i k : Nat) (f : Issued → Issued) : (s.modIssued i k f).ari = s.ari := rfl
@[simp] theorem State.modIssued_numVfs (s : State) (i k : Nat) (f : Issued → Issued) : (s.modIssued i k f).numVfs = s.numVfs := rfl
@[simp] theorem State.modIssued_pcie (s : State) (i k : Nat) (f : Issued → Issued) : (s.modIssued i k f).pcie = s.pcie := rfl
@[simp] theorem State.modIssued_rings (s : State) (i k : Nat) (f : Issued → Issued) : (s.modIssued i k f).rings = s.rings := rfl
@[simp] theorem State.modIssued_dispatcher (s : State) (i k : Nat) (f : Issued → Issued) : (s.modIssued i k f).dispatcher = s.dispatcher := rfl
@[simp] theorem State.modIssued_units (s : State) (i k : Nat) (f : Issued → Issued) : (s.modIssued i k f).units = s.units := rfl
@[simp] theorem State.modIssued_mem (s : State) (i k : Nat) (f : Issued → Issued) : (s.modIssued i k f).mem = s.mem := rfl
@[simp] theorem State.modIssued_noise (s : State) (i k : Nat) (f : Issued → Issued) : (s.modIssued i k f).noise = s.noise := rfl
@[simp] theorem State.modIssued_anneal (s : State) (i k : Nat) (f : Issued → Issued) : (s.modIssued i k f).anneal = s.anneal := rfl
@[simp] theorem State.modIssued_steward (s : State) (i k : Nat) (f : Issued → Issued) : (s.modIssued i k f).steward = s.steward := rfl
@[simp] theorem State.modIssued_dict (s : State) (i k : Nat) (f : Issued → Issued) : (s.modIssued i k f).dict = s.dict := rfl
@[simp] theorem State.modIssued_recorder (s : State) (i k : Nat) (f : Issued → Issued) : (s.modIssued i k f).recorder = s.recorder := rfl
@[simp] theorem State.modIssued_keep (s : State) (i k : Nat) (f : Issued → Issued) : (s.modIssued i k f).keep = s.keep := rfl
@[simp] theorem State.modIssued_ident (s : State) (i k : Nat) (f : Issued → Issued) : (s.modIssued i k f).ident = s.ident := rfl
@[simp] theorem State.modIssued_image (s : State) (i k : Nat) (f : Issued → Issued) : (s.modIssued i k f).image = s.image := rfl
@[simp] theorem State.modIssued_start (s : State) (i k : Nat) (f : Issued → Issued) : (s.modIssued i k f).start = s.start := rfl
@[simp] theorem State.modIssued_out (s : State) (i k : Nat) (f : Issued → Issued) : (s.modIssued i k f).out = s.out := rfl

@[simp] theorem State.modSpindle_pending (s : State) (i : Nat) (f : Spindle → Spindle) : (s.modSpindle i f).pending = s.pending := rfl
@[simp] theorem State.modSpindle_board (s : State) (i : Nat) (f : Spindle → Spindle) : (s.modSpindle i f).board = s.board := rfl
@[simp] theorem State.modSpindle_functions (s : State) (i : Nat) (f : Spindle → Spindle) : (s.modSpindle i f).functions = s.functions := rfl
@[simp] theorem State.modSpindle_vfEnable (s : State) (i : Nat) (f : Spindle → Spindle) : (s.modSpindle i f).vfEnable = s.vfEnable := rfl
@[simp] theorem State.modSpindle_ari (s : State) (i : Nat) (f : Spindle → Spindle) : (s.modSpindle i f).ari = s.ari := rfl
@[simp] theorem State.modSpindle_numVfs (s : State) (i : Nat) (f : Spindle → Spindle) : (s.modSpindle i f).numVfs = s.numVfs := rfl
@[simp] theorem State.modSpindle_pcie (s : State) (i : Nat) (f : Spindle → Spindle) : (s.modSpindle i f).pcie = s.pcie := rfl
@[simp] theorem State.modSpindle_rings (s : State) (i : Nat) (f : Spindle → Spindle) : (s.modSpindle i f).rings = s.rings := rfl
@[simp] theorem State.modSpindle_dispatcher (s : State) (i : Nat) (f : Spindle → Spindle) : (s.modSpindle i f).dispatcher = s.dispatcher := rfl
@[simp] theorem State.modSpindle_distaffs (s : State) (i : Nat) (f : Spindle → Spindle) : (s.modSpindle i f).distaffs = s.distaffs := rfl
@[simp] theorem State.modSpindle_mem (s : State) (i : Nat) (f : Spindle → Spindle) : (s.modSpindle i f).mem = s.mem := rfl
@[simp] theorem State.modSpindle_noise (s : State) (i : Nat) (f : Spindle → Spindle) : (s.modSpindle i f).noise = s.noise := rfl
@[simp] theorem State.modSpindle_anneal (s : State) (i : Nat) (f : Spindle → Spindle) : (s.modSpindle i f).anneal = s.anneal := rfl
@[simp] theorem State.modSpindle_steward (s : State) (i : Nat) (f : Spindle → Spindle) : (s.modSpindle i f).steward = s.steward := rfl
@[simp] theorem State.modSpindle_dict (s : State) (i : Nat) (f : Spindle → Spindle) : (s.modSpindle i f).dict = s.dict := rfl
@[simp] theorem State.modSpindle_recorder (s : State) (i : Nat) (f : Spindle → Spindle) : (s.modSpindle i f).recorder = s.recorder := rfl
@[simp] theorem State.modSpindle_keep (s : State) (i : Nat) (f : Spindle → Spindle) : (s.modSpindle i f).keep = s.keep := rfl
@[simp] theorem State.modSpindle_ident (s : State) (i : Nat) (f : Spindle → Spindle) : (s.modSpindle i f).ident = s.ident := rfl
@[simp] theorem State.modSpindle_image (s : State) (i : Nat) (f : Spindle → Spindle) : (s.modSpindle i f).image = s.image := rfl
@[simp] theorem State.modSpindle_start (s : State) (i : Nat) (f : Spindle → Spindle) : (s.modSpindle i f).start = s.start := rfl
@[simp] theorem State.modSpindle_out (s : State) (i : Nat) (f : Spindle → Spindle) : (s.modSpindle i f).out = s.out := rfl

@[simp] theorem State.modBobbin_pending (s : State) (i : Nat) (f : Bobbin → Bobbin) : (s.modBobbin i f).pending = s.pending := rfl
@[simp] theorem State.modBobbin_board (s : State) (i : Nat) (f : Bobbin → Bobbin) : (s.modBobbin i f).board = s.board := rfl
@[simp] theorem State.modBobbin_functions (s : State) (i : Nat) (f : Bobbin → Bobbin) : (s.modBobbin i f).functions = s.functions := rfl
@[simp] theorem State.modBobbin_vfEnable (s : State) (i : Nat) (f : Bobbin → Bobbin) : (s.modBobbin i f).vfEnable = s.vfEnable := rfl
@[simp] theorem State.modBobbin_ari (s : State) (i : Nat) (f : Bobbin → Bobbin) : (s.modBobbin i f).ari = s.ari := rfl
@[simp] theorem State.modBobbin_numVfs (s : State) (i : Nat) (f : Bobbin → Bobbin) : (s.modBobbin i f).numVfs = s.numVfs := rfl
@[simp] theorem State.modBobbin_pcie (s : State) (i : Nat) (f : Bobbin → Bobbin) : (s.modBobbin i f).pcie = s.pcie := rfl
@[simp] theorem State.modBobbin_rings (s : State) (i : Nat) (f : Bobbin → Bobbin) : (s.modBobbin i f).rings = s.rings := rfl
@[simp] theorem State.modBobbin_dispatcher (s : State) (i : Nat) (f : Bobbin → Bobbin) : (s.modBobbin i f).dispatcher = s.dispatcher := rfl
@[simp] theorem State.modBobbin_distaffs (s : State) (i : Nat) (f : Bobbin → Bobbin) : (s.modBobbin i f).distaffs = s.distaffs := rfl
@[simp] theorem State.modBobbin_mem (s : State) (i : Nat) (f : Bobbin → Bobbin) : (s.modBobbin i f).mem = s.mem := rfl
@[simp] theorem State.modBobbin_noise (s : State) (i : Nat) (f : Bobbin → Bobbin) : (s.modBobbin i f).noise = s.noise := rfl
@[simp] theorem State.modBobbin_anneal (s : State) (i : Nat) (f : Bobbin → Bobbin) : (s.modBobbin i f).anneal = s.anneal := rfl
@[simp] theorem State.modBobbin_steward (s : State) (i : Nat) (f : Bobbin → Bobbin) : (s.modBobbin i f).steward = s.steward := rfl
@[simp] theorem State.modBobbin_dict (s : State) (i : Nat) (f : Bobbin → Bobbin) : (s.modBobbin i f).dict = s.dict := rfl
@[simp] theorem State.modBobbin_recorder (s : State) (i : Nat) (f : Bobbin → Bobbin) : (s.modBobbin i f).recorder = s.recorder := rfl
@[simp] theorem State.modBobbin_keep (s : State) (i : Nat) (f : Bobbin → Bobbin) : (s.modBobbin i f).keep = s.keep := rfl
@[simp] theorem State.modBobbin_ident (s : State) (i : Nat) (f : Bobbin → Bobbin) : (s.modBobbin i f).ident = s.ident := rfl
@[simp] theorem State.modBobbin_image (s : State) (i : Nat) (f : Bobbin → Bobbin) : (s.modBobbin i f).image = s.image := rfl
@[simp] theorem State.modBobbin_start (s : State) (i : Nat) (f : Bobbin → Bobbin) : (s.modBobbin i f).start = s.start := rfl
@[simp] theorem State.modBobbin_out (s : State) (i : Nat) (f : Bobbin → Bobbin) : (s.modBobbin i f).out = s.out := rfl

@[simp] theorem State.modSlot_pending (s : State) (i : Nat) (f : Slot → Slot) : (s.modSlot i f).pending = s.pending := rfl
@[simp] theorem State.modSlot_board (s : State) (i : Nat) (f : Slot → Slot) : (s.modSlot i f).board = s.board := rfl
@[simp] theorem State.modSlot_functions (s : State) (i : Nat) (f : Slot → Slot) : (s.modSlot i f).functions = s.functions := rfl
@[simp] theorem State.modSlot_vfEnable (s : State) (i : Nat) (f : Slot → Slot) : (s.modSlot i f).vfEnable = s.vfEnable := rfl
@[simp] theorem State.modSlot_ari (s : State) (i : Nat) (f : Slot → Slot) : (s.modSlot i f).ari = s.ari := rfl
@[simp] theorem State.modSlot_numVfs (s : State) (i : Nat) (f : Slot → Slot) : (s.modSlot i f).numVfs = s.numVfs := rfl
@[simp] theorem State.modSlot_pcie (s : State) (i : Nat) (f : Slot → Slot) : (s.modSlot i f).pcie = s.pcie := rfl
@[simp] theorem State.modSlot_rings (s : State) (i : Nat) (f : Slot → Slot) : (s.modSlot i f).rings = s.rings := rfl
@[simp] theorem State.modSlot_dispatcher (s : State) (i : Nat) (f : Slot → Slot) : (s.modSlot i f).dispatcher = s.dispatcher := rfl
@[simp] theorem State.modSlot_distaffs (s : State) (i : Nat) (f : Slot → Slot) : (s.modSlot i f).distaffs = s.distaffs := rfl
@[simp] theorem State.modSlot_units (s : State) (i : Nat) (f : Slot → Slot) : (s.modSlot i f).units = s.units := rfl
@[simp] theorem State.modSlot_mem (s : State) (i : Nat) (f : Slot → Slot) : (s.modSlot i f).mem = s.mem := rfl
@[simp] theorem State.modSlot_noise (s : State) (i : Nat) (f : Slot → Slot) : (s.modSlot i f).noise = s.noise := rfl
@[simp] theorem State.modSlot_anneal (s : State) (i : Nat) (f : Slot → Slot) : (s.modSlot i f).anneal = s.anneal := rfl
@[simp] theorem State.modSlot_steward (s : State) (i : Nat) (f : Slot → Slot) : (s.modSlot i f).steward = s.steward := rfl
@[simp] theorem State.modSlot_recorder (s : State) (i : Nat) (f : Slot → Slot) : (s.modSlot i f).recorder = s.recorder := rfl
@[simp] theorem State.modSlot_keep (s : State) (i : Nat) (f : Slot → Slot) : (s.modSlot i f).keep = s.keep := rfl
@[simp] theorem State.modSlot_ident (s : State) (i : Nat) (f : Slot → Slot) : (s.modSlot i f).ident = s.ident := rfl
@[simp] theorem State.modSlot_image (s : State) (i : Nat) (f : Slot → Slot) : (s.modSlot i f).image = s.image := rfl
@[simp] theorem State.modSlot_start (s : State) (i : Nat) (f : Slot → Slot) : (s.modSlot i f).start = s.start := rfl
@[simp] theorem State.modSlot_out (s : State) (i : Nat) (f : Slot → Slot) : (s.modSlot i f).out = s.out := rfl

@[simp] theorem State.modGroup_pending (s : State) (i : Nat) (f : Group → Group) : (s.modGroup i f).pending = s.pending := rfl
@[simp] theorem State.modGroup_board (s : State) (i : Nat) (f : Group → Group) : (s.modGroup i f).board = s.board := rfl
@[simp] theorem State.modGroup_functions (s : State) (i : Nat) (f : Group → Group) : (s.modGroup i f).functions = s.functions := rfl
@[simp] theorem State.modGroup_vfEnable (s : State) (i : Nat) (f : Group → Group) : (s.modGroup i f).vfEnable = s.vfEnable := rfl
@[simp] theorem State.modGroup_ari (s : State) (i : Nat) (f : Group → Group) : (s.modGroup i f).ari = s.ari := rfl
@[simp] theorem State.modGroup_numVfs (s : State) (i : Nat) (f : Group → Group) : (s.modGroup i f).numVfs = s.numVfs := rfl
@[simp] theorem State.modGroup_pcie (s : State) (i : Nat) (f : Group → Group) : (s.modGroup i f).pcie = s.pcie := rfl
@[simp] theorem State.modGroup_rings (s : State) (i : Nat) (f : Group → Group) : (s.modGroup i f).rings = s.rings := rfl
@[simp] theorem State.modGroup_dispatcher (s : State) (i : Nat) (f : Group → Group) : (s.modGroup i f).dispatcher = s.dispatcher := rfl
@[simp] theorem State.modGroup_distaffs (s : State) (i : Nat) (f : Group → Group) : (s.modGroup i f).distaffs = s.distaffs := rfl
@[simp] theorem State.modGroup_units (s : State) (i : Nat) (f : Group → Group) : (s.modGroup i f).units = s.units := rfl
@[simp] theorem State.modGroup_mem (s : State) (i : Nat) (f : Group → Group) : (s.modGroup i f).mem = s.mem := rfl
@[simp] theorem State.modGroup_anneal (s : State) (i : Nat) (f : Group → Group) : (s.modGroup i f).anneal = s.anneal := rfl
@[simp] theorem State.modGroup_steward (s : State) (i : Nat) (f : Group → Group) : (s.modGroup i f).steward = s.steward := rfl
@[simp] theorem State.modGroup_dict (s : State) (i : Nat) (f : Group → Group) : (s.modGroup i f).dict = s.dict := rfl
@[simp] theorem State.modGroup_recorder (s : State) (i : Nat) (f : Group → Group) : (s.modGroup i f).recorder = s.recorder := rfl
@[simp] theorem State.modGroup_keep (s : State) (i : Nat) (f : Group → Group) : (s.modGroup i f).keep = s.keep := rfl
@[simp] theorem State.modGroup_ident (s : State) (i : Nat) (f : Group → Group) : (s.modGroup i f).ident = s.ident := rfl
@[simp] theorem State.modGroup_image (s : State) (i : Nat) (f : Group → Group) : (s.modGroup i f).image = s.image := rfl
@[simp] theorem State.modGroup_start (s : State) (i : Nat) (f : Group → Group) : (s.modGroup i f).start = s.start := rfl
@[simp] theorem State.modGroup_out (s : State) (i : Nat) (f : Group → Group) : (s.modGroup i f).out = s.out := rfl

@[simp] theorem State.modDict_pending (s : State) (f : Dictionary → Dictionary) : (s.modDict f).pending = s.pending := rfl
@[simp] theorem State.modDict_board (s : State) (f : Dictionary → Dictionary) : (s.modDict f).board = s.board := rfl
@[simp] theorem State.modDict_functions (s : State) (f : Dictionary → Dictionary) : (s.modDict f).functions = s.functions := rfl
@[simp] theorem State.modDict_vfEnable (s : State) (f : Dictionary → Dictionary) : (s.modDict f).vfEnable = s.vfEnable := rfl
@[simp] theorem State.modDict_ari (s : State) (f : Dictionary → Dictionary) : (s.modDict f).ari = s.ari := rfl
@[simp] theorem State.modDict_numVfs (s : State) (f : Dictionary → Dictionary) : (s.modDict f).numVfs = s.numVfs := rfl
@[simp] theorem State.modDict_pcie (s : State) (f : Dictionary → Dictionary) : (s.modDict f).pcie = s.pcie := rfl
@[simp] theorem State.modDict_rings (s : State) (f : Dictionary → Dictionary) : (s.modDict f).rings = s.rings := rfl
@[simp] theorem State.modDict_dispatcher (s : State) (f : Dictionary → Dictionary) : (s.modDict f).dispatcher = s.dispatcher := rfl
@[simp] theorem State.modDict_distaffs (s : State) (f : Dictionary → Dictionary) : (s.modDict f).distaffs = s.distaffs := rfl
@[simp] theorem State.modDict_units (s : State) (f : Dictionary → Dictionary) : (s.modDict f).units = s.units := rfl
@[simp] theorem State.modDict_mem (s : State) (f : Dictionary → Dictionary) : (s.modDict f).mem = s.mem := rfl
@[simp] theorem State.modDict_noise (s : State) (f : Dictionary → Dictionary) : (s.modDict f).noise = s.noise := rfl
@[simp] theorem State.modDict_anneal (s : State) (f : Dictionary → Dictionary) : (s.modDict f).anneal = s.anneal := rfl
@[simp] theorem State.modDict_steward (s : State) (f : Dictionary → Dictionary) : (s.modDict f).steward = s.steward := rfl
@[simp] theorem State.modDict_dict (s : State) (f : Dictionary → Dictionary) : (s.modDict f).dict = f s.dict := rfl
@[simp] theorem State.modDict_recorder (s : State) (f : Dictionary → Dictionary) : (s.modDict f).recorder = s.recorder := rfl
@[simp] theorem State.modDict_keep (s : State) (f : Dictionary → Dictionary) : (s.modDict f).keep = s.keep := rfl
@[simp] theorem State.modDict_ident (s : State) (f : Dictionary → Dictionary) : (s.modDict f).ident = s.ident := rfl
@[simp] theorem State.modDict_image (s : State) (f : Dictionary → Dictionary) : (s.modDict f).image = s.image := rfl
@[simp] theorem State.modDict_start (s : State) (f : Dictionary → Dictionary) : (s.modDict f).start = s.start := rfl
@[simp] theorem State.modDict_out (s : State) (f : Dictionary → Dictionary) : (s.modDict f).out = s.out := rfl

@[simp] theorem State.modRecorder_pending (s : State) (f : Recorder → Recorder) : (s.modRecorder f).pending = s.pending := rfl
@[simp] theorem State.modRecorder_board (s : State) (f : Recorder → Recorder) : (s.modRecorder f).board = s.board := rfl
@[simp] theorem State.modRecorder_functions (s : State) (f : Recorder → Recorder) : (s.modRecorder f).functions = s.functions := rfl
@[simp] theorem State.modRecorder_vfEnable (s : State) (f : Recorder → Recorder) : (s.modRecorder f).vfEnable = s.vfEnable := rfl
@[simp] theorem State.modRecorder_ari (s : State) (f : Recorder → Recorder) : (s.modRecorder f).ari = s.ari := rfl
@[simp] theorem State.modRecorder_numVfs (s : State) (f : Recorder → Recorder) : (s.modRecorder f).numVfs = s.numVfs := rfl
@[simp] theorem State.modRecorder_pcie (s : State) (f : Recorder → Recorder) : (s.modRecorder f).pcie = s.pcie := rfl
@[simp] theorem State.modRecorder_rings (s : State) (f : Recorder → Recorder) : (s.modRecorder f).rings = s.rings := rfl
@[simp] theorem State.modRecorder_dispatcher (s : State) (f : Recorder → Recorder) : (s.modRecorder f).dispatcher = s.dispatcher := rfl
@[simp] theorem State.modRecorder_distaffs (s : State) (f : Recorder → Recorder) : (s.modRecorder f).distaffs = s.distaffs := rfl
@[simp] theorem State.modRecorder_units (s : State) (f : Recorder → Recorder) : (s.modRecorder f).units = s.units := rfl
@[simp] theorem State.modRecorder_mem (s : State) (f : Recorder → Recorder) : (s.modRecorder f).mem = s.mem := rfl
@[simp] theorem State.modRecorder_noise (s : State) (f : Recorder → Recorder) : (s.modRecorder f).noise = s.noise := rfl
@[simp] theorem State.modRecorder_anneal (s : State) (f : Recorder → Recorder) : (s.modRecorder f).anneal = s.anneal := rfl
@[simp] theorem State.modRecorder_steward (s : State) (f : Recorder → Recorder) : (s.modRecorder f).steward = s.steward := rfl
@[simp] theorem State.modRecorder_dict (s : State) (f : Recorder → Recorder) : (s.modRecorder f).dict = s.dict := rfl
@[simp] theorem State.modRecorder_recorder (s : State) (f : Recorder → Recorder) : (s.modRecorder f).recorder = f s.recorder := rfl
@[simp] theorem State.modRecorder_keep (s : State) (f : Recorder → Recorder) : (s.modRecorder f).keep = s.keep := rfl
@[simp] theorem State.modRecorder_ident (s : State) (f : Recorder → Recorder) : (s.modRecorder f).ident = s.ident := rfl
@[simp] theorem State.modRecorder_image (s : State) (f : Recorder → Recorder) : (s.modRecorder f).image = s.image := rfl
@[simp] theorem State.modRecorder_start (s : State) (f : Recorder → Recorder) : (s.modRecorder f).start = s.start := rfl
@[simp] theorem State.modRecorder_out (s : State) (f : Recorder → Recorder) : (s.modRecorder f).out = s.out := rfl

@[simp] theorem State.modSteward_pending (s : State) (f : Steward → Steward) : (s.modSteward f).pending = s.pending := rfl
@[simp] theorem State.modSteward_board (s : State) (f : Steward → Steward) : (s.modSteward f).board = s.board := rfl
@[simp] theorem State.modSteward_functions (s : State) (f : Steward → Steward) : (s.modSteward f).functions = s.functions := rfl
@[simp] theorem State.modSteward_vfEnable (s : State) (f : Steward → Steward) : (s.modSteward f).vfEnable = s.vfEnable := rfl
@[simp] theorem State.modSteward_ari (s : State) (f : Steward → Steward) : (s.modSteward f).ari = s.ari := rfl
@[simp] theorem State.modSteward_numVfs (s : State) (f : Steward → Steward) : (s.modSteward f).numVfs = s.numVfs := rfl
@[simp] theorem State.modSteward_pcie (s : State) (f : Steward → Steward) : (s.modSteward f).pcie = s.pcie := rfl
@[simp] theorem State.modSteward_rings (s : State) (f : Steward → Steward) : (s.modSteward f).rings = s.rings := rfl
@[simp] theorem State.modSteward_dispatcher (s : State) (f : Steward → Steward) : (s.modSteward f).dispatcher = s.dispatcher := rfl
@[simp] theorem State.modSteward_distaffs (s : State) (f : Steward → Steward) : (s.modSteward f).distaffs = s.distaffs := rfl
@[simp] theorem State.modSteward_units (s : State) (f : Steward → Steward) : (s.modSteward f).units = s.units := rfl
@[simp] theorem State.modSteward_mem (s : State) (f : Steward → Steward) : (s.modSteward f).mem = s.mem := rfl
@[simp] theorem State.modSteward_noise (s : State) (f : Steward → Steward) : (s.modSteward f).noise = s.noise := rfl
@[simp] theorem State.modSteward_anneal (s : State) (f : Steward → Steward) : (s.modSteward f).anneal = s.anneal := rfl
@[simp] theorem State.modSteward_steward (s : State) (f : Steward → Steward) : (s.modSteward f).steward = f s.steward := rfl
@[simp] theorem State.modSteward_dict (s : State) (f : Steward → Steward) : (s.modSteward f).dict = s.dict := rfl
@[simp] theorem State.modSteward_recorder (s : State) (f : Steward → Steward) : (s.modSteward f).recorder = s.recorder := rfl
@[simp] theorem State.modSteward_keep (s : State) (f : Steward → Steward) : (s.modSteward f).keep = s.keep := rfl
@[simp] theorem State.modSteward_ident (s : State) (f : Steward → Steward) : (s.modSteward f).ident = s.ident := rfl
@[simp] theorem State.modSteward_image (s : State) (f : Steward → Steward) : (s.modSteward f).image = s.image := rfl
@[simp] theorem State.modSteward_start (s : State) (f : Steward → Steward) : (s.modSteward f).start = s.start := rfl
@[simp] theorem State.modSteward_out (s : State) (f : Steward → Steward) : (s.modSteward f).out = s.out := rfl

@[simp] theorem State.modMem_pending (s : State) (f : Memory → Memory) : (s.modMem f).pending = s.pending := rfl
@[simp] theorem State.modMem_board (s : State) (f : Memory → Memory) : (s.modMem f).board = s.board := rfl
@[simp] theorem State.modMem_functions (s : State) (f : Memory → Memory) : (s.modMem f).functions = s.functions := rfl
@[simp] theorem State.modMem_vfEnable (s : State) (f : Memory → Memory) : (s.modMem f).vfEnable = s.vfEnable := rfl
@[simp] theorem State.modMem_ari (s : State) (f : Memory → Memory) : (s.modMem f).ari = s.ari := rfl
@[simp] theorem State.modMem_numVfs (s : State) (f : Memory → Memory) : (s.modMem f).numVfs = s.numVfs := rfl
@[simp] theorem State.modMem_pcie (s : State) (f : Memory → Memory) : (s.modMem f).pcie = s.pcie := rfl
@[simp] theorem State.modMem_rings (s : State) (f : Memory → Memory) : (s.modMem f).rings = s.rings := rfl
@[simp] theorem State.modMem_dispatcher (s : State) (f : Memory → Memory) : (s.modMem f).dispatcher = s.dispatcher := rfl
@[simp] theorem State.modMem_distaffs (s : State) (f : Memory → Memory) : (s.modMem f).distaffs = s.distaffs := rfl
@[simp] theorem State.modMem_units (s : State) (f : Memory → Memory) : (s.modMem f).units = s.units := rfl
@[simp] theorem State.modMem_mem (s : State) (f : Memory → Memory) : (s.modMem f).mem = f s.mem := rfl
@[simp] theorem State.modMem_noise (s : State) (f : Memory → Memory) : (s.modMem f).noise = s.noise := rfl
@[simp] theorem State.modMem_anneal (s : State) (f : Memory → Memory) : (s.modMem f).anneal = s.anneal := rfl
@[simp] theorem State.modMem_steward (s : State) (f : Memory → Memory) : (s.modMem f).steward = s.steward := rfl
@[simp] theorem State.modMem_dict (s : State) (f : Memory → Memory) : (s.modMem f).dict = s.dict := rfl
@[simp] theorem State.modMem_recorder (s : State) (f : Memory → Memory) : (s.modMem f).recorder = s.recorder := rfl
@[simp] theorem State.modMem_keep (s : State) (f : Memory → Memory) : (s.modMem f).keep = s.keep := rfl
@[simp] theorem State.modMem_ident (s : State) (f : Memory → Memory) : (s.modMem f).ident = s.ident := rfl
@[simp] theorem State.modMem_image (s : State) (f : Memory → Memory) : (s.modMem f).image = s.image := rfl
@[simp] theorem State.modMem_start (s : State) (f : Memory → Memory) : (s.modMem f).start = s.start := rfl
@[simp] theorem State.modMem_out (s : State) (f : Memory → Memory) : (s.modMem f).out = s.out := rfl

@[simp] theorem State.setAnneal_pending (s : State) (a : AnnealRun) : (s.setAnneal a).pending = s.pending := rfl
@[simp] theorem State.setAnneal_board (s : State) (a : AnnealRun) : (s.setAnneal a).board = s.board := rfl
@[simp] theorem State.setAnneal_functions (s : State) (a : AnnealRun) : (s.setAnneal a).functions = s.functions := rfl
@[simp] theorem State.setAnneal_vfEnable (s : State) (a : AnnealRun) : (s.setAnneal a).vfEnable = s.vfEnable := rfl
@[simp] theorem State.setAnneal_ari (s : State) (a : AnnealRun) : (s.setAnneal a).ari = s.ari := rfl
@[simp] theorem State.setAnneal_numVfs (s : State) (a : AnnealRun) : (s.setAnneal a).numVfs = s.numVfs := rfl
@[simp] theorem State.setAnneal_pcie (s : State) (a : AnnealRun) : (s.setAnneal a).pcie = s.pcie := rfl
@[simp] theorem State.setAnneal_rings (s : State) (a : AnnealRun) : (s.setAnneal a).rings = s.rings := rfl
@[simp] theorem State.setAnneal_dispatcher (s : State) (a : AnnealRun) : (s.setAnneal a).dispatcher = s.dispatcher := rfl
@[simp] theorem State.setAnneal_distaffs (s : State) (a : AnnealRun) : (s.setAnneal a).distaffs = s.distaffs := rfl
@[simp] theorem State.setAnneal_units (s : State) (a : AnnealRun) : (s.setAnneal a).units = s.units := rfl
@[simp] theorem State.setAnneal_mem (s : State) (a : AnnealRun) : (s.setAnneal a).mem = s.mem := rfl
@[simp] theorem State.setAnneal_noise (s : State) (a : AnnealRun) : (s.setAnneal a).noise = s.noise := rfl
@[simp] theorem State.setAnneal_anneal (s : State) (a : AnnealRun) : (s.setAnneal a).anneal = some a := rfl
@[simp] theorem State.setAnneal_steward (s : State) (a : AnnealRun) : (s.setAnneal a).steward = s.steward := rfl
@[simp] theorem State.setAnneal_dict (s : State) (a : AnnealRun) : (s.setAnneal a).dict = s.dict := rfl
@[simp] theorem State.setAnneal_recorder (s : State) (a : AnnealRun) : (s.setAnneal a).recorder = s.recorder := rfl
@[simp] theorem State.setAnneal_keep (s : State) (a : AnnealRun) : (s.setAnneal a).keep = s.keep := rfl
@[simp] theorem State.setAnneal_ident (s : State) (a : AnnealRun) : (s.setAnneal a).ident = s.ident := rfl
@[simp] theorem State.setAnneal_image (s : State) (a : AnnealRun) : (s.setAnneal a).image = s.image := rfl
@[simp] theorem State.setAnneal_start (s : State) (a : AnnealRun) : (s.setAnneal a).start = s.start := rfl
@[simp] theorem State.setAnneal_out (s : State) (a : AnnealRun) : (s.setAnneal a).out = s.out := rfl

@[simp] theorem State.useFree_pending (s : State) : (s.useFree).pending = s.pending := rfl
@[simp] theorem State.useFree_board (s : State) : (s.useFree).board = s.board := rfl
@[simp] theorem State.useFree_functions (s : State) : (s.useFree).functions = s.functions := rfl
@[simp] theorem State.useFree_vfEnable (s : State) : (s.useFree).vfEnable = s.vfEnable := rfl
@[simp] theorem State.useFree_ari (s : State) : (s.useFree).ari = s.ari := rfl
@[simp] theorem State.useFree_numVfs (s : State) : (s.useFree).numVfs = s.numVfs := rfl
@[simp] theorem State.useFree_pcie (s : State) : (s.useFree).pcie = s.pcie := rfl
@[simp] theorem State.useFree_rings (s : State) : (s.useFree).rings = s.rings := rfl
@[simp] theorem State.useFree_dispatcher (s : State) : (s.useFree).dispatcher = s.dispatcher := rfl
@[simp] theorem State.useFree_distaffs (s : State) : (s.useFree).distaffs = s.distaffs := rfl
@[simp] theorem State.useFree_units (s : State) : (s.useFree).units = s.units := rfl
@[simp] theorem State.useFree_mem (s : State) : (s.useFree).mem = s.mem := rfl
@[simp] theorem State.useFree_noise (s : State) : (s.useFree).noise = s.noise := rfl
@[simp] theorem State.useFree_anneal (s : State) : (s.useFree).anneal = s.anneal := rfl
@[simp] theorem State.useFree_steward (s : State) : (s.useFree).steward = s.steward := rfl
@[simp] theorem State.useFree_dict (s : State) : (s.useFree).dict = s.dict := rfl
@[simp] theorem State.useFree_recorder (s : State) : (s.useFree).recorder = s.recorder := rfl
@[simp] theorem State.useFree_keep (s : State) : (s.useFree).keep = s.keep := rfl
@[simp] theorem State.useFree_ident (s : State) : (s.useFree).ident = s.ident := rfl
@[simp] theorem State.useFree_image (s : State) : (s.useFree).image = s.image := rfl
@[simp] theorem State.useFree_start (s : State) : (s.useFree).start = s.start := rfl

@[simp] theorem State.emit_pending (s : State) (n : Notice) : (s.emit n).pending = s.pending := rfl
@[simp] theorem State.emit_board (s : State) (n : Notice) : (s.emit n).board = s.board := rfl
@[simp] theorem State.emit_functions (s : State) (n : Notice) : (s.emit n).functions = s.functions := rfl
@[simp] theorem State.emit_vfEnable (s : State) (n : Notice) : (s.emit n).vfEnable = s.vfEnable := rfl
@[simp] theorem State.emit_ari (s : State) (n : Notice) : (s.emit n).ari = s.ari := rfl
@[simp] theorem State.emit_numVfs (s : State) (n : Notice) : (s.emit n).numVfs = s.numVfs := rfl
@[simp] theorem State.emit_pcie (s : State) (n : Notice) : (s.emit n).pcie = s.pcie := rfl
@[simp] theorem State.emit_rings (s : State) (n : Notice) : (s.emit n).rings = s.rings := rfl
@[simp] theorem State.emit_dispatcher (s : State) (n : Notice) : (s.emit n).dispatcher = s.dispatcher := rfl
@[simp] theorem State.emit_distaffs (s : State) (n : Notice) : (s.emit n).distaffs = s.distaffs := rfl
@[simp] theorem State.emit_units (s : State) (n : Notice) : (s.emit n).units = s.units := rfl
@[simp] theorem State.emit_mem (s : State) (n : Notice) : (s.emit n).mem = s.mem := rfl
@[simp] theorem State.emit_noise (s : State) (n : Notice) : (s.emit n).noise = s.noise := rfl
@[simp] theorem State.emit_anneal (s : State) (n : Notice) : (s.emit n).anneal = s.anneal := rfl
@[simp] theorem State.emit_steward (s : State) (n : Notice) : (s.emit n).steward = s.steward := rfl
@[simp] theorem State.emit_dict (s : State) (n : Notice) : (s.emit n).dict = s.dict := rfl
@[simp] theorem State.emit_keep (s : State) (n : Notice) : (s.emit n).keep = s.keep := rfl
@[simp] theorem State.emit_ident (s : State) (n : Notice) : (s.emit n).ident = s.ident := rfl
@[simp] theorem State.emit_image (s : State) (n : Notice) : (s.emit n).image = s.image := rfl
@[simp] theorem State.emit_start (s : State) (n : Notice) : (s.emit n).start = s.start := rfl
@[simp] theorem State.emit_out (s : State) (n : Notice) : (s.emit n).out = s.out := rfl

@[simp] theorem State.put_pending (s : State) (sp a : Nat) (bs : Bytes) : (s.put sp a bs).pending = s.pending := rfl
@[simp] theorem State.put_board (s : State) (sp a : Nat) (bs : Bytes) : (s.put sp a bs).board = s.board := rfl
@[simp] theorem State.put_functions (s : State) (sp a : Nat) (bs : Bytes) : (s.put sp a bs).functions = s.functions := rfl
@[simp] theorem State.put_vfEnable (s : State) (sp a : Nat) (bs : Bytes) : (s.put sp a bs).vfEnable = s.vfEnable := rfl
@[simp] theorem State.put_ari (s : State) (sp a : Nat) (bs : Bytes) : (s.put sp a bs).ari = s.ari := rfl
@[simp] theorem State.put_numVfs (s : State) (sp a : Nat) (bs : Bytes) : (s.put sp a bs).numVfs = s.numVfs := rfl
@[simp] theorem State.put_pcie (s : State) (sp a : Nat) (bs : Bytes) : (s.put sp a bs).pcie = s.pcie := rfl
@[simp] theorem State.put_rings (s : State) (sp a : Nat) (bs : Bytes) : (s.put sp a bs).rings = s.rings := rfl
@[simp] theorem State.put_dispatcher (s : State) (sp a : Nat) (bs : Bytes) : (s.put sp a bs).dispatcher = s.dispatcher := rfl
@[simp] theorem State.put_distaffs (s : State) (sp a : Nat) (bs : Bytes) : (s.put sp a bs).distaffs = s.distaffs := rfl
@[simp] theorem State.put_units (s : State) (sp a : Nat) (bs : Bytes) : (s.put sp a bs).units = s.units := rfl
@[simp] theorem State.put_noise (s : State) (sp a : Nat) (bs : Bytes) : (s.put sp a bs).noise = s.noise := rfl
@[simp] theorem State.put_anneal (s : State) (sp a : Nat) (bs : Bytes) : (s.put sp a bs).anneal = s.anneal := rfl
@[simp] theorem State.put_steward (s : State) (sp a : Nat) (bs : Bytes) : (s.put sp a bs).steward = s.steward := rfl
@[simp] theorem State.put_dict (s : State) (sp a : Nat) (bs : Bytes) : (s.put sp a bs).dict = s.dict := rfl
@[simp] theorem State.put_recorder (s : State) (sp a : Nat) (bs : Bytes) : (s.put sp a bs).recorder = s.recorder := rfl
@[simp] theorem State.put_keep (s : State) (sp a : Nat) (bs : Bytes) : (s.put sp a bs).keep = s.keep := rfl
@[simp] theorem State.put_ident (s : State) (sp a : Nat) (bs : Bytes) : (s.put sp a bs).ident = s.ident := rfl
@[simp] theorem State.put_image (s : State) (sp a : Nat) (bs : Bytes) : (s.put sp a bs).image = s.image := rfl
@[simp] theorem State.put_start (s : State) (sp a : Nat) (bs : Bytes) : (s.put sp a bs).start = s.start := rfl
@[simp] theorem State.put_out (s : State) (sp a : Nat) (bs : Bytes) : (s.put sp a bs).out = s.out := rfl

@[simp] theorem State.returnPermit_pending (s : State) (i k : Nat) : (s.returnPermit i k).pending = s.pending := rfl
@[simp] theorem State.returnPermit_board (s : State) (i k : Nat) : (s.returnPermit i k).board = s.board := rfl
@[simp] theorem State.returnPermit_functions (s : State) (i k : Nat) : (s.returnPermit i k).functions = s.functions := rfl
@[simp] theorem State.returnPermit_vfEnable (s : State) (i k : Nat) : (s.returnPermit i k).vfEnable = s.vfEnable := rfl
@[simp] theorem State.returnPermit_ari (s : State) (i k : Nat) : (s.returnPermit i k).ari = s.ari := rfl
@[simp] theorem State.returnPermit_numVfs (s : State) (i k : Nat) : (s.returnPermit i k).numVfs = s.numVfs := rfl
@[simp] theorem State.returnPermit_pcie (s : State) (i k : Nat) : (s.returnPermit i k).pcie = s.pcie := rfl
@[simp] theorem State.returnPermit_rings (s : State) (i k : Nat) : (s.returnPermit i k).rings = s.rings := rfl
@[simp] theorem State.returnPermit_dispatcher (s : State) (i k : Nat) : (s.returnPermit i k).dispatcher = s.dispatcher := rfl
@[simp] theorem State.returnPermit_distaffs (s : State) (i k : Nat) : (s.returnPermit i k).distaffs = s.distaffs := rfl
@[simp] theorem State.returnPermit_units (s : State) (i k : Nat) : (s.returnPermit i k).units = s.units := rfl
@[simp] theorem State.returnPermit_mem (s : State) (i k : Nat) : (s.returnPermit i k).mem = s.mem := rfl
@[simp] theorem State.returnPermit_noise (s : State) (i k : Nat) : (s.returnPermit i k).noise = s.noise := rfl
@[simp] theorem State.returnPermit_anneal (s : State) (i k : Nat) : (s.returnPermit i k).anneal = s.anneal := rfl
@[simp] theorem State.returnPermit_dict (s : State) (i k : Nat) : (s.returnPermit i k).dict = s.dict := rfl
@[simp] theorem State.returnPermit_recorder (s : State) (i k : Nat) : (s.returnPermit i k).recorder = s.recorder := rfl
@[simp] theorem State.returnPermit_keep (s : State) (i k : Nat) : (s.returnPermit i k).keep = s.keep := rfl
@[simp] theorem State.returnPermit_ident (s : State) (i k : Nat) : (s.returnPermit i k).ident = s.ident := rfl
@[simp] theorem State.returnPermit_image (s : State) (i k : Nat) : (s.returnPermit i k).image = s.image := rfl
@[simp] theorem State.returnPermit_start (s : State) (i k : Nat) : (s.returnPermit i k).start = s.start := rfl
@[simp] theorem State.returnPermit_out (s : State) (i k : Nat) : (s.returnPermit i k).out = s.out := rfl

@[simp] theorem State.releaseUnits_pending (s : State) (i k : Nat) : (s.releaseUnits i k).pending = s.pending := rfl
@[simp] theorem State.releaseUnits_board (s : State) (i k : Nat) : (s.releaseUnits i k).board = s.board := rfl
@[simp] theorem State.releaseUnits_functions (s : State) (i k : Nat) : (s.releaseUnits i k).functions = s.functions := rfl
@[simp] theorem State.releaseUnits_vfEnable (s : State) (i k : Nat) : (s.releaseUnits i k).vfEnable = s.vfEnable := rfl
@[simp] theorem State.releaseUnits_ari (s : State) (i k : Nat) : (s.releaseUnits i k).ari = s.ari := rfl
@[simp] theorem State.releaseUnits_numVfs (s : State) (i k : Nat) : (s.releaseUnits i k).numVfs = s.numVfs := rfl
@[simp] theorem State.releaseUnits_pcie (s : State) (i k : Nat) : (s.releaseUnits i k).pcie = s.pcie := rfl
@[simp] theorem State.releaseUnits_rings (s : State) (i k : Nat) : (s.releaseUnits i k).rings = s.rings := rfl
@[simp] theorem State.releaseUnits_dispatcher (s : State) (i k : Nat) : (s.releaseUnits i k).dispatcher = s.dispatcher := rfl
@[simp] theorem State.releaseUnits_distaffs (s : State) (i k : Nat) : (s.releaseUnits i k).distaffs = s.distaffs := rfl
@[simp] theorem State.releaseUnits_mem (s : State) (i k : Nat) : (s.releaseUnits i k).mem = s.mem := rfl
@[simp] theorem State.releaseUnits_noise (s : State) (i k : Nat) : (s.releaseUnits i k).noise = s.noise := rfl
@[simp] theorem State.releaseUnits_anneal (s : State) (i k : Nat) : (s.releaseUnits i k).anneal = s.anneal := rfl
@[simp] theorem State.releaseUnits_steward (s : State) (i k : Nat) : (s.releaseUnits i k).steward = s.steward := rfl
@[simp] theorem State.releaseUnits_dict (s : State) (i k : Nat) : (s.releaseUnits i k).dict = s.dict := rfl
@[simp] theorem State.releaseUnits_recorder (s : State) (i k : Nat) : (s.releaseUnits i k).recorder = s.recorder := rfl
@[simp] theorem State.releaseUnits_keep (s : State) (i k : Nat) : (s.releaseUnits i k).keep = s.keep := rfl
@[simp] theorem State.releaseUnits_ident (s : State) (i k : Nat) : (s.releaseUnits i k).ident = s.ident := rfl
@[simp] theorem State.releaseUnits_image (s : State) (i k : Nat) : (s.releaseUnits i k).image = s.image := rfl
@[simp] theorem State.releaseUnits_start (s : State) (i k : Nat) : (s.releaseUnits i k).start = s.start := rfl
@[simp] theorem State.releaseUnits_out (s : State) (i k : Nat) : (s.releaseUnits i k).out = s.out := rfl

end Sys2Proof.Machine
end

