-- ==== Sys2Proof/Laws/Memory.lean ====
section
/-!
SUPPORT. What the memory operations can do: a read after a write, and that every operation keeps the canonical form of every memory.
-/
namespace Sys2Proof.Machine

/-- Meeting a word that fails its check changes marks and counters, and no byte. -/
theorem Memory.meet_cells (m : Memory) (sp w : Nat) : (m.meet sp w).sram = m.sram ∧ (m.meet sp w).lp = m.lp ∧ (m.meet sp w).host = m.host ∧
    (m.meet sp w).spindle = m.spindle ∧ (m.meet sp w).bobbin = m.bobbin ∧ (m.meet sp w).distaff = m.distaff := by
  unfold Memory.meet
  split
  · exact ⟨rfl, rfl, rfl, rfl, rfl, rfl⟩
  · dsimp only
    split
    · split <;> exact ⟨rfl, rfl, rfl, rfl, rfl, rfl⟩
    · split <;> exact ⟨rfl, rfl, rfl, rfl, rfl, rfl⟩

theorem Memory.meets_cells (sp : Nat) (ws : List Nat) (m : Memory) : let n := ws.foldl (fun m w => m.meet sp w) m
    n.sram = m.sram ∧ n.lp = m.lp ∧ n.host = m.host ∧ n.spindle = m.spindle ∧ n.bobbin = m.bobbin ∧ n.distaff = m.distaff := by
  induction ws generalizing m with
  | nil => exact ⟨rfl, rfl, rfl, rfl, rfl, rfl⟩
  | cons w r ih =>
    obtain ⟨a, b, c, d, e, f⟩ := Memory.meet_cells m sp w
    obtain ⟨a', b', c', d', e', f'⟩ := ih (m.meet sp w)
    exact ⟨a'.trans a, b'.trans b, c'.trans c, d'.trans d, e'.trans e, f'.trans f⟩

/-- A byte of a memory after a write: the written byte within the range of the written memory, the byte before it elsewhere. -/
theorem Memory.space_write (m : Memory) (sp base len : Nat) (f : Nat → Byte) (k : Nat) (hs : sp ≤ 5) (hk : k ≤ 5) :
    (m.write sp base len f).space k = if k = sp then Sparse.replace Mem.blank (m.space sp) base len f else m.space k := by
  obtain ⟨h0, h1, h2, h3, h4, h5⟩ := Memory.meets_cells sp (partialWords sp base len) m
  unfold Memory.write
  interval_cases sp <;> interval_cases k <;> simp only [Memory.space, h0, h1, h2, h3, h4, h5] <;> rfl

theorem Memory.byte_write (m : Memory) (sp base len : Nat) (f : Nat → Byte) (k a : Nat) (hs : sp ≤ 5) (hk : k ≤ 5) :
    ((m.write sp base len f).space k).byte a = if k = sp ∧ base ≤ a ∧ a < base + len then f (a - base) else (m.space k).byte a := by
  rw [Memory.space_write m sp base len f k hs hk]
  by_cases h : k = sp
  · subst h
    rw [if_pos rfl, Mem.byte, Mem.byte, Sparse.get_replace]
    simp only [true_and]
  · rw [if_neg h, if_neg fun hc => h hc.1]

/-- Read after write, byte by byte, for a byte string. -/
theorem State.byteAt_put (s : State) (sp a : Nat) (bs : Bytes) (k x : Nat) (hs : sp ≤ 5) (hk : k ≤ 5) :
    (s.put sp a bs).byteAt k x = if k = sp ∧ a ≤ x ∧ x < a + bs.length then bs.getD (x - a) 0 else s.byteAt k x := by
  rw [State.byteAt, State.put, State.modMem, State.byteAt]
  dsimp only
  rw [Memory.byte_write _ _ _ _ _ _ _ hs hk]
  simp [Array.getD_eq_getD_getElem?, List.getD_eq_getElem?_getD]

/-- Reading back what was written gives it. -/
theorem State.bytes_put (s : State) (sp a : Nat) (bs : Bytes) (hs : sp ≤ 5) : (s.put sp a bs).bytes sp a bs.length = bs := by
  have h : ∀ k, ((s.put sp a bs).mem.space sp).byte (a + k) = if k < bs.length then bs.getD k 0 else s.byteAt sp (a + k) := fun k => by
    have := State.byteAt_put s sp a bs sp (a + k) hs hs
    rw [State.byteAt] at this
    rw [this]
    by_cases hk : k < bs.length
    · rw [if_pos ⟨rfl, by omega, by omega⟩, if_pos hk, Nat.add_sub_cancel_left]
    · rw [if_neg (by omega), if_neg hk]
  rw [State.bytes, Mem.bytes]
  apply List.ext_getElem
  · simp
  · intro k h1 h2
    simp only [List.getElem_map, List.getElem_range, h, if_pos h2]
    rw [List.getD_eq_getElem?_getD, List.getElem?_eq_getElem h2]; rfl

/-- A write elsewhere leaves a range as it was. -/
theorem State.bytes_put_of_disjoint (s : State) (sp a : Nat) (bs : Bytes) (k x n : Nat) (hs : sp ≤ 5) (hk : k ≤ 5)
    (h : k ≠ sp ∨ x + n ≤ a ∨ a + bs.length ≤ x) : (s.put sp a bs).bytes k x n = s.bytes k x n := by
  rw [State.bytes, State.bytes, Mem.bytes, Mem.bytes]
  refine List.map_congr_left fun j hj => ?_
  have hj := List.mem_range.1 hj
  have := State.byteAt_put s sp a bs k (x + j) hs hk
  rw [if_neg (by omega)] at this
  exact this

theorem Memory.wf_iff (m : Memory) : m.wf = true ↔ Sparse.wf Mem.blank m.sram = true ∧ Sparse.wf Mem.blank m.lp = true ∧ Sparse.wf Mem.blank m.host = true ∧
    Sparse.wf Mem.blank m.spindle = true ∧ Sparse.wf Mem.blank m.bobbin = true ∧ Sparse.wf Mem.blank m.distaff = true := by
  simp only [Memory.wf, Mem.wf, Bool.and_eq_true, and_assoc]

/-- The one write of every memory keeps the canonical form. -/
theorem Memory.write_wf (m : Memory) (sp base len : Nat) (f : Nat → Byte) (h : m.wf = true) : (m.write sp base len f).wf = true := by
  rw [Memory.wf_iff] at h ⊢
  obtain ⟨h0, h1, h2, h3, h4, h5⟩ := h
  obtain ⟨e0, e1, e2, e3, e4, e5⟩ := Memory.meets_cells sp (partialWords sp base len) m
  rw [← e0] at h0
  rw [← e1] at h1
  rw [← e2] at h2
  rw [← e3] at h3
  rw [← e4] at h4
  rw [← e5] at h5
  unfold Memory.write
  dsimp only
  split
  · exact ⟨Sparse.wf_replace _ _ _ _ _ h0, h1, h2, h3, h4, h5⟩
  · exact ⟨h0, Sparse.wf_replace _ _ _ _ _ h1, h2, h3, h4, h5⟩
  · exact ⟨h0, h1, Sparse.wf_replace _ _ _ _ _ h2, h3, h4, h5⟩
  · exact ⟨h0, h1, h2, Sparse.wf_replace _ _ _ _ _ h3, h4, h5⟩
  · exact ⟨h0, h1, h2, h3, Sparse.wf_replace _ _ _ _ _ h4, h5⟩
  · exact ⟨h0, h1, h2, h3, h4, Sparse.wf_replace _ _ _ _ _ h5⟩

/-- A check of a range changes no byte of any memory. -/
theorem Memory.check_cells (m : Memory) (sp a n : Nat) : (m.check sp a n).1.sram = m.sram ∧ (m.check sp a n).1.lp = m.lp ∧ (m.check sp a n).1.host = m.host ∧
    (m.check sp a n).1.spindle = m.spindle ∧ (m.check sp a n).1.bobbin = m.bobbin ∧ (m.check sp a n).1.distaff = m.distaff := Memory.meets_cells sp _ m

theorem Memory.check_space (m : Memory) (sp a n k : Nat) : (m.check sp a n).1.space k = m.space k := by
  obtain ⟨h0, h1, h2, h3, h4, h5⟩ := Memory.check_cells m sp a n
  unfold Memory.space
  split <;> assumption

theorem Memory.meet_wf (m : Memory) (sp w : Nat) (h : m.wf = true) : (m.meet sp w).wf = true := by
  obtain ⟨a, b, c, d, e, f⟩ := Memory.meet_cells m sp w
  rw [Memory.wf, a, b, c, d, e, f]
  exact h

theorem Memory.check_wf (m : Memory) (sp a n : Nat) (h : m.wf = true) : (m.check sp a n).1.wf = true := by
  obtain ⟨h0, h1, h2, h3, h4, h5⟩ := Memory.check_cells m sp a n
  rw [Memory.wf, h0, h1, h2, h3, h4, h5]
  exact h

/-- A sound memory's check finds nothing and changes nothing. -/
theorem Memory.check_clean (m : Memory) (sp a n : Nat) (hu : m.upsets = []) (hp : m.poison = []) : m.check sp a n = (m, none) := by
  simp [Memory.check, hu, hp]

/-- Striking a word with an error changes no byte. -/
theorem Memory.strike_wf (m : Memory) (sp w : Nat) (bad : Bool) (h : m.wf = true) : (m.strike sp w bad).wf = true := by
  unfold Memory.strike
  split <;> exact h

theorem State.put_wf (s : State) (sp a : Nat) (bs : Bytes) (h : s.mem.wf = true) : (s.put sp a bs).mem.wf = true := Memory.write_wf _ _ _ _ _ h

/-- A word's read keeps the canonical form, and changes no byte. -/
theorem State.readMem_wf (s : State) (r : Run) (k sp a n : Nat) (h : s.mem.wf = true) : (s.readMem r k sp a n).st.mem.wf = true := by
  unfold State.readMem
  dsimp only
  split <;> exact Memory.check_wf _ _ _ _ h

theorem State.readMem_byteAt (s : State) (r : Run) (k sp a n sp' x : Nat) : (s.readMem r k sp a n).st.byteAt sp' x = s.byteAt sp' x := by
  unfold State.readMem State.byteAt
  dsimp only
  split <;> exact congrArg (fun m : Mem => m.byte x) (Memory.check_space s.mem sp a n sp')

theorem State.readLs_wf (s : State) (sp a n : Nat) (h : s.mem.wf = true) : (s.readLs sp a n).st.mem.wf = true := Memory.check_wf _ _ _ _ h

/-- Counting a rejected hank touches no memory and no record. -/
theorem State.countRejected_mem (s : State) (ring seq : Nat) : (s.countRejected ring seq).mem = s.mem := by
  unfold State.countRejected
  dsimp only
  split <;> rfl

theorem State.countRejected_recorder (s : State) (ring seq : Nat) : (s.countRejected ring seq).recorder = s.recorder := by
  unfold State.countRejected
  dsimp only
  split <;> rfl

theorem State.failWord_mem (s : State) (ring seq k status cause : Nat) : (s.failWord ring seq k status cause).1.mem = s.mem :=
  State.countRejected_mem _ _ _

theorem State.readHost_mem (s : State) (r : Run) (k a n : Nat) : (s.readHost r k a n).st.mem = s.mem := by
  unfold State.readHost
  split
  · rfl
  · dsimp only
    split
    · rfl
    · split
      · split
        · rfl
        · exact State.failWord_mem _ _ _ _ _ _
      · rfl

theorem State.readBuf_wf (s : State) (r : Run) (k : Nat) (b : Buffer) (off n : Nat) (h : s.mem.wf = true) : (s.readBuf r k b off n).st.mem.wf = true := by
  unfold State.readBuf
  split
  · rw [State.readHost_mem]; exact h
  · exact State.readMem_wf _ _ _ _ _ _ h

theorem State.writeBuf_wf (s : State) (r : Run) (b : Buffer) (off : Nat) (bs : Bytes) (h : s.mem.wf = true) : (s.writeBuf r b off bs).mem.wf = true := by
  unfold State.writeBuf
  split
  · split
    · exact h
    · exact State.put_wf _ _ _ _ h
  · exact State.put_wf _ _ _ _ h

theorem State.readIdx_wf (s : State) (r : Run) (k i off n : Nat) (h : s.mem.wf = true) : (s.readIdx r k i off n).st.mem.wf = true := by
  unfold State.readIdx
  split
  · exact State.readBuf_wf _ _ _ _ _ _ h
  · exact h

theorem State.writeIdx_wf (s : State) (r : Run) (i off : Nat) (bs : Bytes) (h : s.mem.wf = true) : (s.writeIdx r i off bs).mem.wf = true := by
  unfold State.writeIdx
  split
  · exact State.writeBuf_wf _ _ _ _ _ h
  · exact h

/-- Every memory is in canonical form at reset. -/
theorem State.reset_mem_wf : State.reset.mem.wf = true := by decide

end Sys2Proof.Machine
end

