-- ==== Sys2Proof/Laws/Words.lean ====
section
/-!
SUPPORT. What the numbered tables read as after an update, and what a word command does once its word stands at its units: one lemma for every word command.
-/
namespace Sys2Proof.Machine

theorem vget_eq {α : Type} {n : Nat} (v : Vector α n) (d : α) (i : Nat) (h : i < n) : vget v d i = v[i] := by simp [vget, h]

theorem vget_of_le {α : Type} {n : Nat} (v : Vector α n) (d : α) (i : Nat) (h : n ≤ i) : vget v d i = d := by
  simp [vget, h]

theorem vget_vset {α : Type} {n : Nat} (v : Vector α n) (d : α) (i j : Nat) (x : α) : vget (vset v i x) d j = if i = j ∧ i < n then x else vget v d j := by
  by_cases hj : j < n
  · by_cases h : i = j
    · subst h; simp [vget, vset, hj]
    · simp [vget, vset, h]
  · rw [if_neg (by omega), vget_of_le _ _ _ (by omega), vget_of_le _ _ _ (by omega)]

theorem vget_vmod {α : Type} {n : Nat} (v : Vector α n) (d : α) (i j : Nat) (f : α → α) : vget (vmod v i f) d j = if i = j ∧ i < n then f (vget v d j) else vget v d j := by
  by_cases hi : i < n
  · have : vmod v i f = vset v i (f v[i]) := by simp [vmod, vset, hi]
    rw [this, vget_vset]
    by_cases h : i = j
    · subst h; simp [hi, vget]
    · simp [h]
  · have : vmod v i f = v := by simp [vmod, hi]
    rw [this, if_neg (by omega)]

/-- A ring after an update of a ring. -/
theorem State.ring_modRing (s : State) (i j : Nat) (f : Ring → Ring) : (s.modRing i f).ring j = if i = j ∧ i < 64 then f (s.ring j) else s.ring j :=
  vget_vmod _ _ _ _ _

/-- The hank of a Distaff after an update of a Distaff's hank. -/
theorem State.run_setRun (s : State) (i j : Nat) (r : Option Run) : (s.setRun i r).run j = if i = j ∧ i < 8 then r else s.run j := by
  simp only [State.run, State.setRun, State.modDistaff, vget_vmod]
  split <;> rfl

theorem State.run_modRun (s : State) (i j : Nat) (f : Run → Run) : (s.modRun i f).run j = if i = j ∧ i < 8 then (s.run j).map f else s.run j := by
  simp only [State.run, State.modRun, State.modDistaff, vget_vmod]
  split <;> rfl

theorem State.run_modIssued (s : State) (i k j : Nat) (f : Issued → Issued) : (s.modIssued i k f).run j =
    if i = j ∧ i < 8 then (s.run j).map (fun r => { r with issued := r.issued.map fun i => if i.index = k then f i else i }) else s.run j :=
  State.run_modRun _ _ _ _

theorem State.modRun_eq_setRun (s : State) (d : Nat) (f : Run → Run) (r : Run) (h : s.run d = some r) : s.modRun d f = s.setRun d (some (f r)) := by
  have e : vmod s.distaffs d (fun x => { x with run := x.run.map f }) = vmod s.distaffs d fun x => { x with run := some (f r) } := by
    rw [State.run] at h
    unfold vmod
    split
    · rename_i x hx
      rw [vget, hx] at h
      simp only [Option.getD_some] at h
      simp [h]
    · rfl
  rw [State.modRun, State.setRun, State.modDistaff, State.modDistaff, e]

/-- A hank stands on one of the eight Distaffs. -/
theorem State.lt_of_run (s : State) (d : Nat) (r : Run) (h : s.run d = some r) : d < 8 := by
  by_contra hd
  rw [State.run, vget_of_le _ _ _ (by omega)] at h
  cases h

theorem State.spindle_modSpindle (s : State) (i j : Nat) (f : Spindle → Spindle) : (s.modSpindle i f).spindle j =
    if i = j ∧ i < 128 then f (s.spindle j) else s.spindle j := vget_vmod _ _ _ _ _

theorem State.bobbin_modBobbin (s : State) (i j : Nat) (f : Bobbin → Bobbin) : (s.modBobbin i f).bobbin j =
    if i = j ∧ i < 32 then f (s.bobbin j) else s.bobbin j := vget_vmod _ _ _ _ _

theorem State.slot_modSlot (s : State) (i j : Nat) (f : Slot → Slot) : (s.modSlot i f).slot j = if i = j ∧ i < 16 then f (s.slot j) else s.slot j :=
  vget_vmod _ _ _ _ _

theorem State.group_modGroup (s : State) (i j : Nat) (f : Group → Group) : (s.modGroup i f).group j = if i = j ∧ i < 137 then f (s.group j) else s.group j :=
  vget_vmod _ _ _ _ _

/-- One record more stands for the recorder, and the count of records made is one higher. -/
@[simp] theorem State.emit_inbox (s : State) (n : Notice) : (s.emit n).recorder.inbox = s.recorder.inbox ++ [n] := rfl
@[simp] theorem State.emit_made (s : State) (n : Notice) : (s.emit n).recorder.made = s.recorder.made + 1 := rfl

/-- A hank's fault of one word: its record, its count, and nothing else. -/
theorem State.failWord_eq (s : State) (ring seq k status cause : Nat) : s.failWord ring seq k status cause =
    ((s.emit (hankNotice 0x0701 error ring seq (rejectPayload cause 0 status k 0xFFFF))).countRejected ring seq,
      { status := status, cause := cause, evRef := s.recorder.made + 1 }) := by
  unfold State.failWord State.lastRef
  dsimp only
  rw [State.countRejected_recorder, State.emit_made]

/-- Marking held hanks touches one flag of each hank. -/
theorem State.run_markHeld (s : State) (d : Nat) : s.markHeld.run d = (s.run d).map fun r => if s.heldRun r then { r with budgetLimited := true } else r := by
  by_cases h : d < 8
  · simp [State.run, State.markHeld, vget, h]
  · rw [State.run, State.run, vget_of_le _ _ _ (by omega), vget_of_le _ _ _ (by omega)]
    rfl

@[simp] theorem State.markHeld_eq (s : State) : s.markHeld = { s with distaffs := s.markHeld.distaffs } := rfl

/-- What a word command leaves of the effect of its word. -/
def Effect.left (d k : Nat) : Effect → State
  | .wait t => t
  | .done t f => (t.modIssued d k fun i => { i with ran := true, noiseWait := false, failure := f }).markHeld
  | .started t => t.markHeld

theorem State.offer_eq (s : State) (d k w : Nat) (o : Op) (eff : WordEffect) (r : Run) (hr : s.run d = some r) (hq : r.queueReady k o w = true) :
    s.offer d k w o eff = (eff r k w s).left d k := by
  unfold State.offer
  rw [hr]
  simp only [hq, Bool.not_true, Bool.false_eq_true, if_false]
  split <;> simp only [*, Effect.left]

theorem State.drawHeaderKey_of_not_pending (s : State) (d : Nat) (r : Run) (hr : s.run d = some r) (hk : r.keyPending = false) : s.drawHeaderKey d = s := by
  unfold State.drawHeaderKey
  rw [hr]
  simp [hk]

/-- A word found among a hank's issued words stands ready in its units' queues. -/
theorem Run.granted_ready (r : Run) (o : Op) (c : Nat × Nat) (h : r.granted o = some c) : r.queueReady c.1 o c.2 = true := by
  unfold Run.granted at h
  obtain ⟨i, hi, hc⟩ := Option.bind_eq_some_iff.1 h
  have hp := List.find?_some hi
  cases hw : r.wordAt i.index with
  | none => rw [hw] at hc; cases hc
  | some x =>
    rw [hw] at hc hp
    cases hc
    simp only [Bool.and_eq_true, decide_eq_true_eq] at hp
    exact hp.2.2

/-- Every word command whose word stands at its units leaves that word's effect on the state it is handed over in. -/
theorem State.word_of_atUnits (s s0 : State) (d : Nat) (o : Op) (eff : WordEffect) (r : Run) (k w : Nat) (h : s.atUnits d o = some (s0, r, k, w)) :
    s.word d o eff = (eff r k w s0).left d k ∧ s0.run d = some r := by
  unfold State.atUnits at h
  split at h
  · rename_i q hp hq
    split at h
    · cases h
    · rename_i hk
      have hk : q.keyPending = false := by simpa using hk
      have hd := State.lt_of_run s d q hq
      have he : s.word d o eff = (match q.granted o with
          | some c => s.offer d c.1 c.2 o eff
          | none => s.issueNext d o eff) := by
        unfold State.word
        simp only [hp, ne_eq, not_true_eq_false, if_false, State.drawHeaderKey_of_not_pending s d q hq hk, hq]
        all_goals (cases q.granted o <;> rfl)
      split at h
      · rename_i c hc
        cases h
        rw [he, hc]
        exact ⟨State.offer_eq _ _ _ _ _ _ _ hq (Run.granted_ready _ _ _ hc), hq⟩
      · rename_i hg
        split at h
        · rename_i c hn
          dsimp only at h
          split at h
          · rename_i hc
            cases h
            simp only [Bool.and_eq_true, decide_eq_true_eq] at hc
            obtain ⟨⟨⟨h1, h2⟩, h3⟩, h4⟩ := hc
            rw [he, hg]
            have hr := State.run_setRun s d d
            refine ⟨?_, by rw [hr, if_pos ⟨rfl, hd⟩]⟩
            simp only [State.issueNext, hq, hn, h1, h2, h3, decide_true, Bool.and_self, if_true]
            rw [State.modRun_eq_setRun s d _ q hq]
            exact State.offer_eq _ _ _ _ _ _ _ (by rw [hr, if_pos ⟨rfl, hd⟩]) h4
          · cases h
        · cases h
  · cases h

/-- A word whose effect is done has run, with its failure, while its hank stands on the Distaff. -/
theorem Effect.left_done_ranWith (t : State) (d k : Nat) (f : Option Failure) (r : Run) (i : Issued) (hr : t.run d = some r) (hi : i ∈ r.issued) (hk : i.index = k) :
    ((Effect.done t f).left d k).ranWith d k f := by
  have hd := State.lt_of_run t d r hr
  unfold Effect.left State.ranWith
  simp only [State.run_markHeld, State.run_modIssued, hr, true_and, hd, if_true, Option.map_some]
  refine ⟨_, { i with ran := true, noiseWait := false, failure := f }, rfl, ?_, hk, rfl, rfl, rfl⟩
  have hm : ({ i with ran := true, noiseWait := false, failure := f } : Issued) ∈
      r.issued.map fun i => if i.index = k then { i with ran := true, noiseWait := false, failure := f } else i :=
    List.mem_map.2 ⟨i, hi, by rw [if_pos hk]⟩
  split <;> exact hm

end Sys2Proof.Machine
end

