-- ==== Sys2Proof/Tests/Slice0.lean ====
section
/-!
SUPPORT. The model's own tests: `test_…` runs one step on a small state, `wit_…` shows a concrete state and operands that meet the hypotheses of an obligation, clause
by clause, and `ill_…` a term that a check of WellFormed refuses. Expected values are taken from the rules each test names.
-/
namespace Sys2Proof.Tests
open Sys2Proof Sys2Proof.Machine
set_option Elab.async false

/-- A device that is ready, its link up. -/
def ready : State := { State.reset with board := { Board.reset with phase := .ready, perst := false, linkWidth := 16, linkSpeed := 5 }, start := { Start.reset with state := 1, repaired := true } }

/-- An instruction word from its opcode and its fields, each given by its lowest bit (07 R176). -/
def wordOf (op : Nat) (fields : List (Nat × Nat)) : BitVec 128 := BitVec.ofNat 128 (op * 2 ^ 116 + (fields.map fun f => f.2 * 2 ^ f.1).sum)

/-- A hank of ring 0 with these words. -/
def hankWith (mode : Nat) (bufs : List Buffer) (words : List (BitVec 128)) : Run :=
  { ring := 0, seq := 1, owner := 0, order := 1,
    header := { format := 1, nBuf := bufs.length, mode := mode, cfLevel := 1, ring := 0, ceiling := 5, seedPolicy := 0, nInstr := words.length, flags := 0,
                ckptSpace := 0, ckptBase := 0, ckptLength := 0, seedKey := [] },
    bufs := bufs, words := words, hankDigest := zeros 32, next := 0, issued := [], acquired := true, spindles := List.range 128, bobbins := List.range 32,
    keyPending := false, keys := [], keyIndex := none, reuse := [], problems := Vector.replicate 4 none, splits := [], marks := [], draws := [], failure := none,
    aborted := none, noHost := false, noisePaused := false, budgetLimited := false, intOverflow := false, debugOn := false, holdCount := 0, lagWE := 0, lagEW := 0,
    waitedPermit := false, faulted := false, faultMet := false, eccMet := none, rejected := false, reExecuted := false, shapeRef := 0, saving := false, ckptGen := 0, restoredGen := 0, atRead := false, bad := none,
    epoch := 0, shapes := ⟨0, 0⟩ }

/-- A word that holds its permits and has not run. -/
def granted (k : Nat) : Issued := { index := k, granted := true, ran := false, noiseWait := false, noiseHeld := false, failure := none }

/-- The hank has issued its first word, which holds its permits. -/
def begun (r : Run) : Run := { r with next := 1, issued := [granted 0] }

/-- A ready device with that hank on Distaff 0. -/
def running (r : Run) : State := ready.setRun 0 (some r)

/-- A ready device whose Distaff 0 hands the one word of a hank to its units. -/
def one (mode : Nat) (bufs : List Buffer) (w : BitVec 128) : State := running (begun (hankWith mode bufs [w]))

/-- A buffer in SRAM, LPDDR5X or host memory. -/
def bufAt (space base length : Nat) : Buffer := { space := space, kind := 2, verify := false, base := base, length := length, digest := zeros 32 }

/-- A hank of a ring that stands at a stage. -/
def hankAt (seq : Nat) (stage : HankStage) : Hank :=
  { seq := seq, stage := stage, entry := { hankAddr := 0, hankLen := 0, irqSel := 0, tag := 0 }, ceiling := 0, noIrq := false, wasPicked := false, signalled := 0,
    abortWith := none, ending := none }

/-- Ring 0 enabled with these hanks accepted, the first with sequence number 1. -/
def ringWith (hs : List Hank) : State :=
  ready.modRing 0 fun x => { x with enabled := true, seqBase := 1, nextSeq := 1 + hs.length, sqAccepted := BitVec.ofNat 32 hs.length, hanks := hs }

/-- A start that finds nothing wrong. -/
def goodStart : StartInputs :=
  { powered := true, i3cSa := 0, flashAnswers := true, imageSelfTest := true, identityOk := true, railsInOrder := true, damagedA := false, damagedB := false, avsFail := none, spindleFails := [], bobbinFails := [], distaffFails := [],
    sram := [], lpTrainFails := 0, vdom := List.replicate 296 [700, 650, 600, 550], keepFault := false, fatalDuring := false,
    early := [] }

/-- What enumeration sets. -/
def setup : PcieSetup := { speed := 4, maxPayload := 1, maxRead := 2, ecrcGenerate := false, ecrcCheck := true, d3hot := false, bars := [0x100000, 0, 0, 0, 0] }

/-- What a command answers, the state itself where it answers none. -/
def after (c : Instr) (s : State) : State := match exec c s with
  | .next t => t
  | _ => s

/-- A word at its units with a property of what is handed over. -/
def atOk (s : State) (d : Nat) (o : Op) (p : State → Run → Nat → Nat → Bool) : Bool := match s.atUnits d o with
  | some (s0, r, k, w) => p s0 r k w
  | none => false

theorem at_some {s : State} {d : Nat} {o : Op} (p : State → Run → Nat → Nat → Prop) [∀ a b c e, Decidable (p a b c e)]
    (h : atOk s d o (fun a b c e => decide (p a b c e)) = true) : ∃ s0 r k w, s.atUnits d o = some (s0, r, k, w) ∧ p s0 r k w := by
  unfold atOk at h
  split at h
  · exact ⟨_, _, _, _, ‹_›, of_decide_eq_true h⟩
  · cases h

/-- The running ANNEAL or SAMPLE with a property of it. -/
def engineOk (s : State) (p : AnnealRun → Run → Problem → Bool) : Bool := match s.engine with
  | some (a, r, q) => p a r q
  | none => false

theorem engine_some {s : State} (p : AnnealRun → Run → Problem → Prop) [∀ a b c, Decidable (p a b c)]
    (h : engineOk s (fun a b c => decide (p a b c)) = true) : ∃ a r q, s.engine = some (a, r, q) ∧ p a r q := by
  unfold engineOk at h
  split at h
  · exact ⟨_, _, _, ‹_›, of_decide_eq_true h⟩
  · cases h

-- Ill-formed terms, one for each check of WellFormed.

theorem ill_coldPowerOnStart_vdom : Instr.wf (.coldPowerOnStart { goodStart with vdom := [] }) = false := by decide +kernel
theorem ill_coldPowerOnStart_spindle : Instr.wf (.coldPowerOnStart { goodStart with spindleFails := [(136, [])] }) = false := by decide +kernel
theorem ill_hotReset_twice_spindle : Instr.wf (.hotReset { goodStart with spindleFails := [(5, []), (5, [1])] }) = false := by decide +kernel
theorem ill_hotReset_twice : Instr.wf (.hotReset { goodStart with bobbinFails := [3, 3] }) = false := by decide +kernel
theorem ill_trstDeassertion_early : Instr.wf (.trstDeassertion { goodStart with distaffFails := [8] }) = false := by decide +kernel
theorem ill_bar2Access_empty : Instr.wf (.bar2Access 0 0 none) = false := by decide +kernel
theorem ill_bar2Access_length : Instr.wf (.bar2Access 0 4 (some [1, 2])) = false := by decide +kernel
theorem ill_replanMeasure_rows : Instr.wf (.replanMeasure [[700, 650, 600, 550]]) = false := by decide +kernel
theorem ill_unitFault_bobbin : Instr.wf (.unitFault true 34 6) = false := by decide +kernel
theorem ill_unitFault_stage : Instr.wf (.unitFault false 0 6) = false := by decide +kernel
theorem ill_sramScrubAccess_fresh : Instr.wf (.sramScrubAccess 0 ⟨[], [(.spindle, 2 ^ 40, true)]⟩) = false := by decide +kernel
theorem ill_stops : exec (.bar2Access 0 0 none) ready = .fault .malformedCommand := by rfl
theorem wit_WellFormedCommandsAnswer : Instr.wf (.coldPowerOnStart goodStart) = true ∧ Instr.wf (.hotReset goodStart) = true ∧
    Instr.wf (.unitFault true 33 6) = true ∧ Instr.wf .hankPick = true := by decide +kernel

-- The queue, the start and the halts.

theorem wit_StepRunsFrontCommand : ({ ready with pending := [.perstAssert, .hankPick] } : State).pending = .perstAssert :: [.hankPick] := rfl
theorem test_empty_queue_idles : step State.reset = .next State.reset := rfl
theorem wit_CommandsKeepTheQueue : exec .hankPick State.reset = .next State.reset := by rfl
theorem wit_StepKeepsMemoryCanonical : State.reset.mem.wf = true ∧ step State.reset = .next State.reset := ⟨by decide, rfl⟩
theorem wit_ResetState : State.reset.mem.wf = true ∧ (∀ r < 64, (State.reset.ring r).nextSeq = 1) ∧ ∀ g < 137, (State.reset.group g).state = 0 := by decide +kernel

theorem wit_StartsReachReady_cold : startOk goodStart true = true ∧ goodStart.avsFail = none ∧ goodStart.railsInOrder = true ∧ State.reset.board.phase = .reset ∧ State.reset.board.perst = true ∧
    State.reset.board.thermtrip = false := by decide +kernel
theorem wit_StartsReachReady_warm : startOk goodStart false = true ∧ (goodStart.powered || ready.board.coldNext) = true ∧
    ({ State.reset with board := { Board.reset with coldNext := false } } : State).board.perst = true := by decide +kernel
theorem wit_StartsReachReady_hot : startOk goodStart false = true ∧ ready.board.phase = .ready := by decide +kernel
theorem wit_StartsReachReady_held : startOk { goodStart with railsInOrder := false } true = true ∧ State.reset.board.phase = .reset ∧ State.reset.board.perst = true ∧
    goodStart.powered = true ∧ ({ ready with board := { ready.board with phase := .haltedSag } } : State).halted = true ∧
    startOk { goodStart with avsFail := some (.east, true) } false = true := by decide +kernel
/-- 16 R400: a rail out of order holds the device in reset. -/
theorem test_rails : (after (.coldPowerOnStart { goodStart with railsInOrder := false }) State.reset).board.phase = .reset := by decide +kernel
theorem wit_StartsReachReady_trst : let s := { ready with board := { ready.board with tapMisused := true } }
    startOk goodStart false = true ∧ s.board.phase ≠ .reset ∧ s.board.tapMisused = true := by decide +kernel
/-- 13 R344, R347, R353; 11 R316. -/
theorem test_cold_start : let t := after (.coldPowerOnStart goodStart) State.reset
    t.start.state = 1 ∧ t.start.lastReset = 0 ∧ t.keep.resetCount = 1 ∧ t.keep.powerOn = 1 := by decide +kernel

theorem wit_ResetsOfARunningDevice : ready.board.perst = false ∧ ready.board.phase ≠ .reset ∧
    ∀ d < 8, ready.run d = none := by decide +kernel
theorem wit_SagHaltsAndSaves : ready.board.phase = .ready ∧ ready.sagCause 1 ≠ 0 ∧ ∀ d < 8, ready.run d = none := by decide +kernel
/-- 11 R313: the first save goes to an area and has SAVE_SEQ 1. -/
theorem test_sag : let t := after (.supplySag 1 true) ready
    t.board.phase = .haltedSag ∧ t.board.alertSave = true ∧ t.keep.saveSeq = 1 := by decide +kernel
theorem wit_FatalStopsHaltTheDevice_trip : ready.board.phase = .ready ∧ (115 : Int) ≤ 120 ∧ ready.board.thermtrip = false := by decide
theorem wit_FatalStopsHaltTheDevice_avs : let s := { ready with steward := { ready.steward with avsTries := ⟨2, 0⟩ } }
    s.board.phase = .ready ∧ 2 ≤ s.steward.avsTries.get .west ∧ s.steward.avsTries.get .east < 2 := by decide +kernel
/-- 16 R407: 114 °C trips nothing, 115 °C halts. -/
theorem test_thermtrip : (after (.thermtrip 0 114) ready).board.phase = .ready ∧ (after (.thermtrip 0 115) ready).board.phase = .haltedFatal := by decide +kernel

-- The link and the functions.

theorem wit_LinkAndFunctionCommands_link : ready.board.phase ≠ .reset ∧ (4 : Fin 5).val ≠ 1 ∧ (0 : Fin 5).val ≠ 1 := by decide
/-- 09 R242: x16 at 32 GT/s writes no record, x8 one. -/
theorem test_linkUp : (after (.linkUp 4 setup) ready).recorder.made = 0 ∧ (after (.linkUp 3 setup) ready).recorder.made = 1 ∧ (after (.linkUp 3 setup) ready).board.linkWidth = 8 := by
  decide +kernel
/-- 16 R405: the IDCODE. -/
theorem test_idcode : (after (.tapInstruction ⟨.idcode, none⟩) ready).out.reply = 0x19610A9B ∧ (after (.tapInstruction ⟨.extest, none⟩) ready).board.tapMisused = true := by decide +kernel
theorem wit_LinkAndFunctionCommands_trst : startOk goodStart false = true ∧ ready.board.tapMisused = false := by decide +kernel
/-- A device with VFs. -/
def withVfs : State := { ready with vfEnable := true, ari := true, numVfs := 15 }
theorem wit_LinkAndFunctionCommands_vf : withVfs.board.phase = .ready ∧ withVfs.linkOpen 0 = true ∧ withVfs.vfEnable = true ∧ ready.vfEnable = false := by decide
theorem wit_LinkAndFunctionCommands_msix : let s := { ready with functions := vmod ready.functions 0 fun f => { f with pending := [7] } }
    s.board.phase = .ready ∧ s.linkOpen 0 = true ∧ s.fnThere 0 = true ∧ s.functions[0].pending.contains 7 = true := by decide +kernel
theorem test_msixUnmask : let s := { ready with functions := vmod ready.functions 0 fun f => { f with pending := [7] } }
    (after (.msixUnmask 0 7 ⟨0xFEE00000, 1, [], true⟩) s).out.msix = [(0, 7)] ∧ (after (.msixUnmask 0 7 ⟨0xFEE00000, 1, [], false⟩) s).out.msix = [] := by decide +kernel
theorem test_numVfs : ({ withVfs with numVfs := 2 } : State).fnThere 2 = true ∧ ({ withVfs with numVfs := 2 } : State).fnThere 3 = false := by decide +kernel
theorem wit_FunctionLevelResetClearsItsRings : withVfs.board.phase = .ready ∧ withVfs.fnThere 0 = true ∧ withVfs.fnThere 3 = true ∧
    (withVfs.modSpindle 9 fun x => { x with lastOwner := some 3 }).units.spindles[9].lastOwner = some 3 := by decide +kernel
/-- 09 R265: the ring's page is cleared, its next sequence number stays. -/
theorem test_flr : let t := after (.functionLevelReset 0) (ringWith [hankAt 1 .waiting])
    (t.ring 0).enabled = false ∧ (t.ring 0).nextSeq = 2 ∧ (t.ring 0).sqAccepted = 0 := by decide +kernel

-- The rings.

theorem wit_RingsEnableAndDisable_on : ready.reaches 0 5 = true ∧ ready.start.state = 1 ∧ (ready.ring 5).enabled = false ∧ bits (0x80000400 : BitVec 32).toNat 11 8 = 4 ∧
    (ready.ring 5).sqBase.toNat % 4096 = 0 := by decide +kernel
/-- 09 R251: LOG2_DEPTH 4 and 12 are accepted, 3 and 13 are not. -/
theorem test_enable_depths : let on := fun (v : BitVec 32) => ((after (.enableRing 0 5 v) ready).ring 5).enabled
    on 0x80000400 = true ∧ on 0x80000C00 = true ∧ on 0x80000300 = false ∧ on 0x80000D00 = false := by decide +kernel
theorem wit_RingsEnableAndDisable_off : (ringWith []).reaches 0 0 = true ∧ ((ringWith []).ring 0).enabled = true ∧
    ((ringWith []).ring 0).sqAccepted = ((ringWith []).ring 0).cqTail ∧ ((ringWith [hankAt 1 .waiting]).ring 0).sqAccepted ≠ ((ringWith [hankAt 1 .waiting]).ring 0).cqTail := by
  decide +kernel
theorem test_disable_busy : ((after (.disableRing 0 0 0) (ringWith [hankAt 1 .waiting])).ring 0).enabled = true ∧ ((after (.disableRing 0 0 0) (ringWith [])).ring 0).enabled = false := by
  decide +kernel
theorem wit_DoorbellsAndHeadsMoveWithinCredits : (ringWith []).reaches 0 0 = true ∧ ((ringWith []).ring 0).enabled = true ∧
    ((16 : BitVec 32) - ((ringWith []).ring 0).sqAccepted).toNat + (((ringWith []).ring 0).sqAccepted - ((ringWith []).ring 0).cqHead).toNat ≤ 2 ^ ((ringWith []).ring 0).log2Depth := by
  decide +kernel
/-- 09 R254: with depth 16 and no hank, 16 entries are accepted, 17 are ignored and counted. -/
theorem test_doorbell_credits : ((after (.sqDoorbell 0 0 16) (ringWith [])).ring 0).hanks.length = 16 ∧ ((after (.sqDoorbell 0 0 17) (ringWith [])).ring 0).hanks.length = 0 ∧
    ((after (.sqDoorbell 0 0 17) (ringWith [])).ring 0).badDoorbell = 1 := by decide +kernel
/-- 09 R255: a head past the tail is ignored and counted. -/
theorem test_cqHead : let s := (ringWith []).modRing 0 fun x => { x with cqTail := 2 }
    ((after (.cqHead 0 0 2) s).ring 0).cqHead = 2 ∧ ((after (.cqHead 0 0 3) s).ring 0).cqHead = 0 ∧ ((after (.cqHead 0 0 3) s).ring 0).badHead = 1 := by decide +kernel
theorem wit_AbortFinishesAWaitingHank : let s := ringWith [hankAt 1 .waiting]
    let x := s.ring 0
    s.reaches 0 0 = true ∧ (1 : BitVec 64).toNat / 2 ^ 63 = 0 ∧ x.seqBase ≤ 1 ∧ 1 < x.seqBase + x.sqAccepted.toNat ∧
    x.hanks.filter (fun g => g.seq = 1) = [hankAt 1 .waiting] := by decide +kernel
theorem wit_RegisterWriteReachesTheRegister : ready.reaches 0 5 = true ∧ (ready.ring 5).enabled = false ∧ (0x5002 : BitVec 20).toNat % 4 ≠ 0 := by decide +kernel
/-- 09 R250: SQ_BASE at 0x008 of a page. -/
theorem test_registerWrite : ((after (.registerWrite 0 0x5008 true 0x123456789A000) ready).ring 5).sqBase = 0x123456789A000 := by decide +kernel
/-- A device in debug mode. -/
def debugging : State := { ready with dict := ready.dict.store 0x8000 1 1 }
theorem wit_Bar2ReachesMemoryInDebugMode : debugging.board.phase = .ready ∧ bar2Ok 3 (some [1, 2, 3]) = true ∧ bar2Ok 3 none = true ∧
    bar2Place (0x1005 : BitVec 41).toNat 3 = some (0, 0x1005) ∧ bar2Place (0x10000000000 : BitVec 41).toNat 3 = some (1, 0) ∧ 0x1005 + 3 ≤ sramHostBytes ∧
    debugging.debug = true ∧ ready.debug = false := by decide +kernel
theorem test_bar2 : (after (.bar2Access 0x1004 3 none) (after (.bar2Access 0x1005 2 (some [7, 8])) debugging)).out.bar2 = [0, 7, 8] ∧
    (after (.bar2Access 0x1004 3 none) ready).dict.bar2Dropped = 1 := by decide +kernel

-- From the entry to the units.

theorem wit_EntryReadMakesTheHankWait : let s := ringWith [hankAt 1 .accepted]
    s.board.phase = .ready ∧ ((s.ring 0).unread.map fun h => h.seq) = some 1 ∧ (s.ring 0).unread = some (hankAt 1 .accepted) ∧ (hankAt 1 .accepted).abortWith = none ∧
    (s.ring 0).hanks.filter (fun g => g.seq = 1) = [hankAt 1 .accepted] := by decide +kernel
/-- 09 R252: an entry at depth 16 whose HANK_LEN is that of a header of no buffer and no word. -/
theorem wit_EntryReadMakesTheHankWait_sound : let s := (ringWith [hankAt 1 .accepted]).put 2 (hostKey 0 0) (le 8 4096 ++ le 4 256)
    let b := s.entryBytes 0 (hankAt 1 .accepted)
    s.entryFaults 0 b (entryFields b) = [] := by decide +kernel
theorem wit_EntryReadMakesTheHankWait_fault : let s := ringWith [hankAt 1 .accepted]
    let b := s.entryBytes 0 (hankAt 1 .accepted)
    s.entryFaults 0 b (entryFields b) ≠ [] := by decide +kernel
theorem wit_HostReadFaultsAreReported : let s := (ringWith [hankAt 1 .accepted]).modSlot 3 fun x => { x with busy := some (.inr (true, 64)) }
    (s.ring 0).unread = some (hankAt 1 .accepted) ∧ (s.slot 3).busy = some (.inr (true, 64)) := by decide +kernel
/-- The pointer stands at ring 0, whose head waits. -/
def atPointer : State := (ringWith [hankAt 1 .waiting]).modRing 0 fun x => { x with allowance := 1 }
theorem wit_PicksFollowThePointer_pick : let p := atPointer.dispatcher.pointer
    p < 64 ∧ atPointer.mayPick = true ∧ (atPointer.ring p).eligible = true ∧ (atPointer.ring p).allowance ≠ 0 ∧ (atPointer.ring p).head = some (hankAt 1 .waiting) ∧
    atPointer.fits 0 = true := by decide +kernel
theorem test_pick : (after .hankPick atPointer).dispatcher.picked = some (0, 1) := by decide +kernel
theorem wit_PicksFollowThePointer_move : ready.board.phase = .ready ∧ ready.dispatcher.pointer < 64 ∧ (ready.ring 0).eligible = false := by decide +kernel
theorem test_pointer_wraps : (after .arbiterPointerMove { ready with dispatcher := { ready.dispatcher with pointer := 63 } }).dispatcher.pointer = 0 := by decide +kernel
/-- A picked hank that waits for a Distaff, Distaff 0 out of service. -/
def pickedOne : State :=
  let s := ringWith [hankAt 1 .picked]
  { s with dispatcher := { s.dispatcher with picked := some (0, 1) }, distaffs := vmod s.distaffs 0 fun x => { x with inService := false } }
theorem wit_HankStartsOnTheLowestFreeDistaff : pickedOne.board.phase = .ready ∧ pickedOne.pickedHank = some (0, hankAt 1 .picked) ∧ pickedOne.freeDistaff = some 1 := by
  decide +kernel
theorem wit_HankStartsOnTheLowestFreeDistaff_refused : (hankReject (pickedOne.setting 0 1) (zeros 256)).isSome = true := by decide +kernel
theorem test_hank_reject : ((after .hankStart pickedOne).run 1).map (fun r => r.failure.isSome) = some true := by decide +kernel
/-- A hank that has reached a word that names Spindle 3, its units not yet acquired. -/
def waiting3 : State := running { hankWith 0 [] [wordOf 0x108 [(96, 3)]] with acquired := false, spindles := [], bobbins := [] }
theorem wit_AcquisitionTakesTheWholeSet : waiting3.board.phase = .ready ∧ (∃ r, waiting3.run 0 = some r ∧ r.waitsUnits = true ∧ waiting3.unitsFree r = true ∧
    (∀ u ∈ r.unitSet.1, waiting3.halfFaulted (halfOfSpindle u) = false) ∧ (∀ b ∈ r.unitSet.2, waiting3.halfFaulted (halfOfBobbin b) = false) ∧ r.unitSet = ([3], [])) :=
  ⟨rfl, _, rfl, by decide +kernel⟩
theorem test_acquire : ((after (.unitAcquire 0) waiting3).spindle 3).holder = some (0, 1) ∧ ((after (.unitAcquire 0) waiting3).spindle 4).holder = none := by decide +kernel
/-- A word that has run and is not complete. -/
def ranOne (f : Option Failure) : State :=
  running { hankWith 0 [] [wordOf 0x010 []] with next := 1, issued := [{ granted 0 with ran := true, failure := f }] }
/-- The same hank after a remap that left the half out of service: it no longer fits. -/
def misfit3 : State := { waiting3 with units := { waiting3.units with epoch := 1, shape := ⟨0xFF, 0⟩, fold := ⟨0, 1⟩ } }
theorem wit_AcquisitionTakesTheWholeSet_misfit : ∃ r, misfit3.run 0 = some r ∧ r.waitsUnits = true ∧ misfit3.unitsFree r = true ∧ r.epoch ≠ misfit3.units.epoch ∧
    (shapesReject (misfit3.setting r.ring r.seq) r.header r.words 0 (Tracker.start r.header)).isSome = true := ⟨_, rfl, by decide +kernel⟩
theorem test_misfit : ((after (.unitAcquire 0) misfit3).run 0).map (fun r => (r.acquired, r.failure.map fun f => f.2.status)) = some (false, some 0x60) := by decide +kernel
/-- Words 0 and 1 name Spindle 3; word 1 holds its permits and word 0 has not run. -/
def behind : State := running { hankWith 0 [] [wordOf 0x100 [(96, 3)], wordOf 0x108 [(96, 3)]] with next := 2, issued := [{ granted 0 with granted := false }, granted 1] }
theorem wit_WordsRequestAndReturnPermits_order : ∃ r, behind.run 0 = some r ∧ r.keyPending = false ∧ r.nextWord = none ∧ r.granted .accOpen = none ∧
    (r.wordAt 0).map (fun c => spindlesOf c.1 c.2) = some [3] ∧ (r.wordAt 1).map (fun c => (c.1, spindlesOf c.1 c.2)) = some (.accOpen, [3]) := ⟨_, rfl, by decide +kernel⟩
theorem wit_WordsRequestAndReturnPermits_return : (ranOne none).board.phase = .ready ∧ (∃ r, (ranOne none).run 0 = some r ∧
    (r.issued.find? (fun j => j.index = 0 && j.ran)).isSome = true) ∧ (ranOne none).units.drains = [] := ⟨rfl, ⟨_, rfl, by decide +kernel⟩, rfl⟩
theorem test_complete_failure : ((after (.wordComplete 0 0) (ranOne (some { status := 0x50, cause := 0, evRef := 0 }))).run 0).map
    (fun r => (r.issued.length, r.failure.map fun f => f.2.status)) = some (0, some 0x50) := by decide +kernel
/-- A hank whose next word is a MAC.ACC of draw class 4 on Spindle 3. -/
def beforeMac : State := running (hankWith 0 [] [wordOf 0x100 [(96, 3), (103, 4), (56, 3)]])
theorem wit_WordsRequestAndReturnPermits_request : beforeMac.board.phase = .ready ∧ ∃ r w, beforeMac.run 0 = some r ∧ r.keyPending = false ∧ r.granted .macAcc = none ∧
    r.nextWord = some (.macAcc, w) ∧ beforeMac.canIssue r .macAcc w = true ∧ requestDraw .macAcc w ≠ 0 :=
  ⟨rfl, _, (wordOf 0x100 [(96, 3), (103, 4), (56, 3)]).toNat, rfl, by decide +kernel⟩
theorem test_permit_request : (after (.macAcc 0) beforeMac).steward.queue.map (fun p => (p.distaff, p.word)) = [(0, 0)] := by decide +kernel

-- Control words.

/-- The hank named by WAIT.SEQ has signalled 5. -/
def signalled5 (w : BitVec 128) : State :=
  let s := one 0 [] w
  s.modRing 2 fun x => { x with hanks := [{ hankAt 9 .running with signalled := 5 }] }
theorem wit_ControlWordsDoTheirWork_barrier : (∃ s0 r k w, (one 0 [] (wordOf 0x010 [])).atUnits 0 .barrier = some (s0, r, k, w) ∧ bit w 94 = false) ∧
    ∃ s0 r k w, (one 0 [] (wordOf 0x010 [(94, 1)])).atUnits 0 .barrier = some (s0, r, k, w) ∧ bit w 94 = true :=
  ⟨at_some _ (by decide +kernel), at_some _ (by decide +kernel)⟩
theorem wit_WaitSeqEndsByItsHankOrTimeout_signalled : ∃ s0 r k w, (signalled5 (wordOf 0x011 [(89, 2), (41, 9), (25, 5)])).atUnits 0 .waitSeq = some (s0, r, k, w) ∧
    ((signalled5 (wordOf 0x011 [(89, 2), (41, 9), (25, 5)])).awaited (bits w 94 89) (bits w 88 41) (bits w 40 25)) = some none := at_some _ (by decide +kernel)
theorem wit_WaitSeqEndsByItsHankOrTimeout_waits : ∃ r k w, (signalled5 (wordOf 0x011 [(89, 2), (41, 9), (25, 6), (4, 1)])).atUnits 0 .waitSeq =
      some (signalled5 (wordOf 0x011 [(89, 2), (41, 9), (25, 6), (4, 1)]), r, k, w) ∧
    ((signalled5 (wordOf 0x011 [(89, 2), (41, 9), (25, 6), (4, 1)])).awaited (bits w 94 89) (bits w 88 41) (bits w 40 25)) = none ∧
    r.granted .waitSeq = some (k, w) ∧ bits w 23 4 ≠ 0 ∧ r.rejected = false := ⟨_, _, _, rfl, by decide +kernel⟩
/-- What the issued word 0 of Distaff 0 came to: whether it ran, and its status and cause. -/
def outcome0 (s : State) : Option (Bool × Option (Nat × Nat)) :=
  (s.run 0).bind fun r => r.issued.head?.map fun i => (i.ran, i.failure.map fun f => (f.status, f.cause))
/-- 07 R189: STAGE 5 is reached, STAGE 6 is not, and TIMEOUT ends that wait with ABORTED, WAIT. -/
theorem test_waitSeq : outcome0 (after (.waitSeq 0) (signalled5 (wordOf 0x011 [(89, 2), (41, 9), (25, 5)]))) = some (true, none) ∧
    outcome0 (after (.waitSeq 0) (signalled5 (wordOf 0x011 [(89, 2), (41, 9), (25, 6)]))) = some (false, none) ∧
    outcome0 (after (.waitSeqTimeout 0) (signalled5 (wordOf 0x011 [(89, 2), (41, 9), (25, 6), (4, 1)]))) = some (true, some (0xF0, 0x32)) := by decide +kernel
/-- A SIGNAL of 7 with IRQ by hank 1 of ring 0, MSI-X enabled and entry 0 not masked. -/
def signalling : State :=
  let s := (one 0 [] (wordOf 0x012 [(79, 7), (78, 1)])).modRing 0 fun x => { x with hanks := [hankAt 1 .running] }
  { s with functions := vmod s.functions 0 fun f => { f with msixEnabled := true, unmasked := [0] } }
theorem wit_ControlWordsDoTheirWork_signal : ∃ s0 r k w, signalling.atUnits 0 .signal = some (s0, r, k, w) ∧ r.ring < 64 ∧
    (signalling.ring r.ring).hanks.find? (fun h => h.seq = r.seq) = some (hankAt 1 .running) ∧ signalling.functions[r.owner]? =
      some { Function.reset with msixEnabled := true, unmasked := [0] } := at_some _ (by decide +kernel)
theorem test_signal : let t := after (.signal 0) signalling
    (t.ring 0).progSeq = 1 ∧ (t.ring 0).progVal = 7 ∧ t.out.msix = [(0, 0)] := by decide +kernel
def marking : State := one 0 [bufAt 0 4096 128] (wordOf 0x018 [(89, 0), (25, 1), (21, 6)])
theorem wit_ControlWordsDoTheirWork_mark : ∃ s0 r k w, marking.atUnits 0 .ledgerMark = some (s0, r, k, w) ∧ r.buf (lmBuf w) = some (bufAt 0 4096 128) ∧
    marking.readable r (bufAt 0 4096 128) (lmOff w) (lmLen w) := at_some _ (by decide +kernel)
def triggering : State := { one 0 [] (wordOf 0x01C [(91, 3)]) with dict := ready.dict.store 0x8000 1 1 }
theorem wit_ControlWordsDoTheirWork_trigger : (∃ s0 r k w, triggering.atUnits 0 .debugTrigger = some (s0, r, k, w) ∧ triggering.debug = true ∧ bits w 94 91 = 3 ∧
    vget triggering.recorder.captures none 3 = none) ∧
    ∃ s0 r k w, (one 0 [] (wordOf 0x01C [(91, 3)])).atUnits 0 .debugTrigger = some (s0, r, k, w) ∧ (one 0 [] (wordOf 0x01C [(91, 3)])).debug = false :=
  ⟨at_some _ (by decide +kernel), at_some _ (by decide +kernel)⟩

-- Movers and vectors.

/-- LOAD or STORE of 128 bytes between buffer 1, offset 64, and address 192 of unit 5. -/
def moving (op space bobbin : Nat) : State := one 0 [bufAt 0 0 64, bufAt space 4096 19200] (wordOf op [(89, 1), (55, 1), (31, 2), (17, 3), (15, bobbin), (96, 5)])
theorem wit_MoversMoveBytes_load : ∃ s0 r k w, (moving 0x020 2 1).atUnits 0 .load = some (s0, r, k, w) ∧ r.buf (ldBuf w) = some (bufAt 2 4096 19200) ∧
    (∀ u ∈ moverUnits w, (moving 0x020 2 1).readable r (bufAt 2 4096 19200) (moverOffset w u) (ldLen w)) ∧ ldLs w + ldLen w ≤ 2 ^ 19 ∧ ldBobbin w = true :=
  at_some _ (by decide +kernel)
theorem wit_MoversMoveBytes_store : ∃ s0 r k w, (moving 0x021 1 0).atUnits 0 .store = some (s0, r, k, w) ∧ r.buf (ldBuf w) = some (bufAt 1 4096 19200) ∧ wAll w = false ∧
    (moving 0x021 1 0).lsReadable (ldBobbin w) (wUnit w) (ldLs w) (ldLen w) := at_some _ (by decide +kernel)
/-- 07 R192: buffer byte 64 + j stands at local-store address 192 + j of Bobbin 5. -/
theorem test_load : let s := (moving 0x020 0 1).put 0 4160 [1, 2, 3]
    let t := after (.load 0) s
    (List.range 4).map (fun j => t.byteAt 4 (5 * 2 ^ 19 + 192 + j)) = [1, 2, 3, 0] ∧ outcome0 t = some (true, none) := by decide +kernel
theorem test_store : let s := (moving 0x021 1 0).put 3 (5 * 2 ^ 20 + 192) [1, 2, 3]
    let t := after (.store 0) s
    (List.range 4).map (fun j => t.byteAt 1 (4160 + j)) = [1, 2, 3, 0] ∧ outcome0 t = some (true, none) := by decide +kernel
/-- COPY of 192 bytes from offset 4096 of buffer 0 to offset 8192 of buffer 1. -/
def copying : State := one 0 [bufAt 0 4096 65536, bufAt 1 131072 65536] (wordOf 0x022 [(89, 0), (61, 1), (55, 1), (27, 2), (0, 3)])
theorem wit_MoversMoveBytes_copy : ∃ s0 r k w, copying.atUnits 0 .copy = some (s0, r, k, w) ∧ r.buf (cpSrc w) = some (bufAt 0 4096 65536) ∧
    r.buf (cpDst w) = some (bufAt 1 131072 65536) ∧ cpSrc w ≠ cpDst w ∧ copying.readable r (bufAt 0 4096 65536) (cpSoff w) (cpLen w) := at_some _ (by decide +kernel)
theorem test_copy : let t := after (.copy 0) (copying.put 0 8192 [9, 8])
    (List.range 3).map (fun j => t.byteAt 1 (139264 + j)) = [9, 8, 0] := by decide +kernel
/-- GATHER of three rows of 64 bytes, of a source of ten rows. -/
def gathering (last : Nat) : State :=
  (one 0 [bufAt 0 4096 640, bufAt 0 8192 64, bufAt 1 4096 4096] (wordOf 0x023 [(89, 0), (83, 1), (77, 2), (61, 1), (37, 3)])).put 0 8192 (le 4 3 ++ le 4 last ++ le 4 0)
theorem wit_MoversMoveBytes_gather : ∃ s0 r k w, (gathering 9).atUnits 0 .gather = some (s0, r, k, w) ∧ r.buf (gaSrc w) = some (bufAt 0 4096 640) ∧
    r.buf (gaIdx w) = some (bufAt 0 8192 64) ∧ r.buf (gaDst w) = some (bufAt 1 4096 4096) ∧ ((gathering 9).mem.check 0 8192 (4 * gaCount w)).2 = none ∧
    ((gathering 9).mem.check 0 4096 640).2 = none := at_some _ (by decide +kernel)
/-- 07 R193: index 9 is the last row of the source; index 10 ends the hank with ABORTED, RANGE. -/
theorem test_gather : outcome0 (after (.gather 0) (gathering 9)) = some (true, none) ∧ outcome0 (after (.gather 0) (gathering 10)) = some (true, some (0xF0, 0x31)) := by
  decide +kernel
/-- A VEC word on Bobbin 2: A at 0, B at 64, C at 128, DST at 192, COUNT 2, INT32. -/
def vector (op : Nat) : State :=
  ((one 0 [] (wordOf op [(96, 2), (82, 0), (69, 1), (56, 2), (43, 3), (25, 1), (23, 2)])).put 4 (2 * 2 ^ 19) (le 4 7 ++ le 4 0xFFFFFFFF)).put 4 (2 * 2 ^ 19 + 64)
    (le 4 5 ++ le 4 2)
theorem wit_VectorWordsWorkElementByElement_sum : ∃ s0 r k w, (vector 0x200).atUnits 0 .vecAdd = some (s0, r, k, w) ∧ (∀ x ∈ bobbinRanges .vecAdd w, x.1 + x.2 ≤ 2 ^ 19) ∧
    (∀ u ∈ bobbinsOf .vecAdd w, ∀ x ∈ (bobbinRanges .vecAdd w).dropLast, (vector 0x200).lsReadable true u x.1 x.2) ∧
    ∀ a ∈ [veA w] ++ [veB w], 64 * a + veSize (veType w) * veCount w ≤ 64 * veDst w := at_some _ (by decide +kernel)
theorem wit_VectorWordsWorkElementByElement_reduce : ∃ s0 r k w, (vector 0x20B).atUnits 0 .vecRmax = some (s0, r, k, w) ∧ veCount w % 2 ^ veRlog w = 0 ∧
    64 * veA w + veSize (veType w) * veCount w ≤ 64 * veDst w := at_some _ (by decide +kernel)
/-- 07 R200: INT32 sums wrap; a quotient truncates toward zero. -/
theorem test_vecAdd : (after (.vecAdd 0) (vector 0x200)).bytes 4 (2 * 2 ^ 19 + 192) 8 = le 4 12 ++ le 4 1 := by decide +kernel
theorem test_vecDiv : (after (.vecDiv 0) (vector 0x204)).bytes 4 (2 * 2 ^ 19 + 192) 8 = le 4 1 ++ le 4 0 := by decide +kernel
theorem test_vecMin : (after (.vecMin 0) (vector 0x207)).bytes 4 (2 * 2 ^ 19 + 192) 8 = le 4 5 ++ le 4 0xFFFFFFFF := by decide +kernel
/-- 05 R121 and 07 R200: 1.5 + 2.25 = 3.75, and the square root of 2 in FP32. -/
theorem test_vecAdd_fp : vecOp .vecAdd 0 0 0x3FC00000 0x40100000 0 = (0x40700000, false) ∧ vecOp .vecSqrt 0 0 0x40000000 0 0 = (0x3FB504F3, false) := by decide +kernel

-- Spindle words.

/-- A hank whose one word names slot 2 of Spindle 3, with a state of that Spindle. -/
def onSpindle (w : BitVec 128) (f : Spindle → Spindle) : State := (one 0 [] w).modSpindle 3 f
/-- INT8 MAC.* with K 8: A at 0, B at 4096; slot 2 or the pair's slot 0 is of kind INT. -/
def macWord (op slot : Nat) : BitVec 128 := wordOf op [(96, 3), (108, slot), (106, 1), (81, 0), (67, 64), (56, 1), (52, 3), (48, 3)]
def macState (op slot : Nat) (pair : Option (Bool × Bool)) : State :=
  ((onSpindle (macWord op slot) fun x => { x with open_ := vset x.open_ slot (some true), pair := pair }).put 3 (3 * 2 ^ 20) [2, 0xFF]).put 3 (3 * 2 ^ 20 + 4096) [3, 5]
theorem wit_MacAddsProductsAndSwapsThePair_acc : ∃ s0 r k w, (macState 0x100 2 none).atUnits 0 .macAcc = some (s0, r, k, w) ∧ wAll w = false ∧ r.header.mode = 0 ∧ wUnit w = 3 ∧
    ((macState 0x100 2 none).spindle 3).isInt (wAcc w) = true ∧ ((macState 0x100 2 none).spindle 3).fillLane (wAcc w) = 2 ∧ (macState 0x100 2 none).laneBusy 3 2 = false ∧
    macCbk w = 0 ∧ (macState 0x100 2 none).lsReadable false 3 (64 * macA w) 256 ∧ (macState 0x100 2 none).lsReadable false 3 (64 * macB w) 256 := at_some _ (by decide +kernel)
theorem wit_MacAddsProductsAndSwapsThePair_end : ∃ s0 r k w, (macState 0x101 0 (some (false, true))).atUnits 0 .macEnd = some (s0, r, k, w) ∧ wAll w = false ∧ wAcc w = 0 ∧
    ((macState 0x101 0 (some (false, true))).spindle 3).pair = some (false, true) ∧ ((macState 0x101 0 (some (false, true))).spindle 3).isInt 0 = true ∧ macCbk w = 0 ∧
    (macState 0x101 0 (some (false, true))).laneBusy 3 0 = false ∧ (macState 0x101 0 (some (false, true))).laneBusy 3 1 = false ∧
    (macState 0x101 0 (some (false, true))).lsReadable false 3 (64 * macA w) 256 ∧ (macState 0x101 0 (some (false, true))).lsReadable false 3 (64 * macB w) 256 := at_some _ (by decide +kernel)
/-- 05 R118: row 0 of A is (2, −1, 0 …) and column 0 of B is (3, 5, 0 …): cell 0 adds 2 × 3 − 1 × 5. -/
theorem test_mac_products : let s := macState 0x100 2 none
    cellSum ((s.tile 3 0 3 8 8 0 []).2.line 0) ((s.tile 3 64 3 8 8 0 []).2.line 0) = 1 := by decide +kernel
theorem wit_SlotWordsOpenCloseAndFill_open : (∃ s0 r k w, (one 0 [] (wordOf 0x108 [(96, 3), (108, 2), (94, 1)])).atUnits 0 .accOpen = some (s0, r, k, w) ∧
      ∀ u ∈ spindlesOf .accOpen w, ((one 0 [] (wordOf 0x108 [(96, 3), (108, 2), (94, 1)])).spindle u).pair = none) ∧
    ∃ s0 r k w, (one 1 [] (wordOf 0x108 [(95, 1), (84, 7)])).atUnits 0 .accOpen = some (s0, r, k, w) ∧ r.header.mode = 1 ∧ aoEwin w = 7 :=
  ⟨at_some _ (by decide +kernel), at_some _ (by decide +kernel)⟩
/-- 05 R123, R127. -/
theorem test_accOpen : (vget ((after (.accOpen 0) (one 0 [] (wordOf 0x108 [(96, 3), (108, 2), (94, 1)]))).spindle 3).open_ none 2) = some true ∧
    ((after (.accOpen 0) (one 1 [] (wordOf 0x108 [(96, 3), (84, 0x3FF)]))).spindle 3).ewin = -1 := by decide +kernel
theorem wit_SlotWordsOpenCloseAndFill_close : ∀ u l, (one 0 [] (wordOf 0x109 [(96, 3)])).laneBusy u l = false := fun _ _ => rfl
theorem wit_SlotWordsOpenCloseAndFill_close_at : ∃ s0 r k w, (onSpindle (wordOf 0x109 [(96, 3)]) fun x => { x with pair := some (false, true) }).atUnits 0 .accClose = some (s0, r, k, w) ∧
    r.header.mode = 0 ∧ wAcc w = 0 := at_some _ (by decide +kernel)
theorem wit_SlotWordsOpenCloseAndFill_pair_at : ∃ s0 r k w, (one 0 [] (wordOf 0x10B [(96, 3)])).atUnits 0 .accPair = some (s0, r, k, w) ∧ r.header.mode = 0 := at_some _ (by decide +kernel)
theorem wit_SlotWordsOpenCloseAndFill_split_at : ∃ s0 r k w, (one 0 [] (wordOf 0x104 [(96, 4), (108, 2), (93, 2)])).atUnits 0 .splitK = some (s0, r, k, w) ∧ wUnit w + skParts w ≤ 128 ∧
    skParts w = 4 ∧ ∀ u ∈ spindlesOf .splitK w, ((one 0 [] (wordOf 0x104 [(96, 4), (108, 2), (93, 2)])).spindle u).pair = none := at_some _ (by decide +kernel)
theorem test_pair_split : ((after (.accPair 0) (one 0 [] (wordOf 0x10B [(96, 3)]))).spindle 3).pair = some (false, true) ∧
    (((after (.splitK 0) (one 0 [] (wordOf 0x104 [(96, 4), (108, 2), (93, 2)]))).run 0).map fun r => r.splits.map fun c => (c.base, c.slot, c.parts)) = some [(4, 2, 4)] := by
  decide +kernel
theorem wit_SlotWordsOpenCloseAndFill_preload : ∃ s0 r k w, (onSpindle (wordOf 0x10A [(96, 3), (108, 2), (81, 1), (78, 2)]) id).atUnits 0 .accPreload = some (s0, r, k, w) ∧ wAll w = false ∧
    r.header.mode = 0 ∧ apFmt w = 2 ∧ (onSpindle (wordOf 0x10A [(96, 3), (108, 2), (81, 1), (78, 2)]) id).lsReadable false 3 (64 * apSrc w) 4096 := at_some _ (by decide +kernel)
/-- 05 R130: an INT32 element of −2 is sign-extended to 40 bits. -/
theorem test_preload : ((after (.accPreload 0) ((onSpindle (wordOf 0x10A [(96, 3), (108, 2), (81, 1), (78, 2)]) id).put 3 (3 * 2 ^ 20 + 68) (le 4 0xFFFFFFFE))).spindle 3).lane 2 1 =
    0xFFFFFFFFFE := by decide +kernel
def draining (op : Nat) : State := onSpindle (wordOf op [(96, 3), (108, 2), (92, 3), (71, 5), (57, 1), (56, 1), (48, 31)]) fun x => { x with open_ := vset x.open_ 2 (some true) }
theorem wit_DrainWritesTheTile_plain : ∃ s0 r k w, (onSpindle (wordOf 0x110 [(96, 3), (108, 2), (92, 3), (71, 5)]) id).atUnits 0 .drainPlain = some (s0, r, k, w) ∧
    wAll w = false ∧ r.header.mode = 0 ∧ drSel w = false ∧ drOut w ≤ 3 ∧ drNoWrite w = false ∧ drLast w = false ∧ r.split (wUnit w) (wAcc w) = none ∧
    (onSpindle (wordOf 0x110 [(96, 3), (108, 2), (92, 3), (71, 5)]) id).pathBusy (wUnit w) = false := at_some _ (by decide +kernel)
theorem wit_DrainWritesTheTile_fold : ∃ s0 r k w, (draining 0x111).atUnits 0 .drainMax = some (s0, r, k, w) ∧ drSel w = false ∧ drOut w = 3 ∧ drLast w = false ∧ drFirst w = true ∧
    drNcol w = 32 := at_some _ (by decide +kernel)
/-- 05 R133: an INT32 output of an INT cell; INT8 saturates and says so. -/
theorem test_outOf : outOf 3 (.int 300) 0 = (300, false) ∧ outOf 2 (.int 300) 0 = (0x7F, true) ∧ outOf 2 (.int (-5)) 0 = (0xFB, false) ∧ outOf 0 (.int 3) 1 = (0x40C00000, false) := by
  decide +kernel
/-- A drain of Spindle 3, slot 2, whose read-out has not ended. -/
def readingOut (clr : Bool) : State :=
  let s := one 0 [] (wordOf 0x110 [(96, 3), (108, 2)])
  { s with units := { s.units with drains := [{ distaff := 0, word := 0, spindle := 3, slot := 2, clear := clr }] } }
theorem wit_ReadoutsAndPeeks_readout (clr : Bool) : (readingOut clr).board.phase = .ready ∧ (∃ r, (readingOut clr).run 0 = some r ∧ r.header.mode = 0) ∧
    (readingOut clr).units.drains.find? (fun y => y.distaff = 0) = some { distaff := 0, word := 0, spindle := 3, slot := 2, clear := clr } ∧
    (readingOut clr).units.drains.filter (fun y => y.distaff = 0 && y.word = 0) = [{ distaff := 0, word := 0, spindle := 3, slot := 2, clear := clr }] := by
  cases clr <;> exact ⟨rfl, ⟨_, rfl, rfl⟩, by decide +kernel⟩
theorem test_readout : (after (.drainReadout 0) (readingOut true)).units.drains = [] := by decide +kernel
theorem wit_ReadoutsAndPeeks_peek : ∃ s0 r k w, (one 0 [] (wordOf 0x11F [(96, 3), (108, 2), (71, 5)])).atUnits 0 .debugPeek = some (s0, r, k, w) ∧ r.header.mode = 0 ∧
    drSel w = false ∧ (one 0 [] (wordOf 0x11F [(96, 3), (108, 2), (71, 5)])).inTree 3 2 = [] := at_some _ (by decide +kernel)
/-- A MAC.ACC of 8 groups stands in the tree of that slot. -/
def inFlight : State :=
  let s := one 0 [] (wordOf 0x11F [(96, 3), (108, 2), (71, 5)])
  { s with units := { s.units with tree := [{ distaff := 0, word := 5, bits := (macWord 0x100 2).toNat, spindle := 3, lane := 2, before := s.spindle 3 }] } }
theorem wit_ReadoutsAndPeeks_inTree : (∃ s0 r k w, inFlight.atUnits 0 .debugPeek = some (s0, r, k, w) ∧ r.header.mode = 0 ∧ drSel w = false) ∧ inFlight.inTree 3 2 ≠ [] :=
  ⟨at_some _ (by decide +kernel), by decide +kernel⟩

-- Checkpoints.

/-- A STATE.SAVE into an LPDDR5X area of this many bytes, by a hank that holds no unit. -/
def saving (op length : Nat) : State :=
  let r := hankWith 0 [] [wordOf op []]
  running (begun { r with header := { r.header with ckptSpace := 1, ckptBase := 8192, ckptLength := length }, spindles := [], bobbins := [] })
theorem wit_SaveWritesACheckpoint (big : Bool) : ∃ s0 r k w, (saving 0x030 (if big then 65536 else 4096)).atUnits 0 .stateSave = some (s0, r, k, w) ∧ svPause w = false ∧
    r.aborted = none ∧ r.header.ckptSpace = 1 ∧ r.hankDigest.length = 32 ∧
    (decide (r.header.ckptLength < 4096 + contentLength (sectionsOf (r.problems.toList.filterMap id) r.unitSet.1.length r.unitSet.2.length r.bufs))) = !big ∧
    (saving 0x030 (if big then 65536 else 4096)).mem.poison = [] := by cases big <;> exact at_some _ (by decide +kernel)
theorem test_save_range : outcome0 (after (.stateSave 0) (saving 0x030 4096)) = some (true, some (0xF0, 0x31)) := by decide +kernel
theorem wit_RestoreChecksAndBringsBack : ∃ s0 r k w, (saving 0x031 65536).atUnits 0 .stateRestore = some (s0, r, k, w) ∧ r.header.ckptSpace = 1 ∧
    (saving 0x031 65536).mem.poison = [] ∧ (saving 0x031 65536).mem.upsets = [] ∧ num ((saving 0x031 65536).bytes 1 r.header.ckptBase 4096) 0 4 ≠ 0x4B434C4F :=
  at_some _ (by decide +kernel)
theorem test_restore_incomplete : outcome0 (after (.stateRestore 0) (saving 0x031 65536)) = some (true, some (0x20, 0)) := by decide +kernel

-- Anneal words.

/-- Every Spindle's fields-valid mark names problem 0. -/
def marked (s : State) : State := { s with units := { s.units with spindles := s.units.spindles.map fun (u : Spindle) => { u with mark := some 0 } } }
/-- A problem of two variables in one ply, the first at +1, coupled by nothing; its store is buffer 0 and its schedule of two steps buffer 1. -/
def smallProblem : Problem :=
  { n := 2, form := 1, qubo := false, mNum := 127, mDen := 1, offset := 0, dst := 0, codebook := [], rowWeight := [0, 0], plies := 1, spins := [0],
    stats := [PlyStat.fresh 0 0 []], sched := 1, steps := 2, ladder := [0x3F800000], resumeStep := 0, resumeSweep := 0, resumePasses := ⟨0, 0⟩, tracePos := 0, traceCut := false }
/-- A hank that holds it, with one word at its units and the buffers of the store, the schedule, the record or states, and an output. -/
def annealing (mode : Nat) (w : BitVec 128) : Run :=
  let r := begun (hankWith mode [bufAt 0 0 1048576, bufAt 0 2097152 64, bufAt 0 3145728 256, bufAt 1 0 65536] [w])
  { r with problems := vset r.problems 0 (some smallProblem), keys := [zeros 32], keyIndex := some 0 }
/-- A schedule of two steps at temperature 1 with one sweep each stands in buffer 1. -/
def withSchedule (s : State) : State := (s.put 0 2097152 (le 4 0x3F800000 ++ le 2 1)).put 0 2097168 (le 4 0x3F800000 ++ le 2 1)
def annealState (mode : Nat) (w : BitVec 128) : State := withSchedule (marked (running (annealing mode w)))

/-- COUPLE.LOAD of a 2 × 2 INT8 matrix with J = 3, form INT8, into problem 0. -/
def coupling : State :=
  (one 0 [bufAt 0 0 1048576, bufAt 0 2097152 64, bufAt 0 3145728 256] (wordOf 0x300 [(87, 2), (84, 2), (78, 0), (76, 1), (69, 0x3F), (63, 0x3F), (57, 1), (36, 2)])).put 0
    3145728 [0, 3, 3, 0]
theorem wit_CoupleLoadFormsTheProblem : ∃ s0 r k w, coupling.atUnits 0 .coupleLoad = some (s0, r, k, w) ∧ r.noHost = false ∧ clN w = 2 ∧ clBias w = 0x3F ∧ clForm w = 1 ∧
    (coupling.readIdx r k (clSrc w) 0 4).fail = none ∧
    (let x : Source := { n := 2, form := 1, qubo := false, type := 2, coupling := (coupling.readIdx r k (clSrc w) 0 4).bytes.toArray, bias := #[], hasBias := false, book := #[] }
     x.finite = true ∧ 0 ≤ x.headroom) := at_some _ (by decide +kernel)
/-- 02 R27 to R29: M is 3, and the entry takes code 127, which is 127 × 256 field units. -/
theorem test_source : let x : Source := { n := 2, form := 1, qubo := false, type := 2, coupling := #[0, 3, 3, 0], bias := #[], hasBias := false, book := #[] }
    x.m = 3 * 2 ^ 151 ∧ x.store 0 1 = 127 ∧ x.c 0 1 = 32512 ∧ x.store 0 0 = 0 ∧ x.weight 0 = 32512 := by decide +kernel
/-- 02 R33: FP32 input with an infinity is not finite. -/
theorem test_source_reject : let x : Source := { n := 2, form := 1, qubo := false, type := 0, coupling := (zeros 4 ++ le 4 0x7F800000 ++ zeros 8).toArray, bias := #[], hasBias := false, book := #[] }
    x.finite = false := by decide +kernel
def initWord : BitVec 128 := wordOf 0x301 [(87, 2), (81, 0x3F)]
theorem wit_StateAndScheduleAreLoaded_init : ∃ s0 r k w, (annealState 0 initWord).atUnits 0 .stateInit = some (s0, r, k, w) ∧ r.problem (anProb w) = some smallProblem ∧
    siBias w = 0x3F ∧ ((annealState 0 initWord).readIdx r k (siStates w) 0 128).fail = none ∧ ((annealState 0 initWord).checkStore r k smallProblem 0 1048576).2 = none ∧
    siPlies w ≤ plyLimit 1 2 ∧ siPlies w * (smallProblem.pad / 8) ≤ ((r.buf (siStates w)).map fun b => b.length).getD 0 ∧ (annealState 0 initWord).units.shape.w ≠ 0xFF ∧
    ((((annealState 0 initWord).readIdx r k (siStates w) 0 128).st.checkStore r k smallProblem 0 1048576).1.checkBiases smallProblem (anProb w) (List.range 128)).2 = none :=
  at_some _ (by decide +kernel)
def schedWord : BitVec 128 := wordOf 0x302 [(87, 1), (62, 2), (56, 2)]
theorem wit_StateAndScheduleAreLoaded_sched : ∃ s0 r k w, (annealState 0 schedWord).atUnits 0 .schedLoad = some (s0, r, k, w) ∧ r.problem (anProb w) = some smallProblem ∧
    r.noHost = false ∧ slL w = 2 ∧ ((annealState 0 schedWord).readIdx r k (slSched w) 0 32).fail = none ∧ ((annealState 0 schedWord).readIdx r k (slLadder w) 0 4).fail = none :=
  at_some _ (by decide +kernel)
/-- 02 R43: a schedule step of no sweep, or with a negative temperature, is refused. -/
theorem test_steps : stepOk (le 4 0x3F800000 ++ le 2 1 ++ zeros 10) = true ∧ stepOk (le 4 0x3F800000 ++ zeros 12) = false ∧ stepOk (le 4 0xBF800000 ++ le 2 1 ++ zeros 10) = false := by
  decide +kernel
theorem test_schedLoad : outcome0 (after (.schedLoad 0) (annealState 0 schedWord)) = some (true, none) ∧
    outcome0 (after (.schedLoad 0) ((annealState 0 schedWord).put 0 2097172 (le 2 0))) = some (true, some (0xF0, 0x30)) := by decide +kernel
def annealWord (op : Nat) : BitVec 128 := wordOf op [(87, 2), (53, 0)]
/-- An ANNEAL record of METROPOLIS from step 0 to 1 without outputs, or a SAMPLE record of one contribution. -/
def recordOfAnneal : Bytes := zeros 12 ++ le 4 1 ++ zeros 4 ++ List.replicate 6 0x3F ++ zeros 38
def recordOfSample : Bytes := zeros 6 ++ le 2 1 ++ le 4 0x3F800000 ++ zeros 4 ++ le 4 1 ++ zeros 4 ++ le 8 1 ++ zeros 8 ++ List.replicate 4 0x3F ++ zeros 20
def annealStart (mode op : Nat) (rec_ : Bytes) : State := (annealState mode (annealWord op)).put 0 3145728 rec_
theorem wit_AnnealAndSampleStart_record : ∃ s0 r k w, (annealStart 1 0x303 recordOfAnneal).atUnits 0 .anneal = some (s0, r, k, w) ∧ r.problem (anProb w) = some smallProblem ∧
    anOff w + 64 ≤ ((r.buf (anParam w)).map fun b => b.length).getD 0 ∧ (∀ u < 128, ((annealStart 1 0x303 recordOfAnneal).spindle u).mark = some (anProb w)) ∧
    annealRecordOk r smallProblem ((annealStart 1 0x303 recordOfAnneal).readIdx r k (anParam w) (anOff w) 64).bytes = true ∧
    (annealStart 1 0x303 recordOfAnneal).pliesFit smallProblem = true ∧ r.header.mode = 1 ∧ r.key ≠ none ∧
    ((annealStart 1 0x303 recordOfAnneal).checkSched r k smallProblem 0 1).2 = none ∧ (annealStart 1 0x303 recordOfAnneal).anneal = none := at_some _ (by decide +kernel)
theorem wit_AnnealAndSampleStart_sample : ∃ s0 r k w, (annealStart 1 0x304 recordOfSample).atUnits 0 .sample = some (s0, r, k, w) ∧
    sampleRecordOk r smallProblem ((annealStart 1 0x304 recordOfSample).readIdx r k (anParam w) (anOff w) 64).bytes = true ∧ r.header.mode = 1 := at_some _ (by decide +kernel)
theorem wit_AnnealAndSampleStart_open : ∃ s0 r k w, (annealStart 0 0x303 recordOfAnneal).atUnits 0 .anneal = some (s0, r, k, w) ∧ r.header.mode ≠ 1 ∧
    (annealStart 0 0x303 recordOfAnneal).bothReady = false := at_some _ (by decide +kernel)
theorem wit_AnnealAndSampleStart_bad : ∃ s0 r k w, (annealStart 0 0x303 [3]).atUnits 0 .anneal = some (s0, r, k, w) ∧
    annealRecordOk r smallProblem ((annealStart 0 0x303 [3]).readIdx r k (anParam w) (anOff w) 64).bytes = false := at_some _ (by decide +kernel)
theorem wit_AnnealAndSampleStart_noKey : let r := { annealing 1 (annealWord 0x303) with keyIndex := none }
    (((marked (running r)).put 0 3145728 recordOfAnneal).atUnits 0 .anneal).isSome = true ∧ r.key = none := by decide +kernel
theorem test_anneal_start : ((after (.anneal 0) (annealStart 1 0x303 recordOfAnneal)).anneal.map fun a => (a.startWait, a.step, a.last, a.walks.length)) = some (false, 0, 1, 1) ∧
    ((after (.anneal 0) (annealStart 0 0x303 recordOfAnneal)).anneal.map fun a => a.startWait) = some true := by decide +kernel
theorem test_sample_start : ((after (.sample 0) (annealStart 1 0x304 recordOfSample)).anneal.map fun a => (a.sample, a.sweeps)) = some (true, 1) := by decide +kernel
def exchangeWord : BitVec 128 := wordOf 0x305 [(68, 1), (6, 3)]
theorem wit_ExchangeAndEnergyWriteTheirOutputs_exchange : ∃ s0 r k w, (annealState 1 exchangeWord).atUnits 0 .exchange = some (s0, r, k, w) ∧ r.problem (anProb w) = some smallProblem ∧
    r.header.mode = 1 ∧ r.key ≠ none ∧ exStep w < smallProblem.steps ∧ smallProblem.plies ≤ smallProblem.ladder.length ∧
    ((annealState 1 exchangeWord).checkSched r k smallProblem (exStep w) (exStep w)).2 = none ∧
    (((annealState 1 exchangeWord).checkSched r k smallProblem (exStep w) (exStep w)).1.checkBiases smallProblem (anProb w) (List.range 128)).2 = none ∧ r.buf (exOut w) = some (bufAt 1 0 65536) := at_some _ (by decide +kernel)
/-- In Open mode with West NOISE_READY. -/
def exchangeOpen : State := { annealState 0 exchangeWord with noise := { ready.noise with half := ⟨1, 0⟩ } }
theorem wit_ExchangeAndEnergyWriteTheirOutputs_open : ∃ s0 r k w, exchangeOpen.atUnits 0 .exchange = some (s0, r, k, w) ∧ r.header.mode = 0 ∧ exchangeOpen.noise.half.w = 1 ∧
    exStep w < smallProblem.steps ∧ r.buf (exOut w) = some (bufAt 1 0 65536) := at_some _ (by decide +kernel)
def energyWord : BitVec 128 := wordOf 0x306 [(87, 3)]
theorem wit_ExchangeAndEnergyWriteTheirOutputs_energy : ∃ s0 r k w, (annealState 0 energyWord).atUnits 0 .energy = some (s0, r, k, w) ∧ smallProblem.blocksOk = true ∧
    (annealState 0 energyWord).pliesFit smallProblem = true ∧ r.buf (enOut w) = some (bufAt 1 0 65536) := at_some _ (by decide +kernel)
/-- 02 R45: states (+1, −1), fields 2 and 6, no bias, OFFSET 10: E = 10 − (2 − 6). -/
theorem test_energy : let s := (annealState 0 energyWord).modSpindle 0 fun x => x.setLane 0 fun c => if c = 0 then 2 else if c = 1 then 6 else 0
    s.energyOf { smallProblem with offset := 10 } 0 0 = 14 := by decide +kernel
theorem wit_NoiseWordsDrawKeysAndBits_seed : ∃ s0 r k w, (annealState 1 (wordOf 0x380 [(88, 2)])).atUnits 0 .noiseSeed = some (s0, r, k, w) ∧ nsDevice w = false ∧
    ((annealState 1 (wordOf 0x380 [(88, 2)])).readIdx r k (nsBuf w) (nsOff w) 32).fail = none := at_some _ (by decide +kernel)
/-- A generator that serves. -/
def serving (s : State) : State := { s with noise := { s.noise with rotSeeded := true } }
theorem wit_NoiseWordsDrawKeysAndBits_device : ∃ s0 r k w, (serving (annealState 1 (wordOf 0x380 [(94, 1)]))).atUnits 0 .noiseSeed = some (s0, r, k, w) ∧ nsDevice w = true ∧
    r.reuse[r.keys.length]? = none ∧ (serving (annealState 1 (wordOf 0x380 [(94, 1)]))).rotServes = true ∧ (annealState 1 (wordOf 0x380 [(94, 1)])).rotServes = false :=
  at_some _ (by decide +kernel)
theorem test_noiseSeed : ((after (.noiseSeed 0) ((annealState 1 (wordOf 0x380 [(88, 2)])).put 0 3145728 [9])).run 0).map (fun r => (r.keyIndex, r.key)) = some (some 1, some 9) := by
  decide +kernel
theorem wit_NoiseWordsDrawKeysAndBits_raw : ∃ s0 r k w, (annealState 1 (wordOf 0x381 [(87, 5), (86, 1), (80, 3), (46, 1), (22, 1)])).atUnits 0 .noiseRaw = some (s0, r, k, w) ∧ nrRaw w = true ∧
    nrLen w = 64 ∧ 8 * nrLen w ≤ (rawBits (List.replicate 32 0x0707)).length ∧ r.buf (nrBuf w) = some (bufAt 1 0 65536) := at_some _ (by decide +kernel)
theorem test_noiseRaw : (after (.noiseRaw 0 (List.replicate 32 0x0707)) (annealState 1 (wordOf 0x381 [(87, 5), (86, 1), (80, 3), (46, 1), (22, 1)]))).bytes 1 63 3 = [0, 7, 7] := by
  decide +kernel
/-- 04 R85, R86: the conditioned stream of a HEALTHY group is the XOR of each cell's two raw bits. -/
def conditioning : State := (annealState 1 (wordOf 0x381 [(87, 5), (80, 3), (46, 1), (22, 1)])).modGroup 5 fun x => { x with state := 1 }
theorem wit_NoiseWordsDrawKeysAndBits_conditioned : ∃ s0 r k w, conditioning.atUnits 0 .noiseRaw = some (s0, r, k, w) ∧ nrRaw w = false ∧ (conditioning.group (nrGroup w)).state = 1 ∧
    8 * nrLen w ≤ (conditioning.conditioned (nrGroup w) (List.replicate 64 0x0707)).length ∧ r.buf (nrBuf w) = some (bufAt 1 0 65536) := at_some _ (by decide +kernel)
theorem test_conditioned : (after (.noiseRaw 0 ((List.range 64).map fun i => if i % 2 = 0 then 0x0909 else 0x0E0E)) conditioning).bytes 1 63 3 = [0, 7, 7] := by decide +kernel
theorem wit_WordsRunToTheirEnd : ∃ s0 r k w, (annealState 0 energyWord).atUnits 0 .energy = some (s0, r, k, w) ∧ (annealState 0 energyWord).wordWaits r .energy k w = false ∧
    wordCommand (.energy 0) = some (0, .energy) := at_some _ (by decide +kernel)

-- The anneal engine.

/-- A running ANNEAL of the small problem, Open or Colourfast, in step 0 with one sweep a step. -/
def engineState (mode : Nat) (f : AnnealRun → AnnealRun) : State :=
  let r := annealing mode (annealWord 0x303)
  let a := AnnealRun.blank 0 0 r 0
  (withSchedule (marked (running r))).setAnneal (f { a with last := 1, sweeps := 1, tfx := [65536], bfx := [65536], walks := [{ sweep := 0, position := 0, retired := 0, commits := 0 }] })
/-- Both halves are NOISE_READY. -/
def bothReadyState (s : State) : State := { s with noise := { s.noise with half := ⟨1, 1⟩ } }
theorem wit_OpenStartsAndSettlePoints_start : let s := bothReadyState (engineState 0 fun a => { a with startWait := true })
    s.bothReady = true ∧ ∃ a r q, s.engine = some (a, r, q) ∧ a.startWait = true ∧ a.colourfast = false ∧ a.sample = false ∧ a.first ≤ a.last ∧ a.step = a.first ∧
      (s.checkSched r a.word q 0 a.step).2 = none := ⟨by decide +kernel, engine_some _ (by decide +kernel)⟩
theorem wit_OpenStartsAndSettlePoints_settle (last : Bool) : let s := bothReadyState (engineState 0 fun a => { a with passes := ⟨1, 1⟩, step := if last then 1 else 0 })
    ∃ a r q, s.engine = some (a, r, q) ∧ a.colourfast = false ∧ a.startWait = false ∧ a.sample = false ∧ a.exch = false ∧ a.traceStride = 0 ∧ a.savePending = none ∧
      a.passesDone q .west = true ∧ a.passesDone q .east = true ∧ a.quiet = true ∧ (∃ i ∈ r.issued, i.index = a.word) ∧
      (a.step < a.last → (s.checkSched r a.word q (a.step + 1) (a.step + 1)).2 = none) ∧ (s.checkBiases q a.problem (List.range 128)).2 = none := by cases last <;> exact engine_some _ (by decide +kernel)
theorem test_settle : ((after .settlePoint (bothReadyState (engineState 0 fun a => { a with passes := ⟨1, 1⟩ }))).anneal.map fun a => (a.step, a.passes.w)) = some (1, 0) := by
  decide +kernel
theorem wit_OpenEvaluationDecidesOnTheField : let s := bothReadyState (engineState 0 id)
    ∃ a r q, s.engine = some (a, r, q) ∧ a.colourfast = false ∧ a.startWait = false ∧ a.passesDone q (halfOfSpindle 0) = false ∧ s.noise.half.get (halfOfSpindle 0) = 1 ∧
      1 / max 1 q.m < q.plies ∧ 1 % max 1 q.m < q.n ∧ q.halfOf 1 = .west ∧ (a.seen.get .west).contains 1 = false ∧ a.pendingVar q 0 1 = false ∧
      ((s.noise.lane (s.hostOf 0) 0).serve (s.hostOf 0) 0 1 5).isSome = true := engine_some _ (by decide +kernel)
theorem test_evaluation : ((after (.openEvaluation 0 1 0 5) (bothReadyState (engineState 0 id))).anneal.map fun a => a.seen.w) = some [1] := by decide +kernel
/-- A request of variable 1 of ply 0. -/
def oneRequest : FlipRequest := { ply := 0, var := 1, up := true, cycle := 3, staleHalf := false, staleSeam := false }
theorem wit_ArbiterAnswersThePreviousWindow : ∃ a r q, (engineState 0 fun a => { a with deciding := ⟨[oneRequest], []⟩ }).engine = some (a, r, q) ∧ a.colourfast = false ∧ a.startWait = false ∧
    a.tangleGuard = false ∧ Half.east ≠ .west := engine_some _ (by decide +kernel)
theorem test_arbiter : ((after (.arbiterWindow .west) (engineState 0 fun a => { a with deciding := ⟨[oneRequest], []⟩ })).anneal.map fun a =>
    (a.tokens.w.map fun t => (t.ply, t.var, t.up), a.deciding.w.length)) = some ([(0, 1, true)], 0) := by decide +kernel
/-- A token of variable 1 that no Spindle has applied. -/
def oneToken (buffered : Bool) : Token := { ply := 0, var := 1, up := true, half := .west, cseq := 0, buffered := buffered, applied := [] }
def tokenState (buffered : Bool) : State := engineState 0 fun a => { a with tokens := ⟨[oneToken buffered], []⟩ }
theorem wit_TokensAddToEveryField_apply : ∃ a r q, (tokenState true).engine = some (a, r, q) ∧ a.nextToken 0 .west = some (oneToken true) ∧ (oneToken true).buffered = true ∧
    (oneToken true).half = .west ∧ q.plies * q.m ≤ 8192 ∧ (oneToken true).ply < q.plies ∧
    ((tokenState true).checkStore r a.word q ((oneToken true).var * columnBytes q.form q.pad + 0 * columnBytes q.form q.m) (columnBytes q.form q.m)).2 = none :=
  engine_some _ (by decide +kernel)
theorem wit_TokensAddToEveryField_spill : ∃ a r q, (tokenState false).engine = some (a, r, q) ∧ (a.tokens.get .west).find? (fun z => !z.buffered) = some (oneToken false) ∧
    ((tokenState false).checkStore r a.word q ((oneToken false).var * columnBytes q.form q.pad) (columnBytes q.form q.pad)).2 = none := engine_some _ (by decide +kernel)
/-- 02 R36: with code 3 at entry (0, 1) the field of variable 0 gains 2 × 3 × 256, and the state of variable 1 becomes +1. -/
theorem test_token : let t := after (.flipTokenApply 0 .west) ((tokenState true).put 0 1024 [3])
    t.field smallProblem 0 0 = 1536 ∧ ((t.run 0).bind fun r => (r.problem 0).map fun q => q.spins) = some [0, 1] := by decide +kernel
theorem test_spill : ((after (.spillColumnStream .west) (tokenState false)).anneal.map fun a => a.tokens.w.map fun t => t.buffered) = some [true] := by decide +kernel
theorem wit_ColourfastWalkResolvesInOrder_walk : ∃ a r q, (engineState 1 id).engine = some (a, r, q) ∧ a.colourfast = true ∧ a.walks[0]? = some { sweep := 0, position := 0, retired := 0, commits := 0 } ∧
    r.key = some 0 ∧ 0 < a.sweeps ∧ a.savePending = none ∧ 0 < q.n ∧ a.freeColumns q ≠ 0 ∧ (a.tokens.w ++ a.tokens.e) = [] ∧ a.evals = [] := engine_some _ (by decide +kernel)
/-- A walk of 65 variables whose first window is resolved. -/
def walked : State :=
  let s := engineState 1 fun a => { a with walks := [{ sweep := 0, position := 64, retired := 0, commits := 0 }] }
  s.modRun 0 fun r => { r with problems := vset r.problems 0 (some { smallProblem with n := 65 }) }
theorem wit_ColourfastWalkResolvesInOrder_retire : ∃ a r q, walked.engine = some (a, r, q) ∧ a.walks[0]? = some { sweep := 0, position := 64, retired := 0, commits := 0 } ∧ 64 * (0 + 1) < q.n ∧
    r.key = some 0 := engine_some _ (by decide +kernel)
theorem test_retire : ((after (.cfWindowRetire 0) walked).anneal.map fun a => a.walks.map fun v => v.retired) = some [1] := by decide +kernel
theorem test_resolve : ((after (.cfPositionResolve 0) (engineState 1 id)).anneal.map fun a => a.walks.map fun v => v.position) = some [1] := by decide +kernel
/-- 02 R40, R41: a flip that lowers the energy is always accepted; a zero field is decided by the word alone. -/
theorem test_rules : metropolis true (-1) 65535 0 = false ∧ heatbath 0 32767 65536 = true ∧ heatbath 0 32768 65536 = false := by decide +kernel

-- Noise.

/-- The raw bits of so many pairs of cycles of one pair of values. -/
def pairOf (m : Nat) (a b : BitVec 16) : RawBits := (List.replicate m [a, b]).flatten
theorem conditioned_pairs (m : Nat) (a b : BitVec 16) : conditionedBits false 16 (List.replicate m [a, b]).flatten =
    (List.replicate m ((List.range 16).flatMap fun i => conditionPair false (a.getLsbD i) (b.getLsbD i))).flatten := by
  induction m with
  | zero => rfl
  | succ m ih => simp only [List.replicate_succ, List.flatten_cons, List.cons_append, List.nil_append, conditionedBits, ih]
/-- Sixteen bits in pairs of ones and of zeros. -/
def paired : List Bool := [true, true, false, false, true, true, false, false, true, true, false, false, true, true, false, false]
theorem ones_blocks (m : Nat) (x : List Bool) : onesOf (List.replicate m x).flatten = m * onesOf x := by
  induction m with
  | zero => simp [onesOf]
  | succ m ih => simp only [onesOf, List.replicate_succ, List.flatten_cons, List.filter_append, List.length_append] at *; rw [ih]; ring
theorem equal_paired (m : Nat) : equalPairs (List.replicate m paired).flatten = 8 * m := by
  induction m with
  | zero => rfl
  | succ m ih => cases m with
    | zero => rfl
    | succ k =>
      rw [List.replicate_succ, List.flatten_cons]
      have : ∀ x : List Bool, equalPairs (paired ++ (paired ++ x)) = 8 + equalPairs (paired ++ x) := fun x => by simp [paired, equalPairs]; omega
      simp only [List.replicate_succ, List.flatten_cons] at *
      rw [this, ih]; ring
theorem equal_ones (n : Nat) : equalPairs (List.replicate (n + 1) true) = n := by
  induction n with
  | zero => rfl
  | succ n ih => rw [List.replicate_succ, List.replicate_succ, equalPairs, ← List.replicate_succ, ih, if_pos rfl]; omega
/-- A window of a group whose bits are one block of 16 over and over. -/
theorem window_pairs (s : State) (g : Nat) (a b : BitVec 16) (x : List Bool) (m : Nat) (hm : 16 * m = 65536) (hg : g ≠ 136) (hc : s.entry 0x3820 g ≠ 1)
    (hx : ((List.range 16).flatMap fun i => conditionPair false (a.getLsbD i) (b.getLsbD i)) = x) (hl : x.length = 16) :
    s.window g [] (pairOf m a b) = some (List.replicate m x).flatten := by
  have h : s.conditioned g (pairOf m a b) = (List.replicate m x).flatten := by
    simp only [State.conditioned, cellsOf, if_neg hg, hc, decide_false, pairOf, conditioned_pairs, hx]
  have hn : (List.replicate m x).flatten.length = 65536 := by rw [List.length_flatten, List.map_replicate, List.sum_replicate_nat, hl]; omega
  simp only [State.window, h, List.nil_append, cellsOf, if_neg hg]
  have hd : decide (65536 ≤ 65536 ∧ 65536 < 65536 + 16) = true := by decide +kernel
  have ht : (List.replicate m x).flatten.take 65536 = (List.replicate m x).flatten := List.take_of_length_le hn.le
  rw [hn, hd, ht, if_pos]
  simp only [List.length_nil, List.isEmpty_nil, Bool.true_or, Bool.and_true]
  decide
theorem after_window (s : State) (g : Fin 137) (raw : RawBits) (lead bs : List Bool) (n k : Nat) (hp : s.board.phase = .ready) (h : s.window g lead raw = some bs)
    (hn : onesOf bs = n) (hk : equalPairs bs = k) : after (.healthWindowEnd g raw lead) s = s.endWindow g n k := by
  simp only [after, exec, execHealthWindowEnd, hp, h, hn, hk]
/-- A group in a state, so many windows passed in a row. -/
def windowed (state streak : Nat) : State := ready.modGroup 5 fun x => { x with streak := streak, state := state }
theorem windowed_off : ∀ k < 2, ∀ n < 16, (windowed k n).entry 0x3820 5 ≠ 1 := by decide +kernel
theorem windowed_paired (k n m : Nat) (hm : 16 * m = 65536) (hk : k < 2) (hn : n < 16) : (windowed k n).window 5 [] (pairOf m 0 0x3333) = some (List.replicate m paired).flatten :=
  window_pairs (windowed k n) 5 0 0x3333 paired m hm (by decide) (windowed_off k hk n hn) (by decide) rfl
theorem windowed_ones (k n m : Nat) (hm : 16 * m = 65536) (hk : k < 2) (hn : n < 16) : (windowed k n).window 5 [] (pairOf m 0 0xFFFF) = some (List.replicate (m * 16) true) := by
  rw [window_pairs (windowed k n) 5 0 0xFFFF (List.replicate 16 true) m hm (by decide) (windowed_off k hk n hn) (by decide) (by simp), List.flatten_replicate_replicate]
theorem wit_WindowsMoveTheGroups : (∃ m bs, (windowed 1 15).window 5 [] (pairOf m 0 0x3333) = some bs) ∧ (windowed 1 15).window 5 [] [] = none ∧
    (windowed 1 15).board.phase ≠ .reset ∧ (windowBias 32768).natAbs ≤ ready.entry 0x3800 1 ∧ ready.entry 0x3800 1 < (windowBias 65536).natAbs :=
  ⟨⟨4096, _, windowed_paired 1 15 4096 (by norm_num) (by decide) (by decide)⟩, by decide +kernel⟩
/-- 04 R87, R90: 15 passes in a row leave the group WARMING, the 16th makes it HEALTHY; a window of ones makes a HEALTHY group FAILED. -/
theorem test_window (m : Nat) (hm : 16 * m = 65536) : ((after (.healthWindowEnd 5 (pairOf m 0 0x3333) []) (windowed 0 14)).group 5).state = 0 ∧
    ((after (.healthWindowEnd 5 (pairOf m 0 0x3333) []) (windowed 0 15)).group 5).state = 1 ∧
    ((after (.healthWindowEnd 5 (pairOf m 0 0xFFFF) []) (windowed 1 15)).group 5).state = 2 := by
  have h : ∀ n < 16, after (.healthWindowEnd 5 (pairOf m 0 0x3333) []) (windowed 0 n) = (windowed 0 n).endWindow 5 32768 32768 := fun n hn =>
    after_window _ 5 _ _ _ _ _ rfl (windowed_paired 0 n m hm (by decide) hn) (by rw [ones_blocks, show onesOf paired = 8 from rfl]; omega) (by rw [equal_paired]; omega)
  have h1 : after (.healthWindowEnd 5 (pairOf m 0 0xFFFF) []) (windowed 1 15) = (windowed 1 15).endWindow 5 65536 65535 :=
    after_window _ 5 _ _ _ _ _ rfl (windowed_ones 1 15 m hm (by decide) (by decide)) (by simp only [onesOf, List.filter_replicate, id, if_true, List.length_replicate]; omega)
      (by obtain ⟨n, hn⟩ : ∃ n, m * 16 = n + 1 := ⟨m * 16 - 1, by omega⟩
          rw [hn, equal_ones]; omega)
  rw [h 14 (by decide), h 15 (by decide), h1]
  decide +kernel
/-- 04 R87: 32,768 ones and 32,768 equal pairs of 65,535 give BIAS 0 and CORR 1 (half an equal pair over, away from zero). -/
theorem test_estimates : windowBias 32768 = 0 ∧ windowCorr 32768 = 1 ∧ windowBias 65536 = 16384 := by decide +kernel
/-- Lane 2 of the carrier of Spindle 3 waits for its re-stir. -/
def dueLane : State := { ready with noise := ready.noise.setLane (ready.hostOf 3) 2 { LaneKey.reset with due := true } }
theorem wit_RestirAndRootOfTrust_lane : dueLane.hostOf 3 < 136 ∧ (dueLane.noise.lane (dueLane.hostOf 3) 2).due = true ∧ dueLane.stirFed (dueLane.hostOf 3) = false := by decide +kernel
/-- Spindle 3's own group is HEALTHY, and so feeds its stir register. -/
def fedLane : State := dueLane.modGroup 3 fun x => { x with state := 1 }
theorem wit_RestirAndRootOfTrust_fed : fedLane.hostOf 3 = 3 ∧ fedLane.stirSource 3 = some 3 ∧ (fedLane.takers 3)[0]? = some 3 ∧ (fedLane.takers 3).Nodup := by decide +kernel
/-- 04 R85, R95: the sixteen bits of one pair of cycles, cell 15's last, enter at bit 0; the other 67 groups of the half take their turns. -/
theorem test_stirFed : shiftStir 0 [true, false, true] = 5 ∧ dealt [true, false, true, true] 1 2 0 = [false, true] ∧
    conditionedBits true 4 [0b0011, 0b0101] = [true, false] ∧ conditionedBits false 4 [0b0011, 0b0101] = [false, true, true, false] := by decide +kernel
theorem test_restir : let s := { dueLane with noise := { dueLane.noise with stir := vset dueLane.noise.stir 3 0x30 } }
    ((after (.restir 3 2 false []) s).noise.lane 3 2).key = 3 ∧ ((after (.restir 3 2 false []) s).noise.lane 3 2).due = false := by decide +kernel
theorem wit_RestirAndRootOfTrust_seed : let s := ready.modGroup 136 fun x => { x with state := 1 }
    s.board.phase = .ready ∧ (s.group 136).state = 1 ∧ s.noise.rotSeeded = false ∧ 512 ≤ (s.conditioned 136 (List.replicate 128 0)).length := by decide +kernel
theorem test_reseed : (after (.rotReseed (List.replicate 128 1)) (ready.modGroup 136 fun x => { x with state := 1 })).noise.rotSeeded = true ∧ (after (.rotReseed (List.replicate 128 1)) ready).noise.rotSeeded = false := by decide +kernel
theorem wit_RestirAndRootOfTrust_blocked : let s := { ready with noise := { ready.noise with rotSeeded := true, rotOutputs := 1048576 } }
    (s.group 136).state ≠ 1 ∧ s.noise.rotSeeded = true ∧ s.noise.rotBlocked = false ∧ 1048576 ≤ s.noise.rotOutputs := by decide +kernel
theorem test_rotBlocked : (after .rotBlocked { ready with noise := { ready.noise with rotSeeded := true, rotOutputs := 1048575 } }).noise.rotBlocked = false ∧
    (after .rotBlocked { ready with noise := { ready.noise with rotSeeded := true, rotOutputs := 1048576 } }).noise.rotBlocked = true := by decide +kernel
theorem wit_NoiseTimeoutsEndTheWait_start : ∃ a r q, (engineState 0 fun a => { a with startWait := true }).engine = some (a, r, q) ∧ a.colourfast = false ∧ (∃ i ∈ r.issued, i.index = a.word) ∧
    a.startWait = true ∧ (engineState 0 fun a => { a with startWait := true }).bothReady = false := engine_some _ (by decide +kernel)
theorem wit_NoiseTimeoutsEndTheWait_hold : let s := { engineState 0 id with noise := { ready.noise with holdTimer := ⟨true, false⟩ } }
    ∃ a r q, s.engine = some (a, r, q) ∧ a.startWait = false ∧ s.noise.holdTimer.get .west = true ∧ a.quiet = true := engine_some _ (by decide +kernel)
/-- A word that waits for noise. -/
def noiseWaiting (w : BitVec 128) : State := running { begun (hankWith 0 [] [w]) with issued := [{ granted 0 with noiseWait := true }] }
theorem wit_NoiseTimeoutsEndTheWait_raw : (∃ r, (noiseWaiting (wordOf 0x381 [(87, 5)])).run 0 = some r ∧ (r.noiseWaiter .noiseRaw).isSome = true) ∧
    ((noiseWaiting (wordOf 0x381 [(87, 5)])).group 5).state ≠ 1 := ⟨⟨_, rfl, by decide +kernel⟩, by decide +kernel⟩
theorem wit_NoiseTimeoutsEndTheWait_seed : (∃ r, (noiseWaiting (wordOf 0x380 [(94, 1)])).run 0 = some r ∧ (r.noiseWaiter .noiseSeed).isSome = true ∧ r.keyPending = false) ∧
    (noiseWaiting (wordOf 0x380 [(94, 1)])).rotServes = false := ⟨⟨_, rfl, by decide +kernel⟩, by decide +kernel⟩
theorem wit_NoiseTimeoutsEndTheWait_header : ∃ r, (running { hankWith 0 [] [] with keyPending := true }).run 0 = some r ∧ r.keyPending = true ∧ r.failure = none ∧ r.aborted = none :=
  ⟨_, rfl, by decide +kernel⟩
/-- An attestation request waits at the head of the queue of signing requests. -/
def attesting : State := { ready with ident := { ready.ident with attestState := 1, queue := [{ kind := 0, ring := 0, body := [] }] } }
theorem wit_NoiseTimeoutsEndTheWait_attest : attesting.ident.queue = [{ kind := 0, ring := 0, body := [] }] ∧ attesting.rotServes = false := by decide +kernel
theorem test_noiseTimeout : outcome0 (after (.noiseTimeout (.raw 0)) (noiseWaiting (wordOf 0x381 [(87, 5)]))) = some (true, some (0x10, 0)) ∧
    (after (.noiseTimeout .rootOfTrust) attesting).ident.attestState = 3 := by decide +kernel

-- Power, faults and scrubbing.

/-- Word 0 of Distaff 0 waits for its permits, a draw of 50 W. -/
def permitWaiting : State :=
  let s := running { hankWith 0 [] [wordOf 0x100 [(96, 3), (103, 4)]] with next := 1, issued := [{ granted 0 with granted := false }] }
  { s with steward := { s.steward with queue := [{ distaff := 0, word := 0, draw := 500 }] } }
theorem wit_PermitGrantServesTheOldest_alone : permitWaiting.board.phase = .ready ∧ permitWaiting.steward.queue = [{ distaff := 0, word := 0, draw := 500 }] ∧
    permitWaiting.steward.granted = [] ∧ permitWaiting.steward.reservation = none := by decide +kernel
theorem wit_PermitGrantServesTheOldest_headroom : let s := { permitWaiting with steward := { permitWaiting.steward with granted := [{ distaff := 1, word := 0, draw := 100 }] } }
    s.steward.g ≠ 0 ∧ (500 : Int) ≤ s.headroom ∧ s.steward.reservation = none := by decide +kernel
theorem wit_PermitGrantServesTheOldest_waits : let s := { permitWaiting with steward := { permitWaiting.steward with granted := [{ distaff := 1, word := 0, draw := 9000 }] } }
    s.steward.g ≠ 0 ∧ ¬(500 : Int) ≤ s.headroom := by decide +kernel
theorem test_permitGrant : ((after .permitGrant permitWaiting).run 0).map (fun r => r.issued.map fun i => i.granted) = some [true] ∧ (after .permitGrant permitWaiting).steward.g = 500 := by
  decide +kernel
theorem wit_PermitTimeoutWithdrawsTheRequest : permitWaiting.board.phase = .ready ∧ (∃ r, permitWaiting.run 0 = some r ∧ ({ granted 0 with granted := false } : Issued) ∈ r.issued) ∧
    ({ granted 0 with granted := false } : Issued).noiseWait = false := ⟨rfl, ⟨_, rfl, by decide +kernel⟩, rfl⟩
theorem test_permitTimeout : outcome0 (after .permitTimeout permitWaiting) = some (true, some (0x40, 0)) ∧ (after .permitTimeout permitWaiting).steward.timeouts = 1 := by decide +kernel
theorem wit_SamplesSetTheRatios : ready.board.phase = .ready ∧ (let s := { ready with steward := { ready.steward with rising := ⟨some (0, 0), none⟩ } }
    s.steward.rising.get .west = some (0, 0)) := by decide +kernel
/-- 11 R303: a half at or above its thermal limit, 100 °C by default, slows by one step; 0.01 °C below it does not. -/
theorem test_thermal : let at_ := fun (t : Int) => { ready with steward := { ready.steward with tj := ⟨t, 0⟩ } }
    (after .ratioEvaluation (at_ 10000)).steward.thermal.w = 1 ∧ (after .ratioEvaluation (at_ 10000)).steward.ratio.w = 1 ∧ (after .ratioEvaluation (at_ 9999)).steward.ratio.w = 0 := by
  decide +kernel
theorem test_powerSample : (after (.powerSample 300 100 110 (some (-500, 2500))) ready).steward.tj = ⟨-500, 2500⟩ := by decide +kernel
theorem wit_ReplanMakesThePlan : ready.start.state ≠ 4 ∧ ready.steward.replan = 0 ∧ planOk goodStart.vdom = true ∧
    (let s := { ready with steward := { ready.steward with replan := 1 } }
     s.steward.replan ≠ 0 ∧ s.noHank = true) := by decide +kernel
/-- 11 R306: 25 mV above the largest V_dom of each ratio; an LPDDR5X controller's one value counts at every ratio. -/
theorem test_replan : (after (.replanMeasure (List.replicate 242 [698, 650, 600, 550] ++ List.replicate 8 [570, 0, 0, 0] ++ List.replicate 46 [700, 650, 600, 550])) { ready with steward := { ready.steward with replan := 1 } }).steward.plan.w = [725, 675, 625, 595] := by decide +kernel
/-- A hank holds logical Spindle 3, which physical Spindle 3 carries. -/
def holding : State := (one 0 [] (wordOf 0x108 [(96, 3)])).modSpindle 3 fun x => { x with holder := some (0, 1) }
theorem wit_FaultsStopTheHankAndRemap_fault : holding.unitHolder false 3 = some (0, 1) ∧ holding.distaffOf 0 1 = some 0 ∧ unitFaultOk false 3 5 = true ∧ holding.unitHolder false 4 = none ∧
    (∃ r, holding.run 0 = some r ∧ r.aborted = none ∧ r.failure = none ∧ r.eccMet = none ∧ holding.savingOn 0 r = false) :=
  ⟨by decide +kernel, by decide +kernel, by decide +kernel, by decide +kernel, _, rfl, by decide +kernel⟩
theorem test_unitFault : ((after (.unitFault false 3 5) holding).run 0).map (fun r => r.faulted) = some true ∧ (after (.unitFault false 3 5) holding).units.faults.length = 1 ∧
    (after (.unitFault false 4 5) holding).units.faults = [] := by decide +kernel
/-- Physical Spindle 3 is retired by a fault that waits for the boundary; Spindles 64 to 67 are the West reserves. -/
def faulty : State := { ready with units := { ready.units with faults := [(false, 3, 3)] } }
theorem wit_FaultsStopTheHankAndRemap_remap : faulty.units.testPending = false ∧ faulty.units.faults = [(false, 3, 3)] ∧ halfOfPhysical 3 = .west ∧ faulty.quiesced .west = true ∧
    faulty.units.cls 3 ≤ 3 ∧ faulty.units.hosted 3 = [3] ∧ (faulty.units.reserves .west).find? (fun u => u ≠ 3) = some 64 := by decide +kernel
theorem wit_ScrubbersCorrectOrPoison : ready.board.phase = .ready ∧ ready.mem.upsets = [] ∧ (64 : BitVec 40).toNat < lpBytes ∧ ready.mem.poison = [] := by decide +kernel
theorem wit_ScrubbersCorrectOrPoison_fresh : freshOk [(.spindle, 5, true)] = true ∧ Store.spindle ≠ .sram ∧ 5 < (storePlace .spindle).2 := by decide +kernel
/-- 08 R219: an uncorrectable error in a Spindle's store waits there for a read. -/
theorem test_fresh : ((after (.sramScrubAccess 0 ⟨[], [(.spindle, 5, true)]⟩) ready).mem.check 3 40 8).2.isSome = true := by decide +kernel
theorem test_scrub : (after (.sramScrubAccess 0 ⟨[(9, false)], []⟩) ready).mem.sramCe = 1 ∧ (after (.sramScrubAccess 0 ⟨[(9, true)], []⟩) ready).mem.poison = [(0, 33)] ∧
    (after (.lpPatrolScrub 64 (some true)) ready).mem.lpUe = 1 := by decide +kernel

-- The dictionary.

theorem wit_EntryWritesTakeEffect_idle : ready.pathIdle .bar0 = true ∧ ready.pathIdle .i3c = true ∧ ready.pathIdle .vdm = true ∧ State.reset.pathOpen .i3c = false := by decide +kernel
theorem wit_EntryWritesTakeEffect_scalar : ready.start.state ≠ 4 ∧ ∃ r, rowOf 0x6000 1 = some r ∧ r.access = .rwp ∧ r.type.isScalar = true ∧
    ready.inRange r 1 500 = true ∧ ready.inRange r 1 1000 = false ∧ ready.stateAllows 0x6000 1 500 = true ∧ ready.entry 0x6000 1 ≠ 500 := ⟨by decide +kernel, _, rfl, by decide +kernel⟩
theorem wit_EntryWritesTakeEffect_refused : rowOf 0xFFFF 0 = none ∧ (rowOf 0x1000 3).map (fun r => r.access) = some .const := by decide +kernel
theorem wit_EntryWritesTakeEffect_own : ready.entry 0x3820 5 ≠ 1 ∧ ready.entry 0x8000 1 ≠ 1 ∧ ready.entry 0x8000 2 ≠ 1 ∧ (List.replicate 32 (7 : Byte)).length = 32 ∧
    vget ready.dict.ckptKeys none 3 = none := by decide +kernel
/-- 10 R273: POWER_BUDGET takes 500 W, and refuses 951 W. -/
theorem test_powerBudget : (after (.powerBudgetWrite .i3c false 500) ready).entry 0x6000 1 = 500 ∧ (after (.powerBudgetWrite .i3c false 951) ready).out.reply = 5 ∧
    (after (.dictWrite .bar0 0xFFFF 0 1) ready).out.reply = 1 := by decide +kernel
theorem test_debugEnable : (after (.debugEnableWrite .i3c 1) ready).debug = true ∧ (after (.testShapeWrite .i3c 1) ready).entry 0x8000 2 = 1 ∧
    vget (after (.ckptKeyWrite .i3c 3 (List.replicate 32 7)) ready).dict.ckptKeys none 3 = some (List.replicate 32 7) := by decide +kernel
/-- 04 R94: a change of a group's conditioning puts it into WARMING. -/
theorem test_conditioning : ((after (.conditioningWrite .i3c 5 1) (ready.modGroup 5 fun x => { x with state := 1 })).group 5).state = 0 := by decide +kernel
/-- The image in slot A runs. -/
def booted : State := { ready with image := { ready.image with active := some false } }
theorem wit_SettingsReachTheFlash : booted.image.active = some false ∧ booted.dict.flushing = false ∧ booted.image.trialState ≠ 2 ∧
    (let s := after (.settingsFlush .i3c 1) booted
     s.dict.flushing = true ∧ s.dict.flushAgain = false) ∧ (after (.powerBudgetWrite .i3c false 500) booted).dict.unflushed ≠ [] := by decide +kernel
theorem test_flush : let s := after .settingsRewriteDone (after .settingsFlushTimer (after (.powerBudgetWrite .i3c false 500) booted))
    s.dict.flushing = false ∧ s.dict.unflushed = [] ∧ ((s.dict.area true).map fun a => a.values.length) = none ∧ ((s.dict.area false).map fun a => a.values.length) = some 1 := by decide +kernel
theorem wit_WindowSlotsQueueAndServe_idle : ready.windowOpen = true ∧ (ready.slot 3).busy = none ∧ (1 : BitVec 13).toNat ≤ 4096 ∧ (ready.slot 3).xferAddr.toNat % 64 = 0 ∧ ready.dict.bar0 = [] := by
  decide +kernel
theorem wit_WindowSlotsQueueAndServe_read : (match (ready.modSlot 3 fun x => { x with select := 0x600001 }).getScalar 0x6000 1 with
    | .inl _ => true
    | .inr _ => false) = true ∧ (match ready.getScalar 0 0 with
    | .inl _ => false
    | .inr e => e = 1) = true := by decide +kernel
/-- Slot 3 has POWER_BUDGET selected and a write of 500 waits. -/
def slotWriting : State := after (.valueWrite 3 true 500) (after (.selectWrite 3 0x600001) ready)
theorem wit_WindowSlotsQueueAndServe_write : slotWriting.dict.bar0 = [3] ∧ (slotWriting.slot 3).busy = some (.inl 500) ∧ (slotWriting.slot 3).index = 0x6000 ∧ (slotWriting.slot 3).sub = 1 := by
  decide +kernel
theorem test_slot : (after (.dictRequestService ⟨.slot 3, true⟩) slotWriting).entry 0x6000 1 = 500 ∧ ((after (.dictRequestService ⟨.slot 3, true⟩) slotWriting).slot 3).code = 0 ∧
    ((after (.dictRequestService ⟨.slot 3, true⟩) (after (.valueWrite 3 true 1000) (after (.selectWrite 3 0x600001) ready))).slot 3).code = 5 := by decide +kernel
theorem wit_WindowSlotsQueueAndServe_out : let s := after (.xferEntryToHost 3 32) (after (.selectWrite 3 0x700001) ready)
    s.dict.bar0 = [3] ∧ (s.slot 3).busy = some (.inr (false, 32)) ∧ (match s.getBytes 0x7000 1 0 32 with
      | .inl _ => true
      | .inr _ => false) = true := by decide +kernel
theorem wit_WindowSlotsQueueAndServe_in : let s := after (.xferHostToEntry 3 32) (after (.selectWrite 3 0x700001) ready)
    s.dict.bar0 = [3] ∧ (s.slot 3).busy = some (.inr (true, 32)) ∧ (s.slot 3).select = 0x700001 ∧ s.dict.attestNonce.length = 32 := by decide +kernel
theorem test_xfer : let s := (after (.xferHostToEntry 3 32) (after (.selectWrite 3 0x700001) ready)).put 2 0 [5, 6]
    (after (.dictRequestService ⟨.slot 3, true⟩) s).dict.attestNonce.take 3 = [5, 6, 0] := by decide +kernel
/-- A dictionary message of the device's vendor. -/
def message (index : BitVec 16) (sub : BitVec 8) (len : BitVec 16) (data : Bytes) : Request :=
  { vendorOk := true, protocol := 1, tag := 9, status := 0, index := index, sub := sub, reserved7 := 0, offset := 0, length := len, reserved14 := 0, data := data }
theorem wit_MessagesAreQueuedAndAnswered_queue : ready.pathOpen (mctpPath .i3c) = true ∧ ready.pathOpen (mctpPath .vdm) = true ∧ (message 0x6000 1 0 []).vendorOk = true ∧ (message 0x6000 1 0 []).protocol = 1 ∧
    (ready.dict.end_ .i3c).queue.length < 8 := by decide +kernel
theorem wit_MessagesAreQueuedAndAnswered_forms : requestBad (message 0x6000 1 0 []) 1 = false ∧ requestBad (message 0x6000 1 2 [0xF4, 1]) 2 = false ∧ requestBad (message 0x6000 1 2 []) 2 = true ∧
    requestBad (message 0x7000 1 32 []) 3 = false ∧ requestBad (message 0x7000 5 32 (zeros 32)) 4 = false ∧ requestBad (message 0x6000 1 0 []) 5 = false := by decide +kernel
theorem wit_MessagesAreQueuedAndAnswered_served : let s := after (.read .i3c (message 0x6000 1 0 [])) ready
    (s.dict.end_ .i3c).queue = [(1, message 0x6000 1 0 [])] := by decide +kernel
/-- 10 R281, R282: the default POWER_BUDGET as two bytes; a READ of an absent entry answers NO_ENTRY. -/
theorem test_read : let ask := fun q => (after (.dictRequestService ⟨.mctp .i3c, true⟩) (after (.read .i3c q) ready)).dict.i3c.out.map fun a => (a.status, a.data)
    ask (message 0x6000 1 0 []) = [(0, le 2 (ready.entry 0x6000 1))] ∧ ask (message 0xFFFF 1 0 []) = [(1, [])] := by decide +kernel
theorem test_write : (after (.dictRequestService ⟨.mctp .vdm, true⟩) (after (.write .vdm (message 0x6000 1 2 [0xF4, 1])) ready)).entry 0x6000 1 = 500 := by decide +kernel
theorem test_control : (after (.setEndpointId .vdm 9) ready).dict.vdm.eid = 9 ∧ (after (.setEndpointId .vdm 0xFF) ready).dict.vdm.eid = 0 ∧
    (after (.getMessageTypeSupport .i3c) ready).dict.i3c.control = [[5, 0, 2, 0x00, 0x7E]] := by decide +kernel

-- Signing, the recorder, images.

theorem wit_SigningServesInOrder_queue : ready.ident.attestState ≠ 1 ∧ attesting.ident.attestState = 1 ∧ ready.ident.sealWaits 7 = false ∧
    (after (.sealRing .i3c 7) ready).ident.sealWaits 7 = true := by decide +kernel
theorem wit_SigningServesInOrder_sign : let s := serving attesting
    s.ident.queue = [{ kind := 0, ring := 0, body := [] }] ∧ s.ident.state = 1 ∧ s.rotServes = true ∧ attesting.rotServes = false ∧
    (let s := { attesting with ident := { attesting.ident with queue := [{ kind := 1, ring := 7, body := [] }], state := 2 } }
     s.ident.state ≠ 1 ∧ s.ident.queue.length = 1) := by decide +kernel
theorem test_sealQueue : ((after (.sealRing .i3c 7) ready).ident.queue.map fun q => (q.kind, q.ring)) = [(1, 7)] ∧
    (after (.sealRing .i3c 7) (after (.sealRing .i3c 7) ready)).out.reply = 6 := by decide +kernel
theorem test_attest : (after .signatureComplete (serving attesting)).ident.attestState = 2 ∧ (after .signatureComplete attesting).ident.attestState = 1 := by decide +kernel
theorem wit_RecorderTakesRecordsAndSnapshots_freeze : ready.recorder.frozen true = false ∧ (after (.freeze .i3c true) ready).recorder.frozen true = true ∧
    (after (.freeze .i3c true) ready).recorder.frozen false = false := by decide +kernel
theorem test_freeze : (after (.freezeLimitExpiry true) (after (.freeze .i3c true) ready)).recorder.tFrozen = false ∧ (after (.thaw .i3c true) ready).out.reply = 6 ∧
    (after (.freeze .i3c true) (after (.freeze .i3c true) ready)).out.reply = 6 := by decide +kernel
/-- A record on its way to the recorder. -/
def recorded (sev : Nat) : State := ready.emit (devNotice 0x0B04 sev 258 (zeros 16))
theorem wit_RecorderTakesRecordsAndSnapshots_arrive : (recorded fatal).recorder.inbox = [devNotice 0x0B04 fatal 258 (zeros 16)] ∧ recordsSize ready.recorder.stored + (devNotice 0x0B04 fatal 258 (zeros 16)).size ≤
    ready.eventRoom ∧ (devNotice 0x0B04 fatal 258 (zeros 16)).size ≤ 1040384 ∧ info < ready.entry 0x2000 8 ∧ ready.entry 0x2000 8 ≤ fatal := by decide +kernel
theorem test_arrive : let t := after .eventRecordArrive (recorded fatal)
    (t.recorder.stored.map fun x => x.rseq) = [1] ∧ t.keep.mirror.length = 1 ∧ (after .eventRecordArrive (recorded error)).keep.mirror.length = 0 := by decide +kernel
theorem test_arrive_frozen : let t := after .eventRecordArrive { recorded fatal with recorder := { (recorded fatal).recorder with eFrozen := true } }
    t.recorder.stored.length = 0 ∧ t.recorder.eLost = 1 := by decide +kernel
/-- Trigger set 2 is armed on POWER_BUDGET equal to 5 in its low byte, and debug mode is on. -/
def armed : State :=
  { debugging with dict := { debugging.dict with triggers := vset debugging.dict.triggers 2 ([1, 1, 1] ++ zeros 5 ++ le 8 0xFF ++ le 8 5 ++ zeros 40 ++ le 4 0x600001 ++ zeros 252) } }
theorem wit_RecorderTakesRecordsAndSnapshots_selected : armed.selectedNow 0x600001 = some (armed.entry 0x6000 1) ∧ (selectorsOf (vget armed.dict.triggers [] 2)).headD 0 = 0x600001 ∧
    armed.selectedNow 0x0FF00000 = none ∧ armed.selectedWidth 0x0FF00000 = none := by decide +kernel
theorem wit_RecorderTakesRecordsAndSnapshots_match : armed.debug = true ∧ bit (num (vget armed.dict.triggers [] 2) 0 1) 0 = true ∧ num (vget armed.dict.triggers [] 2) 1 1 = 1 ∧
    triggerTrue (vget armed.dict.triggers [] 2) 0x105 = true ∧ triggerTrue (vget armed.dict.triggers [] 2) 6 = false ∧ vget armed.recorder.matched false 2 = false ∧
    vget armed.recorder.captures none 2 = none := by decide +kernel
/-- Its comparison holds: POWER_BUDGET is 517 W. -/
def matching : State := { armed with dict := armed.dict.store 0x6000 1 517 }
theorem test_match : (vget (after (.registerMatchCapture 2 0) matching).recorder.captures none 2).isSome = true ∧
    (vget (after (.registerMatchCapture 2 0) armed).recorder.captures none 2).isSome = false := by decide +kernel
theorem wit_RecorderTakesRecordsAndSnapshots_capture : let s := after (.registerMatchCapture 2 0) matching
    (vget s.recorder.captures none 2).map (fun c => (c.cause, c.hank, c.rseq)) = some (1, none, 0) ∧ s.debug = true ∧ (after (.debugEnableWrite .i3c 0) s).debug = false := by decide +kernel
theorem test_capture : let t := after (.captureEnd 2) (after (.registerMatchCapture 2 0) matching)
    (t.recorder.snaps.map fun x => (x.note.type, x.rseq)) = [(0x0E02, 1)] ∧ vget t.recorder.captures none 2 = none := by decide +kernel
/-- An image of 8,192 bytes is being staged. -/
def staging (stage : Nat) : State :=
  { ready with dict := ready.dict.store 0x1100 0x13 8192, image := { ready.image with stage := stage } }
theorem wit_ImagesAreStagedArmedAndConfirmed_begin : (staging 0).image.stage = 0 ∧ (staging 0).image.trialState = 0 ∧ (staging 0).stageLength = 8192 := by decide +kernel
theorem wit_ImagesAreStagedArmedAndConfirmed_block : (staging 2).image.stage = 2 ∧ (4096 : BitVec 32).toNat % 4096 = 0 ∧ (4096 : BitVec 32).toNat < (staging 2).stageLength ∧
    (List.replicate 4096 (1 : Byte)).length = min 4096 ((staging 2).stageLength - 4096) ∧ (staging 2).dict.flushing = false ∧ (staging 2).dict.journalBlocks = false ∧
    (staging 2).image.blocks.contains 1 = false := by decide +kernel
theorem wit_ImagesAreStagedArmedAndConfirmed_verify : ({ staging 2 with image := { (staging 2).image with blocks := [0, 1] } } : State).image.blocks.length = (staging 2).blockCount ∧
    (staging 3).image.stage = 3 ∧ (serving (staging 3)).ident.state = 1 ∧ (serving (staging 3)).rotServes = true := by decide +kernel
theorem test_begin : let t := after (.begin .i3c) (staging 0)
    t.image.stage = 1 ∧ (after (.eraseDone true) t).image.stage = 2 ∧ (after (.cancel .i3c) t).image.stage = 0 := by decide +kernel
/-- 15 R385: VERIFY before every block is there is refused; with both blocks it starts. -/
theorem test_verify : (after (.verify .i3c) (staging 2)).image.stage = 2 ∧ (after (.verify .i3c) { staging 2 with image := { (staging 2).image with blocks := [0, 1] } }).image.stage = 3 := by
  decide +kernel
theorem wit_ImagesAreStagedArmedAndConfirmed_arm : (staging 4).image.stage = 4 ∧ (staging 4).start.state ≠ 4 := by decide +kernel
/-- A trial of slot A's image as if it stood in slot B, running. -/
def trial : State :=
  { ready with image := { ready.image with slotB := { image := some { ImageInfo.factory with svn := 3, revoke := 0b1001, keyIndex := 3 }, bootKey := some [], damaged := false },
                                           copy1 := some { seq := 4, confirmed := false, trial := some true, count := 1, window := 0 }, trialRunning := true } }
theorem wit_ImagesAreStagedArmedAndConfirmed_confirm : trial.image.control.trial = some true ∧ trial.image.trialRunning = true ∧ trial.start.state = 1 ∧ (trial.image.slot true).image.isSome = true := by
  decide +kernel
/-- 15 R382, R389: MIN_SVN rises to 3; of key slots 0 and 3 only 0 is revoked, 3 being the image's own. -/
theorem test_confirm : let t := after (.confirm .i3c) trial
    t.image.minSvn = 3 ∧ t.image.revoked = 1 ∧ t.image.control.confirmed = true ∧ t.image.control.seq = 5 := by decide +kernel
theorem test_arm_disarm : (after (.arm ⟨.i3c, true⟩) (staging 4)).image.control.trial = some true ∧ (after (.disarm .i3c) trial).image.control.trial = none := by decide +kernel

-- Ends of hanks.

/-- The ring's first hank still runs elsewhere; its second is over on Distaff 0, before any word of it ran. -/
def endedHank : Run := { hankWith 0 [] [] with seq := 2, atRead := true, failure := some (0xFFFF, { status := 0xF0, cause := 0x10, evRef := 0 }) }
def ending_ : State := (ringWith [hankAt 1 .running, hankAt 2 .running]).setRun 0 (some endedHank)
theorem wit_FinishedHanksCompleteInOrder_over : ending_.board.phase = .ready ∧ endedHank.ring = (0 : Fin 64).val ∧ endedHank.over = true ∧
    (ending_.ring 0).hanks = [hankAt 1 .running, hankAt 2 .running] ∧ (hankAt 1 .running).stage ≠ .finished ∧ (hankAt 1 .running).seq ≠ endedHank.seq ∧
    endedHank.atRead = true ∧ ending_.run 0 = some endedHank := ⟨rfl, rfl, by decide +kernel, by decide +kernel, by decide, by decide, rfl, rfl⟩
/-- A hank of sequence number 1 with TAG 77 that has finished with status 0x40. -/
def doneEnding : Ending :=
  { status := 0x40, cause := 0, distaff := 3, flags := 0, holdCount := 0, lagWE := 0, lagEW := 0, epoch := 0, evRef := 0, runCycles := 0, domain := 173, permitWait := 0, mode := 0,
    cfLevel := 1, ledgerFlags := 0, shapeW := 0, shapeE := 0, hankDigest := zeros 32, ckptGen := 0, restoredGen := 0, results := [], marks := [], keys := [], draws := [], hostOuts := [],
    noIrq := true, silent := false }
def doneHank : Hank := { hankAt 1 .finished with entry := { hankAddr := 0, hankLen := 0, irqSel := 0, tag := 77 }, ending := some doneEnding }
theorem wit_FinishedHanksCompleteInOrder_complete : (ringWith [doneHank]).board.phase = .ready ∧ (ringWith [doneHank]).run 0 = none ∧
    ((ringWith [doneHank]).ring 0).hanks = [doneHank] ∧ doneHank.stage = .finished ∧ doneHank.ending = some doneEnding ∧
    ((ringWith [doneHank]).ring 0).gap = none ∧ (ringWith [doneHank]).entry 0x7010 0 = 0 := by decide +kernel
/-- 09 R257, R259: the completion record of TAG 77 stands at the base of the completion ring, with its status and PHASE 1. -/
theorem test_completion : let s := after (.hankFinish 0 0) (ringWith [doneHank])
    s.bytes 2 0 8 = le 8 77 ∧ s.bytes 2 16 2 = [0x40, 0] ∧ s.bytes 2 19 1 = [3] ∧ s.bytes 2 60 4 = [1, 0, 0, 0] ∧ (s.ring 0).cqTail = 1 ∧ (s.ring 0).hanks = [] := by decide +kernel
/-- 09 R259: a later hank that is over waits for the earlier one. -/
theorem test_completionWaits : let s := after (.hankFinish 0 0) ending_
    (s.ring 0).cqTail = 0 ∧ ((s.ring 0).hanks.map fun h => h.stage) = [.running, .finished] ∧ (s.run 0).isNone = true := by decide +kernel
/-- 13 R344, 11 R303: the loss of VDD_IO forgets the budget ceiling; a rise takes the ratio it waited for. -/
theorem test_vddIoLoss : (after .vddIoLoss { ready with steward := { ready.steward with timeouts := 5 } }).steward.timeouts = 0 ∧
    (after (.ratioStepUp .west) { ready with steward := { ready.steward with ratio := ⟨2, 2⟩, rising := ⟨some (1, 0), none⟩ } }).steward.ratio = ⟨1, 2⟩ := by decide +kernel
/-- 06 R154: the first reserve of the half takes the retired Spindle's number, and the epoch moves on. -/
theorem test_shapeRemap : vget (after (.shapeRemap .west) faulty).units.hosts 0xFF 3 = 64 ∧ (after (.shapeRemap .west) faulty).units.epoch = 1 := by decide +kernel
/-- 16 R404: the dynamic address of the I3C target. -/
theorem test_i3c : (after (.setdasa 9) ready).board.i3cDynamic = some 9 ∧ (after .rstdaa (after (.setdasa 9) ready)).board.i3cDynamic = none := by decide +kernel

-- Starts, halts, rings and picks: further clauses.

/-- A start whose East regulator acknowledges no voltage write at step 8, with the image of slot A changed or not. -/
def avsStart (damaged : Bool) : StartInputs := { goodStart with avsFail := some (.east, true), damagedA := damaged }
theorem wit_StartsReachReady_avs : startOk (avsStart false) false = true ∧ startOk (avsStart true) false = true ∧
    ({ ready with image := ready.image.afterDamage (avsStart false) } : State).slotVerifies true false = true ∧
    ({ ready with image := ready.image.afterDamage (avsStart true) } : State).slotVerifies true false = false ∧
    ({ ready with image := ready.image.afterDamage (avsStart true) } : State).slotVerifies true true = false := by decide +kernel
/-- 13 R354: the fatal stop of a start that has an image sets bit 10; with no image the start ends in RECOVERY before the rails rise. -/
theorem test_avsStart : let t := after (.hotReset (avsStart false)) ready
    t.board.phase = .haltedFatal ∧ t.start.state = 3 ∧ t.start.cause.getLsbD 10 = true ∧ (after (.hotReset (avsStart true)) ready).start.state = 4 := by decide +kernel
/-- A device that a sag has halted. -/
def halted : State := { ready with board := { ready.board with phase := .haltedSag, alertSave := true } }
theorem wit_FatalStopsHaltTheDevice_halted : halted.board.phase ≠ .reset ∧ halted.board.thermtrip = false ∧ halted.board.phase = .haltedSag := by decide
/-- 16 R407: a halted device too takes the fatal stop of THERMTRIP#, with its save. -/
theorem test_thermtrip_halted : let t := after (.thermtrip 0 115) halted
    t.board.phase = .haltedSag ∧ t.board.thermtrip = true ∧ (t.keep.mirror.map fun x => x.note.type) = [0x0B04, 0x0604] ∧ t.keep.saveSeq = 1 := by decide +kernel
theorem wit_ResetsOfARunningDevice_mirror : ({ ready with keep := { ready.keep with mirrorOpen := true } } : State).keep.mirrorOpen = true ∧ ready.keep.mirrorOpen = false ∧
    halted.board.phase ≠ .ready := by decide
/-- 16 R405: what PRELOAD shifts in stands in the latches, and EXTEST drives it. -/
theorem test_preloadPins : let s := after (.tapInstruction ⟨.samplePreload, some 5⟩) ready
    s.board.boundaryOut = 5 ∧ (after (.tapInstruction ⟨.extest, none⟩) s).board.tapDrives = true ∧ (after (.tapInstruction ⟨.bypass, some 9⟩) s).board.boundary = 5 := by decide +kernel
/-- Hank 1 of ring 0 waits and hank 2 runs on Distaff 0. -/
def resetting : State := (ringWith [hankAt 1 .waiting, hankAt 2 .running]).setRun 0 (some { hankWith 0 [] [] with seq := 2 })
theorem wit_FunctionLevelResetClearsItsRings_hanks : resetting.fnThere 0 = true ∧ ((resetting.ring 0).hanks.map fun h => h.seq).Nodup ∧ resetting.owner 0 = 0 ∧
    (∃ q, resetting.run 0 = some q ∧ q.ring < 64 ∧ ∃ h ∈ (resetting.ring q.ring).hanks, h.seq = q.seq ∧ h.stage = .running) :=
  ⟨by decide +kernel, by decide +kernel, by decide +kernel, _, rfl, by decide +kernel⟩
/-- Ring 0 belongs to VF 3. -/
def vfRing : State := { (ringWith [hankAt 1 .waiting]) with vfEnable := true, ari := true, numVfs := 15, dict := ready.dict.store 0x2020 0 0x103 }
theorem wit_FunctionLevelResetClearsItsRings_vf : vfRing.board.phase = .ready ∧ vfRing.fnThere 3 = true ∧ vfRing.owner 0 = 3 ∧ vfRing.owner 1 = 0 := by decide +kernel
/-- 09 R265: the waiting hank is chained as ABORTED, the running one is aborted. -/
theorem test_flr_chain : let t := after (.functionLevelReset 0) resetting
    (t.ring 0).chainIndex = 1 ∧ ((t.ring 0).hanks.map fun h => h.seq) = [2] ∧ (t.ring 0).done = [(1, 0xF0)] ∧ ((t.run 0).map fun r => (r.aborted, r.noHost)) = some (some 2, true) ∧
    ((after (.functionLevelReset 3) vfRing).ring 0).chainIndex = 1 := by decide +kernel
/-- A hank of each stage; the running one has issued a word that has its permits, one that waits for them, and an endless WAIT.SEQ. -/
def abortable : State :=
  (ringWith [hankAt 1 .finished, { hankAt 2 .running with signalled := 0 }, hankAt 3 .picked, hankAt 4 .waiting, hankAt 5 .accepted]).setRun 0
    (some { hankWith 0 [] [wordOf 0x100 [(96, 3)], wordOf 0x100 [(96, 4)], wordOf 0x011 [(89, 7), (41, 9), (25, 5)]] with
      seq := 2, next := 3, issued := [granted 0, { granted 1 with granted := false }, granted 2] })
theorem wit_AbortFinishesAWaitingHank_through : abortable.reaches 0 0 = true ∧ (abortable.ring 0).seqBase ≤ 2 ∧ 2 < (abortable.ring 0).seqBase + (abortable.ring 0).sqAccepted.toNat ∧
    ((abortable.ring 0).hanks.map fun h => h.seq).Nodup ∧ (2 ^ 63 + 2 : BitVec 64).toNat % 2 ^ 48 = 2 ∧
    (∃ q, abortable.run 0 = some q ∧ q.ring = 0 ∧ q.seq = 2 ∧ q.ended = false ∧ q.aborted = none ∧ (q.issued.map fun i => q.endless i) = [false, false, true]) :=
  ⟨by decide +kernel, by decide +kernel, by decide +kernel, by decide +kernel, by decide +kernel, _, rfl, by decide +kernel⟩
theorem wit_AbortFinishesAWaitingHank_ended : ∃ q, ((ringWith [hankAt 1 .running]).setRun 0 (some (hankWith 0 [] []))).run 0 = some q ∧ q.ended = true ∧ q.aborted = none := ⟨_, rfl, by decide +kernel⟩
/-- 09 R262: THROUGH reaches every later hank; issued words stay issued, but for the WAIT.SEQ that nothing else ends. -/
theorem test_abort_through : let t := after (.abort 0 0 true (2 ^ 63 + 2)) abortable
    ((t.ring 0).hanks.map fun h => (h.stage, h.abortWith)) = [(.finished, none), (.running, none), (.picked, some 1), (.finished, none), (.accepted, some 1)] ∧
    ((t.run 0).map fun r => (r.aborted, r.issued.map fun i => i.index)) = some (some 1, [0, 1]) ∧
    ((after (.abort 0 0 true 4) abortable).run 0).map (fun r => r.aborted) = some none := by decide +kernel
/-- 08 R212: an access of SRAM bytes, LPDDR5X bytes, and bytes the device keeps for itself. -/
theorem wit_Bar2ReachesMemoryInDebugMode_own : deviceOwn 0x1005 = false ∧ deviceOwn 0xFC180000 = false ∧ deviceOwn 0xFC200000 = true ∧ deviceOwn 0xFE000000 = true := by decide +kernel
theorem wit_HostReadFaultsAreReported_header : let s := ringWith [hankAt 1 .accepted]
    s.board.phase = .ready ∧ (s.ring 0).unread = some (hankAt 1 .accepted) ∧ (hankAt 1 .accepted).abortWith = none ∧
    (entryFields (s.entryBytes 0 (hankAt 1 .accepted))).hankAddr % 64 = 0 ∧ (entryFields (s.entryBytes 0 (hankAt 1 .accepted))).hankAddr + 256 ≤ 2 ^ 64 := by decide +kernel
theorem wit_HostReadFaultsAreReported_region : pickedOne.pickedHank = some (0, hankAt 1 .picked) ∧ pickedOne.freeDistaff = some 1 ∧ (hankAt 1 .picked).abortWith = none := by decide +kernel
/-- 09 R264: the four reads of a hank, and what each ends. -/
theorem test_hostReadFaults : let s := ringWith [hankAt 1 .accepted]
    ((after (.hostReadFault (.entry 0) 0 64 16) s).ring 0).fault = true ∧ ((after (.hostReadFault (.header 0) 0 64 16) s).ring 0).fault = false ∧
    ((after (.hostReadFault (.header 0) 0 64 16) s).ring 0).hanks.map (fun h => h.stage) = [.finished] ∧
    ((after (.hostReadFault .region 0 64 16) pickedOne).run 1).map (fun r => r.failure.map fun f => (f.2.status, f.2.cause)) = some (some (0xF0, 0x10)) := by decide +kernel
/-- Grants leave a headroom of 20 W: only a ceiling of 0 fits. Ring 0, where the pointer stands, has a head of ceiling 5; ring 3 one of ceiling 0. -/
def crowded : State :=
  let s := (ringWith [{ hankAt 1 .waiting with ceiling := 5 }]).modRing 0 fun x => { x with allowance := 1 }
  let s := s.modRing 3 fun x => { x with enabled := true, seqBase := 1, nextSeq := 2, sqAccepted := 1, hanks := [hankAt 1 .waiting] }
  { s with steward := { s.steward with granted := [{ distaff := 7, word := 0, draw := 10 * s.budget - 800 - 200 }] } }
theorem wit_PicksFollowThePointer_bypass : crowded.mayPick = true ∧ crowded.dispatcher.pointer = 0 ∧ (crowded.ring 0).eligible = true ∧ (crowded.ring 0).allowance ≠ 0 ∧
    (crowded.ring 0).head = some { hankAt 1 .waiting with ceiling := 5 } ∧ crowded.fits 5 = false ∧ crowded.steward.reservation = none ∧ crowded.bypassRing = some 3 ∧
    (crowded.ring 3).head = some (hankAt 1 .waiting) ∧ crowded.headFits 3 = true ∧ (crowded.ring 3).advance < crowded.weight 3 := by decide +kernel
/-- 09 R260: the head of ring 3 is picked past ring 0, whose reservation stands and whose advance counts against ring 3. -/
theorem test_bypass : let t := after .hankPick crowded
    t.dispatcher.picked = some (3, 1) ∧ (t.ring 3).advance = 1 ∧ t.steward.reservation = some (0, 5) ∧ t.dispatcher.pointer = 0 := by decide +kernel
/-- Two hanks wait in ring 0, the second of ceiling 5, which does not fit once the first is picked. -/
def nextTooBig : State :=
  let s := (ringWith [hankAt 1 .waiting, { hankAt 2 .waiting with ceiling := 5 }]).modRing 0 fun x => { x with allowance := 2 }
  { s with steward := crowded.steward }
/-- 11 R300: after the pick the reservation is for the new head's ceiling; with nothing left of the allowance there is none. -/
theorem test_reservation : (after .hankPick nextTooBig).steward.reservation = some (0, 5) ∧
    (after .hankPick (nextTooBig.modRing 0 fun x => { x with allowance := 1 })).steward.reservation = none ∧ (after .hankPick atPointer).steward.reservation = none := by decide +kernel
/-- A ledger area of ring 0 from 64 KiB on. -/
def ledgered : State := { (ringWith [doneHank]) with dict := ready.dict.store 0x7010 0 65536 }
theorem wit_FinishedHanksCompleteInOrder_ledger : ledgered.entry 0x7010 0 = 65536 ∧ (ledgered.ring 0).hanks = [doneHank] ∧
    hostKey (ledgered.owner 0) ((ledgered.ring 0).cqBase.toNat + 64) ≤ hostKey 0 65536 := by decide +kernel

-- Words: further forms and clauses.

/-- Spindles 3 and 4 carry the two parts of a split of slot 2; the MAC.ACC of Spindle 4 waits for its permits behind which the drain of Spindle 3 stands. -/
def splitRun (ran : Bool) : Run :=
  let r := hankWith 0 [] [wordOf 0x100 [(96, 4), (108, 2)], wordOf 0x110 [(96, 3), (108, 2), (92, 3), (71, 5)]]
  { r with splits := [{ base := 3, slot := 2, parts := 2, logs := [] }], next := 2, issued := [{ granted 0 with granted := ran, ran := ran }, granted 1] }
theorem wit_WordsRequestAndReturnPermits_split : ∃ r, (running (splitRun false)).run 0 = some r ∧ r.keyPending = false ∧ r.nextWord = none ∧
    (r.wordAt 0).map (fun c => (c.1, spindlesOf c.1 c.2, wAcc c.2)) = some (.macAcc, [4], 2) ∧
    (r.wordAt 1).map (fun c => (c.1, spindlesOf c.1 c.2, wAcc c.2)) = some (.drainPlain, [3], 2) ∧ r.granted .drainPlain = none := ⟨_, rfl, by decide +kernel⟩
/-- 06 R159: the drain of a split waits for the MAC.* of its other part, and runs after it. -/
theorem test_splitDrain : outcome0 (after (.drainPlain 0) (running (splitRun false))) = some (false, none) ∧
    ((splitRun true).granted .drainPlain).isSome = true := by decide +kernel
/-- The range that LEDGER.MARK names has an uncorrectable word. -/
def markingBad : State := { marking with mem := { marking.mem with poison := [(0, 512)] } }
theorem wit_ControlWordsDoTheirWork_unreadable : ∃ s0 r k w, markingBad.atUnits 0 .ledgerMark = some (s0, r, k, w) ∧ r.buf (lmBuf w) = some (bufAt 0 4096 128) ∧
    (bufAt 0 4096 128).space ≠ 2 ∧ (markingBad.mem.check 0 (4096 + lmOff w) (lmLen w)).2 ≠ none := at_some _ (by decide +kernel)
theorem test_markUnreadable : outcome0 (after (.ledgerMark 0) markingBad) = some (true, some (0x50, 0)) ∧ ((after (.ledgerMark 0) markingBad).run 0).map (fun r => r.marks.length) = some 0 := by
  decide +kernel
/-- STORE of 64 bytes at address 0 of every Bobbin, to one range of a host buffer or to ranges one length apart. -/
def storingAll (step : Nat) : State := (one 0 [bufAt 2 0 8192] (wordOf 0x021 [(95, 1), (31, 1), (15, 1), (14, step)])).put 4 (31 * 2 ^ 19) [7]
theorem wit_MoversMoveBytes_storeAll (step : Fin 2) : ∃ s0 r k w, (storingAll step).atUnits 0 .store = some (s0, r, k, w) ∧ r.buf (ldBuf w) = some (bufAt 2 0 8192) ∧ r.noHost = false ∧
    wAll w = true ∧ ldStep w = decide (step = 1) ∧ (moverUnits w).getLast? = some 31 ∧ (∀ u ∈ moverUnits w, (storingAll step).lsReadable (ldBobbin w) u (ldLs w) (ldLen w)) ∧
    ∀ u ∈ moverUnits w, 0 + moverOffset w u + ldLen w ≤ 2 ^ 64 := by
  fin_cases step <;> exact at_some _ (by decide +kernel)
/-- 07 R192: with STEP Bobbin 31's bytes stand 31 lengths on. -/
theorem test_storeAll : (after (.store 0) (storingAll 1)).bytes 2 (31 * 64) 2 = [7, 0] := by decide +kernel
/-- COPY within buffer 0, of 64 bytes apart from the source, or of 4,160 bytes that meet it. -/
def copyingWithin (n : Nat) : State := (one 0 [bufAt 0 0 65536] (wordOf 0x022 [(89, 0), (61, 0), (55, 0), (27, 1), (0, n)])).put 0 0 [5]
theorem wit_MoversMoveBytes_copyWithin (n : Fin 2) : ∃ s0 r k w, (copyingWithin (if n = 0 then 1 else 65)).atUnits 0 .copy = some (s0, r, k, w) ∧ cpSrc w = cpDst w ∧
    r.buf (cpSrc w) = some (bufAt 0 0 65536) ∧ meets (cpSoff w) (cpLen w) (cpDoff w) (cpLen w) = decide (n = 1) ∧ cpSoff w ≠ cpDoff w ∧
    (copyingWithin (if n = 0 then 1 else 65)).readable r (bufAt 0 0 65536) (cpSoff w) (cpLen w) := by
  fin_cases n <;> exact at_some _ (by decide +kernel)
theorem test_copyWithin : (after (.copy 0) (copyingWithin 1)).bytes 0 4096 2 = [5, 0] := by decide +kernel
/-- GATHER of two rows of 64 bytes from LPDDR5X to host memory. -/
def gatheringOut : State :=
  ((one 0 [bufAt 1 4096 640, bufAt 0 8192 64, bufAt 2 0 4096] (wordOf 0x023 [(89, 0), (83, 1), (77, 2), (61, 1), (37, 2)])).put 0 8192 (le 4 3 ++ le 4 0)).put 1 (4096 + 192) [8]
theorem wit_MoversMoveBytes_gatherOut : ∃ s0 r k w, gatheringOut.atUnits 0 .gather = some (s0, r, k, w) ∧ r.buf (gaSrc w) = some (bufAt 1 4096 640) ∧
    r.buf (gaIdx w) = some (bufAt 0 8192 64) ∧ r.buf (gaDst w) = some (bufAt 2 0 4096) ∧ r.noHost = false ∧ gaRow w = 64 ∧
    ∀ j < gaCount w, gatheringOut.readable r (bufAt 0 8192 64) (4 * j) 4 := at_some _ (by decide +kernel)
theorem test_gatherOut : (after (.gather 0) gatheringOut).bytes 2 0 2 = [8, 0] ∧ outcome0 (after (.gather 0) gatheringOut) = some (true, none) := by decide +kernel

/-- BF16 MAC.ACC with K 8 on slot 2 of Spindle 3: A at 0, B at 4096, row 0 of A (2, 0 …), column 0 of B (3, 0 …). -/
def floatMac (mode : Nat) (ewin : Int) : State :=
  let w := wordOf 0x100 [(96, 3), (108, if mode = 1 then 0 else 2), (106, 2), (81, 0), (67, 64), (56, 1), (52, 9), (48, 9)]
  (((one mode [] w).modSpindle 3 fun x => { x with open_ := vset x.open_ (if mode = 1 then 0 else 2) (some false), ewin := ewin }).put 3 (3 * 2 ^ 20) [0x00, 0x40]).put 3 (3 * 2 ^ 20 + 4096) [0x40, 0x40]
theorem wit_MacAddsProductsAndSwapsThePair_float : ∃ s0 r k w, (floatMac 0 0).atUnits 0 .macAcc = some (s0, r, k, w) ∧ wAll w = false ∧ r.header.mode = 0 ∧ wUnit w = 3 ∧
    r.split 3 (wAcc w) = none ∧ ((floatMac 0 0).spindle 3).isInt (wAcc w) = false ∧ ((floatMac 0 0).spindle 3).fillLane (wAcc w) = 2 ∧ (floatMac 0 0).laneBusy 3 2 = false ∧
    macCbk w = 0 ∧ (floatMac 0 0).lsReadable false 3 (64 * macA w) 512 ∧ (floatMac 0 0).lsReadable false 3 (64 * macB w) 512 := at_some _ (by decide +kernel)
/-- A BF16 tile of zeros with K 8. -/
def zeroTile : Tile := { fmt := 9, cbk := 0, cb := #[], w := 4, k := 8, bytes := (List.replicate 512 0).toArray }
theorem zeroTile_at (i k : Nat) : zeroTile.at_ i k = bf16.val 0 := by
  have h : ∀ o n, arrNum zeroTile.bytes o n = 0 := by
    intro o n
    induction n generalizing o with
    | zero => rfl
    | succ n ih => simp only [arrNum, ih]; simp only [zeroTile, Array.getD_eq_getD_getElem?, List.getElem?_toArray, List.getElem?_replicate]; split <;> rfl
  unfold Tile.at_
  rw [if_neg (by rw [show zeroTile.scaleByte i k = 127 from rfl]; decide), h]
  simp only [Nat.zero_div, Nat.zero_mod]; rfl
theorem zeroTile_span : zeroTile.span = none := by
  have h : ∀ (l : List Nat) (f : Option (Int × Int) → Nat → Option (Int × Int)), (∀ i, f none i = none) → l.foldl f none = none := by
    intro l f hf
    induction l with
    | nil => rfl
    | cons x l ih => rw [List.foldl_cons, hf, ih]
  unfold Tile.span
  refine h _ _ fun i => h _ _ fun k => ?_
  rw [zeroTile_at, show bf16.val 0 = .fin false 0 (-133) from by decide +kernel]
  rfl
/-- Zeros on a skein with this product count. -/
def zeroMac (pcount : Nat) : State := (one 1 [] (wordOf 0x100 [(96, 3), (106, 2), (67, 64), (56, 1), (52, 9), (48, 9)])).modSpindle 3 fun x =>
  { x with open_ := vset x.open_ 0 (some false), pcount := pcount }
theorem zero_tiles (n : Fin 2) : ∃ s0 r k w, (zeroMac (n.val * 2 ^ 40)).atUnits 0 .macAcc = some (s0, r, k, w) ∧ (r.header.mode = 1 ∧ r.split 3 (wAcc w) = none ∧
    (zeroMac (n.val * 2 ^ 40)).laneBusy 3 (((zeroMac (n.val * 2 ^ 40)).spindle 3).fillLane (wAcc w)) = false ∧
    ((zeroMac (n.val * 2 ^ 40)).readLs 3 (lsKey false 3 (64 * macA w)) 512).bytes = List.replicate 512 0 ∧
    ((zeroMac (n.val * 2 ^ 40)).readLs 3 (lsKey false 3 (64 * macB w)) 512).bytes = List.replicate 512 0) := by
  fin_cases n <;> exact at_some (fun _ r _ w => _ ∧ _ ∧ _ ∧ _ ∧ _) (by decide +kernel)
/-- Products that the skein takes, and products beyond the 2^40 of 05 R128. -/
theorem wit_MacAddsProductsAndSwapsThePair_skein (n : Fin 2) : ∃ s0 r k w, (zeroMac (n.val * 2 ^ 40)).atUnits 0 .macAcc = some (s0, r, k, w) ∧ r.header.mode = 1 ∧
    r.split 3 (wAcc w) = none ∧ (zeroMac (n.val * 2 ^ 40)).laneBusy 3 (((zeroMac (n.val * 2 ^ 40)).spindle 3).fillLane (wAcc w)) = false ∧
    windowOk 0 (n.val * 2 ^ 40) ((zeroMac (n.val * 2 ^ 40)).tile 3 (macA w) 9 8 4 0 []).2 ((zeroMac (n.val * 2 ^ 40)).tile 3 (macB w) 9 8 4 0 []).2 = decide (n = 0) := by
  obtain ⟨s0, r, k, w, h, hm, hs, hl, ha, hb⟩ := zero_tiles n
  have e : ∀ (s : State) (a : Nat) (z : Bytes), (s.readLs 3 (lsKey false 3 (64 * a)) 512).bytes = z →
      (s.tile 3 a 9 8 4 0 []).2 = { fmt := 9, cbk := 0, cb := #[], w := 4, k := 8, bytes := z.toArray } := by
    intro s a z h
    subst h
    rfl
  refine ⟨s0, r, k, w, h, hm, hs, hl, ?_⟩
  rw [e _ _ _ ha, e _ _ _ hb, ← zeroTile]
  unfold windowOk
  rw [zeroTile_span]
  fin_cases n <;> decide
/-- INT4 against a codebook of INT4 entries at 8192: B is coded, its codebook readable. -/
def codedMac : State :=
  let w := wordOf 0x100 [(96, 3), (108, 2), (106, 0), (81, 0), (67, 64), (56, 3), (52, 0), (48, 1), (46, 1), (32, 128)]
  (one 0 [] w).modSpindle 3 fun x => { x with open_ := vset x.open_ 2 (some false) }
theorem wit_MacAddsProductsAndSwapsThePair_coded : ∃ s0 r k w, codedMac.atUnits 0 .macAcc = some (s0, r, k, w) ∧ macFb w = 1 ∧ macCbk w ≠ 0 ∧ codedMac.lsReadable false 3 (64 * macCb w) 16 ∧
    r.split 3 (wAcc w) = none := at_some _ (by decide +kernel)
/-- 05 R114, R127: 2 × 3 = 6 in FP32, and in a skein under EWIN 0 six times 2^64. -/
theorem test_floatMac : ((after (.macAcc 0) (floatMac 0 0)).spindle 3).lane 2 0 = 0x40C00000 := by decide +kernel
theorem test_skeinTerm : skeinTerm 0 ((bf16.val 0x4000).mul (bf16.val 0x4040)) = 6 * 2 ^ 64 := by decide +kernel
/-- A drain of slot 2 of Spindle 3 to LPDDR5X buffer 0 from its second 4 KiB on. -/
def drainingOut : State := (one 0 [bufAt 1 8192 65536] (wordOf 0x110 [(96, 3), (108, 2), (92, 3), (85, 1), (65, 1)])).modSpindle 3 fun x =>
  { x.setLane 2 (fun c => if c = 0 then 9 else 0) with open_ := vset x.open_ 2 (some true) }
theorem wit_DrainWritesTheTile_buffer : ∃ s0 r k w, drainingOut.atUnits 0 .drainPlain = some (s0, r, k, w) ∧ wAll w = false ∧ drSel w = true ∧
    r.buf (drBuf w) = some (bufAt 1 8192 65536) ∧ drOff w = 1 ∧ drainingOut.pathBusy 3 = false := at_some _ (by decide +kernel)
/-- A raw drain of the skein of Spindle 3. -/
def drainingRaw : State := (one 1 [] (wordOf 0x110 [(96, 3), (92, 4), (71, 5)])).modSpindle 3 fun x => { x with open_ := vset x.open_ 0 (some false), pcount := 4 }
theorem wit_DrainWritesTheTile_raw : ∃ s0 r k w, drainingRaw.atUnits 0 .drainPlain = some (s0, r, k, w) ∧ drOut w = 4 ∧ r.header.mode = 1 ∧ drSel w = false ∧
    drainingRaw.pathBusy 3 = false := at_some _ (by decide +kernel)
/-- A drain of a split of two INT parts, both idle. -/
def drainingSplit : State :=
  let s := (running { begun (hankWith 0 [] [wordOf 0x110 [(96, 3), (108, 2), (92, 3), (71, 5)]]) with splits := [{ base := 3, slot := 2, parts := 2, logs := [] }] })
  let put := fun (s : State) u v => s.modSpindle u fun x => { x.setLane 2 (fun c => if c = 0 then v else 0) with open_ := vset x.open_ 2 (some true) }
  put (put s 3 9) 4 4
theorem wit_DrainWritesTheTile_split : ∃ s0 r k w, drainingSplit.atUnits 0 .drainPlain = some (s0, r, k, w) ∧ r.split 3 (wAcc w) = some { base := 3, slot := 2, parts := 2, logs := [] } ∧
    drainingSplit.pathBusy 3 = false ∧ drainingSplit.pathBusy 4 = false := at_some _ (by decide +kernel)
/-- 06 R160: the parts 9 and 4 of an INT split add up. -/
theorem test_drainSplit : (drainingSplit.run 0).map (fun r => drainingSplit.cellY r 3 2 0) = some (intValue 13) := by decide +kernel
/-- A last folding drain that leaves its tile out. -/
def drainingLast : State :=
  (one 0 [] (wordOf 0x111 [(96, 3), (108, 2), (92, 3), (71, 5), (57, 1), (56, 1), (55, 1), (54, 1), (48, 31)])).modSpindle 3 fun x =>
    { x.setLane 2 (fun c => if c = 1 then 9 else 0) with open_ := vset x.open_ 2 (some true) }
theorem wit_DrainWritesTheTile_last : ∃ s0 r k w, drainingLast.atUnits 0 .drainMax = some (s0, r, k, w) ∧ drLast w = true ∧ drNoWrite w = true ∧ drSel w = false ∧
    drainingLast.pathBusy 3 = false := at_some _ (by decide +kernel)

-- The engine, power, the dictionary, signing, the recorder and images: further forms and clauses.

/-- Input that is not finite, into the same problem. -/
def couplingBad : State :=
  (one 0 [bufAt 0 0 1048576, bufAt 0 2097152 64, bufAt 0 3145728 256] (wordOf 0x300 [(87, 2), (84, 0), (78, 0), (76, 1), (69, 0x3F), (63, 0x3F), (57, 1), (36, 2)])).put 0
    3145732 (le 4 0x7F800000)
theorem wit_CoupleLoadWritesReportAndCodes (ok : Bool) : let s := if ok then coupling else couplingBad
    ∃ s0 r k w, s.atUnits 0 .coupleLoad = some (s0, r, k, w) ∧ r.noHost = false ∧ clBias w = 0x3F ∧ clForm w = 1 ∧ clN w = 2 ∧ r.buf (clReport w) = some (bufAt 0 2097152 64) ∧
      r.buf (clDst w) = some (bufAt 0 0 1048576) ∧ 0 + padOf 2 * columnBytes 1 (padOf 2) ≤ 2097152 ∧ (s.readIdx r k (clSrc w) 0 (4 * clSize (clType w))).fail = none ∧
      (let x : Source := { n := 2, form := 1, qubo := false, type := clType w, coupling := (s.readIdx r k (clSrc w) 0 (4 * clSize (clType w))).bytes.toArray, bias := #[],
                           hasBias := false, book := #[] }
       decide (x.finite = true ∧ 0 ≤ x.headroom) = ok) := by cases ok <;> exact at_some _ (by decide +kernel)
/-- 02 R30: QMAX / SCALE of a matrix whose largest magnitude is 3 is 127, the code of 3; the other triangle's entry, 2, does not count. -/
theorem test_codes : let x : Source := { n := 2, form := 1, qubo := false, type := 2, coupling := #[0, 3, 2, 0], bias := #[], hasBias := false, book := #[] }
    x.store 1 0 = x.store 0 1 ∧ x.store 5 0 = 0 := by decide +kernel
/-- A problem of 65,536 variables, whose INT8 store is spilled, with a token of variable 1 in a column buffer whose word 0 may be bad. -/
def spilledState (bad : Bool) : State :=
  let r := annealing 0 (annealWord 0x303)
  let s := (running { r with problems := vset r.problems 0 (some { smallProblem with n := 65536, rowWeight := [] }) }).setAnneal
    { AnnealRun.blank 0 0 r 0 with last := 1, sweeps := 1, tfx := [65536], bfx := [65536], tokens := ⟨[oneToken true], []⟩ }
  { s with mem := { s.mem with poison := if bad then [(0, columnBuffer 0 / 8)] else [] } }
theorem wit_TokensAddToEveryField_spilled (bad : Bool) : ∃ a r q, (spilledState bad).engine = some (a, r, q) ∧ a.nextToken 0 .west = some (oneToken true) ∧
    (oneToken true).buffered = true ∧ q.spilled = true ∧ q.plies * q.m ≤ 8192 ∧ (oneToken true).ply < q.plies ∧ (spilledState bad).board.phase = .ready ∧
    ((spilledState bad).mem.check 0 (columnBuffer (oneToken true).buffer + 0 * columnBytes q.form q.m) (columnBytes q.form q.m)).2.isSome = bad := by
  cases bad <;> exact engine_some _ (by decide +kernel)
theorem test_spilledFatal : (after (.flipTokenApply 0 .west) (spilledState true)).board.phase = .haltedFatal := by decide +kernel

/-- Ratios and budget ceilings of both halves, a device draw and West's own, within the default budget or above it. -/
def ratios (ratio budget : Halves Nat) (p pw : Nat) : State :=
  { ready with steward := { ready.steward with ratio := ratio, budget := budget, p := p, ph := ⟨pw, 100⟩ } }
/-- Both halves are held by the budget at ratio 2, and West's rise fits; East's at the slower ratio does not; above the budget the half of the larger draw slows; West rises from 2 to 1. -/
theorem wit_SamplesSetTheRatios_budget : let held := fun (s : State) h => decide (s.allowedRatio h < s.steward.budget.get h ∧ s.steward.budget.get h = s.steward.ratio.get h)
    let s := ratios ⟨2, 2⟩ ⟨2, 2⟩ 300 100
    let t := ratios ⟨2, 3⟩ ⟨2, 3⟩ 900 100
    let u := ratios ⟨1, 0⟩ ⟨0, 0⟩ 960 400
    held s .west = true ∧ held s .east = true ∧ s.steward.p ≤ s.budget ∧ held t .east = true ∧ t.steward.p ≤ t.budget ∧ u.budget < u.steward.p ∧
    u.steward.ph.e < u.steward.ph.w ∧ u.steward.rising.get .west = none ∧ u.board.phase = .ready := by decide +kernel
/-- 11 R303: of two halves at ratio 2 West's ceiling rises, one step, since 300 + 100 × (ϕ(1) / ϕ(2) − 1) is within 0.95 of the budget; at 900 W drawn East's does not; above the budget
the half that draws most slows. -/
theorem test_budget : (after .ratioEvaluation (ratios ⟨2, 2⟩ ⟨2, 2⟩ 300 100)).steward.budget = ⟨1, 2⟩ ∧
    (after .ratioEvaluation (ratios ⟨2, 3⟩ ⟨2, 3⟩ 900 100)).steward.budget = ⟨2, 3⟩ ∧
    (after .ratioEvaluation (ratios ⟨1, 0⟩ ⟨0, 0⟩ 960 400)).steward.budget.w = 2 := by decide +kernel
/-- A request behind 10 W granted, under a reservation of a pick at ceiling 1, of which the headroom is left or not. -/
def reserved (draw g : Nat) : State :=
  { permitWaiting with steward := { permitWaiting.steward with queue := [{ distaff := 0, word := 0, draw := draw }], reservation := some (3, 1),
                                                                granted := if g = 0 then [] else [{ distaff := 1, word := 0, draw := g }] } }
theorem wit_PermitGrantServesTheOldest_reserved : (reserved 100 100).steward.g ≠ 0 ∧ (100 : Int) ≤ (reserved 100 100).headroom ∧
    (reserved 100 100).fitDraw 1 + 100 ≤ (reserved 100 100).headroom ∧ ¬(reserved 8500 100).fitDraw 1 + 8500 ≤ (reserved 8500 100).headroom ∧ (8500 : Int) ≤ (reserved 8500 100).headroom ∧
    (reserved 100 0).steward.g = 0 ∧ (reserved 100 0).steward.reservation = some (3, 1) ∧ (reserved 100 0).dispatcher.picked = none := by decide +kernel
theorem wit_PermitTimeoutNamesItsRecord : permitWaiting.board.phase = .ready ∧ permitWaiting.steward.queue = [{ distaff := 0, word := 0, draw := 500 }] ∧
    (∃ r, permitWaiting.run 0 = some r ∧ ({ granted 0 with granted := false } : Issued) ∈ r.issued) ∧ ({ granted 0 with granted := false } : Issued).index = 0 :=
  ⟨rfl, rfl, ⟨_, rfl, by decide +kernel⟩, rfl⟩

/-- Path 0 with this many requests of slot 3 that wait. -/
def crowdedPath (n : Nat) : State := { ready with dict := { ready.dict with bar0 := List.replicate n 3 } }
theorem wit_PathCommandsFollowTheQueue : pathCommand (.powerBudgetWrite .bar0 false 500) = some .bar0 ∧ (crowdedPath 8).pathOpen .bar0 = true ∧ (crowdedPath 8).pathFull .bar0 = true ∧
    (crowdedPath 7).pathFull .bar0 = false ∧ State.reset.pathOpen .bar0 = false := by decide +kernel
/-- 10 R284: at eight waiting requests a write is answered BUSY and not made. -/
theorem test_busy : (after (.powerBudgetWrite .bar0 false 500) (crowdedPath 8)).out.reply = 8 ∧ (after (.powerBudgetWrite .bar0 false 500) (crowdedPath 8)).entry 0x6000 1 = ready.entry 0x6000 1 := by
  decide +kernel
/-- One seal of ring 7 waits, a host's or an automatic one, and the device has no usable identity. -/
def unsealed (kind : Nat) : State := { ready with ident := { ready.ident with state := 2, queue := [{ kind := kind, ring := 7, body := [] }] } }
theorem wit_SigningServesInOrder_noIdentity (kind : Nat) : (unsealed kind).ident.state ≠ 1 ∧ (unsealed kind).ident.queue = [{ kind := kind, ring := 7, body := [] }] :=
  ⟨(by decide : (2 : Nat) ≠ 1), rfl⟩
theorem test_sealFailed : (after .signatureComplete (unsealed 2)).ident.sealFailures = 1 ∧ (after .signatureComplete (unsealed 1)).ident.sealFailures = 0 ∧
    ((after .signatureComplete (unsealed 2)).recorder.inbox.map fun n => n.type) = [0x0A01] := by decide +kernel

/-- A class E buffer of 16 KiB full of two records of this severity, and a record of another on its way. -/
def fullBuffer (old new : Nat) : State :=
  let s := recorded new
  let x : Record := { note := devNotice 0x0501 old 0 (zeros 8152), mirrored := false, rseq := 1, stamp := 0, boot := 0 }
  { s with start := { s.start with repaired := false }, recorder := { s.recorder with stored := [x, { x with rseq := 2 }], arrived := 2 } }
theorem wit_RecorderTakesRecordsAndSnapshots_full (new : Nat) (h : new < 4) : (fullBuffer info new).board.phase = .ready ∧ (fullBuffer info new).recorder.inbox.length = 1 ∧
    (fullBuffer info new).recorder.eFrozen = false ∧ (fullBuffer info new).eventRoom - recordsSize (fullBuffer info new).recorder.stored < 56 ∧
    (devNotice 0x0B04 new 258 (zeros 16)).size = 56 ∧ (devNotice 0x0B04 new 258 (zeros 16)).severity = new := by
  obtain rfl | rfl | rfl | rfl : new = 0 ∨ new = 1 ∨ new = 2 ∨ new = 3 := by omega
  all_goals decide +kernel
/-- 14 R369: a full buffer of INFO records gives up its oldest for a record of severity ERROR; a buffer of FATAL records drops the ERROR record and counts it. -/
theorem test_displace : ((after .eventRecordArrive (fullBuffer info error)).recorder.stored.map fun x => x.rseq) = [2, 3] ∧
    ((after .eventRecordArrive (fullBuffer fatal error)).recorder.stored.map fun x => x.rseq) = [1, 2] ∧
    vget (after .eventRecordArrive (fullBuffer fatal error)).recorder.drops 0 error = 1 := by decide +kernel
/-- Trigger set 2 is armed on records of type 0x0B04, and may have a capture running. -/
def watching (busy : Bool) : State :=
  let s := recorded error
  let t : Bytes := [1, 2, 0, 0] ++ le 2 0x0B04 ++ zeros 58 ++ le 4 0x600001 ++ zeros 252
  { s with dict := { (s.dict.store 0x8000 1 1) with triggers := vset s.dict.triggers 2 t },
           recorder := { s.recorder with captures := if busy then vset s.recorder.captures 2 (some { set_ := t, values := [], domain := 0, cause := 1, hank := none, rseq := 0 }) else s.recorder.captures } }
theorem wit_RecorderTakesRecordsAndSnapshots_event (busy : Bool) : (watching busy).recorder.inbox = [devNotice 0x0B04 error 258 (zeros 16)] ∧ (watching busy).debug = true ∧
    (let t := vget (watching busy).dict.triggers [] 2
     bit (num t 0 1) 0 = true ∧ num t 1 1 = 2 ∧ num t 4 2 = 0x0B04 ∧ num t 6 1 ≤ error) ∧ (vget (watching busy).recorder.captures none 2).isSome = busy := by
  cases busy <;> decide +kernel
theorem test_eventMatch : ((vget (after .eventRecordArrive (watching false)).recorder.captures none 2).map fun c => (c.cause, c.rseq)) = some (2, 1) ∧
    (after .eventRecordArrive (watching true)).recorder.tMissed = 1 := by decide +kernel
/-- The staged slot's erase ends while the flush that BEGIN started is under way, or after it. -/
theorem wit_StagingWritesAndVerifiesTheSlot_erase : (staging 1).image.stage = 1 ∧ (staging 1).dict.flushing = false ∧
    ({ staging 1 with dict := { (staging 1).dict with flushing := true } } : State).dict.flushing = true := by decide +kernel
/-- 14 R371, R372: a freeze that its limit ends stood for FREEZE_LIMIT. -/
theorem test_frozenMs : ((after (.freezeLimitExpiry true) (after (.freeze .i3c true) ready)).recorder.inbox.map fun n => num n.payload 4 4) = [ready.entry 0x7800 4] := by decide +kernel
end Sys2Proof.Tests
end

section
/-!
SUPPORT. What steps taken for one hank leave to the hanks on the other Distaffs: the count of a rejected hank, the reads of VERIFY, the header's key.
-/
namespace Sys2Proof.Machine

-- The count of a rejected hank.

/-- Counting a rejected hank writes to the Distaffs (its mark) and the dictionary (the count) alone. -/
theorem State.countRejected_eq (s : State) (ring seq : Nat) : s.countRejected ring seq =
    { s with distaffs := (s.countRejected ring seq).distaffs, dict := (s.countRejected ring seq).dict } := by
  unfold State.countRejected
  dsimp only
  split <;> rfl

/-- The counted hank alone is marked, with one flag. -/
theorem State.run_countRejected (s : State) (ring seq e : Nat) : (s.countRejected ring seq).run e = s.run e ∨
    (s.countRejected ring seq).run e = (s.run e).map fun r => if r.ring = ring && r.seq = seq then { r with rejected := true } else r := by
  unfold State.countRejected
  dsimp only
  split
  · exact .inl rfl
  · refine .inr ?_
    by_cases h : e < 8
    · simp [State.run, vget, h]
    · rw [State.run, State.run, vget_of_le _ _ _ (by omega), vget_of_le _ _ _ (by omega)]
      rfl

theorem State.run_countRejected_of_ne (s : State) (ring seq e : Nat) (h : ∀ q, s.run e = some q → (q.ring, q.seq) ≠ (ring, seq)) :
    (s.countRejected ring seq).run e = s.run e := by
  rcases s.run_countRejected ring seq e with hr | hr
  · exact hr
  · cases hq : s.run e with
    | none => rw [hr, hq]; rfl
    | some q =>
      have hn : ¬(q.ring = ring ∧ q.seq = seq) := fun ⟨a, b⟩ => h q hq (by rw [a, b])
      simp [hr, hq, hn]

theorem State.run_countRejected_some (s : State) (ring seq e : Nat) (r : Run) (h : s.run e = some r) :
    ∃ m, (s.countRejected ring seq).run e = some { r with rejected := m } := by
  rcases s.run_countRejected ring seq e with hr | hr
  · exact ⟨r.rejected, hr.trans h⟩
  · rw [hr, h, Option.map_some]
    split
    · exact ⟨true, rfl⟩
    · exact ⟨r.rejected, rfl⟩

-- What a step taken for one hank leaves to the others.

/-- Nothing is picked or unpicked, and every hank on a Distaff but the one named stays as it is. -/
def State.sparesOthers (s t : State) (ring seq : Nat) : Prop :=
  t.dispatcher = s.dispatcher ∧ ∀ e, (∀ q, s.run e = some q → (q.ring, q.seq) ≠ (ring, seq)) → t.run e = s.run e

theorem State.sparesOthers.of_eq {s t : State} {ring seq : Nat} (hp : t.dispatcher = s.dispatcher) (hd : t.distaffs = s.distaffs) :
    s.sparesOthers t ring seq := ⟨hp, fun e _ => by rw [State.run, State.run, hd]⟩

theorem State.sparesOthers.trans {s t u : State} {ring seq : Nat} (h : s.sparesOthers t ring seq) (k : t.sparesOthers u ring seq) :
    s.sparesOthers u ring seq := by
  obtain ⟨hp, hr⟩ := h
  obtain ⟨kp, kr⟩ := k
  refine ⟨kp.trans hp, fun e he => ?_⟩
  have ht := hr e he
  rw [kr e (by rwa [ht]), ht]

theorem State.countRejected_sparesOthers (s : State) (ring seq : Nat) : s.sparesOthers (s.countRejected ring seq) ring seq :=
  ⟨by rw [s.countRejected_eq], fun e he => s.run_countRejected_of_ne ring seq e he⟩

theorem State.failWord_sparesOthers (s : State) (ring seq k status cause : Nat) : s.sparesOthers (s.failWord ring seq k status cause).1 ring seq :=
  .trans (.of_eq rfl rfl) (State.countRejected_sparesOthers (s.emit _) ring seq)

theorem State.readMem_sparesOthers (s : State) (r : Run) (k sp a n ring seq : Nat) : s.sparesOthers (s.readMem r k sp a n).st ring seq := by
  unfold State.readMem
  dsimp only
  split <;> exact .of_eq rfl rfl

/-- A hank none of whose host reads has faulted reads host memory and leaves the device as it is. -/
theorem State.readHost_sparesOthers (s : State) (r : Run) (k a n ring seq : Nat) (hb : r.bad = none) :
    s.sparesOthers (s.readHost r k a n).st ring seq := by
  unfold State.readHost
  rw [hb]
  split <;> exact .of_eq rfl rfl

theorem State.readBuf_sparesOthers (s : State) (r : Run) (k : Nat) (b : Buffer) (off n ring seq : Nat) (hb : r.bad = none) :
    s.sparesOthers (s.readBuf r k b off n).st ring seq := by
  unfold State.readBuf
  split
  · exact s.readHost_sparesOthers r k _ n ring seq hb
  · exact s.readMem_sparesOthers r k _ _ n ring seq

/-- VERIFY reads and may stop its own hank (07 R182); it touches no other. -/
theorem State.verify_sparesOthers (r : Run) (hb : r.bad = none) (bufs : List Buffer) (s : State) : s.sparesOthers (s.verify r bufs).1 r.ring r.seq := by
  induction bufs generalizing s with
  | nil => exact .of_eq rfl rfl
  | cons b rest ih =>
    have hread := s.readBuf_sparesOthers r 0xFFFF b 0 b.length r.ring r.seq hb
    unfold State.verify
    split
    · dsimp only
      split
      · exact hread
      · split
        · exact hread.trans (ih _)
        · exact hread.trans (State.failWord_sparesOthers ..)
    · exact ih s

-- The record of a hank on a Distaff.

@[simp] theorem State.run_setRun_self (s : State) (d : Nat) (r : Option Run) (h : d < 8) : (s.setRun d r).run d = r := by
  simp [State.run_setRun, h]

theorem State.run_setRun_of_ne (s : State) (d e : Nat) (r : Option Run) (h : e ≠ d) : (s.setRun d r).run e = s.run e := by
  simp [State.run_setRun, Ne.symm h]

theorem State.run_modRun_of_ne (s : State) (d e : Nat) (f : Run → Run) (h : e ≠ d) : (s.modRun d f).run e = s.run e := by
  simp [State.run_modRun, Ne.symm h]

theorem State.run_modRun_self (s : State) (d : Nat) (f : Run → Run) (r : Run) (h : s.run d = some r) : (s.modRun d f).run d = some (f r) := by
  simp [State.run_modRun, h, s.lt_of_run d r h]

/-- The generator's output leaves the Distaffs and the dispatcher as they are. -/
theorem State.rotOutput_frame {s : State} {k : Bytes × State} (h : s.rotOutput = some k) : k.2.distaffs = s.distaffs ∧ k.2.dispatcher = s.dispatcher := by
  unfold State.rotOutput at h
  split at h
  · cases h
  · cases h
    exact ⟨rfl, rfl⟩

/-- The step of the header's key (04 R99, R104) writes to its own hank alone, and there only what concerns the key. -/
theorem State.drawHeaderKey_run (s : State) (d : Nat) (r : Run) (h : s.run d = some r) :
    (s.drawHeaderKey d).dispatcher = s.dispatcher ∧ (∀ e, e ≠ d → (s.drawHeaderKey d).run e = s.run e) ∧
      ∃ p ks i n, (s.drawHeaderKey d).run d = some { r with keyPending := p, keys := ks, keyIndex := i, noisePaused := n } := by
  have writes : ∀ (t : State) (f : Run → Run), t.distaffs = s.distaffs → t.dispatcher = s.dispatcher →
      (t.modRun d f).dispatcher = s.dispatcher ∧ (∀ e, e ≠ d → (t.modRun d f).run e = s.run e) ∧ (t.modRun d f).run d = some (f r) := by
    intro t f hd hp
    have hr : ∀ e, t.run e = s.run e := fun e => by rw [State.run, State.run, hd]
    exact ⟨hp, fun e he => by rw [State.run_modRun_of_ne _ _ _ _ he, hr], State.run_modRun_self _ _ _ _ ((hr d).trans h)⟩
  unfold State.drawHeaderKey
  simp only [h]
  split
  · exact ⟨rfl, fun _ _ => rfl, r.keyPending, r.keys, r.keyIndex, r.noisePaused, h⟩
  · split
    case _ k hk =>
      have hframe : k.2.distaffs = s.distaffs ∧ k.2.dispatcher = s.dispatcher := by
        split at hk
        · cases hk
          exact ⟨rfl, rfl⟩
        · exact State.rotOutput_frame hk
      obtain ⟨hp, hother, hown⟩ := writes k.2 _ hframe.1 hframe.2
      exact ⟨hp, hother, _, _, _, _, hown⟩
    case _ =>
      obtain ⟨hp, hother, hown⟩ := writes s _ rfl rfl
      exact ⟨hp, hother, _, _, _, _, hown⟩

end Sys2Proof.Machine
end

section
/-!
PROOF. HANK_START (O20): what stands on the Distaff when a hank is stopped by an abort, refused by the checks of 07 R179, or sound.
-/
namespace Sys2Proof.Machine

/-- The hank `r` stands on Distaff `d` before its first word; the pick stays, and with no other record of this hank on a Distaff the other Distaffs stay. -/
structure State.Begun (s t : State) (d ring seq : Nat) (r : Run) : Prop where
  run : t.run d = some r
  ring_eq : r.ring = ring
  seq_eq : r.seq = seq
  next : r.next = 0
  issued : r.issued = []
  acquired : r.acquired = false
  dispatcher : t.dispatcher = s.dispatcher
  others : (∀ e q, s.run e = some q → (q.ring, q.seq) ≠ (ring, seq)) → ∀ e, e ≠ d → t.run e = s.run e

/-- A hank set on a Distaff as it starts, whatever has stopped it, after a step for that hank. -/
theorem State.begun_setRun {s v : State} {d ring : Nat} {h : Hank} (c : State) (b : Bytes) (fail : Option (Nat × Failure)) (abort : Option Nat) (read : Bool)
    (hd : d < 8) (hv : s.sparesOthers v ring h.seq) :
    s.Begun (v.setRun d (some { Run.start c h ring b with failure := fail, aborted := abort, atRead := read })) d ring h.seq
      { Run.start c h ring b with failure := fail, aborted := abort, atRead := read } := by
  obtain ⟨hp, hr⟩ := hv
  exact { run := State.run_setRun_self _ _ _ hd, ring_eq := rfl, seq_eq := rfl, next := rfl, issued := rfl, acquired := rfl, dispatcher := hp
          others := fun hs e he => (State.run_setRun_of_ne _ _ _ _ he).trans (hr e (hs e)) }

theorem State.Begun.drawHeaderKey {s t : State} {d ring seq : Nat} {r : Run} (h : s.Begun t d ring seq r) :
    ∃ q, s.Begun (t.drawHeaderKey d) d ring seq q := by
  obtain ⟨hp, hother, p, ks, i, n, hown⟩ := t.drawHeaderKey_run d r h.run
  exact ⟨_, { h with run := hown, dispatcher := hp.trans h.dispatcher, others := fun hs e he => (hother e he).trans (h.others hs e he) }⟩

theorem State.beginRun_of_abort (s : State) {d ring a : Nat} {h : Hank} (b : Bytes) (hd : d < 8) (ha : h.abortWith = some a) :
    ∃ r, s.Begun (s.beginRun d ring h b) d ring h.seq r ∧ r.aborted = some a := by
  unfold State.beginRun
  simp only [ha]
  exact ⟨_, State.begun_setRun s b none (some a) true hd (.of_eq rfl rfl), rfl⟩

/-- A hank that the checks of 07 R179 refuse carries its first fault. -/
theorem State.beginRun_of_reject (s : State) {d ring : Nat} {h : Hank} {b : Bytes} {j : Reject} (hd : d < 8) (ha : h.abortWith = none)
    (hj : hankReject (s.setting ring h.seq) b = some j) :
    ∃ r f, s.Begun (s.beginRun d ring h b) d ring h.seq r ∧ r.failure = some (j.word, f) ∧ f.status = j.status ∧ f.cause = j.cause := by
  have hset : hankReject ((s.modHank ring h.seq fun h => { h with stage := .running }).setting ring h.seq) b = some j := hj
  unfold State.beginRun
  simp only [ha, hset]
  exact ⟨_, _, State.begun_setRun s b (some (j.word, _)) none true hd (.of_eq rfl rfl), rfl, rfl, rfl⟩

/-- A hank that passes the checks of 07 R179 stands on its Distaff, whatever VERIFY finds and whether or not its key is served. -/
theorem State.beginRun_of_sound (s : State) {d ring : Nat} {h : Hank} {b : Bytes} (hd : d < 8) (ha : h.abortWith = none)
    (hj : hankReject (s.setting ring h.seq) b = none) : ∃ r, s.Begun (s.beginRun d ring h b) d ring h.seq r := by
  have hset : hankReject ((s.modHank ring h.seq fun h => { h with stage := .running }).setting ring h.seq) b = none := hj
  let start := s.modHank ring h.seq fun h => { h with stage := .running }
  have hverify : s.sparesOthers (start.verify (Run.start s h ring b) (Run.start s h ring b).bufs).1 ring h.seq :=
    .trans (.of_eq rfl rfl) (State.verify_sparesOthers _ rfl _ start)
  unfold State.beginRun
  simp only [ha, hset]
  split
  case _ f hf => exact ⟨_, State.begun_setRun s b (some (0xFFFF, f)) none true hd hverify⟩
  case _ => exact (State.begun_setRun s b none none false hd hverify).drawHeaderKey

/-- What a start leaves of every hank: it stands on its Distaff with its abort or its first fault. -/
theorem State.beginRun_begun (s : State) {d ring : Nat} {h : Hank} (b : Bytes) (hd : d < 8) :
    ∃ r, s.Begun (s.beginRun d ring h b) d ring h.seq r ∧
      (h.abortWith = none → ∀ j, hankReject (s.setting ring h.seq) b = some j → ∃ f, r.failure = some (j.word, f) ∧ f.status = j.status ∧ f.cause = j.cause) ∧
      ∀ a, h.abortWith = some a → r.aborted = some a := by
  cases ha : h.abortWith with
  | some a =>
    obtain ⟨r, g, hr⟩ := s.beginRun_of_abort b hd ha
    exact ⟨r, g, nofun, fun _ => by rintro ⟨⟩; exact hr⟩
  | none =>
    cases hj : hankReject (s.setting ring h.seq) b with
    | some j =>
      obtain ⟨r, f, g, hr⟩ := s.beginRun_of_reject hd ha hj
      exact ⟨r, g, fun _ _ => by rintro ⟨⟩; exact ⟨f, hr⟩, nofun⟩
    | none =>
      obtain ⟨r, g⟩ := s.beginRun_of_sound hd ha hj
      exact ⟨r, g, fun _ _ => nofun, nofun⟩

-- The Distaff a hank starts on.

theorem State.freeDistaff_lt {s : State} {d : Nat} (h : s.freeDistaff = some d) : d < 8 := List.mem_range.1 (List.mem_of_find?_eq_some h)

/-- Every Distaff below the one chosen is out of service or taken (01 R19). -/
theorem State.freeDistaff_lowest {s : State} {d : Nat} (h : s.freeDistaff = some d) (e : Fin 8) (he : e.val < d) :
    s.distaffs[e].inService = false ∨ (s.run e).isSome = true := by
  have hd := State.freeDistaff_lt h
  have hnot := (List.find?_range_eq_some.1 h).2.2 e he
  have hget : s.distaffs[e.val]? = some s.distaffs[e] := by simp
  have hrun : s.run e = s.distaffs[e].run := by simp [State.run, vget]
  rw [hget] at hnot
  rw [hrun]
  simpa [Option.isSome_iff_ne_none] using hnot

-- The command.

/-- The state with no hank picked, as a start leaves the dispatcher. -/
def State.unpick (s : State) : State := { s with dispatcher := { s.dispatcher with picked := none } }

/-- The region of a hank that the Distaff reads: as long as its header says (07 R171). -/
def State.hankRegion (s : State) (ring : Nat) (h : Hank) : Bytes :=
  let start := hostKey (s.owner ring) h.entry.hankAddr
  s.bytes 2 start (regionLen (headerOf (s.bytes 2 start 256)))

theorem exec_hankStart {s : State} {ring d : Nat} {h : Hank} (hp : s.board.phase = .ready) (hh : s.pickedHank = some (ring, h))
    (hf : s.freeDistaff = some d) : exec .hankStart s = .next (s.unpick.beginRun d ring h (s.hankRegion ring h)) := by
  change execHankStart s = _
  unfold execHankStart
  rw [hp, hh, hf]
  rfl

/-- Settles O20: a hank is set on its Distaff in one of three ways, stopped by an abort, refused by its checks, or sound. -/
theorem hankStartsOnTheLowestFreeDistaff : Obligations.HankStartsOnTheLowestFreeDistaff := by
  intro s ring h d hp hh hf
  obtain ⟨r, g, hreject, habort⟩ := s.unpick.beginRun_begun (ring := ring) (h := h) (s.hankRegion ring h) (State.freeDistaff_lt hf)
  have hpicked : (s.unpick.beginRun d ring h (s.hankRegion ring h)).dispatcher.picked = none := by rw [g.dispatcher]; rfl
  exact ⟨_, r, exec_hankStart hp hh hf, hpicked, g.run, g.ring_eq, g.seq_eq, g.next, g.issued, g.acquired, State.freeDistaff_lowest hf, g.others, hreject,
    habort⟩

end Sys2Proof.Machine
end

section
/-!
PROOF. UNIT_ACQUIRE (O21): a waiting hank takes its whole unit set, or is refused by the shapes it has waited into.
-/
namespace Sys2Proof.Machine

-- A unit taken.

/-- What a fold's step leaves, the fold leaves. -/
theorem foldl_keeps {α β γ : Type} (p : α → γ) (f : α → β → α) (h : ∀ a b, p (f a b) = p a) (l : List β) (a : α) : p (l.foldl f a) = p a := by
  induction l generalizing a with
  | nil => rfl
  | cons b l ih => exact (ih (f a b)).trans (h a b)

/-- A range of a local store zeroed, and the clear counted in LS_CLEARS (08 R220). -/
def State.zeroStore (s : State) (sp base len : Nat) : State :=
  (s.modMem fun m => m.write sp base len fun _ => 0).modMem fun m => { m with lsClears := sat32 m.lsClears }

theorem State.countClear_space (s : State) (k : Nat) : (s.modMem fun m => { m with lsClears := sat32 m.lsClears }).mem.space k = s.mem.space k := by
  rw [State.modMem_mem]
  unfold Memory.space
  split <;> rfl

theorem State.space_zeroStore (s : State) (sp base len k : Nat) (hs : sp ≤ 5) (hk : k ≤ 5) (h : k ≠ sp) :
    (s.zeroStore sp base len).mem.space k = s.mem.space k := by
  rw [State.zeroStore, State.countClear_space, State.modMem_mem, Memory.space_write _ _ _ _ _ _ hs hk, if_neg h]

theorem State.byteAt_zeroStore (s : State) (sp base len k a : Nat) (hs : sp ≤ 5) (hk : k ≤ 5) :
    (s.zeroStore sp base len).byteAt k a = if k = sp ∧ base ≤ a ∧ a < base + len then 0 else s.byteAt k a := by
  rw [State.byteAt, State.zeroStore, State.countClear_space, State.modMem_mem, Memory.byte_write _ _ _ _ _ _ _ hs hk, State.byteAt]

theorem State.units_zeroStore (s : State) (sp base len : Nat) : (s.zeroStore sp base len).units = s.units := rfl

theorem State.clearSpindle_eq (s : State) (u : Nat) : s.clearSpindle u =
    (s.zeroStore 3 (u * 2 ^ 20) (2 ^ 20)).modSpindle u fun x => { Spindle.reset with lastOwner := x.lastOwner, holder := x.holder } := rfl

/-- A Spindle whose store is cleared for a hank: marked by a function-level reset, or last held by another function (08 R220). -/
def State.mustClear (s : State) (r : Run) (u : Nat) : Bool := (s.spindle u).clearNext || (s.spindle u).lastOwner.any (· ≠ r.owner)

/-- The state in which a Spindle is ready for a hank: cleared where it must be. -/
def State.readied (s : State) (r : Run) (u : Nat) : State := if s.mustClear r u then s.clearSpindle u else s

theorem State.takeSpindle_eq (s : State) (r : Run) (u : Nat) : s.takeSpindle r u = (s.readied r u).modSpindle u fun x =>
    { x with open_ := Vector.replicate 8 none, pair := none, lastOwner := some r.owner, clearNext := false, holder := some (r.ring, r.seq) } := rfl

theorem State.mustClear_of_other {s : State} {r : Run} {u f : Nat} (h : (s.spindle u).lastOwner = some f) (hf : f ≠ r.owner) : s.mustClear r u = true := by
  simp [State.mustClear, h, hf]

theorem State.mustClear_congr {s t : State} {r : Run} {u : Nat} (h : t.spindle u = s.spindle u) : t.mustClear r u = s.mustClear r u := by
  rw [State.mustClear, State.mustClear, h]

/-- Taking a Spindle clears its own store where it must, and writes no other byte of the Spindles' stores. -/
theorem State.byteAt_takeSpindle (s : State) (r : Run) (u a : Nat) : (s.takeSpindle r u).byteAt 3 a =
    if s.mustClear r u = true ∧ u * 2 ^ 20 ≤ a ∧ a < u * 2 ^ 20 + 2 ^ 20 then 0 else s.byteAt 3 a := by
  rw [State.takeSpindle_eq, State.byteAt, State.modSpindle_mem, State.readied]
  by_cases h : s.mustClear r u = true
  · rw [if_pos h, State.clearSpindle_eq, State.modSpindle_mem, ← State.byteAt, State.byteAt_zeroStore _ _ _ _ _ _ (by decide) (by decide)]
    simp only [h, true_and]
  · rw [if_neg h, if_neg fun c => h c.1, State.byteAt]

theorem State.space_takeSpindle (s : State) (r : Run) (u k : Nat) (hk : k ≤ 5) (h3 : k ≠ 3) : (s.takeSpindle r u).mem.space k = s.mem.space k := by
  rw [State.takeSpindle_eq, State.modSpindle_mem, State.readied]
  split
  · rw [State.clearSpindle_eq, State.modSpindle_mem, State.space_zeroStore _ _ _ _ _ (by decide) hk h3]
  · rfl

theorem State.spindle_takeSpindle_of_ne (s : State) (r : Run) (u v : Nat) (h : v ≠ u) : (s.takeSpindle r u).spindle v = s.spindle v := by
  have hnot : ¬(u = v ∧ u < 128) := fun c => h c.1.symm
  rw [State.takeSpindle_eq, State.spindle_modSpindle, if_neg hnot, State.readied]
  split
  · rw [State.clearSpindle_eq, State.spindle_modSpindle, if_neg hnot, State.spindle, State.units_zeroStore, State.spindle]
  · rfl

/-- A Spindle taken is the hank's, and its function the last that held it. -/
theorem State.spindle_takeSpindle_self (s : State) (r : Run) (u : Nat) (h : u < 128) :
    ((s.takeSpindle r u).spindle u).holder = some (r.ring, r.seq) ∧ ((s.takeSpindle r u).spindle u).lastOwner = some r.owner := by
  rw [State.takeSpindle_eq, State.spindle_modSpindle, if_pos ⟨rfl, h⟩]
  exact ⟨rfl, rfl⟩

/-- What an acquisition reads beside the units it takes: the Distaffs, and the mapping with its epoch (06 R170). -/
def State.mapping (s : State) : Vector Distaff 8 × Nat × Halves Nat := (s.distaffs, s.units.epoch, s.units.shape)

theorem State.mapping_modSpindle (s : State) (u : Nat) (f : Spindle → Spindle) : (s.modSpindle u f).mapping = s.mapping := rfl

theorem State.mapping_zeroStore (s : State) (sp base len : Nat) : (s.zeroStore sp base len).mapping = s.mapping := rfl

theorem State.mapping_takeSpindle (s : State) (r : Run) (u : Nat) : (s.takeSpindle r u).mapping = s.mapping := by
  rw [State.takeSpindle_eq, State.mapping_modSpindle, State.readied]
  split
  · rw [State.clearSpindle_eq, State.mapping_modSpindle, State.mapping_zeroStore]
  · rfl

theorem State.takeBobbin_eq (s : State) (r : Run) (b : Nat) : s.takeBobbin r b =
    (if (s.bobbin b).clearNext || (s.bobbin b).lastOwner.any (· ≠ r.owner) then s.zeroStore 4 (b * 2 ^ 19) (2 ^ 19) else s).modBobbin b fun x =>
      { x with lastOwner := some r.owner, clearNext := false, holder := some (r.ring, r.seq) } := rfl

theorem State.space_takeBobbin (s : State) (r : Run) (b k : Nat) (hk : k ≤ 5) (h4 : k ≠ 4) : (s.takeBobbin r b).mem.space k = s.mem.space k := by
  rw [State.takeBobbin_eq, State.modBobbin_mem]
  split
  · exact State.space_zeroStore _ _ _ _ _ (by decide) hk h4
  · rfl

theorem State.spindles_modBobbin (s : State) (b : Nat) (f : Bobbin → Bobbin) : (s.modBobbin b f).units.spindles = s.units.spindles := rfl

theorem State.mapping_modBobbin (s : State) (b : Nat) (f : Bobbin → Bobbin) : (s.modBobbin b f).mapping = s.mapping := rfl

/-- Taking a Bobbin concerns no Spindle and not the mapping. -/
theorem State.takeBobbin_frame (s : State) (r : Run) (b : Nat) : (s.takeBobbin r b).units.spindles = s.units.spindles ∧
    (s.takeBobbin r b).mapping = s.mapping := by
  rw [State.takeBobbin_eq, State.spindles_modBobbin, State.mapping_modBobbin]
  split
  · rw [State.units_zeroStore, State.mapping_zeroStore]
    exact ⟨rfl, rfl⟩
  · exact ⟨rfl, rfl⟩

theorem State.holder_takeBobbin (s : State) (r : Run) (b c : Nat) (h : b < 32) :
    ((s.takeBobbin r b).bobbin c).holder = if b = c then some (r.ring, r.seq) else (s.bobbin c).holder := by
  rw [State.takeBobbin_eq, State.bobbin_modBobbin]
  by_cases hc : b = c
  · rw [if_pos ⟨hc, h⟩, if_pos hc]
  · rw [if_neg fun g => hc g.1, if_neg hc]
    split
    · rw [State.bobbin, State.units_zeroStore, State.bobbin]
    · rfl

-- A set of units taken.

/-- The Spindles of a set taken one after another, as UNIT_ACQUIRE takes them (07 R183). -/
def State.takeSpindles (s : State) (r : Run) (us : List Nat) : State := us.foldl (fun s u => s.takeSpindle r u) s

/-- The Bobbins of a set taken one after another. -/
def State.takeBobbins (s : State) (r : Run) (bs : List Nat) : State := bs.foldl (fun s b => s.takeBobbin r b) s

theorem State.takeSpindles_cons (s : State) (r : Run) (u : Nat) (us : List Nat) : s.takeSpindles r (u :: us) = (s.takeSpindle r u).takeSpindles r us := rfl

theorem State.takeBobbins_cons (s : State) (r : Run) (b : Nat) (bs : List Nat) : s.takeBobbins r (b :: bs) = (s.takeBobbin r b).takeBobbins r bs := rfl

theorem State.space_takeSpindles (s : State) (r : Run) (us : List Nat) (k : Nat) (hk : k ≤ 5) (h3 : k ≠ 3) :
    (s.takeSpindles r us).mem.space k = s.mem.space k :=
  foldl_keeps (fun t : State => t.mem.space k) _ (fun t u => t.space_takeSpindle r u k hk h3) us s

theorem State.space_takeBobbins (s : State) (r : Run) (bs : List Nat) (k : Nat) (hk : k ≤ 5) (h4 : k ≠ 4) :
    (s.takeBobbins r bs).mem.space k = s.mem.space k :=
  foldl_keeps (fun t : State => t.mem.space k) _ (fun t b => t.space_takeBobbin r b k hk h4) bs s

theorem State.mapping_takeSpindles (s : State) (r : Run) (us : List Nat) : (s.takeSpindles r us).mapping = s.mapping :=
  foldl_keeps State.mapping _ (fun t u => t.mapping_takeSpindle r u) us s

theorem State.takeBobbins_frame (s : State) (r : Run) (bs : List Nat) : (s.takeBobbins r bs).units.spindles = s.units.spindles ∧
    (s.takeBobbins r bs).mapping = s.mapping :=
  ⟨foldl_keeps (fun t : State => t.units.spindles) _ (fun t b => (t.takeBobbin_frame r b).1) bs s,
   foldl_keeps State.mapping _ (fun t b => (t.takeBobbin_frame r b).2) bs s⟩

theorem State.spindle_takeSpindles_of_not_mem (s : State) (r : Run) (us : List Nat) (v : Nat) (h : v ∉ us) :
    (s.takeSpindles r us).spindle v = s.spindle v := by
  induction us generalizing s with
  | nil => rfl
  | cons u us ih =>
    obtain ⟨hne, hnot⟩ := List.ne_and_not_mem_of_not_mem_cons h
    rw [State.takeSpindles_cons, ih _ hnot, State.spindle_takeSpindle_of_ne _ _ _ _ hne]

theorem State.byteAt_takeSpindles_of_not_mem (s : State) (r : Run) (us : List Nat) (v a : Nat) (ha : a < 2 ^ 20) (h : v ∉ us) :
    (s.takeSpindles r us).byteAt 3 (v * 2 ^ 20 + a) = s.byteAt 3 (v * 2 ^ 20 + a) := by
  induction us generalizing s with
  | nil => rfl
  | cons u us ih =>
    obtain ⟨hne, hnot⟩ := List.ne_and_not_mem_of_not_mem_cons h
    rw [State.takeSpindles_cons, ih _ hnot, State.byteAt_takeSpindle, if_neg (by omega)]

theorem State.spindle_takeSpindles_of_mem (s : State) (r : Run) (us : List Nat) (v : Nat) (hv : v < 128) (h : v ∈ us) :
    ((s.takeSpindles r us).spindle v).holder = some (r.ring, r.seq) ∧ ((s.takeSpindles r us).spindle v).lastOwner = some r.owner := by
  induction us generalizing s with
  | nil => cases h
  | cons u us ih =>
    rw [State.takeSpindles_cons]
    by_cases hmem : v ∈ us
    · exact ih _ hmem
    · obtain rfl : v = u := (List.mem_cons.1 h).resolve_right hmem
      rw [State.spindle_takeSpindles_of_not_mem _ _ _ _ hmem]
      exact s.spindle_takeSpindle_self r v hv

/-- A zero byte of a Spindle's store stays zero: taking only clears. -/
theorem State.byteAt_takeSpindles_of_zero (s : State) (r : Run) (us : List Nat) (a : Nat) (h : s.byteAt 3 a = 0) : (s.takeSpindles r us).byteAt 3 a = 0 := by
  induction us generalizing s with
  | nil => exact h
  | cons u us ih => exact ih _ (by rw [State.byteAt_takeSpindle, h, ite_self])

/-- The store of a Spindle that passes to another function reads zero when the set is taken (08 R220). -/
theorem State.byteAt_takeSpindles_of_mustClear (s : State) (r : Run) (us : List Nat) (v a : Nat) (ha : a < 2 ^ 20) (h : v ∈ us) (hc : s.mustClear r v = true) :
    (s.takeSpindles r us).byteAt 3 (v * 2 ^ 20 + a) = 0 := by
  induction us generalizing s with
  | nil => cases h
  | cons u us ih =>
    rw [State.takeSpindles_cons]
    by_cases hu : v = u
    · subst hu
      exact State.byteAt_takeSpindles_of_zero _ _ _ _ (by rw [State.byteAt_takeSpindle, if_pos ⟨hc, by omega, by omega⟩])
    · exact ih _ ((List.mem_cons.1 h).resolve_left hu) ((State.mustClear_congr (s.spindle_takeSpindle_of_ne r u v hu)).trans hc)

theorem State.holder_takeBobbins (s : State) (r : Run) (bs : List Nat) (c : Nat) (hb : ∀ b ∈ bs, b < 32)
    (h : c ∈ bs ∨ (s.bobbin c).holder = some (r.ring, r.seq)) : ((s.takeBobbins r bs).bobbin c).holder = some (r.ring, r.seq) := by
  induction bs generalizing s with
  | nil => exact h.resolve_left List.not_mem_nil
  | cons b bs ih =>
    obtain ⟨hlt, hrest⟩ := List.forall_mem_cons.1 hb
    refine ih _ hrest ?_
    rw [State.holder_takeBobbin _ _ _ _ hlt]
    by_cases hc : b = c
    · exact .inr (if_pos hc)
    · rw [if_neg hc]
      exact h.imp_left fun g => (List.mem_cons.1 g).resolve_left (Ne.symm hc)

theorem Run.lt_of_mem_unitSet_spindles {r : Run} {u : Nat} (h : u ∈ r.unitSet.1) : u < 128 := List.mem_range.1 (List.mem_filter.1 h).1

theorem Run.lt_of_mem_unitSet_bobbins {r : Run} {b : Nat} (h : b ∈ r.unitSet.2) : b < 32 := List.mem_range.1 (List.mem_filter.1 h).1

theorem Run.not_acquired_of_waitsUnits {r : Run} (h : r.waitsUnits = true) : r.acquired = false := by
  simp only [Run.waitsUnits, Bool.and_eq_true, Bool.not_eq_true'] at h
  obtain ⟨⟨⟨⟨⟨hacquired, -⟩, -⟩, -⟩, -⟩, -⟩ := h
  exact hacquired

-- The checks of the shapes, made again.

/-- The check of the shapes refuses with SHAPE_DEGRADED and no cause (07 R181). -/
theorem shapesReject_status {x : Setting} {h : Header} {ws : List (BitVec 128)} {k : Nat} {t : Tracker} {j : Reject} (hj : shapesReject x h ws k t = some j) :
    j.status = 0x60 ∧ j.cause = 0 := by
  induction ws generalizing k t with
  | nil => cases hj
  | cons w rest ih =>
    unfold shapesReject at hj
    split at hj
    · cases hj
    · split at hj
      · cases hj
        exact ⟨rfl, rfl⟩
      · exact ih hj

/-- The first word that no longer fits, where the mapping has changed since the hank was dispatched (06 R153, R155; log 45). -/
def State.misfit (s : State) (r : Run) : Option Reject :=
  if r.epoch = s.units.epoch then none else shapesReject (s.setting r.ring r.seq) r.header r.words 0 (Tracker.start r.header)

theorem State.misfit_status {s : State} {r : Run} {j : Reject} (h : s.misfit r = some j) : j.status = 0x60 ∧ j.cause = 0 := by
  unfold State.misfit at h
  split at h
  · cases h
  · exact shapesReject_status h

/-- A hank refused by the shapes fails at its word with one HANK_REJECT, and nothing but Distaffs, dictionary and recorder changes (07 R181, R210). -/
theorem State.rejectShape_failure (s : State) (d : Nat) (r : Run) (j : Reject) (hr : s.run d = some r) :
    s.rejectShape d r j =
        { s with distaffs := (s.rejectShape d r j).distaffs, dict := (s.rejectShape d r j).dict, recorder := (s.rejectShape d r j).recorder } ∧
      (∃ m f, (s.rejectShape d r j).run d = some { r with rejected := m, failure := some (j.word, f) } ∧ f.status = j.status ∧ f.cause = j.cause) ∧
      ∃ n, (s.rejectShape d r j).recorder.inbox = s.recorder.inbox ++ [n] ∧ n.type = 0x0701 := by
  have hcount := fun n => (s.emit n).countRejected_eq r.ring r.seq
  refine ⟨?_, ?_, ?_⟩
  · unfold State.rejectShape
    dsimp only
    rw [hcount]
    rfl
  · obtain ⟨m, hm⟩ := (s.emit (hankNotice 0x0701 error r.ring r.seq (rejectPayload j.cause j.order j.status j.word j.bit))).run_countRejected_some
      r.ring r.seq d r hr
    exact ⟨m, _, State.run_modRun_self _ _ _ _ hm, rfl, rfl⟩
  · unfold State.rejectShape
    rw [State.modRun_recorder, State.countRejected_recorder]
    exact ⟨_, rfl, rfl⟩

-- The command.

/-- The hank acquires its set and is marked with the mapping it executes under (07 R183; 06 R153). -/
def State.acquire (s : State) (d : Nat) (r : Run) : State :=
  let t := (s.takeSpindles r r.unitSet.1).takeBobbins r r.unitSet.2
  t.modRun d fun q => { q with acquired := true, spindles := r.unitSet.1, bobbins := r.unitSet.2, epoch := t.units.epoch, shapes := t.units.shape }

/-- UNIT_ACQUIRE of a hank whose turn it is: refused where it no longer fits, else it acquires. -/
theorem exec_unitAcquire {s : State} {d : Fin 8} {r : Run} (hp : s.board.phase = .ready) (hr : s.run d = some r) (hw : r.waitsUnits = true)
    (hf : s.unitsFree r = true) (hu : ∀ u ∈ r.unitSet.1, s.halfFaulted (halfOfSpindle u) = false)
    (hb : ∀ b ∈ r.unitSet.2, s.halfFaulted (halfOfBobbin b) = false) :
    exec (.unitAcquire d) s = .next (((s.misfit r).map (s.rejectShape d r)).getD (s.acquire d r)) := by
  have hsp : (r.unitSet.1.any fun u => s.halfFaulted (halfOfSpindle u)) = false := List.any_eq_false.2 fun u h => by simp [hu u h]
  have hbb : (r.unitSet.2.any fun b => s.halfFaulted (halfOfBobbin b)) = false := List.any_eq_false.2 fun b h => by simp [hb b h]
  change execUnitAcquire d s = _
  unfold execUnitAcquire
  cases hm : s.misfit r with
  | none | some j =>
    rw [State.misfit] at hm
    simp only [hp, hr, hw, hf, hsp, hbb, hm, Bool.not_true, Bool.or_self, Bool.false_eq_true, if_false]
    rfl

theorem State.acquire_run (s : State) (d : Nat) (r : Run) (hr : s.run d = some r) : (s.acquire d r).run d =
    some { r with acquired := true, spindles := r.unitSet.1, bobbins := r.unitSet.2, epoch := s.units.epoch, shapes := s.units.shape } := by
  have hmap : ((s.takeSpindles r r.unitSet.1).takeBobbins r r.unitSet.2).mapping = s.mapping :=
    (State.takeBobbins_frame _ r _).2.trans (s.mapping_takeSpindles r _)
  obtain ⟨hd, he, hs⟩ : _ = s.distaffs ∧ _ = s.units.epoch ∧ _ = s.units.shape := by simpa only [State.mapping, Prod.mk.injEq] using hmap
  have hrun : ((s.takeSpindles r r.unitSet.1).takeBobbins r r.unitSet.2).run d = some r := by rw [State.run, hd]; exact hr
  rw [State.acquire, State.run_modRun_self _ _ _ _ hrun, he, hs]

/-- Past the Spindles, an acquisition changes no Spindle. -/
theorem State.acquire_spindle (s : State) (d : Nat) (r : Run) (u : Nat) : (s.acquire d r).spindle u = (s.takeSpindles r r.unitSet.1).spindle u :=
  congrArg (fun v => vget v Spindle.reset u) (State.takeBobbins_frame _ r _).1

theorem State.acquire_byteAt (s : State) (d : Nat) (r : Run) (a : Nat) : (s.acquire d r).byteAt 3 a = (s.takeSpindles r r.unitSet.1).byteAt 3 a :=
  congrArg (fun m : Mem => m.byte a) (State.space_takeBobbins _ r _ 3 (by decide) (by decide))

theorem State.acquire_bobbin (s : State) (d : Nat) (r : Run) (b : Nat) (h : b ∈ r.unitSet.2) :
    ((s.acquire d r).bobbin b).holder = some (r.ring, r.seq) :=
  State.holder_takeBobbins _ r _ b (fun _ => Run.lt_of_mem_unitSet_bobbins) (.inl h)

/-- SRAM, LPDDR5X and host memory stand outside an acquisition. -/
theorem State.acquire_space (s : State) (d : Nat) (r : Run) (k : Nat) (hk : k < 3) : (s.acquire d r).mem.space k = s.mem.space k :=
  (State.space_takeBobbins _ r _ k (by omega) (by omega)).trans (s.space_takeSpindles r _ k (by omega) (by omega))

/-- Settles O21: the case split is on whether the hank still fits the mapping. -/
theorem acquisitionTakesTheWholeSet : Obligations.AcquisitionTakesTheWholeSet := by
  intro s d r hp hr hw hf hu hb
  have hexec := exec_unitAcquire hp hr hw hf hu hb
  refine ⟨fun j (hj : s.misfit r = some j) => ?_, fun (hfit : s.misfit r = none) => ?_⟩
  · obtain ⟨hframe, ⟨m, f, hrun, hstatus, hcause⟩, n, hinbox, htype⟩ := s.rejectShape_failure d r j hr
    obtain ⟨hj60, hj0⟩ := State.misfit_status hj
    rw [hj] at hexec
    exact ⟨_, _, f, n, hexec, hframe, hrun, Run.not_acquired_of_waitsUnits (r := r) hw, rfl, hstatus.trans hj60, hcause.trans hj0, hinbox, htype⟩
  · rw [hfit] at hexec
    refine ⟨_, _, hexec, s.acquire_run d r hr, rfl, rfl, rfl, rfl, rfl, fun u hmem => ?_, fun u _ hnot => ?_, s.acquire_bobbin d r,
      s.acquire_space d r 0 (by decide), s.acquire_space d r 1 (by decide), s.acquire_space d r 2 (by decide)⟩
    · obtain ⟨hholder, howner⟩ := s.spindle_takeSpindles_of_mem r _ u (Run.lt_of_mem_unitSet_spindles hmem) hmem
      refine ⟨?_, ?_, fun ⟨g, hlast, hother⟩ a ha => ?_⟩
      · exact (congrArg Spindle.holder (s.acquire_spindle d r u)).trans hholder
      · exact (congrArg Spindle.lastOwner (s.acquire_spindle d r u)).trans howner
      · exact (s.acquire_byteAt d r _).trans (s.byteAt_takeSpindles_of_mustClear r _ u a ha hmem (State.mustClear_of_other hlast hother))
    · exact ⟨(s.acquire_spindle d r u).trans (s.spindle_takeSpindles_of_not_mem r _ u hnot),
        fun a ha => (s.acquire_byteAt d r _).trans (s.byteAt_takeSpindles_of_not_mem r _ u a ha hnot)⟩

end Sys2Proof.Machine
end

section
/-!
SUPPORT. Reads that meet no uncorrectable word: they change no byte and leave every uncorrectable error where it stands, so that what is readable before one of
them is readable after it.
-/
namespace Sys2Proof.Machine

-- The check of a range.

/-- A fold over what a step never leaves empty is empty only over nothing. -/
theorem foldl_eq_none_iff {α β : Type} (f : Option β → α → Option β) (hf : ∀ o a, f o a ≠ none) (l : List α) : l.foldl f none = none ↔ l = [] := by
  rcases l.eq_nil_or_concat with rfl | ⟨r, a, rfl⟩ <;> simp [hf]

/-- No word of a range holds an uncorrectable error, met or not (08 R214). -/
structure Memory.SoundIn (m : Memory) (sp a n : Nat) : Prop where
  upsets : ∀ c ∈ m.upsets, c.1 = sp → a / 8 ≤ c.2.1 → c.2.1 * 8 < a + n → c.2.2 = false
  poison : ∀ c ∈ m.poison, c.1 = sp → a / 8 ≤ c.2 → a + n ≤ c.2 * 8

theorem Memory.check_eq_none_iff (m : Memory) (sp a n : Nat) : (m.check sp a n).2 = none ↔ m.SoundIn sp a n := by
  unfold Memory.check
  dsimp only
  rw [foldl_eq_none_iff _ (fun o c => by cases o <;> dsimp only <;> (try split) <;> nofun), List.append_eq_nil_iff, List.filterMap_eq_nil_iff, List.filterMap_eq_nil_iff]
  constructor
  · rintro ⟨hu, hp⟩
    refine ⟨fun c hc h1 h2 h3 => ?_, fun c hc h1 h2 => ?_⟩
    · simpa [h1, h2, h3] using hu c hc
    · simpa [h1, h2] using hp c hc
  · rintro ⟨hu, hp⟩
    refine ⟨fun c hc => ?_, fun c hc => ?_⟩
    · simp only [ite_eq_right_iff, reduceCtorEq, imp_false, Bool.and_eq_true, decide_eq_true_eq, not_and, and_imp]
      intro h1 h2 h3 h4
      simp [hu c hc h1 h3 h4] at h2
    · simp only [ite_eq_right_iff, reduceCtorEq, imp_false, Bool.and_eq_true, decide_eq_true_eq, not_and, not_lt]
      exact fun h1 h2 => hp c hc h1 h2

/-- Two memories that hold the same bytes and the same uncorrectable errors: every read finds the same in both. -/
structure Memory.Alike (m m' : Memory) : Prop where
  cells : ∀ k, m'.space k = m.space k
  uncorrectable : ∀ c : Nat × Nat × Bool, c.2.2 = true → (c ∈ m'.upsets ↔ c ∈ m.upsets)
  poison : m'.poison = m.poison

theorem Memory.Alike.refl (m : Memory) : m.Alike m := ⟨fun _ => rfl, fun _ _ => Iff.rfl, rfl⟩

theorem Memory.Alike.symm {m m' : Memory} (h : m.Alike m') : m'.Alike m :=
  ⟨fun k => (h.cells k).symm, fun c hc => (h.uncorrectable c hc).symm, h.poison.symm⟩

theorem Memory.Alike.trans {m n p : Memory} (h : m.Alike n) (g : n.Alike p) : m.Alike p :=
  ⟨fun k => (g.cells k).trans (h.cells k), fun c hc => (g.uncorrectable c hc).trans (h.uncorrectable c hc), g.poison.trans h.poison⟩

theorem Memory.Alike.soundIn {m m' : Memory} {sp a n : Nat} (h : m.Alike m') (g : m.SoundIn sp a n) : m'.SoundIn sp a n := by
  refine ⟨fun c hc h1 h2 h3 => ?_, fun c hc => g.poison c (h.poison ▸ hc)⟩
  cases hbad : c.2.2 with
  | false => rfl
  | true => exact hbad.symm.trans (g.upsets c ((h.uncorrectable c hbad).1 hc) h1 h2 h3)

/-- What passes its check in one memory passes it in an alike one. -/
theorem Memory.Alike.check {m m' : Memory} {sp a n : Nat} (h : m.Alike m') (g : (m.check sp a n).2 = none) : (m'.check sp a n).2 = none :=
  (m'.check_eq_none_iff sp a n).2 (h.soundIn ((m.check_eq_none_iff sp a n).1 g))

/-- A corrected word leaves the list of errors; uncorrectable ones and poison stay. -/
theorem Memory.meet_alike (m : Memory) (sp w : Nat) (h : ∀ c ∈ m.upsets, c.1 = sp → c.2.1 = w → c.2.2 = false) : m.Alike (m.meet sp w) := by
  have hcells : ∀ k, (m.meet sp w).space k = m.space k := fun k => by
    obtain ⟨h0, h1, h2, h3, h4, h5⟩ := m.meet_cells sp w
    unfold Memory.space
    split <;> assumption
  have hkept : ∀ c : Nat × Nat × Bool, c.2.2 = true → (c ∈ m.upsets.filter (fun x => !(x.1 = sp && x.2.1 = w)) ↔ c ∈ m.upsets) := fun c hbad => by
    refine ⟨fun hc => (List.mem_filter.1 hc).1, fun hc => List.mem_filter.2 ⟨hc, ?_⟩⟩
    have hne : c.1 ≠ sp ∨ c.2.1 ≠ w := not_and_or.1 fun ⟨h1, h2⟩ => absurd (hbad.symm.trans (h c hc h1 h2)) nofun
    simpa using hne
  suffices hmarks : (∀ c : Nat × Nat × Bool, c.2.2 = true → (c ∈ (m.meet sp w).upsets ↔ c ∈ m.upsets)) ∧ (m.meet sp w).poison = m.poison from
    ⟨hcells, hmarks.1, hmarks.2⟩
  unfold Memory.meet
  split
  · exact ⟨fun _ _ => Iff.rfl, rfl⟩
  · rename_i c hc
    have hat := List.find?_some hc
    simp only [Bool.and_eq_true, decide_eq_true_eq] at hat
    have hok := h c (List.mem_of_find?_eq_some hc) hat.1 hat.2
    dsimp only
    rw [if_neg (by simp [hok])]
    split <;> exact ⟨hkept, rfl⟩

theorem Memory.meets_alike (sp : Nat) (ws : List Nat) (m : Memory) (h : ∀ w ∈ ws, ∀ c ∈ m.upsets, c.1 = sp → c.2.1 = w → c.2.2 = false) :
    m.Alike (ws.foldl (fun m w => m.meet sp w) m) := by
  induction ws generalizing m with
  | nil => exact .refl m
  | cons w ws ih =>
    obtain ⟨hw, hws⟩ := List.forall_mem_cons.1 h
    have hmet := m.meet_alike sp w hw
    refine hmet.trans (ih _ fun v hv c hc h1 h2 => ?_)
    cases hbad : c.2.2 with
    | false => rfl
    | true => exact hbad.symm.trans (hws v hv c ((hmet.uncorrectable c hbad).1 hc) h1 h2)

theorem Memory.check_alike (m : Memory) (sp a n : Nat) (h : (m.check sp a n).2 = none) : m.Alike (m.check sp a n).1 := by
  have hs := (m.check_eq_none_iff sp a n).1 h
  unfold Memory.check
  refine m.meets_alike sp _ fun w hw c hc h1 h2 => ?_
  obtain ⟨b, hb, rfl⟩ := List.mem_map.1 hw
  have hin := (List.mem_filter.1 hb).2
  simp only [Bool.and_eq_true, decide_eq_true_eq] at hin
  obtain ⟨-, hlo, hhi⟩ := hin
  exact hs.upsets c hc h1 (h2 ▸ hlo) (h2 ▸ hhi)

end Sys2Proof.Machine
end

section
/-!
SUPPORT. The reads of a word and of the anneal engine that end with no failure: they leave every field but memory marks and the count of free values, and a state
whose memory is alike reads the same.
-/
namespace Sys2Proof.Machine

/-- What reads without a failure leave of a state: no field but the memory's marks and the count of free values. -/
structure State.Reads (s t : State) : Prop where
  frame : t = { s with mem := t.mem, out := t.out }
  alike : s.mem.Alike t.mem

theorem State.Reads.refl (s : State) : s.Reads s := ⟨rfl, .refl _⟩

theorem State.Reads.trans {s t u : State} (h : s.Reads t) (g : t.Reads u) : s.Reads u := by
  refine ⟨?_, h.alike.trans g.alike⟩
  rw [g.frame, h.frame]

theorem State.reads_check (s : State) {sp a n : Nat} (h : (s.mem.check sp a n).2 = none) : s.Reads { s with mem := (s.mem.check sp a n).1 } :=
  ⟨rfl, s.mem.check_alike sp a n h⟩

theorem State.Reads.units {s t : State} (h : s.Reads t) : t.units = s.units := by rw [h.frame]
theorem State.Reads.distaffs {s t : State} (h : s.Reads t) : t.distaffs = s.distaffs := by rw [h.frame]
theorem State.Reads.board {s t : State} (h : s.Reads t) : t.board = s.board := by rw [h.frame]
theorem State.Reads.noise {s t : State} (h : s.Reads t) : t.noise = s.noise := by rw [h.frame]
theorem State.Reads.run {s t : State} (h : s.Reads t) (d : Nat) : t.run d = s.run d := by rw [State.run, h.distaffs]; rfl
theorem State.Reads.byteAt {s t : State} (h : s.Reads t) (sp a : Nat) : t.byteAt sp a = s.byteAt sp a := congrArg (fun m : Mem => m.byte a) (h.alike.cells sp)
theorem State.Reads.spindle {s t : State} (h : s.Reads t) (u : Nat) : t.spindle u = s.spindle u := by rw [State.spindle, h.units]; rfl

theorem State.bytes_of_cells {s t : State} {sp : Nat} (h : t.mem.space sp = s.mem.space sp) (a n : Nat) : t.bytes sp a n = s.bytes sp a n :=
  congrArg (fun m : Mem => m.bytes a n) h

-- A read of memory that finds no uncorrectable word.

theorem State.readMem_ok {s : State} {r : Run} {k sp a n : Nat} (h : (s.readMem r k sp a n).fail = none) :
    (s.mem.check sp a n).2 = none ∧ (s.readMem r k sp a n).st = { s with mem := (s.mem.check sp a n).1 } ∧
      (s.readMem r k sp a n).bytes = s.bytes sp a n := by
  cases hc : (s.mem.check sp a n).2 with
  | none =>
    unfold State.readMem
    simp only [hc]
    exact ⟨trivial, trivial, State.bytes_of_cells (s.mem.check_space sp a n sp) a n⟩
  | some b =>
    unfold State.readMem at h
    simp [hc] at h

theorem State.readMem_of_check {s : State} {sp a n : Nat} (r : Run) (k : Nat) (h : (s.mem.check sp a n).2 = none) : (s.readMem r k sp a n).fail = none := by
  unfold State.readMem
  simp only [h]

/-- The host read of a word that meets its hank's faulting read (09 R264). -/
def Run.faults (r : Run) (k a n : Nat) : Prop := r.noHost = false ∧ ∃ b, r.bad = some b ∧ (b.word = k && meets b.address b.length a n) = true

/-- A host read that does not fail meets no faulting read: it changes nothing, or, after a function-level reset, takes free values (09 R265). -/
theorem State.readHost_ok {s : State} {r : Run} {k a n : Nat} (h : (s.readHost r k a n).fail = none) : ¬r.faults k a n := by
  rintro ⟨hn, b, hb, hm⟩
  unfold State.readHost at h
  simp [hn, hb, hm] at h

theorem State.readHost_of_not_faults (s : State) {r : Run} {k a n : Nat} (h : ¬r.faults k a n) :
    s.readHost r k a n = if r.noHost then ⟨(s.freeBytes n).1, (s.freeBytes n).2, none⟩ else ⟨s.bytes 2 (hostKey r.owner a) n, s, none⟩ := by
  unfold State.readHost
  cases hn : r.noHost with
  | true => rfl
  | false =>
    cases hb : r.bad with
    | none => rfl
    | some b =>
      have hm : ¬(b.word = k && meets b.address b.length a n) = true := fun hm => h ⟨hn, b, hb, hm⟩
      simp [hm]

theorem State.reads_freeBytes (s : State) (n : Nat) : s.Reads (s.freeBytes n).2 := ⟨rfl, .refl _⟩

/-- What a read of a buffer that does not fail in `s` gives in `t`, whose memory is alike: it does not fail, and it reads the same bytes, but for the free
values that stand for host memory after a function-level reset. -/
structure Got.Repeats (s t : State) (r : Run) (g g' : Got) : Prop where
  fail : g'.fail = none
  reads : t.Reads g'.st
  bytes : r.noHost = false ∨ t.out = s.out → g'.bytes = g.bytes
  out : r.noHost = false → g'.st.out = t.out

theorem State.readBuf_repeats {s t : State} (hm : s.mem.Alike t.mem) {r : Run} {k off n : Nat} {b : Buffer} (h : (s.readBuf r k b off n).fail = none) :
    Got.Repeats s t r (s.readBuf r k b off n) (t.readBuf r k b off n) := by
  unfold State.readBuf at h ⊢
  split
  · rename_i hb
    rw [if_pos hb] at h
    have hf := State.readHost_ok h
    rw [s.readHost_of_not_faults hf, t.readHost_of_not_faults hf]
    cases hn : r.noHost with
    | true =>
      refine ⟨rfl, t.reads_freeBytes n, fun ho => ?_, fun h => absurd (hn.symm.trans h) nofun⟩
      obtain ho := ho.resolve_left (by simp [hn])
      simp [State.freeBytes, ho]
    | false => exact ⟨rfl, .refl t, fun _ => State.bytes_of_cells (hm.cells 2) _ n, fun _ => rfl⟩
  · rename_i hb
    rw [if_neg hb] at h
    obtain ⟨hc, -, hbytes⟩ := State.readMem_ok h
    have hc' := hm.check hc
    have hf' := State.readMem_of_check r k hc'
    obtain ⟨-, hst', hbytes'⟩ := State.readMem_ok hf'
    refine ⟨hf', hst' ▸ t.reads_check hc', fun _ => ?_, fun _ => by rw [hst']⟩
    rw [hbytes', hbytes]
    exact State.bytes_of_cells (hm.cells _) _ n

theorem State.readIdx_repeats {s t : State} (hm : s.mem.Alike t.mem) {r : Run} {k i off n : Nat} (h : (s.readIdx r k i off n).fail = none) :
    Got.Repeats s t r (s.readIdx r k i off n) (t.readIdx r k i off n) := by
  unfold State.readIdx at h ⊢
  cases hb : r.buf i with
  | none => exact ⟨rfl, .refl t, fun _ => rfl, fun _ => rfl⟩
  | some b =>
    rw [hb] at h
    exact State.readBuf_repeats hm h

/-- A read of a buffer that does not fail. -/
theorem State.readIdx_reads {s : State} {r : Run} {k i off n : Nat} (h : (s.readIdx r k i off n).fail = none) : s.Reads (s.readIdx r k i off n).st :=
  (State.readIdx_repeats (.refl s.mem) h).reads

-- The coupling store, the biases and the schedule.

theorem State.checkStore_reads {s t : State} (hm : s.mem.Alike t.mem) {r : Run} {k : Nat} {q : Problem} {off len : Nat} (h : (s.checkStore r k q off len).2 = none) :
    (t.checkStore r k q off len).2 = none ∧ t.Reads (t.checkStore r k q off len).1 ∧ (t.checkStore r k q off len).1.out = t.out := by
  unfold State.checkStore at h ⊢
  cases hb : r.buf q.dst with
  | none => exact ⟨rfl, .refl t, rfl⟩
  | some b =>
    simp only [hb] at h ⊢
    cases hc : (s.mem.check b.space (b.base + off) len).2 with
    | none =>
      have hc' := hm.check hc
      simp only [hc']
      exact ⟨trivial, t.reads_check hc', trivial⟩
    | some w =>
      simp only [hc] at h
      cases h

theorem State.checkSched_reads {s t : State} (hm : s.mem.Alike t.mem) {r : Run} {k lo hi : Nat} {q : Problem} (h : (s.checkSched r k q lo hi).2 = none) :
    (t.checkSched r k q lo hi).2 = none ∧ t.Reads (t.checkSched r k q lo hi).1 :=
  have hrep := State.readIdx_repeats hm h
  ⟨hrep.fail, hrep.reads⟩

/-- The parts of a word for a list of units: the first failure stays. -/
theorem eachUnit_failed (us : List Nat) (f : Nat → State → Done) (s : State) (e : Failure) :
    (us.foldl (fun acc u => ((f u acc.1).1, firstFail acc.2 (f u acc.1).2)) (s, some e)).2 = some e := by
  induction us generalizing s with
  | nil => rfl
  | cons u us ih => exact ih _

theorem eachUnit_cons (u : Nat) (us : List Nat) (f : Nat → State → Done) (s : State) (h : (f u s).2 = none) : eachUnit (u :: us) f s = eachUnit us f (f u s).1 := by
  unfold eachUnit
  rw [List.foldl_cons]
  dsimp only [firstFail]
  rw [h]
  rfl

theorem eachUnit_cons_ok {u : Nat} {us : List Nat} {f : Nat → State → Done} {s : State} (h : (eachUnit (u :: us) f s).2 = none) : (f u s).2 = none := by
  cases hu : (f u s).2 with
  | none => rfl
  | some e =>
    unfold eachUnit at h
    rw [List.foldl_cons] at h
    dsimp only [firstFail] at h
    rw [hu] at h
    exact absurd ((eachUnit_failed us f _ e).symm.trans h) nofun

theorem State.readLs_ok {s : State} {sp a n : Nat} (h : (s.readLs sp a n).fail = none) : (s.mem.check sp a n).2 = none := Option.map_eq_none_iff.1 h

theorem State.checkBiases_reads {s t : State} (hm : s.mem.Alike t.mem) (hf : t.units.fold = s.units.fold) {q : Problem} {p : Nat} {us : List Nat}
    (h : (s.checkBiases q p us).2 = none) :
    (t.checkBiases q p us).2 = none ∧ t.Reads (t.checkBiases q p us).1 ∧ (t.checkBiases q p us).1.out = t.out := by
  induction us generalizing s t with
  | nil => exact ⟨rfl, .refl t, rfl⟩
  | cons u us ih =>
    have hbase : t.biasBase u p = s.biasBase u p := by simp only [State.biasBase, State.lsShare, hf]
    unfold State.checkBiases at h ⊢
    have hu := State.readLs_ok (eachUnit_cons_ok h)
    have hu' : (t.mem.check 3 (lsKey false u (t.biasBase u p)) (4 * q.m)).2 = none := hbase ▸ hm.check hu
    rw [eachUnit_cons _ _ _ _ (eachUnit_cons_ok h)] at h
    rw [eachUnit_cons _ _ _ _ (Option.map_eq_none_iff.2 hu')]
    have hread := t.reads_check hu'
    obtain ⟨hfail, hreads, hout⟩ := ih (((s.reads_check hu).alike.symm.trans hm).trans hread.alike) hf h
    exact ⟨hfail, hread.trans hreads, hout⟩

end Sys2Proof.Machine
end

section
/-!
SUPPORT. A word at its units: the hank it is handed over with, what it writes, and what the state holds once its effect is done; the problems of a hank.
-/
namespace Sys2Proof.Machine

-- The problems of a hank.

theorem Run.lt_of_problem {r : Run} {p : Nat} {q : Problem} (h : r.problem p = some q) : p < 4 := by
  by_contra hp
  rw [Run.problem, vget_of_le _ _ _ (by omega)] at h
  cases h

theorem anProb_lt (w : Nat) : anProb w < 4 := Nat.mod_lt _ (by decide)

theorem State.run_setProblem {s : State} {d : Nat} {y : Run} (h : s.run d = some y) (p : Nat) (q : Problem) :
    (s.setProblem d p q).run d = some { y with problems := vset y.problems p (some q) } := State.run_modRun_self _ _ _ _ h

theorem State.spindle_setProblem (s : State) (d p : Nat) (q : Problem) (v : Nat) : (s.setProblem d p q).spindle v = s.spindle v := rfl

/-- A problem after a problem is set. -/
theorem Run.problem_vset (y : Run) (p j : Nat) (q : Problem) (hp : p < 4) :
    ({ y with problems := vset y.problems p (some q) } : Run).problem j = if p = j then some q else y.problem j := by
  rw [Run.problem, Run.problem, vget_vset]
  simp only [hp, and_true]

-- The hand-over.

/-- What stands when a word is handed to its units: the hank on its Distaff, with the word among the issued ones; all else is as it was. -/
structure State.Handed (s s0 : State) (d : Nat) (r : Run) (k : Nat) : Prop where
  frame : s0 = { s with distaffs := s0.distaffs }
  run : s0.run d = some r
  issued : ∃ i ∈ r.issued, i.index = k

theorem Run.granted_issued {r : Run} {o : Op} {c : Nat × Nat} (h : r.granted o = some c) : ∃ i ∈ r.issued, i.index = c.1 := by
  unfold Run.granted at h
  obtain ⟨i, hi, hc⟩ := Option.bind_eq_some_iff.1 h
  obtain ⟨x, -, rfl⟩ := Option.map_eq_some_iff.1 hc
  exact ⟨i, List.mem_of_find?_eq_some hi, rfl⟩

theorem State.handed_of_atUnits {s s0 : State} {d : Nat} {o : Op} {r : Run} {k w : Nat} (h : s.atUnits d o = some (s0, r, k, w)) : s.Handed s0 d r k := by
  have hrun := (s.word_of_atUnits s0 d o (fun _ _ _ t => .wait t) r k w h).2
  unfold State.atUnits at h
  split at h
  · split at h
    · cases h
    · split at h
      · rename_i hc
        cases h
        exact ⟨rfl, hrun, Run.granted_issued hc⟩
      · split at h
        · dsimp only at h
          split at h
          · cases h
            exact ⟨rfl, hrun, _, List.mem_append_right _ (List.mem_singleton_self _), rfl⟩
          · cases h
        · cases h
  · cases h

theorem State.Handed.mem {s s0 : State} {d k : Nat} {r : Run} (h : s.Handed s0 d r k) : s0.mem = s.mem := by rw [h.frame]
theorem State.Handed.units {s s0 : State} {d k : Nat} {r : Run} (h : s.Handed s0 d r k) : s0.units = s.units := by rw [h.frame]
theorem State.Handed.out {s s0 : State} {d k : Nat} {r : Run} (h : s.Handed s0 d r k) : s0.out = s.out := by rw [h.frame]
theorem State.Handed.anneal {s s0 : State} {d k : Nat} {r : Run} (h : s.Handed s0 d r k) : s0.anneal = s.anneal := by rw [h.frame]
theorem State.Handed.noise {s s0 : State} {d k : Nat} {r : Run} (h : s.Handed s0 d r k) : s0.noise = s.noise := by rw [h.frame]
theorem State.Handed.byteAt {s s0 : State} {d k : Nat} {r : Run} (h : s.Handed s0 d r k) (sp a : Nat) : s0.byteAt sp a = s.byteAt sp a := by
  rw [State.byteAt, h.mem]
  rfl
theorem State.Handed.alike {s s0 : State} {d k : Nat} {r : Run} (h : s.Handed s0 d r k) : s.mem.Alike s0.mem := h.mem ▸ .refl _

-- The word that has run.

/-- What a word whose effect is done leaves: it has run, with its failure, and beside the hanks' records the state is that of its effect. -/
structure State.Ran (t u : State) (d k : Nat) (f : Option Failure) : Prop where
  ran : u.ranWith d k f
  frame : u = { t with distaffs := u.distaffs }
  problem : ∀ y, t.run d = some y → ∃ z, u.run d = some z ∧ ∀ p, z.problem p = y.problem p

theorem State.Ran.units {t u : State} {d k : Nat} {f : Option Failure} (h : t.Ran u d k f) : u.units = t.units := by rw [h.frame]
theorem State.Ran.mem {t u : State} {d k : Nat} {f : Option Failure} (h : t.Ran u d k f) : u.mem = t.mem := by rw [h.frame]
theorem State.Ran.byteAt {t u : State} {d k : Nat} {f : Option Failure} (h : t.Ran u d k f) (sp a : Nat) : u.byteAt sp a = t.byteAt sp a := by
  rw [State.byteAt, h.mem]
  rfl
theorem State.Ran.spindle {t u : State} {d k : Nat} {f : Option Failure} (h : t.Ran u d k f) (v : Nat) : u.spindle v = t.spindle v := by
  rw [State.spindle, h.units]
  rfl

/-- Marking a word as run leaves its hank's problems. -/
theorem State.modIssued_ran {t : State} {d k : Nat} (f : Option Failure) {y : Run} (hy : t.run d = some y) (hi : ∃ i ∈ y.issued, i.index = k) :
    (t.modIssued d k fun i => { i with ran := true, noiseWait := false, failure := f }).ranWith d k f ∧
      ∃ z, (t.modIssued d k fun i => { i with ran := true, noiseWait := false, failure := f }).run d = some z ∧ ∀ p, z.problem p = y.problem p := by
  obtain ⟨i, hmem, hk⟩ := hi
  have hrun := State.run_modRun_self t d (fun r => { r with issued := r.issued.map fun i => if i.index = k then
    { i with ran := true, noiseWait := false, failure := f } else i }) y hy
  exact ⟨⟨_, _, hrun, List.mem_map.2 ⟨i, hmem, if_pos hk⟩, hk, rfl, rfl, rfl⟩, _, hrun, fun _ => rfl⟩

theorem Effect.left_done {t : State} {d k : Nat} {f : Option Failure} {y : Run} (hy : t.run d = some y) (hi : ∃ i ∈ y.issued, i.index = k) :
    t.Ran ((Effect.done t f).left d k) d k f := by
  obtain ⟨-, z, hz, hprob⟩ := State.modIssued_ran f hy hi
  obtain ⟨i, hmem, hk⟩ := hi
  refine ⟨Effect.left_done_ranWith t d k f y i hy hmem hk, rfl, fun y' hy' => ?_⟩
  cases hy.symm.trans hy'
  refine ⟨_, (State.run_markHeld _ d).trans (congrArg _ hz), fun p => ?_⟩
  rw [← hprob p]
  dsimp only
  split <;> rfl

/-- A word handed to its units whose effect is done, in terms of the effect. -/
theorem State.word_done {s s0 t : State} {d k w : Nat} {o : Op} {r y : Run} {eff : WordEffect} {f : Option Failure} (h : s.atUnits d o = some (s0, r, k, w))
    (heff : eff r k w s0 = .done t f) (hy : t.run d = some y) (hi : y.issued = r.issued) : t.Ran (s.word d o eff) d k f := by
  rw [(s.word_of_atUnits s0 d o eff r k w h).1, heff]
  exact Effect.left_done hy (hi ▸ (State.handed_of_atUnits h).issued)

theorem State.run_congr {s t : State} (h : t.distaffs = s.distaffs) (d : Nat) : t.run d = s.run d := by rw [State.run, h]; rfl

theorem State.ranWith_congr {s t : State} (h : t.distaffs = s.distaffs) (d k : Nat) (f : Option Failure) : t.ranWith d k f ↔ s.ranWith d k f := by
  simp only [State.ranWith, State.run_congr h]

-- A word's writes.

theorem State.writeBuf_eq (s : State) (r : Run) (b : Buffer) (off : Nat) (bs : Bytes) : s.writeBuf r b off bs = { s with mem := (s.writeBuf r b off bs).mem } := by
  unfold State.writeBuf
  split
  · split <;> rfl
  · rfl

theorem State.writeIdx_eq (s : State) (r : Run) (i off : Nat) (bs : Bytes) : s.writeIdx r i off bs = { s with mem := (s.writeIdx r i off bs).mem } := by
  unfold State.writeIdx
  split
  · exact State.writeBuf_eq _ _ _ _ _
  · rfl

theorem State.writeIdx_distaffs (s : State) (r : Run) (i off : Nat) (bs : Bytes) : (s.writeIdx r i off bs).distaffs = s.distaffs := by rw [State.writeIdx_eq]

-- A word that stops its hank over its input.

/-- INPUT_REJECT leaves the state but for the Distaffs, the dictionary and the recorder (07 R180, R181). -/
theorem State.failInput_frame (s : State) (r : Run) (k : Nat) : (s.failInput r k).1 =
    { s with distaffs := (s.failInput r k).1.distaffs, dict := (s.failInput r k).1.dict, recorder := (s.failInput r k).1.recorder } := by
  rw [State.failInput, State.failWord_eq]
  dsimp only
  rw [State.countRejected_recorder]
  exact State.countRejected_eq (s.emit _) _ _

theorem State.failInput_byteAt (s : State) (r : Run) (k sp a : Nat) : (s.failInput r k).1.byteAt sp a = s.byteAt sp a := by
  rw [State.failInput_frame]
  rfl

theorem State.failInput_failure (s : State) (r : Run) (k : Nat) : (s.failInput r k).2.status = 0xF0 ∧ (s.failInput r k).2.cause = 0x30 := by
  rw [State.failInput, State.failWord_eq]
  exact ⟨rfl, rfl⟩

theorem State.run_failInput {s : State} {d : Nat} {y : Run} (h : s.run d = some y) (r : Run) (k : Nat) :
    ∃ m, (s.failInput r k).1.run d = some { y with rejected := m } := by
  rw [State.failInput, State.failWord_eq]
  exact State.run_countRejected_some _ _ _ _ _ h

end Sys2Proof.Machine
end

section
/-!
SUPPORT. The anneal engine: the run it finds, the lanes a Spindle's fields stand in, and what couplings, fields and biases are read from.
-/
namespace Sys2Proof.Machine

/-- The present run, its hank and its problem. -/
theorem State.engine_eq_some {s : State} {a : AnnealRun} {r : Run} {q : Problem} (h : s.engine = some (a, r, q)) :
    s.board.phase = .ready ∧ s.anneal = some a ∧ s.run a.distaff = some r ∧ r.problem a.problem = some q := by
  unfold State.engine at h
  split at h
  · rename_i hp ha
    obtain ⟨x, hx, hq⟩ := Option.bind_eq_some_iff.1 h
    obtain ⟨y, hy, he⟩ := Option.map_eq_some_iff.1 hq
    cases he
    exact ⟨hp, ha, hx, hy⟩
  · cases h

theorem Halves.get_set {α : Type} (x : Halves α) (h : Half) (v : α) : (x.set h v).get h = v := by cases h <;> rfl

theorem vget_mapIdx {α : Type} {n : Nat} (v : Vector α n) (f : Nat → α → α) (d : α) (i : Nat) (h : i < n) : vget (v.mapIdx f) d i = f i (vget v d i) := by
  simp [vget, h]

-- Where the fields stand.

theorem Problem.n_le_pad (q : Problem) : q.n ≤ q.pad := by simp only [Problem.pad, padOf, roundUp]; omega

theorem Problem.m_pos {q : Problem} {i : Nat} (h : i < q.n) : 0 < q.m := by simp only [Problem.m, Problem.pad, padOf, roundUp]; omega

theorem Problem.spindleOf_eq {q : Problem} {i : Nat} (h : i < q.n) : q.spindleOf i = i / q.m := by
  rw [Problem.spindleOf, Nat.max_eq_right (Problem.m_pos h)]

theorem Problem.slotOf_eq {q : Problem} {i : Nat} (p : Nat) (h : i < q.n) : q.slotOf p i = p * q.m + i % q.m := by
  rw [Problem.slotOf, Nat.max_eq_right (Problem.m_pos h)]

/-- The slots of a ply, and of no other, hold its fields (03 R55). -/
theorem Problem.slotOf_mem_iff {q : Problem} {i : Nat} (p j : Nat) (h : i < q.n) : (p * q.m ≤ q.slotOf j i ∧ q.slotOf j i < p * q.m + q.m) ↔ j = p := by
  have hm := Problem.m_pos h
  have hmod := Nat.mod_lt i hm
  have hdiv : q.slotOf j i / q.m = j := by
    rw [Problem.slotOf_eq j h, Nat.add_comm, Nat.add_mul_div_right _ _ hm, Nat.div_eq_of_lt hmod, Nat.zero_add]
  conv_rhs => rw [← hdiv, Nat.div_eq_iff hm]
  omega

theorem Problem.slotOf_lt {q : Problem} {p i : Nat} (hp : p < q.plies) (h : i < q.n) : q.slotOf p i < q.plies * q.m := by
  have hmod := Nat.mod_lt i (Problem.m_pos h)
  calc q.slotOf p i = p * q.m + i % q.m := Problem.slotOf_eq p h
    _ < (p + 1) * q.m := by rw [Nat.add_one_mul]; omega
    _ ≤ q.plies * q.m := Nat.mul_le_mul_right _ hp

-- What the couplings and the fields are read from.

theorem State.coef_congr {s t : State} (h : ∀ k, t.mem.space k = s.mem.space k) (r : Run) (q : Problem) (i j : Nat) : t.coef r q i j = s.coef r q i j := by
  simp only [State.coef, State.code, h]

theorem State.field_congr {s t : State} {q : Problem} {p i : Nat} (h : t.spindle (q.spindleOf i) = s.spindle (q.spindleOf i)) : t.field q p i = s.field q p i := by
  simp only [State.field, h]

theorem State.bias_congr {s t : State} (h : ∀ k, t.mem.space k = s.mem.space k) (hf : t.units.fold = s.units.fold) (q : Problem) (p i : Nat) :
    t.bias q p i = s.bias q p i := by
  simp only [State.bias, State.bytes, State.biasBase, State.lsShare, h, hf]

theorem State.energyOf_congr {s t : State} (h : ∀ k, t.mem.space k = s.mem.space k) (hu : t.units = s.units) (q : Problem) (prob p : Nat) :
    t.energyOf q prob p = s.energyOf q prob p := by
  have hb := fun i => State.bias_congr h (congrArg Units.fold hu) q prob i
  have hf : ∀ i, t.field q p i = s.field q p i := fun i => State.field_congr (by rw [State.spindle, State.spindle, hu])
  simp only [State.energyOf, hb, hf]

/-- A field holds 32 bits of its 40-bit lane. -/
theorem signed_ofNat_wrap (v : Int) : signed 32 (BitVec.ofNat 40 (wrap 32 v)).toNat = signed 32 (wrap 32 v) := by
  have h : wrap 32 v < 2 ^ 32 := by unfold wrap; omega
  rw [BitVec.toNat_ofNat, Nat.mod_eq_of_lt (by omega)]

end Sys2Proof.Machine
end

section
/-!
SUPPORT. The fatal stop: what a record on its way to the recorder leaves, and that the stop halts the device with its record in the FATAL mirror (13 R358; 14 R373).
-/
namespace Sys2Proof.Machine

/-- The newest records that fit stay (14 R373). -/
theorem newestFit_append {n : Nat} (pre post : List Record) (h : recordsSize post ≤ n) : ∃ kept, newestFit n (pre ++ post) = kept ++ post := by
  induction pre with
  | nil =>
    refine ⟨[], ?_⟩
    cases post with
    | nil => rfl
    | cons r rest => simp only [List.nil_append, newestFit, if_pos h]
  | cons r rest ih =>
    rw [List.cons_append, newestFit]
    split
    · exact ⟨r :: rest, rfl⟩
    · exact ih

/-- What a record on its way to the recorder leaves alone, and the keep store that it may enter. -/
def State.standing (s : State) : Board × Units × Keep := (s.board, s.units, s.keep)

theorem State.capture_standing (s : State) (k cause : Nat) (hank : Option (Nat × Nat)) (rseq : Nat) : (s.capture k cause hank rseq).standing = s.standing := by
  unfold State.capture
  split
  · rfl
  · split <;> rfl

theorem State.raise_standing (s : State) (fn e : Nat) : (s.raise fn e).standing = s.standing := by
  unfold State.raise
  split
  · rfl
  · split
    · rfl
    · split <;> rfl

theorem State.keepRecord_standing (s : State) (r : Record) : (s.keepRecord r).standing = s.standing := by
  unfold State.keepRecord
  split <;> rfl

/-- A record reaches the recorder: beside the recorder and what it sends, the keep store alone takes it (14 R366 to R373). -/
theorem State.arriveRecord_standing (s : State) (r : Record) : (s.arriveRecord r).standing =
    (s.board, s.units, if r.mirrored then s.keep.mirrorWrite r else { s.keep with mirrorOpen := false }) := by
  unfold State.arriveRecord
  dsimp only
  rw [foldl_keeps State.standing _ fun s k => s.capture_standing k 2 none r.rseq]
  rw [apply_ite State.standing, State.raise_standing, ite_self, State.keepRecord_standing]
  rfl

theorem State.arrive_standing (s : State) (n : Notice) : (s.arrive n).standing =
    (s.board, s.units, if n.severity = fatal then s.keep.mirrorWrite (s.recordNow n) else { s.keep with mirrorOpen := false }) := by
  rw [State.arrive, State.arriveRecord_standing]
  simp only [State.recordNow, decide_eq_true_eq]
  rfl

/-- Records arrive without a change of board or units. -/
theorem State.arrives_board_units (ns : List Notice) (s : State) :
    (ns.foldl (fun s n => s.arrive n) s).board = s.board ∧ (ns.foldl (fun s n => s.arrive n) s).units = s.units := by
  induction ns generalizing s with
  | nil => exact ⟨rfl, rfl⟩
  | cons n ns ih =>
    obtain ⟨hb, hu⟩ := ih (s.arrive n)
    have hn := s.arrive_standing n
    exact ⟨hb.trans (congrArg Prod.fst hn), hu.trans (congrArg (fun x => x.2.1) hn)⟩

/-- A FATAL record made last stands last in the mirror once every record has arrived. -/
theorem State.arriveAll_emit_fatal (s : State) (n : Notice) (hn : n.severity = fatal) (hsize : n.size ≤ 1040384) :
    (s.emit n).arriveAll.board = s.board ∧ (s.emit n).arriveAll.units = s.units ∧
      ∃ pre x, (s.emit n).arriveAll.keep.mirror = pre ++ [x] ∧ x.note = n ∧ x.mirrored = true := by
  unfold State.arriveAll
  rw [State.emit_inbox, List.foldl_append, List.foldl_cons, List.foldl_nil]
  obtain ⟨hb, hu⟩ := State.arrives_board_units s.recorder.inbox ((s.emit n).modRecorder fun x => { x with inbox := [] })
  generalize s.recorder.inbox.foldl (fun s n => s.arrive n) ((s.emit n).modRecorder fun x => { x with inbox := [] }) = t at hb hu
  have ht := t.arrive_standing n
  rw [if_pos hn] at ht
  obtain ⟨pre, hpre⟩ := newestFit_append (n := 1040384) t.keep.mirror [t.recordNow n] (by simpa [recordsSize, State.recordNow] using hsize)
  refine ⟨(congrArg Prod.fst ht).trans hb, (congrArg (fun x => x.2.1) ht).trans hu, pre, t.recordNow n, ?_, rfl, by simp [State.recordNow, hn]⟩
  exact (congrArg (fun x => x.2.2.mirror) ht).trans hpre

theorem Keep.mirror_write (x : Keep) (v : Save) (saved : Bool) : (x.write v saved).mirror = x.mirror := by
  unfold Keep.write
  dsimp only
  split <;> rfl

theorem State.writeBuf_standing (s : State) (r : Run) (b : Buffer) (off : Nat) (bs : Bytes) : (s.writeBuf r b off bs).standing = s.standing := by
  rw [State.writeBuf_eq]
  rfl

theorem State.writeIdx_standing (s : State) (r : Run) (i off : Nat) (bs : Bytes) : (s.writeIdx r i off bs).standing = s.standing := by
  rw [State.writeIdx_eq]
  rfl

/-- The hanks in execution are abandoned: memory alone changes, and the count of free values. -/
theorem State.abandonRuns_standing (s : State) : s.abandonRuns.standing = s.standing := by
  unfold State.abandonRuns
  refine foldl_keeps State.standing _ (fun t d => ?_) _ _
  split
  · rename_i r _
    have hspoil : ∀ u : State, (u.spoilRun r).standing = u.standing := fun u => by
      unfold State.spoilRun
      refine foldl_keeps State.standing _ (fun v i => ?_) _ _
      split
      · split
        · exact State.writeIdx_standing _ _ _ _ _
        · rfl
      · rfl
    rw [hspoil]
    unfold State.cutSave
    split
    · exact State.writeBuf_standing _ _ _ _ _
    · rfl
  · rfl

/-- The state of a running device that a save has halted, before the SAG record reaches the recorder (11 R311). -/
def State.saveHalted (s : State) (v : Save) (saved : Bool) (p : Phase) : State :=
  ((s.useFree.abandonRuns.writeSave v saved).haltTo p).modRecorder fun x => { x with made := x.made + 1 }

theorem State.saveHalted_standing (s : State) (v : Save) (saved : Bool) (p : Phase) (hp : s.board.phase = .ready) :
    (s.saveHalted v saved p).standing = ({ s.board with phase := p, alertSave := true }, s.units, s.keep.write v saved) := by
  have hs : s.useFree.abandonRuns.standing = (s.board, s.units, s.keep) := State.abandonRuns_standing _
  simp only [State.standing, Prod.mk.injEq] at hs
  obtain ⟨hb, hu, hk⟩ := hs
  have hne : (s.useFree.abandonRuns.writeSave v saved).board.phase ≠ .reset := by
    simp only [State.writeSave, hb, hp]
    nofun
  rw [State.saveHalted, State.haltTo, if_neg hne]
  simp only [State.standing, State.writeSave, State.modRecorder, hb, hu, hk]

/-- The save of a running device halts it, and its SAG record joins the mirror behind the record that stands last there. -/
theorem State.saveNow_halts {s : State} (cause : Nat) (p : Phase) (hp : s.board.phase = .ready) {pre : List Record} {x : Record}
    (hx : s.keep.mirror = pre ++ [x]) (hsize : x.note.size ≤ 1000000) :
    (s.saveNow cause true p).board.phase = p ∧ (s.saveNow cause true p).units = s.units ∧ x ∈ (s.saveNow cause true p).keep.mirror := by
  have hready : s.useFree.board.phase = .ready := hp
  unfold State.saveNow
  simp only [if_true, if_pos hready]
  generalize s.useFree.saveOf cause (s.recordNow (s.sagNotice cause)) = v
  have ht := (s.saveHalted v true p).arriveRecord_standing (s.recordNow (s.sagNotice cause))
  have hh := s.saveHalted_standing v true p hp
  simp only [State.standing, Prod.mk.injEq] at ht hh
  obtain ⟨hb, hu, hk⟩ := ht
  obtain ⟨hb', hu', hk'⟩ := hh
  refine ⟨(congrArg Board.phase hb).trans (congrArg Board.phase hb'), hu.trans hu', ?_⟩
  have hmirrored : (s.recordNow (s.sagNotice cause)).mirrored = true := rfl
  rw [if_pos hmirrored, hk'] at hk
  obtain ⟨kept, hkept⟩ := newestFit_append (n := 1040384) pre [x, s.recordNow (s.sagNotice cause)] (by
    have hsag : (s.recordNow (s.sagNotice cause)).note.size = 48 := by
      simp [State.recordNow, State.sagNotice, Notice.size, devNotice, le, zeros, roundUp]
    simp only [recordsSize, List.map_cons, List.map_nil, List.sum_cons, List.sum_nil, hsag]
    omega)
  have hmirror := congrArg Keep.mirror hk
  simp only [Keep.mirrorWrite, Keep.mirror_write, hx, List.append_assoc, List.singleton_append, hkept] at hmirror
  exact hmirror ▸ List.mem_append_right _ (List.mem_cons_self ..)

/-- The fatal stop of a running device: it halts, its units stay, and its record is in the FATAL mirror (13 R358). -/
theorem State.fatalStop_halts {s : State} (domain : Nat) (pay : Bytes) (hp : s.board.phase = .ready) (hpay : pay.length ≤ 64) :
    (s.fatalStop domain pay true).board.phase = .haltedFatal ∧ (s.fatalStop domain pay true).units = s.units ∧
      ∃ x ∈ (s.fatalStop domain pay true).keep.mirror, x.note = devNotice 0x0B04 fatal domain pay ∧ x.mirrored = true := by
  have hsize : (devNotice 0x0B04 fatal domain pay).size ≤ 1000000 := by simp only [Notice.size, devNotice, roundUp]; omega
  obtain ⟨hb, hu, pre, x, hmirror, hnote, hmirrored⟩ := s.arriveAll_emit_fatal (devNotice 0x0B04 fatal domain pay) rfl (by omega)
  obtain ⟨hphase, hunits, hmem⟩ := State.saveNow_halts 0 .haltedFatal (congrArg Board.phase hb |>.trans hp) hmirror (hnote ▸ hsize)
  exact ⟨hphase, hunits.trans hu, x, hmem, hnote, hmirrored⟩

end Sys2Proof.Machine
end

section
/-!
PROOF. Flip tokens and spilled columns (O43): the additions of a token in the lanes of its ply, the fatal stop on a bad column buffer, and the column streamed.
-/
namespace Sys2Proof.Machine

-- The additions of one token (03 R62).

/-- A lane of the Spindle after a token: the slots of the token's ply take c × 2 × the new state, every other slot stays. -/
theorem State.lane_addFlip (s : State) (r : Run) (q : Problem) (u : Nat) (x : Token) (l c : Nat) (hu : u < 128) (hl : l < 8) (hc : c < 1024) :
    ((s.addFlip r q u x).spindle u).lane l c =
      if x.ply * q.m ≤ 1024 * l + c ∧ 1024 * l + c < x.ply * q.m + q.m then
        BitVec.ofNat 40 (wrap 32 (signed 32 ((s.spindle u).lane l c).toNat + s.coef r q (u * q.m + (1024 * l + c - x.ply * q.m)) x.var * 2 * spin x.up))
      else (s.spindle u).lane l c := by
  unfold State.addFlip
  dsimp only
  rw [State.spindle_modSpindle, if_pos ⟨rfl, hu⟩, Spindle.lane, vget_mapIdx _ _ _ _ hl]
  generalize x.ply * q.m = base
  split
  · rw [Sparse.get_replace]
    by_cases hin : base ≤ 1024 * l + c ∧ 1024 * l + c < base + q.m
    · have hcell : max base (1024 * l) - 1024 * l + (c - (max base (1024 * l) - 1024 * l)) = c := by omega
      have hrow : max base (1024 * l) - base + (c - (max base (1024 * l) - 1024 * l)) = 1024 * l + c - base := by omega
      rw [if_pos (by omega), if_pos hin, hcell, hrow]
      rfl
    · rw [if_neg (by omega), if_neg hin]
      rfl
  · rw [if_neg (by omega)]
    rfl

theorem State.spindle_addFlip_of_ne (s : State) (r : Run) (q : Problem) {u v : Nat} (x : Token) (h : v ≠ u) : (s.addFlip r q u x).spindle v = s.spindle v := by
  rw [State.addFlip, State.spindle_modSpindle, if_neg fun hc => h hc.1.symm]

/-- The field of a variable at a Spindle that has added a token: of the token's ply it takes the flip, of another ply it stays (02 R36). -/
theorem State.field_addFlip (s : State) (r : Run) (q : Problem) {u p i : Nat} (x : Token) (hu : u < 128) (hfit : q.plies * q.m ≤ 8192) (hp : p < q.plies) (hi : i < q.n)
    (hown : q.spindleOf i = u) : (s.addFlip r q u x).field q p i =
      if p = x.ply then signed 32 (wrap 32 (s.field q p i + s.coef r q i x.var * 2 * spin x.up)) else s.field q p i := by
  have hslot := Nat.div_add_mod (q.slotOf p i) 1024
  have hlt := Problem.slotOf_lt hp hi
  rw [State.field, State.field, hown, State.lane_addFlip s r q u x _ _ hu (by omega) (Nat.mod_lt _ (by decide)), hslot]
  simp only [Problem.slotOf_mem_iff x.ply p hi]
  split
  · rename_i hply
    have hrow : u * q.m + (q.slotOf p i - x.ply * q.m) = i := by
      rw [Problem.slotOf_eq p hi, hply, Nat.add_sub_cancel_left, ← hown, Problem.spindleOf_eq hi, Nat.mul_comm]
      exact Nat.div_add_mod i q.m
    rw [signed_ofNat_wrap, hrow]
  · rfl

/-- A token whose column is readable is added, noted in its hank's problem and marked in the run, past reads that change no byte (03 R62, R73; 08 R217). -/
theorem State.applyToken_of_readable {s : State} {r : Run} {q : Problem} {a : AnnealRun} {u : Nat} {x : Token} (hb : x.buffered = true)
    (hread : if q.spilled = true then (s.mem.check 0 (columnBuffer x.buffer + u * columnBytes q.form q.m) (columnBytes q.form q.m)).2 = none
      else (s.checkStore r a.word q (x.var * columnBytes q.form q.pad + u * columnBytes q.form q.m) (columnBytes q.form q.m)).2 = none) :
    ∃ t, s.Reads t ∧ s.applyToken r q a u x = ((t.addFlip r q u x).setProblem a.distaff a.problem
      (if q.spindleOf x.var = u then q.setSpin x.ply x.var x.up else q)).setAnneal (t.markToken r q a u x) := by
  unfold State.applyToken
  cases hs : q.spilled with
  | true =>
    rw [if_pos hs] at hread
    refine ⟨_, s.reads_check hread, ?_⟩
    simp only [hb, Bool.and_self, if_true, hread]
  | false =>
    rw [if_neg (by simp [hs])] at hread
    obtain ⟨-, hreads, -⟩ := State.checkStore_reads (.refl s.mem) hread
    refine ⟨_, hreads, ?_⟩
    simp only [Bool.false_and, Bool.false_eq_true, if_false, hread]

theorem exec_flipTokenApply {s : State} {a : AnnealRun} {r : Run} {q : Problem} {l : Fin 128} {h : Half} {x : Token} (he : s.engine = some (a, r, q))
    (hx : a.nextToken l h = some x) (hb : x.buffered = true) : exec (.flipTokenApply l h) s = .next (s.applyToken r q a l x) := by
  change execFlipTokenApply l h s = _
  unfold execFlipTokenApply
  rw [he]
  simp only [hx, hb, if_true]

-- The three commands of the statement.

theorem fatalPayload_length (cause half sensor unit address : Nat) : (fatalPayload cause half sensor unit address).length = 16 := by
  simp [fatalPayload, le, zeros]

/-- A bad word of a token's column buffer is the fatal stop. -/
theorem State.applyToken_of_bad_buffer {s : State} {r : Run} {q : Problem} {a : AnnealRun} {u : Nat} {x : Token} (hb : x.buffered = true) (hs : q.spilled = true)
    (hbad : (s.mem.check 0 (columnBuffer x.buffer + u * columnBytes q.form q.m) (columnBytes q.form q.m)).2 ≠ none) :
    ∃ m domain pay, pay.length = 16 ∧ s.applyToken r q a u x = ({ s with mem := m } : State).useFree.fatalStop domain pay true := by
  obtain ⟨w, hw⟩ := Option.ne_none_iff_exists'.1 hbad
  unfold State.applyToken
  simp only [hb, hs, Bool.and_self, if_true, hw]
  exact ⟨_, _, _, fatalPayload_length _ _ _ _ _, rfl⟩

/-- A column streamed into its buffers leaves no bad word there, and no byte changed (03 R67; 08 R214). -/
theorem Memory.fillColumn_sound (m : Memory) (k len : Nat) : ((m.fillColumn k len).check 0 (columnBuffer k) len).2 = none := by
  have hin : ∀ w, columnBuffer k / 8 ≤ w → columnBuffer k ≤ 8 * w := fun w h => by
    simp only [columnBuffer] at h ⊢
    omega
  refine (Memory.check_eq_none_iff _ _ _ _).2 ⟨fun c hc h1 h2 h3 => ?_, fun c hc h1 h2 => ?_⟩
  · have hout := (List.mem_filter.1 hc).2
    simp only [h1, Bool.not_eq_true', Bool.and_eq_false_imp, decide_true, decide_eq_false_iff_not, not_and, forall_const] at hout
    exact absurd h3 (by have := hout (hin _ h2); omega)
  · have hout := (List.mem_filter.1 hc).2
    simp only [h1, Bool.not_eq_true', Bool.and_eq_false_imp, decide_true, decide_eq_false_iff_not, not_and, forall_const] at hout
    have := hout (hin _ h2)
    omega

/-- The run once the oldest unbuffered commit of an arbiter has its column in the lowest free buffer (03 R67). -/
def AnnealRun.streamed (a : AnnealRun) (q : Problem) (h : Half) : AnnealRun :=
  { a with tokens := a.tokens.set h (bufferFirst (a.freeBuffer q) (a.tokens.get h)) }

theorem exec_spillColumnStream {s : State} {a : AnnealRun} {r : Run} {q : Problem} {h : Half} {x : Token} (he : s.engine = some (a, r, q))
    (hx : (a.tokens.get h).find? (fun z => !z.buffered) = some x)
    (hc : (s.checkStore r a.word q (x.var * columnBytes q.form q.pad) (columnBytes q.form q.pad)).2 = none) :
    exec (.spillColumnStream h) s = .next (((s.checkStore r a.word q (x.var * columnBytes q.form q.pad) (columnBytes q.form q.pad)).1.modMem fun m =>
      m.fillColumn (a.freeBuffer q) (columnBytes q.form q.pad)).setAnneal (a.streamed q h)) := by
  change execSpillColumnStream h s = _
  unfold execSpillColumnStream
  rw [he]
  simp only [hx, hc]
  rfl

/-- Settles O43: a token whose column is readable is added lane by lane, one whose column buffer is bad stops the device, and a streamed column leaves its buffer
sound. -/
theorem tokensAddToEveryField : Obligations.TokensAddToEveryField := by
  intro s a r q l h x he
  obtain ⟨hp, ha, hr, hq⟩ := State.engine_eq_some he
  refine ⟨fun hx hb hh hfit hply hread => ?_, fun hx hb hs _ hbad => ?_, fun hx hc => ?_⟩
  · obtain ⟨t, ht, happly⟩ := State.applyToken_of_readable (u := l.val) hb hread
    have hexec := exec_flipTokenApply he hx hb
    rw [happly] at hexec
    have hrun : (t.addFlip r q l.val x).run a.distaff = some r := (ht.run _).trans hr
    have hfield : ∀ j < q.plies, ∀ i < q.n, q.spindleOf i = l.val → (t.addFlip r q l.val x).field q j i =
        if j = x.ply then signed 32 (wrap 32 (s.field q j i + s.coef r q i x.var * 2 * spin x.up)) else s.field q j i := fun j hj i hi hown => by
      rw [State.field_addFlip t r q x l.isLt hfit hj hi hown, State.coef_congr ht.alike.cells, State.field_congr (ht.spindle _)]
    have hother : ∀ v, v ≠ l.val → (t.addFlip r q l.val x).spindle v = s.spindle v := fun v hv =>
      (t.spindle_addFlip_of_ne r q x hv).trans (ht.spindle v)
    refine ⟨_, _, _, _, hexec, rfl, State.run_setProblem hrun _ _, (Run.problem_vset r _ _ _ (Run.lt_of_problem hq)).trans (if_pos rfl), fun i hi hown => ?_,
      fun j hj hne i hi => ?_, fun v _ hv => hother v hv, rfl, ?_, fun sp c => ht.byteAt sp c⟩
    · exact (hfield _ hply i hi hown).trans (if_pos rfl)
    · by_cases hown : q.spindleOf i = l.val
      · exact (hfield j hj i hi hown).trans (if_neg hne)
      · exact State.field_congr (hother _ hown)
    · simp only [State.markToken, hh, Halves.get_set]
  · obtain ⟨m, domain, pay, hpay, happly⟩ := State.applyToken_of_bad_buffer (r := r) (a := a) (u := l.val) hb hs hbad
    obtain ⟨hphase, hunits, y, hy, hnote, hmirrored⟩ := State.fatalStop_halts (s := ({ s with mem := m } : State).useFree) domain pay hp (by omega)
    rw [← happly] at hphase hunits hy
    exact ⟨_, exec_flipTokenApply he hx hb, hphase, congrArg Units.spindles hunits, y, hy, congrArg Notice.type hnote, hmirrored⟩
  · obtain ⟨-, ht, hout⟩ := State.checkStore_reads (.refl s.mem) hc
    refine ⟨_, a.streamed q h, exec_spillColumnStream he hx hc, ?_, Halves.get_set _ _ _, Memory.fillColumn_sound _ _ _, fun sp c => ?_⟩
    · generalize (s.checkStore r a.word q _ _).1 = t at ht hout
      rw [State.setAnneal, State.modMem]
      dsimp only
      rw [ht.frame, hout]
    · exact ht.byteAt sp c

end Sys2Proof.Machine
end

section
/-!
PROOF. Start waits and settle points of an Open ANNEAL (O40): a step entered past a readable schedule, the end of a plain step, and the end of the word.
-/
namespace Sys2Proof.Machine

/-- A step is entered once its schedule is read without a failure; a SAMPLE reads none (07 R203). -/
theorem State.enterStep_of_readable {s : State} {r : Run} {q : Problem} {a : AnnealRun} (passes : Halves Nat) (done : Nat) {lo : Nat}
    (h : a.sample = false → (s.checkSched r a.word q lo a.step).2 = none) :
    ∃ t, s.Reads t ∧ s.enterStep r q a passes done lo = t.setAnneal (t.beginStep r q a passes done) := by
  unfold State.enterStep
  cases hs : a.sample with
  | true => exact ⟨s, .refl s, if_pos rfl⟩
  | false =>
    have hc := h hs
    refine ⟨_, (State.checkSched_reads (.refl s.mem) hc).2, ?_⟩
    simp only [Bool.false_eq_true, if_false, hc]

-- The start.

/-- The lanes load the stir registers; one that is not fed holds what it held (04 R95, R97). -/
theorem State.stir_loadLanes_of_not_fed (s : State) {p : Nat} (hp : p < 136) (h : s.stirFed p = false) :
    vget s.loadLanes.noise.stir 0 p = vget s.noise.stir 0 p := by
  change vget s.freshStir.noise.stir 0 p = _
  rw [State.freshStir]
  dsimp only
  rw [vget_mapIdx _ _ _ _ hp]
  simp only [h, Bool.false_eq_true, if_false]

theorem exec_openNoiseStartWaitEnd {s : State} {a : AnnealRun} {r : Run} {q : Problem} (he : s.engine = some (a, r, q)) (hw : a.startWait = true)
    (hb : s.bothReady = true) : exec .openNoiseStartWaitEnd s = .next (s.beginAnneal r q a) := by
  change execOpenNoiseStartWaitEnd s = _
  unfold execOpenNoiseStartWaitEnd
  rw [he]
  simp only [hw, hb, Bool.and_self, if_true]

/-- The run that a start wait leaves for its first step. -/
def AnnealRun.started (a : AnnealRun) (cum : Nat) : AnnealRun := { a with startWait := false, cum := cum }

/-- An Open word with a step to make begins it on freshly loaded lanes (04 R97). -/
theorem State.beginAnneal_of_step {s : State} {r : Run} {q : Problem} {a : AnnealRun} (hc : a.colourfast = false)
    (hstep : if a.sample = true then a.first < a.last else a.first ≤ a.last ∧ a.step = a.first ∧ (s.checkSched r a.word q 0 a.step).2 = none) :
    ∃ t cum passes done, s.loadLanes.Reads t ∧ s.beginAnneal r q a = t.setAnneal (t.beginStep r q (a.started cum) passes done) := by
  have hmore : ¬(if a.sample then a.last ≤ a.first else a.last < a.first) := by
    cases hs : a.sample with
    | true =>
      rw [if_pos hs] at hstep
      simpa using hstep
    | false =>
      rw [if_neg (by simp [hs])] at hstep
      simpa using hstep.1
  have hopen : ¬a.colourfast = true := by simp [hc]
  unfold State.beginAnneal
  dsimp only
  rw [if_neg hopen, if_neg hmore]
  obtain ⟨t, ht, henter⟩ := State.enterStep_of_readable (s := s.loadLanes) (r := r) (q := q)
    (a := a.started (if a.sample then a.first else s.loadLanes.sweepsBefore r q a.first)) (lo := 0)
    (if a.resumed then q.resumePasses else ⟨0, 0⟩) (if a.resumed && !a.sample then q.resumeSweep else 0) fun hs => by
      rw [if_neg (by simp [show a.sample = false from hs])] at hstep
      exact (State.checkSched_reads (s := s) (t := s.loadLanes) (.refl s.mem) hstep.2.2).1
  exact ⟨t, _, _, _, ht, henter⟩

-- The end of a step.

theorem State.writeTrace_of_no_stride (s : State) (r : Run) {a : AnnealRun} (es : List Int) (h : a.traceStride = 0) : s.writeTrace r a es = (s, a) := by
  unfold State.writeTrace
  split
  · rw [if_pos (by simp [h])]
  · rfl

/-- The problem after the energies of a step: its best states, and where a resume would go on (02 R46; 12 R334). -/
def Problem.afterStep (q : Problem) (a : AnnealRun) (es : List Int) : Problem := (q.keepBest a es).resumeAt a (a.step + 1) 0

/-- The end of an ANNEAL's step with no exchange, no trace and no pending save: the next step, or the end of the word (02 R44; 03 R71). -/
theorem State.stepEnd_of_plain {s : State} {r : Run} {q : Problem} {a : AnnealRun} (hsample : a.sample = false) (hexch : a.exch = false) (htrace : a.traceStride = 0)
    (hsave : a.savePending = none) (hbias : (s.checkBiases q a.problem (List.range 128)).2 = none) :
    let t := (s.checkBiases q a.problem (List.range 128)).1
    let p := q.afterStep a (t.energies q a.problem)
    s.stepEnd r q a = if a.last ≤ a.step then t.finishAnneal r p a (some a.step)
      else (t.setProblem a.distaff a.problem p).enterStep r p { a with step := a.step + 1 } ⟨0, 0⟩ 0 (a.step + 1) := by
  unfold State.stepEnd
  simp only [hsample, Bool.false_and, Bool.false_eq_true, if_false, hbias, State.writeTrace_of_no_stride _ _ _ htrace, State.stepExchange, hexch, Bool.not_false, if_true,
    State.settleSave, hsave]
  rfl

/-- The least energy stands, with the step and the state it was met at (02 R46). -/
theorem Problem.stats_afterStep {q : Problem} {a : AnnealRun} {es : List Int} {j : Nat} {x z : PlyStat} (hx : q.stats[j]? = some x)
    (hz : (q.afterStep a es).stats[j]? = some z) :
    z.bestEnergy = min x.bestEnergy (es.getD j 0) ∧ (es.getD j 0 < x.bestEnergy → z.bestStep = a.step ∧ z.best = q.ups j) := by
  simp only [Problem.afterStep, Problem.resumeAt, Problem.keepBest, List.getElem?_mapIdx, hx, Option.map_some, Option.some.injEq] at hz
  subst hz
  split
  · rename_i hlt
    exact ⟨(min_eq_right hlt.le).symm, fun _ => ⟨rfl, rfl⟩⟩
  · rename_i hge
    exact ⟨(min_eq_left (not_lt.1 hge)).symm, fun hlt => absurd hlt hge⟩

theorem State.energies_getD {s : State} {q : Problem} {prob j : Nat} (h : j < q.plies) : (s.energies q prob).getD j 0 = s.energyOf q prob j := by
  simp [State.energies, h]

-- The end of the word.

/-- The outputs of an ANNEAL go to its buffers: no hank's record changes, and they fail only where the biases do not read (02 R48). -/
theorem State.writeOutputs_of_anneal {s : State} (d : Nat) (r : Run) (q : Problem) {a : AnnealRun} (h : a.sample = false) :
    (s.writeOutputs d r q a).2 = (s.checkBiases q a.problem (List.range 128)).2 ∧
      (s.writeOutputs d r q a).1.distaffs = (s.checkBiases q a.problem (List.range 128)).1.distaffs := by
  unfold State.writeOutputs
  simp only [h, Bool.false_eq_true, if_false, true_and]
  split <;> simp only [State.writeIdx_distaffs]

theorem State.seamLag_distaffs (s : State) (crossed : Bool) : (s.seamLag crossed).2.distaffs = s.distaffs := by cases crossed <;> rfl

/-- The hanks' records after the end of an ANNEAL or SAMPLE: its own takes its draws and seam lags, and its word is marked. -/
theorem State.endAnneal_distaffs (s : State) (a : AnnealRun) (last : Option Nat) (f : Option Failure) :
    ∃ g : Run → Run, (s.endAnneal a last f).distaffs = ((((s.seamLag a.crossed.w).2.seamLag a.crossed.e).2.modRun a.distaff g).modIssued a.distaff a.word fun i =>
      { i with ran := true, noiseWait := false, failure := f }).distaffs ∧ ∀ y, (g y).issued = y.issued ∧ (g y).problems = y.problems := by
  unfold State.endAnneal
  dsimp only
  cases a.colourfast with
  | true | false => exact ⟨_, rfl, fun _ => ⟨rfl, rfl⟩⟩

/-- The end of an ANNEAL or SAMPLE: none runs any more, its word has run with its failure, and its hank's problems stay. -/
theorem State.endAnneal_ran {s : State} {a : AnnealRun} {y : Run} (last : Option Nat) (f : Option Failure) (hy : s.run a.distaff = some y)
    (hi : ∃ i ∈ y.issued, i.index = a.word) :
    (s.endAnneal a last f).anneal = none ∧ (s.endAnneal a last f).ranWith a.distaff a.word f ∧
      ∃ z, (s.endAnneal a last f).run a.distaff = some z ∧ ∀ p, z.problem p = y.problem p := by
  obtain ⟨g, hd, hg⟩ := s.endAnneal_distaffs a last f
  have hlag : ((s.seamLag a.crossed.w).2.seamLag a.crossed.e).2.run a.distaff = some y := by
    rw [State.run, State.seamLag_distaffs, State.seamLag_distaffs]
    exact hy
  obtain ⟨hran, z, hz, hprob⟩ := State.modIssued_ran f (State.run_modRun_self _ _ g _ hlag) ((hg y).1 ▸ hi)
  exact ⟨rfl, (State.ranWith_congr hd _ _ _).2 hran, z, (State.run_congr hd _).trans hz, fun p => (hprob p).trans (by rw [Run.problem, (hg y).2]; rfl)⟩

/-- The word of a running ANNEAL ends with its outputs. -/
theorem State.finishAnneal_ran {s : State} {a : AnnealRun} {q : Problem} {r : Run} (last : Option Nat) (hsample : a.sample = false) (hr : s.run a.distaff = some r)
    (hp : a.problem < 4) (hi : ∃ i ∈ r.issued, i.index = a.word) (hbias : (s.checkBiases q a.problem (List.range 128)).2 = none) :
    (s.finishAnneal r q a last).anneal = none ∧ (s.finishAnneal r q a last).ranWith a.distaff a.word none ∧
      ∃ z, (s.finishAnneal r q a last).run a.distaff = some z ∧ z.problem a.problem = some q := by
  obtain ⟨hfail, hdistaffs⟩ := s.writeOutputs_of_anneal a.distaff r q hsample
  obtain ⟨-, hreads, -⟩ := State.checkBiases_reads (.refl s.mem) rfl hbias
  have hrun : (s.writeOutputs a.distaff r q a).1.run a.distaff = some r := by
    rw [State.run, hdistaffs, hreads.distaffs]
    exact hr
  obtain ⟨hnone, hran, z, hz, hprob⟩ := State.endAnneal_ran last (s.writeOutputs a.distaff r q a).2 (State.run_setProblem hrun a.problem q) hi
  rw [hfail, hbias] at hnone hran hz
  rw [State.finishAnneal, hfail, hbias]
  exact ⟨hnone, hran, z, hz, (hprob _).trans ((Run.problem_vset r _ _ _ hp).trans (if_pos rfl))⟩

theorem exec_settlePoint {s : State} {a : AnnealRun} {r : Run} {q : Problem} (he : s.engine = some (a, r, q)) (hc : a.colourfast = false) (hw : a.startWait = false)
    (hx : a.exch = false) (hwest : a.passesDone q .west = true) (heast : a.passesDone q .east = true) (hquiet : a.quiet = true) :
    exec .settlePoint s = .next (s.stepEnd r q a) := by
  change execSettlePoint s = _
  unfold execSettlePoint
  rw [he]
  simp only [hc, hw, hx, hwest, heast, hquiet, Bool.not_true, Bool.false_and, Bool.or_self, Bool.false_eq_true, if_false]

/-- Settles O40: the start wait ends in the first step on freshly loaded lanes; a settle point keeps the best states and enters the next step, or ends the word. -/
theorem openStartsAndSettlePoints : Obligations.OpenStartsAndSettlePoints := by
  refine ⟨fun s a r q he hw hc hb hstep => ?_, fun s a r q he hc hw hsample hexch htrace hsave hwest heast hquiet hi hsched hbias => ?_⟩
  · obtain ⟨t, cum, passes, done, ht, hbegin⟩ := State.beginAnneal_of_step hc hstep
    have hexec := exec_openNoiseStartWaitEnd he hw hb
    rw [hbegin] at hexec
    refine ⟨_, _, hexec, rfl, rfl, rfl, rfl, rfl, rfl, ?_, ?_, fun p hp hfed => ?_, ?_, ?_⟩
    · rw [State.setAnneal_noise, ht.noise]
      rfl
    · rw [State.setAnneal_noise, ht.noise]
      rfl
    · rw [State.setAnneal_noise, ht.noise]
      exact s.stir_loadLanes_of_not_fed hp hfed
    · exact ht.units
    · exact ht.board
  · obtain ⟨-, -, hr, hq⟩ := State.engine_eq_some he
    have hp4 := Run.lt_of_problem hq
    obtain ⟨-, hreads, -⟩ := State.checkBiases_reads (.refl s.mem) rfl hbias
    have hend := State.stepEnd_of_plain (r := r) hsample hexch htrace hsave hbias
    have hexec := exec_settlePoint he hc hw hexch hwest heast hquiet
    dsimp only at hend
    rw [hend] at hexec
    generalize (s.checkBiases q a.problem (List.range 128)).1 = t at hexec hreads
    have hrun : t.run a.distaff = some r := (hreads.run _).trans hr
    have hbest : ∀ j x z, q.stats[j]? = some x → (q.afterStep a (t.energies q a.problem)).stats[j]? = some z → j < q.plies →
        z.bestEnergy = min x.bestEnergy (s.energyOf q a.problem j) ∧ (s.energyOf q a.problem j < x.bestEnergy → z.bestStep = a.step ∧ z.best = q.ups j) :=
      fun j x z hx hz hj => by
        have henergy : (t.energies q a.problem).getD j 0 = s.energyOf q a.problem j :=
          (State.energies_getD hj).trans (State.energyOf_congr hreads.alike.cells hreads.units q a.problem j)
        exact henergy ▸ Problem.stats_afterStep hx hz
    by_cases hlast : a.last ≤ a.step
    · obtain ⟨hnone, hran, z, hz, hprob⟩ := State.finishAnneal_ran (q := q.afterStep a (t.energies q a.problem)) (some a.step) hsample hrun hp4 hi
        (State.checkBiases_reads hreads.alike (congrArg Units.fold hreads.units) hbias).1
      rw [if_pos hlast] at hexec
      exact ⟨_, z, _, hexec, hz, hprob, rfl, hbest, fun hlt => absurd hlast (not_le.2 hlt), fun _ => ⟨hnone, hran⟩⟩
    · obtain ⟨u, hu, henter⟩ := State.enterStep_of_readable (s := t.setProblem a.distaff a.problem (q.afterStep a (t.energies q a.problem))) (r := r)
        (q := q.afterStep a (t.energies q a.problem)) (a := { a with step := a.step + 1 }) ⟨0, 0⟩ 0 (lo := a.step + 1)
        fun _ => (State.checkSched_reads (t := t.setProblem a.distaff a.problem _) hreads.alike (hsched (not_le.1 hlast))).1
      rw [if_neg hlast, henter] at hexec
      refine ⟨_, _, _, hexec, (hu.run _).trans (State.run_setProblem hrun _ _), (Run.problem_vset r _ _ _ hp4).trans (if_pos rfl), rfl, hbest,
        fun _ => ⟨_, rfl, rfl, rfl, rfl⟩, fun h => absurd h hlast⟩

end Sys2Proof.Machine
end

section
/-!
PROOF. STATE.INIT and SCHED.LOAD (O36): the fields built Spindle by Spindle, the variables the state bits set, and the schedule and ladder taken.
-/
namespace Sys2Proof.Machine

-- The fields of every Spindle (03 R57).

/-- The fields of all 128 Spindles, built from the states of their problem. -/
def State.buildAll (s : State) (r : Run) (q : Problem) (prob : Nat) : State := (List.range 128).foldl (fun s u => s.buildFields r q prob u) s

theorem State.buildAll_distaffs (s : State) (r : Run) (q : Problem) (prob : Nat) : (s.buildAll r q prob).distaffs = s.distaffs := by
  refine foldl_keeps State.distaffs _ (fun t u => ?_) _ _
  rfl

theorem State.mark_buildFields (s : State) (r : Run) (q : Problem) (prob u v : Nat) (hv : v < 128) :
    ((s.buildFields r q prob u).spindle v).mark = if u = v then some prob else (s.spindle v).mark := by
  rw [State.buildFields, State.fillFields, State.spindle_modSpindle]
  by_cases h : u = v
  · rw [if_pos ⟨h, h ▸ hv⟩, if_pos h]
  · rw [if_neg fun hc => h hc.1, if_neg h]

/-- Every Spindle whose fields were built names the problem. -/
theorem State.mark_builds (s : State) (r : Run) (q : Problem) (prob : Nat) (us : List Nat) (v : Nat) (hv : v < 128)
    (h : v ∈ us ∨ (s.spindle v).mark = some prob) : ((us.foldl (fun s u => s.buildFields r q prob u) s).spindle v).mark = some prob := by
  induction us generalizing s with
  | nil => exact h.resolve_left List.not_mem_nil
  | cons u us ih =>
    refine ih _ ?_
    rw [State.mark_buildFields _ _ _ _ _ _ hv]
    by_cases hu : u = v
    · exact .inr (if_pos hu)
    · rw [if_neg hu]
      exact h.imp_left fun g => (List.mem_cons.1 g).resolve_left (Ne.symm hu)

theorem State.mark_buildAll (s : State) (r : Run) (q : Problem) (prob : Nat) {v : Nat} (hv : v < 128) : ((s.buildAll r q prob).spindle v).mark = some prob :=
  State.mark_builds s r q prob _ v hv (.inl (List.mem_range.2 hv))

-- The states (02 R52).

/-- The variables at +1 that STATE.INIT reads from the state bits: ply by ply, bit i of a ply's n_pad bits. -/
def initSpins (q : Problem) (plies : Nat) (st : Array Byte) : List Nat :=
  (List.range plies).flatMap fun p => ((List.range q.n).filter fun i => bit (st.getD (p * (q.pad / 8) + i / 8) 0).toNat (i % 8)).map fun i => p * q.pad + i

/-- The problem a STATE.INIT leaves, with statistics still to come: schedule and couplings stay. -/
def Problem.init (q : Problem) (plies : Nat) (st : Array Byte) : Problem :=
  { q with plies := plies, spins := initSpins q plies st, stats := [], resumeStep := 0, resumeSweep := 0, resumePasses := ⟨0, 0⟩, tracePos := 0, traceCut := false }

/-- Ply and variable of a state bit are found from its place. -/
theorem place_inj {pad p j i k : Nat} (hi : i < pad) (hk : k < pad) (h : p * pad + k = j * pad + i) : p = j ∧ k = i := by
  have hpos : 0 < pad := by omega
  have hdiv : ∀ a b, b < pad → (a * pad + b) / pad = a := fun a b hb => by
    rw [Nat.mul_comm, Nat.mul_add_div hpos, Nat.div_eq_of_lt hb, Nat.add_zero]
  have hp : p = j := by rw [← hdiv p k hk, h, hdiv j i hi]
  subst hp
  exact ⟨rfl, Nat.add_left_cancel h⟩

theorem Problem.plus_init {q : Problem} {plies j i : Nat} (st : Array Byte) (hj : j < plies) (hi : i < q.n) :
    (q.init plies st).plus j i = bit (st.getD (j * (q.pad / 8) + i / 8) 0).toNat (i % 8) := by
  have hpad := q.n_le_pad
  rw [Bool.eq_iff_iff, Problem.plus, List.contains_iff_mem]
  simp only [Problem.init, initSpins, List.mem_flatMap, List.mem_map, List.mem_filter, List.mem_range]
  constructor
  · rintro ⟨p, -, k, ⟨hk, hup⟩, hplace⟩
    obtain ⟨rfl, rfl⟩ := place_inj (pad := q.pad) (by omega) (by omega) hplace
    exact hup
  · exact fun hup => ⟨j, hj, i, ⟨hi, hup⟩, rfl⟩

-- STATE.INIT.

/-- What a STATE.INIT with no bias buffer reads: the states, the coupling store, and the biases of every Spindle (02 R52; 03 R56). -/
def State.initStates (s : State) (r : Run) (k w : Nat) (q : Problem) : Got := s.readIdx r k (siStates w) 0 (siPlies w * (q.pad / 8))
def State.initStore (s : State) (r : Run) (k w : Nat) (q : Problem) : State × Option Failure :=
  (s.initStates r k w q).st.checkStore r k q 0 (q.pad * columnBytes q.form q.pad)
def State.initBiases (s : State) (r : Run) (k w : Nat) (q : Problem) : State × Option Failure :=
  (s.initStore r k w q).1.checkBiases q (anProb w) (List.range 128)

/-- None of these reads fails. -/
structure State.InitReads (s : State) (r : Run) (k w : Nat) (q : Problem) : Prop where
  states : (s.initStates r k w q).fail = none
  store : (s.initStore r k w q).2 = none
  biases : (s.initBiases r k w q).2 = none

/-- Plies and states within the limits of 06 R155 and 07 R202, and both halves in service. -/
structure Run.InitWithin (r : Run) (w : Nat) (q : Problem) (x : Units) : Prop where
  one : siPlies w ≤ plyLimit 1 q.n
  folded : siPlies w ≤ plyLimit (max x.fold.w x.fold.e) q.n
  length : siPlies w * (q.pad / 8) ≤ ((r.buf (siStates w)).map fun b => b.length).getD 0
  west : x.shape.w ≠ 0xFF
  east : x.shape.e ≠ 0xFF

section
variable {s t : State} {r : Run} {k w : Nat} {q : Problem}

theorem State.InitReads.storeReads (h : s.InitReads r k w q) : s.Reads (s.initStore r k w q).1 :=
  (State.readIdx_reads h.states).trans (State.checkStore_reads (.refl _) h.store).2.1

theorem State.InitReads.reads (h : s.InitReads r k w q) : s.Reads (s.initBiases r k w q).1 :=
  h.storeReads.trans (State.checkBiases_reads (.refl _) rfl h.biases).2.1

/-- They fail in no state that reads alike. -/
theorem State.InitReads.congr (h : s.InitReads r k w q) (hm : s.mem.Alike t.mem) (hf : t.units.fold = s.units.fold) : t.InitReads r k w q := by
  have hstates := State.readIdx_repeats hm h.states
  have hstore := State.checkStore_reads (((State.readIdx_reads h.states).alike.symm.trans hm).trans hstates.reads.alike) h.store
  have ht : t.Reads (t.initStore r k w q).1 := hstates.reads.trans hstore.2.1
  refine ⟨hstates.fail, hstore.1, (State.checkBiases_reads ((h.storeReads.alike.symm.trans hm).trans ht.alike) ?_ h.biases).1⟩
  rw [ht.units, h.storeReads.units, hf]

/-- The effect of a STATE.INIT within its limits, with no bias buffer, whose reads do not fail: past them it builds every field and sets the problem. -/
theorem effStateInit_of_readable (d : Nat) (hq : r.problem (anProb w) = some q) (hbias : siBias w = 0x3F) (hread : s.InitReads r k w q)
    (hwithin : r.InitWithin w q s.units) :
    let p := q.init (siPlies w) (s.initStates r k w q).bytes.toArray
    let t := (s.initBiases r k w q).1.buildAll r p (anProb w)
    effStateInit d r k w s = .done (t.setProblem d (anProb w)
      { p with stats := (List.range (siPlies w)).map fun j => PlyStat.fresh j (t.energyOf p (anProb w) j) (p.ups j) }) none := by
  obtain ⟨hone, hfolded, hlength, hwest, heast⟩ := hwithin
  obtain ⟨hstates, hstore, hbiases⟩ := hread
  simp only [State.initStates, State.initStore, State.initBiases] at hstates hstore hbiases ⊢
  unfold effStateInit
  simp only [hq, hbias, if_true, hstates, hstore, hbiases, firstFail, Option.or_none]
  rw [if_neg (not_lt.2 hone), if_neg (by simp [hlength]), if_neg (by simp [hwest, heast, hfolded])]
  rfl

/-- STATE.INIT on a word at its units, by what it leaves. -/
theorem State.stateInit_ran {s0 : State} {d : Fin 8} (h : s.atUnits d .stateInit = some (s0, r, k, w)) (hq : r.problem (anProb w) = some q) (hbias : siBias w = 0x3F)
    (hread : s.InitReads r k w q) (hwithin : r.InitWithin w q s.units) :
    ∃ (t : State) (y : Run) (e : Nat → Int), exec (.stateInit d) s = .next t ∧ t.ranWith d k none ∧ t.run d = some y ∧
      y.problem (anProb w) = some { q.init (siPlies w) (s.initStates r k w q).bytes.toArray with
        stats := (List.range (siPlies w)).map fun j => PlyStat.fresh j (e j) ((q.init (siPlies w) (s.initStates r k w q).bytes.toArray).ups j) } ∧
      ∀ u < 128, (t.spindle u).mark = some (anProb w) := by
  have hh := State.handed_of_atUnits h
  have hread0 := hread.congr hh.alike (congrArg Units.fold hh.units)
  have hbytes : (s0.initStates r k w q).bytes = (s.initStates r k w q).bytes := (State.readIdx_repeats hh.alike hread.states).bytes (.inr hh.out)
  have heff := effStateInit_of_readable d.val hq hbias hread0 (hh.units ▸ hwithin)
  rw [hbytes] at heff
  generalize q.init (siPlies w) (s.initStates r k w q).bytes.toArray = p at heff ⊢
  have hrun := (State.run_congr (State.buildAll_distaffs (s0.initBiases r k w q).1 r p (anProb w)) d).trans ((hread0.reads.run d).trans hh.run)
  have hran := State.word_done h heff (State.run_setProblem hrun _ _) rfl
  obtain ⟨z, hz, hprob⟩ := hran.problem _ (State.run_setProblem hrun _ _)
  refine ⟨_, z, _, rfl, hran.ran, hz, (hprob _).trans ((Run.problem_vset r _ _ _ (anProb_lt w)).trans (if_pos rfl)), fun v hv => ?_⟩
  exact (congrArg Spindle.mark ((hran.spindle v).trans (State.spindle_setProblem _ _ _ _ v))).trans (State.mark_buildAll _ r p (anProb w) hv)

end

-- SCHED.LOAD.

/-- The problem a SCHED.LOAD leaves: schedule, ladder, and ply p in ladder slot p (02 R43; 07 R203). -/
def Problem.scheduled (q : Problem) (w : Nat) (mult : List Nat) : Problem :=
  { q with sched := if slL w = 0 then q.sched else slSched w, steps := if slL w = 0 then q.steps else slL w, ladder := mult.map (BitVec.ofNat 32),
           stats := q.stats.mapIdx fun p x => { x with ladderSlot := p } }

theorem ofLe_lt (bs : Bytes) : ofLe bs < 256 ^ bs.length := by
  induction bs with
  | nil => simp [ofLe]
  | cons b bs ih =>
    rw [ofLe, List.length_cons, Nat.pow_succ]
    have := b.isLt
    omega

/-- Multipliers of four bytes each stand as they are in the ladder. -/
theorem ladder_toNat (n : Nat) (bs : Bytes) : (((List.range n).map fun i => num bs (4 * i) 4).map (BitVec.ofNat 32)).map BitVec.toNat =
    (List.range n).map fun i => num bs (4 * i) 4 := by
  simp only [List.map_map]
  refine List.map_congr_left fun i _ => ?_
  have h := ofLe_lt (slice bs (4 * i) 4)
  have hlen : (slice bs (4 * i) 4).length = 4 := by simp [slice]
  rw [hlen] at h
  exact Nat.mod_eq_of_lt h

/-- The effect of a SCHED.LOAD whose reads do not fail in a state that reads as `s`: it takes the schedule and the ladder, or rejects them (02 R43). -/
theorem effSchedLoad_of_readable {s t : State} (hm : s.mem.Alike t.mem) {r : Run} {k w : Nat} {q : Problem} (d : Nat) (hq : r.problem (anProb w) = some q)
    (hhost : r.noHost = false) (hsched : slL w ≠ 0 → (s.readIdx r k (slSched w) 0 (16 * slL w)).fail = none)
    (hladder : (s.readIdx r k (slLadder w) 0 (4 * slCount w)).fail = none) :
    ∃ u, let a := s.readIdx r k (slSched w) 0 (16 * slL w)
      let mult := (List.range (slCount w)).map fun i => num (s.readIdx r k (slLadder w) 0 (4 * slCount w)).bytes (4 * i) 4
      t.Reads u ∧ effSchedLoad d r k w t =
        if (((List.range (slL w)).all fun j => stepOk (slice a.bytes (16 * j) 16)) && mult.all tempOk) = true then
          .done (u.setProblem d (anProb w) (q.scheduled w mult)) none
        else .done (u.failInput r k).1 (some (u.failInput r k).2) := by
  obtain ⟨a, ha, hafail, hareads, habytes⟩ : ∃ a : Got, a = (if slL w = 0 then ⟨[], t, none⟩ else t.readIdx r k (slSched w) 0 (16 * slL w)) ∧ a.fail = none ∧
      t.Reads a.st ∧ (slL w ≠ 0 → a.bytes = (s.readIdx r k (slSched w) 0 (16 * slL w)).bytes) := by
    by_cases hl : slL w = 0
    · exact ⟨_, rfl, by rw [if_pos hl], by rw [if_pos hl]; exact .refl t, fun h => absurd hl h⟩
    · have hrep := State.readIdx_repeats hm (hsched hl)
      rw [if_neg hl]
      exact ⟨_, rfl, hrep.fail, hrep.reads, fun _ => hrep.bytes (.inl hhost)⟩
  have hrep := State.readIdx_repeats (hm.trans hareads.alike) hladder
  have hall : ((List.range (slL w)).all fun j => stepOk (slice a.bytes (16 * j) 16)) =
      (List.range (slL w)).all fun j => stepOk (slice (s.readIdx r k (slSched w) 0 (16 * slL w)).bytes (16 * j) 16) := by
    by_cases hl : slL w = 0
    · rw [hl]
      rfl
    · rw [habytes hl]
  refine ⟨_, hareads.trans hrep.reads, ?_⟩
  unfold effSchedLoad
  simp only [hq, ← ha, hafail, hrep.fail, firstFail, Option.or_none, hall, hrep.bytes (.inl hhost)]
  cases ((List.range (slL w)).all fun j => stepOk (slice (s.readIdx r k (slSched w) 0 (16 * slL w)).bytes (16 * j) 16)) with
  | false => rfl
  | true =>
    cases ((List.range (slCount w)).map fun i => num (s.readIdx r k (slLadder w) 0 (4 * slCount w)).bytes (4 * i) 4).all tempOk with
    | false | true => rfl

/-- Settles O36: STATE.INIT builds the states, the statistics and every field; SCHED.LOAD takes its schedule and ladder or rejects them. -/
theorem stateAndScheduleAreLoaded : Obligations.StateAndScheduleAreLoaded := by
  refine ⟨fun s s0 d r k w q h hq hbias hstates hstore hbiases hlimit hone hlen hw he => ?_, fun s s0 d r k w q h hq hhost hsched hladder => ?_⟩
  · obtain ⟨t, y, e, hexec, hran, hrun, hprob, hmark⟩ := State.stateInit_ran h hq hbias ⟨hstates, hstore, hbiases⟩ ⟨hone, hlimit, hlen, hw, he⟩
    refine ⟨t, y, _, hexec, hran, hrun, hprob, rfl, fun j hj i hi => ?_, by simp, fun j x hx => ?_, rfl, rfl, rfl, hmark⟩
    · have hplus := Problem.plus_init (q := q) (s.initStates r k w q).bytes.toArray hj hi
      rwa [Array.getD_eq_getD_getElem?, List.getElem?_toArray, ← List.getD_eq_getElem?_getD] at hplus
    · obtain ⟨i, hi, rfl⟩ := List.getElem?_eq_some_iff.1 hx
      simp [PlyStat.fresh]
  · have hh := State.handed_of_atUnits h
    obtain ⟨u, hu, heff⟩ := effSchedLoad_of_readable (q := q) hh.alike d.val hq hhost hsched hladder
    have hurun : u.run d = some r := (hu.run d).trans hh.run
    have hbytes : ∀ sp a, u.byteAt sp a = s.byteAt sp a := fun sp a => (hu.byteAt sp a).trans (hh.byteAt sp a)
    dsimp only at heff ⊢
    split at heff
    · rename_i hok
      have hrun := State.run_setProblem hurun (anProb w) (q.scheduled w ((List.range (slCount w)).map fun i =>
        num (s.readIdx r k (slLadder w) 0 (4 * slCount w)).bytes (4 * i) 4))
      have hran := State.word_done h heff hrun rfl
      obtain ⟨z, hz, hprob⟩ := hran.problem _ hrun
      refine ⟨_, z, _, none, rfl, hran.ran, hz, (hprob _).trans ((Run.problem_vset r _ _ _ (anProb_lt w)).trans (if_pos rfl)), fun sp a => ?_, ?_⟩
      · exact (hran.byteAt sp a).trans (hbytes sp a)
      · rw [if_pos hok]
        refine ⟨rfl, ladder_toNat _ _, fun hl => ⟨if_neg hl, if_neg hl⟩, fun hl => ⟨if_pos hl, if_pos hl⟩, fun j x hx => ?_, rfl, rfl⟩
        simp only [Problem.scheduled, List.getElem?_mapIdx, Option.map_eq_some_iff] at hx
        obtain ⟨y, -, rfl⟩ := hx
        rfl
    · rename_i hbad
      obtain ⟨m, hrun⟩ := State.run_failInput hurun r k
      have hran := State.word_done h heff hrun rfl
      obtain ⟨z, hz, hprob⟩ := hran.problem _ hrun
      refine ⟨_, z, q, _, rfl, hran.ran, hz, (hprob _).trans hq, fun sp a => ?_, ?_⟩
      · exact (hran.byteAt sp a).trans ((u.failInput_byteAt r k sp a).trans (hbytes sp a))
      · obtain ⟨hstatus, hcause⟩ := u.failInput_failure r k
        rw [if_neg hbad, Option.map_some, hstatus, hcause]
        exact ⟨rfl, rfl⟩

end Sys2Proof.Machine
end

section
/-!
SUPPORT. The codes of a load: RNA rounds to a nearest integer (02 "Units and rounding"), no code leaves its format (02 R28 to R31), and an index names a nearest entry.
-/
namespace Sys2Proof.Machine

-- RNA.

theorem rna_natAbs (n : Int) (d : Nat) : (rna n d).natAbs = (2 * n.natAbs + d) / (2 * d) := by
  unfold rna
  dsimp only
  split
  · rw [Int.natAbs_neg, Int.natAbs_natCast]
  · rw [Int.natAbs_natCast]

/-- The rounded ratio is within half a unit of the ratio. -/
theorem rna_near (n : Int) {d : Nat} (hd : 0 < d) : 2 * (n - rna n d * d).natAbs ≤ d := by
  have hdm := Nat.div_add_mod (2 * n.natAbs + d) (2 * d)
  have hlt := Nat.mod_lt (2 * n.natAbs + d) (Nat.mul_pos (by decide : 0 < 2) hd)
  unfold rna
  generalize (2 * n.natAbs + d) / (2 * d) = q at hdm ⊢
  have hq : ((2 * d * q : Nat) : Int) = 2 * ((q : Int) * d) := by push_cast; ring
  dsimp only
  split
  · rw [neg_mul]
    omega
  · omega

/-- A ratio of at most c in magnitude rounds to at most c. -/
theorem rna_natAbs_le {n : Int} {d c : Nat} (hd : 0 < d) (h : n.natAbs ≤ c * d) : (rna n d).natAbs ≤ c := by
  rw [rna_natAbs]
  refine Nat.lt_succ_iff.1 ((Nat.div_lt_iff_lt_mul (by omega)).2 ?_)
  calc 2 * n.natAbs + d < 2 * (c * d) + 2 * d := by omega
    _ = c.succ * (2 * d) := by rw [Nat.succ_eq_add_one]; ring

-- Two's complement.

theorem wrap_lt (n : Nat) (v : Int) : wrap n v < 2 ^ n := by
  have hpos : (0 : Int) < 2 ^ n := by positivity
  have h := Int.emod_lt_of_pos v hpos
  have h0 := Int.emod_nonneg v hpos.ne'
  unfold wrap
  zify
  omega

/-- An integer of n bits reads back from its pattern. -/
theorem signed_wrap_of_small {n : Nat} {v : Int} (hn : n = 4 ∨ n = 8) (h : v.natAbs < 2 ^ (n - 1)) : signed n (wrap n v) = v := by
  unfold signed wrap
  rcases hn with rfl | rfl
  · norm_num at h ⊢
    omega
  · norm_num at h ⊢
    omega

-- The scale.

theorem le_foldl_max {α : Type} (f : α → Nat) (l : List α) (m : Nat) : m ≤ l.foldl (fun m c => max m (f c)) m ∧ ∀ c ∈ l, f c ≤ l.foldl (fun m c => max m (f c)) m := by
  induction l generalizing m with
  | nil => exact ⟨le_refl m, nofun⟩
  | cons a l ih =>
    obtain ⟨hm, hl⟩ := ih (max m (f a))
    exact ⟨(le_max_left _ _).trans hm, List.forall_mem_cons.2 ⟨(le_max_right _ _).trans hm, hl⟩⟩

theorem mem_pairsOf {n i k : Nat} (hik : i < k) (hk : k < n) : (i, k) ∈ pairsOf n := by
  simp only [pairsOf, List.mem_flatMap, List.mem_map, List.mem_filter, List.mem_range, decide_eq_true_eq]
  exact ⟨i, by omega, k, ⟨hk, hik⟩, rfl⟩

theorem Source.j_comm (x : Source) (i k : Nat) : x.j i k = x.j k i := by simp only [Source.j, min_comm i k, max_comm i k]

theorem qmaxOf_pos (form : Nat) : 0 < qmaxOf form := by
  unfold qmaxOf
  split <;> decide

theorem Source.m_pos (x : Source) : 0 < x.m := by
  unfold Source.m
  split
  · exact Nat.mul_pos (qmaxOf_pos _) (by positivity)
  · omega

/-- No entry exceeds the scale of a load without a host codebook (02 R28). -/
theorem Source.j_le_m {x : Source} (hx : x.form ≠ 3) {i k : Nat} (hi : i < x.n) (hk : k < x.n) (hne : i ≠ k) : (x.j i k).natAbs ≤ x.m := by
  have hhost : x.host = false := by simpa [Source.host] using hx
  have htop : (x.j i k).natAbs ≤ x.top := by
    unfold Source.top
    rw [if_neg (by simp [hhost])]
    rcases Nat.lt_or_gt_of_ne hne with h | h
    · exact (le_foldl_max (fun c : Nat × Nat => (x.j c.1 c.2).natAbs) _ 0).2 (i, k) (mem_pairsOf h hk)
    · rw [x.j_comm]
      exact (le_foldl_max (fun c : Nat × Nat => (x.j c.1 c.2).natAbs) _ 0).2 (k, i) (mem_pairsOf h hi)
  unfold Source.m
  split
  · omega
  · exact htop

-- The codes (02 R29 to R31).

/-- The off-diagonal code of an entry (02 R29). -/
def Source.code (x : Source) (i k : Nat) : Int := rna (qmaxOf x.form * x.j i k) x.m

theorem Source.code_le {x : Source} (hx : x.form ≠ 3) {i k : Nat} (hi : i < x.n) (hk : k < x.n) (hne : i ≠ k) : (x.code i k).natAbs ≤ qmaxOf x.form := by
  refine rna_natAbs_le x.m_pos ?_
  rw [Int.natAbs_mul, Int.natAbs_natCast]
  exact Nat.mul_le_mul_left _ (Source.j_le_m hx hi hk hne)

/-- The code is nearest to qmax × J / M. -/
theorem Source.code_near (x : Source) (i k : Nat) : 2 * ((qmaxOf x.form : Int) * x.j i k - x.code i k * x.m).natAbs ≤ x.m := rna_near _ x.m_pos

/-- The diagonal and the padding hold code 0 (02 R30). -/
theorem Source.store_off {x : Source} {i k : Nat} (h : i = k ∨ x.n ≤ i ∨ x.n ≤ k) : x.store i k = if x.form ≤ 1 then 0 else 8 := by
  have hoff : (decide (i = k) || decide (x.n ≤ i) || decide (x.n ≤ k)) = true := by simpa [or_assoc] using h
  unfold Source.store
  dsimp only
  rw [hoff]
  split
  case h_1 h0 => simp [h0]
  case h_2 h1 => simp [h1]
  case h_3 h2 => simp [h2]
  case h_4 h0 h1 _ => rw [if_pos rfl, if_neg fun hle => Nat.le_one_iff_eq_zero_or_eq_one.1 hle |>.elim h0 h1]

/-- The code of an entry, read back from its stored form. -/
def codeOf (form v : Nat) : Int := if form = 2 then (v : Int) - 8 else signed (if form = 1 then 8 else 4) v

theorem Source.store_on {x : Source} {i k : Nat} (hi : i < x.n) (hk : k < x.n) (hne : i ≠ k) : x.store i k =
    if x.form = 0 then wrap 4 (x.code i k) else if x.form = 1 then wrap 8 (x.code i k) else if x.form = 2 then (x.code i k + 8).toNat
    else x.nearest (i / 256) (x.j i k) := by
  have hoff : (decide (i = k) || decide (x.n ≤ i) || decide (x.n ≤ k)) = false := by simp [hne, hi, hk]
  unfold Source.store Source.code
  dsimp only
  rw [hoff]
  split
  case h_1 h0 => simp [h0, qmaxOf]
  case h_2 h1 => simp [h1, qmaxOf]
  case h_3 h2 => simp [h2, qmaxOf]
  case h_4 h0 h1 h2 => rw [if_neg h0, if_neg h1, if_neg h2, if_neg nofun]

/-- A stored code stands for the code of its entry. -/
theorem Source.codeOf_store {x : Source} (hx : x.form ≤ 2) {i k : Nat} (hi : i < x.n) (hk : k < x.n) (hne : i ≠ k) : codeOf x.form (x.store i k) = x.code i k := by
  have hle := Source.code_le (x := x) (by omega) hi hk hne
  rw [Source.store_on hi hk hne]
  obtain h | h | h : x.form = 0 ∨ x.form = 1 ∨ x.form = 2 := by omega
  · rw [h] at hle ⊢
    exact signed_wrap_of_small (.inl rfl) (Nat.lt_of_le_of_lt hle (by decide))
  · rw [h] at hle ⊢
    exact signed_wrap_of_small (.inr rfl) (Nat.lt_of_le_of_lt hle (by decide))
  · rw [h] at hle ⊢
    have h7 : (x.code i k).natAbs ≤ 7 := hle
    rw [if_neg (by decide), if_neg (by decide), if_pos rfl, codeOf, if_pos rfl]
    omega

-- The index of a host codebook (02 R31).

/-- A fold that keeps the better of two by a measure ends on a least one. -/
theorem foldl_argmin {α : Type} (g : α → Nat) (l : List α) (b : α) :
    let e := l.foldl (fun b k => if g k < g b then k else b) b
    (e = b ∨ e ∈ l) ∧ g e ≤ g b ∧ ∀ k ∈ l, g e ≤ g k := by
  induction l generalizing b with
  | nil => exact ⟨.inl rfl, le_refl _, nofun⟩
  | cons a l ih =>
    obtain ⟨hmem, hb, hl⟩ := ih (if g a < g b then a else b)
    by_cases h : g a < g b
    · rw [if_pos h] at hmem hb hl
      simp only [List.foldl_cons, if_pos h]
      exact ⟨.inr (List.mem_cons.2 hmem), hb.trans h.le, List.forall_mem_cons.2 ⟨hb, hl⟩⟩
    · rw [if_neg h] at hmem hb hl
      simp only [List.foldl_cons, if_neg h]
      exact ⟨hmem.imp_right (List.mem_cons_of_mem _), hb, List.forall_mem_cons.2 ⟨hb.trans (not_lt.1 h), hl⟩⟩

theorem Source.nearest_spec (x : Source) (g : Nat) (v : Int) : x.nearest g v < 16 ∧ ∀ e < 16,
    (v - 4 * (x.cb g (x.nearest g v)).getD 0).natAbs ≤ (v - 4 * (x.cb g e).getD 0).natAbs := by
  obtain ⟨hmem, -, hleast⟩ := foldl_argmin (fun k => (v - 4 * (x.cb g k).getD 0).natAbs) (List.range 16) 0
  refine ⟨?_, fun e he => hleast e (List.mem_range.2 he)⟩
  rcases hmem with h | h
  · exact lt_of_eq_of_lt h (by decide)
  · exact List.mem_range.1 h

/-- A code of four bits fits its nibble (03 R59). -/
theorem Source.store_lt {x : Source} (hx : x.form ≠ 1) (i k : Nat) : x.store i k < 16 := by
  by_cases hoff : i = k ∨ x.n ≤ i ∨ x.n ≤ k
  · rw [Source.store_off hoff]
    split <;> decide
  · simp only [not_or, not_le] at hoff
    obtain ⟨hne, hi, hk⟩ := hoff
    rw [Source.store_on hi hk hne, if_neg hx]
    split
    · exact wrap_lt 4 _
    split
    case isTrue h =>
      have hle := Source.code_le (x := x) (by omega) hi hk hne
      rw [h] at hle
      have h7 : (x.code i k).natAbs ≤ 7 := hle
      omega
    · exact (x.nearest_spec _ _).1

end Sys2Proof.Machine
end

section
/-!
SUPPORT. The bytes of a load: the fields of the report (02 R33), and the coupling store in column order (03 R59).
-/
namespace Sys2Proof.Machine

-- Byte strings.

/-- A part of what was written reads back. -/
theorem State.bytes_put_part (s : State) (sp a : Nat) (bs : Bytes) (o n : Nat) (hs : sp ≤ 5) (h : o + n ≤ bs.length) :
    (s.put sp a bs).bytes sp (a + o) n = (bs.drop o).take n := by
  refine List.ext_getElem (by simp [State.bytes, Mem.bytes]; omega) fun j h1 h2 => ?_
  have hj : j < n := by simpa [State.bytes, Mem.bytes] using h1
  have hput := s.byteAt_put sp a bs sp (a + o + j) hs hs
  rw [if_pos ⟨rfl, by omega, by omega⟩, show a + o + j - a = o + j by omega, List.getD_eq_getElem _ _ (by omega)] at hput
  simpa [State.bytes, Mem.bytes, State.byteAt] using hput

/-- Parts of equal length, joined: the byte at place i of part j. -/
theorem getD_flatMap_range {α : Type} (f : Nat → List α) (d : α) {c : Nat} (hc : ∀ j, (f j).length = c) {n j i : Nat} (hj : j < n) (hi : i < c) :
    ((List.range n).flatMap f).getD (j * c + i) d = (f j).getD i d := by
  have hlen : ∀ m, ((List.range m).flatMap f).length = m * c := fun m => by
    induction m with
    | zero => rw [Nat.zero_mul]; rfl
    | succ m ih => rw [List.range_succ, List.flatMap_append, List.length_append, ih, List.flatMap_singleton, hc, Nat.succ_mul]
  induction n with
  | zero => omega
  | succ n ih =>
    rw [List.range_succ, List.flatMap_append, List.flatMap_singleton]
    rcases Nat.lt_or_ge j n with h | h
    · have : (j + 1) * c ≤ n * c := Nat.mul_le_mul_right c h
      rw [Nat.succ_mul] at this
      rw [List.getD_append _ _ _ _ (by rw [hlen]; omega)]
      exact ih h
    · obtain rfl : j = n := by omega
      rw [List.getD_append_right _ _ _ _ (by rw [hlen]; omega), hlen, Nat.add_sub_cancel_left]

-- The report.

theorem Source.report_length (x : Source) (second : Bool) : (x.report second).length = 64 := by
  unfold Source.report
  cases second <;> simp [le, zeros]

/-- The fields that every report holds: N, N_PAD and the reserved bytes. -/
theorem Source.report_common (x : Source) (second : Bool) :
    ((x.report second).drop 24).take 4 = le 4 x.n ∧ ((x.report second).drop 28).take 4 = le 4 (padOf x.n) ∧ ((x.report second).drop 56).take 8 = zeros 8 := by
  cases second with
  | false | true => exact ⟨rfl, rfl, rfl⟩

/-- The flags QUBO and HOST_CODEBOOK (02 R33). -/
def Source.flags (x : Source) : Nat := (if x.qubo = true then 1 else 0) + if x.host = true then 4 else 0

/-- The report of input that is not finite (02 R34). -/
theorem Source.report_bad (x : Source) : ((x.report false).drop 0).take 24 = zeros 24 ∧ ((x.report false).drop 40).take 8 = zeros 8 ∧
    ((x.report false).drop 48).take 4 = le 4 (x.flags + 16) ∧ ((x.report false).drop 52).take 4 = zeros 4 := ⟨rfl, rfl, rfl, rfl⟩

/-- The report of finite input (02 R33). -/
theorem Source.report_finite (x : Source) : ((x.report true).drop 0).take 4 = le 4 (fp32.round false x.m (qmaxOf x.form * 2 ^ 151)) ∧
    ((x.report true).drop 4).take 4 = le 4 (fp32.round false x.m (2 ^ 151)) ∧ ((x.report true).drop 16).take 8 = le 8 (wrap 64 x.offset) ∧
    ((x.report true).drop 40).take 8 = le 8 (wrap 64 x.headroom) ∧
    ((x.report true).drop 48).take 4 = le 4 (x.flags + (if x.top = 0 then 2 else 0) + if x.headroom < 0 then 8 else 0) := ⟨rfl, rfl, rfl, rfl, rfl⟩

-- The coupling store.

/-- A column of the coupling store. -/
def Source.column (x : Source) (j : Nat) : Bytes :=
  if x.form = 1 then (List.range (padOf x.n)).map fun i => BitVec.ofNat 8 (x.store i j)
  else (List.range (padOf x.n / 2)).map fun h => BitVec.ofNat 8 (x.store (2 * h) j + 16 * x.store (2 * h + 1) j)

theorem Source.bytes_eq (x : Source) : x.bytes = (List.range (padOf x.n)).flatMap x.column := rfl

theorem Source.column_length (x : Source) (j : Nat) : (x.column j).length = columnBytes x.form (padOf x.n) := by
  unfold Source.column columnBytes
  split <;> simp

theorem Source.bytes_length (x : Source) : x.bytes.length = padOf x.n * columnBytes x.form (padOf x.n) := by
  simp [Source.bytes_eq, List.length_flatMap, Source.column_length]

theorem padOf_even (n : Nat) : padOf n % 2 = 0 := by
  unfold padOf roundUp
  omega

/-- Byte i of column j holds the code of entry (i, j). -/
theorem Source.bytes_getD_wide {x : Source} (hx : x.form = 1) {i j : Nat} (hi : i < padOf x.n) (hj : j < padOf x.n) :
    x.bytes.getD (j * columnBytes x.form (padOf x.n) + i) 0 = BitVec.ofNat 8 (x.store i j) := by
  have hcol : columnBytes x.form (padOf x.n) = padOf x.n := if_pos hx
  rw [Source.bytes_eq, getD_flatMap_range _ _ x.column_length hj (hcol.symm ▸ hi), Source.column, if_pos hx, List.getD_eq_getElem _ _ (by simpa using hi)]
  simp

/-- Nibble i of column j holds the code of entry (i, j). -/
theorem Source.bytes_getD_nibble {x : Source} (hx : x.form ≠ 1) {i j : Nat} (hi : i < padOf x.n) (hj : j < padOf x.n) :
    (x.bytes.getD (j * columnBytes x.form (padOf x.n) + i / 2) 0).toNat / 16 ^ (i % 2) % 16 = x.store i j := by
  have hcol : columnBytes x.form (padOf x.n) = padOf x.n / 2 := if_neg hx
  have heven := padOf_even x.n
  have hhalf : i / 2 < padOf x.n / 2 := by omega
  have h0 := Source.store_lt hx (2 * (i / 2)) j
  have h1 := Source.store_lt hx (2 * (i / 2) + 1) j
  rw [Source.bytes_eq, getD_flatMap_range _ _ x.column_length hj (hcol.symm ▸ hhalf), Source.column, if_neg hx, List.getD_eq_getElem _ _ (by simpa using hhalf)]
  simp only [List.getElem_map, List.getElem_range, BitVec.toNat_ofNat]
  rcases Nat.mod_two_eq_zero_or_one i with h | h
  · have hi2 : 2 * (i / 2) = i := by omega
    rw [h, pow_zero, hi2]
    rw [hi2] at h0 h1
    omega
  · have hi2 : 2 * (i / 2) + 1 = i := by omega
    rw [h, pow_one, hi2]
    rw [hi2] at h1
    omega

end Sys2Proof.Machine
end

section
/-!
PROOF. COUPLE.LOAD (O35): the problem it forms or rejects, and the report and the coupling store it writes.
-/
namespace Sys2Proof.Machine

-- The reads of a load.

/-- What a COUPLE.LOAD reads: the matrix, and where the word names them the biases and the codebooks (02 R25, R31). -/
def State.loadMatrix (s : State) (r : Run) (k w : Nat) : Got := s.readIdx r k (clSrc w) 0 (clN w * clN w * clSize (clType w))
def State.loadBias (s : State) (r : Run) (k w : Nat) : Got := s.readIdx r k (clBias w) 0 (clN w * clSize (clType w))
def State.loadBook (s : State) (r : Run) (k w : Nat) : Got := s.readIdx r k (clCb w) 0 (padOf (clN w) / 8)

/-- The source of a load, from what it reads. -/
def State.loadSource (s : State) (r : Run) (k w : Nat) : Source :=
  { n := clN w, form := clForm w, qubo := clQubo w, type := clType w, coupling := (s.loadMatrix r k w).bytes.toArray,
    bias := if clBias w = 0x3F then #[] else (s.loadBias r k w).bytes.toArray, hasBias := clBias w ≠ 0x3F,
    book := if clForm w = 3 then (s.loadBook r k w).bytes.toArray else #[] }

/-- None of these reads fails, and the host is still reached (09 R265). -/
structure State.LoadReads (s : State) (r : Run) (k w : Nat) : Prop where
  host : r.noHost = false
  coupling : (s.loadMatrix r k w).fail = none
  bias : clBias w ≠ 0x3F → (s.loadBias r k w).fail = none
  book : clForm w = 3 → (s.loadBook r k w).fail = none

-- What a load leaves.

/-- The memory after a load: the report, and for input taken, finite and with margin in every row, the coupling store (02 R30, R33 to R35). -/
def Source.written (x : Source) (r : Run) (w : Nat) (s : State) : State :=
  let t := s.writeIdx r (clReport w) 0 (x.report x.finite)
  if x.finite = true ∧ 0 ≤ x.headroom then t.writeIdx r (clDst w) 0 x.bytes else t

/-- What a load leaves, and its failure: the problem, its biases and no mark that names it; or the problem it met, with INPUT_REJECT (02 R34, R35, R53). -/
def Source.loaded (x : Source) (d : Nat) (r : Run) (k w : Nat) (s : State) : Done :=
  let t := x.written r w s
  let q := x.problem (clDst w) (r.problem (anProb w))
  if x.finite = true ∧ 0 ≤ x.headroom then (((t.putBiases q (anProb w) x.b).clearMarks (anProb w)).setProblem d (anProb w) q, none)
  else ((t.failInput r k).1, some (t.failInput r k).2)

/-- The order in which the effect of COUPLE.LOAD comes to what it leaves: a report that is not finite, a report without margin, or the load. -/
theorem Source.done_loaded (x : Source) (d : Nat) (r : Run) (k w : Nat) (s : State) :
    (if (!x.finite) = true then
      Effect.done ((s.writeIdx r (clReport w) 0 (x.report false)).failInput r k).1 (some ((s.writeIdx r (clReport w) 0 (x.report false)).failInput r k).2)
    else if x.headroom < 0 then
      .done ((s.writeIdx r (clReport w) 0 (x.report true)).failInput r k).1 (some ((s.writeIdx r (clReport w) 0 (x.report true)).failInput r k).2)
    else .done (((((s.writeIdx r (clReport w) 0 (x.report true)).writeIdx r (clDst w) 0 x.bytes).putBiases (x.problem (clDst w) (r.problem (anProb w))) (anProb w)
      x.b).clearMarks (anProb w)).setProblem d (anProb w) (x.problem (clDst w) (r.problem (anProb w)))) none) =
    .done (x.loaded d r k w s).1 (x.loaded d r k w s).2 := by
  unfold Source.loaded Source.written
  cases hf : x.finite with
  | false => rfl
  | true =>
    by_cases hh : x.headroom < 0
    · simp [not_le.2 hh, hh]
    · simp [hh, not_lt.1 hh]

/-- The effect of a COUPLE.LOAD whose reads do not fail in a state that reads as `s`. -/
theorem effCoupleLoad_of_readable {s t : State} (hm : s.mem.Alike t.mem) {r : Run} {k w : Nat} (d : Nat) (h : s.LoadReads r k w) :
    ∃ u, t.Reads u ∧ effCoupleLoad d r k w t = .done ((s.loadSource r k w).loaded d r k w u).1 ((s.loadSource r k w).loaded d r k w u).2 := by
  obtain ⟨hhost, ha, hb, hc⟩ := h
  have ra := State.readIdx_repeats hm ha
  obtain ⟨b, hbdef, hbfail, hbreads, hbbytes⟩ : ∃ b : Got, b = (if clBias w = 0x3F then ⟨[], (t.loadMatrix r k w).st, none⟩
      else (t.loadMatrix r k w).st.loadBias r k w) ∧ b.fail = none ∧ (t.loadMatrix r k w).st.Reads b.st ∧
        b.bytes.toArray = if clBias w = 0x3F then #[] else (s.loadBias r k w).bytes.toArray := by
    by_cases hw : clBias w = 0x3F
    · simp only [if_pos hw]
      exact ⟨_, rfl, rfl, .refl _, rfl⟩
    · have hrep := State.readIdx_repeats (hm.trans ra.reads.alike) (hb hw)
      simp only [if_neg hw]
      exact ⟨_, rfl, hrep.fail, hrep.reads, congrArg List.toArray (hrep.bytes (.inl hhost))⟩
  obtain ⟨c, hcdef, hcfail, hcreads, hcbytes⟩ : ∃ c : Got, c = (if clForm w = 3 then b.st.loadBook r k w else ⟨[], b.st, none⟩) ∧ c.fail = none ∧ b.st.Reads c.st ∧
        c.bytes.toArray = if clForm w = 3 then (s.loadBook r k w).bytes.toArray else #[] := by
    by_cases hw : clForm w = 3
    · have hrep := State.readIdx_repeats (hm.trans (ra.reads.trans hbreads).alike) (hc hw)
      simp only [if_pos hw]
      exact ⟨_, rfl, hrep.fail, hrep.reads, congrArg List.toArray (hrep.bytes (.inl hhost))⟩
    · simp only [if_neg hw]
      exact ⟨_, rfl, rfl, .refl _, rfl⟩
  refine ⟨c.st, (ra.reads.trans hbreads).trans hcreads, ?_⟩
  have hafail : (t.loadMatrix r k w).fail = none := ra.fail
  have habytes : (t.loadMatrix r k w).bytes = (s.loadMatrix r k w).bytes := ra.bytes (.inl hhost)
  unfold effCoupleLoad
  simp only [State.loadMatrix, State.loadBias, State.loadBook] at hafail habytes hbdef hcdef
  simp only [← hbdef, ← hcdef, hafail, hbfail, hcfail, firstFail, Option.or_none, habytes, hbbytes, hcbytes]
  exact (s.loadSource r k w).done_loaded d r k w c.st

-- Frames of what a load leaves.

section
variable (x : Source) (d k w : Nat) (r : Run) (s : State)

theorem State.putBiases_distaffs (q : Problem) (p : Nat) (b : Nat → Int) : (s.putBiases q p b).distaffs = s.distaffs := by
  refine foldl_keeps State.distaffs _ (fun t u => ?_) _ _
  rfl

/-- The biases lie in the Spindles' local stores alone (03 R56). -/
theorem State.putBiases_byteAt (q : Problem) (p : Nat) (b : Nat → Int) {sp : Nat} (hsp : sp ≤ 5) (h3 : sp ≠ 3) (a : Nat) :
    (s.putBiases q p b).byteAt sp a = s.byteAt sp a := by
  refine foldl_keeps (fun t : State => t.byteAt sp a) _ (fun t u => ?_) _ _
  exact (t.byteAt_put 3 _ _ sp a (by decide) hsp).trans (if_neg fun h => h3 h.1)

theorem State.setProblem_byteAt (p : Nat) (q : Problem) (sp a : Nat) : (s.setProblem d p q).byteAt sp a = s.byteAt sp a := rfl
theorem State.clearMarks_byteAt (p sp a : Nat) : (s.clearMarks p).byteAt sp a = s.byteAt sp a := rfl
theorem State.clearMarks_distaffs (p : Nat) : (s.clearMarks p).distaffs = s.distaffs := rfl

theorem Source.written_distaffs : (x.written r w s).distaffs = s.distaffs := by
  unfold Source.written
  split
  · exact (State.writeIdx_distaffs _ _ _ _ _).trans (State.writeIdx_distaffs _ _ _ _ _)
  · exact State.writeIdx_distaffs _ _ _ _ _

/-- Outside the Spindles' local stores a load writes its report and its coupling store alone. -/
theorem Source.loaded_byteAt {sp : Nat} (hsp : sp ≤ 5) (h3 : sp ≠ 3) (a : Nat) : (x.loaded d r k w s).1.byteAt sp a = (x.written r w s).byteAt sp a := by
  unfold Source.loaded
  split
  · rw [State.setProblem_byteAt, State.clearMarks_byteAt]
    exact State.putBiases_byteAt _ _ _ _ hsp h3 a
  · exact State.failInput_byteAt _ _ _ _ _

/-- The hank's problems after a load. -/
theorem Source.loaded_run {r : Run} {s : State} (h : s.run d = some r) : ∃ y, (x.loaded d r k w s).1.run d = some y ∧ y.issued = r.issued ∧
    (if x.finite = true ∧ 0 ≤ x.headroom then y.problem (anProb w) = some (x.problem (clDst w) (r.problem (anProb w)))
      else y.problem (anProb w) = r.problem (anProb w)) ∧
    ∀ p, p ≠ anProb w → y.problem p = r.problem p := by
  have hw : (x.written r w s).run d = some r := (State.run_congr (x.written_distaffs w r s) d).trans h
  unfold Source.loaded
  split
  · have hb := (State.run_congr (((State.clearMarks_distaffs _ (anProb w)).trans
      ((x.written r w s).putBiases_distaffs (x.problem (clDst w) (r.problem (anProb w))) (anProb w) x.b))) d).trans hw
    refine ⟨_, State.run_setProblem hb _ _, rfl, ?_, fun p hp => ?_⟩
    · exact (Run.problem_vset r _ _ _ (anProb_lt w)).trans (if_pos rfl)
    · exact (Run.problem_vset r _ _ _ (anProb_lt w)).trans (if_neg (Ne.symm hp))
  · obtain ⟨m, hrun⟩ := State.run_failInput hw r k
    exact ⟨_, hrun, rfl, rfl, fun p _ => rfl⟩

theorem State.mark_clearMarks (p v : Nat) : ((s.clearMarks p).spindle v).mark ≠ some p := by
  by_cases hv : v < 128
  · simp only [State.spindle, State.clearMarks, vget_eq _ _ _ hv, Vector.getElem_map]
    split
    · exact nofun
    · assumption
  · rw [State.spindle, vget_of_le _ _ _ (by omega)]
    exact nofun

end

end Sys2Proof.Machine
end

section
/-!
PROOF. COUPLE.LOAD, its outputs (O35): where the report and the coupling store lie, and the statement.
-/
namespace Sys2Proof.Machine

theorem State.bytes_congr {s t : State} {sp : Nat} (h : ∀ a, t.byteAt sp a = s.byteAt sp a) (a n : Nat) : t.bytes sp a n = s.bytes sp a n :=
  List.map_congr_left fun _ _ => h _

/-- Where a buffer of a hank begins in its memory; host memory is that of the hank's function. -/
def Buffer.start (b : Buffer) (r : Run) : Nat := if b.space = 2 then hostKey r.owner b.base else b.base

theorem State.writeIdx_eq_put (s : State) {r : Run} {i : Nat} {b : Buffer} (hb : r.buf i = some b) (hhost : r.noHost = false) (bs : Bytes) :
    s.writeIdx r i 0 bs = s.put b.space (b.start r) bs := by
  unfold State.writeIdx State.writeBuf Buffer.start
  simp only [hb, hhost, Bool.false_eq_true, if_false, Nat.add_zero]
  split
  case isTrue h => rw [h]
  case isFalse => rfl

/-- The two outputs of a load, in memories that hold buffers, and apart. -/
structure Run.LoadOutputs (r : Run) (w : Nat) (x : Source) (rep dst : Buffer) : Prop where
  host : r.noHost = false
  report : r.buf (clReport w) = some rep
  store : r.buf (clDst w) = some dst
  reportSpace : rep.space ≤ 2
  storeSpace : dst.space ≤ 2
  apart : rep.space ≠ dst.space ∨ rep.start r + 64 ≤ dst.start r ∨ dst.start r + x.bytes.length ≤ rep.start r

section
variable {r : Run} {w : Nat} {x : Source} {rep dst : Buffer}

theorem Run.LoadOutputs.written_eq (h : r.LoadOutputs w x rep dst) (s : State) : x.written r w s =
    if x.finite = true ∧ 0 ≤ x.headroom then (s.put rep.space (rep.start r) (x.report x.finite)).put dst.space (dst.start r) x.bytes
    else s.put rep.space (rep.start r) (x.report x.finite) := by
  unfold Source.written
  simp only [State.writeIdx_eq_put _ h.report h.host, State.writeIdx_eq_put _ h.store h.host]

/-- The report stands where its buffer begins. -/
theorem Run.LoadOutputs.report_bytes (h : r.LoadOutputs w x rep dst) (s : State) {o n : Nat} (ho : o + n ≤ 64) :
    (x.written r w s).bytes rep.space (rep.start r + o) n = ((x.report x.finite).drop o).take n := by
  have hrep := h.reportSpace
  have hdst := h.storeSpace
  have hread := s.bytes_put_part rep.space (rep.start r) (x.report x.finite) o n (by omega) (by rwa [Source.report_length])
  rw [h.written_eq]
  split
  · rw [State.bytes_put_of_disjoint _ _ _ _ _ _ _ (by omega) (by omega) (by have := h.apart; omega)]
    exact hread
  · exact hread

/-- The coupling store of a load taken stands where its buffer begins. -/
theorem Run.LoadOutputs.store_byteAt (h : r.LoadOutputs w x rep dst) (s : State) (ht : x.finite = true ∧ 0 ≤ x.headroom) {o : Nat} (ho : o < x.bytes.length) :
    (x.written r w s).byteAt dst.space (dst.start r + o) = x.bytes.getD o 0 := by
  have hdst := h.storeSpace
  rw [h.written_eq, if_pos ht, State.byteAt_put _ _ _ _ _ _ (by omega) (by omega), if_pos ⟨rfl, by omega, by omega⟩, Nat.add_sub_cancel_left]

/-- A load rejected writes its report alone. -/
theorem Run.LoadOutputs.byteAt_of_rejected (h : r.LoadOutputs w x rep dst) (s : State) (ht : ¬(x.finite = true ∧ 0 ≤ x.headroom)) {p v : Nat} (hp : p ≤ 5)
    (hrep : p ≠ rep.space ∨ v < rep.start r ∨ rep.start r + 64 ≤ v) : (x.written r w s).byteAt p v = s.byteAt p v := by
  have hspace := h.reportSpace
  rw [h.written_eq, if_neg ht, State.byteAt_put _ _ _ _ _ _ (by omega) hp, Source.report_length, if_neg (by omega)]

/-- A load rejected leaves the coupling store's buffer. -/
theorem Run.LoadOutputs.store_of_rejected (h : r.LoadOutputs w x rep dst) (s : State) (ht : ¬(x.finite = true ∧ 0 ≤ x.headroom)) {o : Nat} (ho : o < x.bytes.length) :
    (x.written r w s).byteAt dst.space (dst.start r + o) = s.byteAt dst.space (dst.start r + o) := by
  have hapart := h.apart
  have hstore := h.storeSpace
  exact h.byteAt_of_rejected s ht (by omega) (by omega)

/-- A load leaves every byte outside its two outputs. -/
theorem Run.LoadOutputs.byteAt_outside (h : r.LoadOutputs w x rep dst) (s : State) {p v : Nat} (hp : p ≤ 5)
    (hrep : p ≠ rep.space ∨ v < rep.start r ∨ rep.start r + 64 ≤ v) (hdst : p ≠ dst.space ∨ v < dst.start r ∨ dst.start r + x.bytes.length ≤ v) :
    (x.written r w s).byteAt p v = s.byteAt p v := by
  have hspace := h.reportSpace
  have hstore := h.storeSpace
  by_cases ht : x.finite = true ∧ 0 ≤ x.headroom
  · rw [h.written_eq, if_pos ht, State.byteAt_put _ _ _ _ _ _ (by omega) hp, if_neg (by omega), State.byteAt_put _ _ _ _ _ _ (by omega) hp, Source.report_length,
      if_neg (by omega)]
  · exact h.byteAt_of_rejected s ht hp hrep

end

/-- COUPLE.LOAD on a word at its units, by what it leaves. -/
theorem State.coupleLoad_ran {s s0 : State} {d : Fin 8} {r : Run} {k w : Nat} (h : s.atUnits d .coupleLoad = some (s0, r, k, w)) (hread : s.LoadReads r k w) :
    ∃ u t, exec (.coupleLoad d) s = .next t ∧ (∀ sp a, u.byteAt sp a = s.byteAt sp a) ∧ u.run d = some r ∧
      State.Ran ((s.loadSource r k w).loaded d r k w u).1 t d k ((s.loadSource r k w).loaded d r k w u).2 := by
  have hh := State.handed_of_atUnits h
  obtain ⟨u, hu, heff⟩ := effCoupleLoad_of_readable hh.alike d.val hread
  have hrun := (hu.run d).trans hh.run
  obtain ⟨y, hy, hissued, -⟩ := (s.loadSource r k w).loaded_run d k w hrun
  exact ⟨u, _, rfl, fun sp a => (hu.byteAt sp a).trans (hh.byteAt sp a), hrun, State.word_done h heff hy hissued⟩

/-- The problem of a load (02 R27 to R35, R53). -/
theorem State.coupleLoad_problem {s s0 : State} {d : Fin 8} {r : Run} {k w : Nat} (h : s.atUnits d .coupleLoad = some (s0, r, k, w)) (hread : s.LoadReads r k w) :
    let x := s.loadSource r k w
    ∃ t z f, exec (.coupleLoad d) s = .next t ∧ t.ranWith d k f ∧ t.run d = some z ∧
      (if x.finite = true ∧ 0 ≤ x.headroom then
          f = none ∧ z.problem (anProb w) = some (x.problem (clDst w) (r.problem (anProb w))) ∧ ∀ u < 128, (t.spindle u).mark ≠ some (anProb w)
        else (f.map fun g => (g.status, g.cause)) = some (0xF0, 0x30) ∧ z.problem (anProb w) = r.problem (anProb w)) ∧
      ∀ p, p ≠ anProb w → z.problem p = r.problem p := by
  obtain ⟨u, t, hexec, -, hrun, hran⟩ := State.coupleLoad_ran h hread
  dsimp only
  generalize s.loadSource r k w = x at hran ⊢
  obtain ⟨y, hy, -, hprob, hother⟩ := x.loaded_run d k w hrun
  obtain ⟨z, hz, hzy⟩ := hran.problem y hy
  refine ⟨t, z, _, hexec, hran.ran, hz, ?_, fun p hp => (hzy p).trans (hother p hp)⟩
  rw [← hzy] at hprob
  split
  · rename_i ht
    rw [if_pos ht] at hprob
    rw [Source.loaded, if_pos ht] at hran
    refine ⟨by rw [Source.loaded, if_pos ht], hprob, fun v _ => ?_⟩
    rw [hran.spindle, State.spindle_setProblem]
    exact State.mark_clearMarks _ _ _
  · rename_i ht
    rw [if_neg ht] at hprob
    obtain ⟨hstatus, hcause⟩ := (x.written r w u).failInput_failure r k
    rw [Source.loaded, if_neg ht, Option.map_some, hstatus, hcause]
    exact ⟨rfl, hprob⟩

/-- The bytes after a load, outside the Spindles' local stores: those of its two writes. -/
theorem State.coupleLoad_written {s s0 : State} {d : Fin 8} {r : Run} {k w : Nat} (h : s.atUnits d .coupleLoad = some (s0, r, k, w)) (hread : s.LoadReads r k w) :
    ∃ u t, exec (.coupleLoad d) s = .next t ∧ (∀ sp a, u.byteAt sp a = s.byteAt sp a) ∧
      ∀ sp a, sp ≤ 5 → sp ≠ 3 → t.byteAt sp a = ((s.loadSource r k w).written r w u).byteAt sp a := by
  obtain ⟨u, t, hexec, hbytes, -, hran⟩ := State.coupleLoad_ran h hread
  exact ⟨u, t, hexec, hbytes, fun sp a hsp h3 => (hran.byteAt sp a).trans (Source.loaded_byteAt _ _ _ _ _ _ hsp h3 a)⟩

/-- The fields of a report that reads as it was written (02 R33, R34). -/
theorem Source.fields_of_report {x : Source} {f : Nat → Nat → Bytes} (hf : ∀ o m, o + m ≤ 64 → f o m = ((x.report x.finite).drop o).take m) :
    let flags := (if x.qubo = true then 1 else 0) + (if x.form = 3 then 4 else 0)
    f 24 4 = le 4 x.n ∧ f 28 4 = le 4 (padOf x.n) ∧ f 56 8 = zeros 8 ∧
      (x.finite = false → f 0 24 = zeros 24 ∧ f 40 8 = zeros 8 ∧ f 48 4 = le 4 (flags + 16) ∧ f 52 4 = zeros 4) ∧
      (x.finite = true → f 0 4 = le 4 (fp32.round false x.m (qmaxOf x.form * 2 ^ 151)) ∧ f 4 4 = le 4 (fp32.round false x.m (2 ^ 151)) ∧
        f 16 8 = le 8 (wrap 64 x.offset) ∧ f 40 8 = le 8 (wrap 64 x.headroom) ∧
        f 48 4 = le 4 (flags + (if x.top = 0 then 2 else 0) + (if x.headroom < 0 then 8 else 0))) := by
  have hflags : (if x.qubo = true then 1 else 0) + (if x.form = 3 then 4 else 0) = x.flags := by simp only [Source.flags, Source.host, decide_eq_true_eq]
  obtain ⟨hn, hpad, hzero⟩ := x.report_common x.finite
  dsimp only
  rw [hflags]
  refine ⟨(hf 24 4 (by decide)).trans hn, (hf 28 4 (by decide)).trans hpad, (hf 56 8 (by decide)).trans hzero, fun hx => ?_, fun hx => ?_⟩
  · rw [hx] at hf
    obtain ⟨h0, h40, h48, h52⟩ := x.report_bad
    exact ⟨(hf 0 24 (by decide)).trans h0, (hf 40 8 (by decide)).trans h40, (hf 48 4 (by decide)).trans h48, (hf 52 4 (by decide)).trans h52⟩
  · rw [hx] at hf
    obtain ⟨h0, h4, h16, h40, h48⟩ := x.report_finite
    exact ⟨(hf 0 4 (by decide)).trans h0, (hf 4 4 (by decide)).trans h4, (hf 16 8 (by decide)).trans h16, (hf 40 8 (by decide)).trans h40,
      (hf 48 4 (by decide)).trans h48⟩

/-- The codes of a coupling store that reads as it was written (03 R59). -/
theorem Source.codes_of_bytes {x : Source} {f : Nat → Byte} {a : Nat} (hf : ∀ o < x.bytes.length, f (a + o) = x.bytes.getD o 0) :
    let col := columnBytes x.form (padOf x.n)
    ∀ j < padOf x.n, ∀ i < padOf x.n, if x.form = 1 then f (a + j * col + i) = BitVec.ofNat 8 (x.store i j)
      else (f (a + j * col + i / 2)).toNat / 16 ^ (i % 2) % 16 = x.store i j := by
  intro col j hj i hi
  have hlast : (j + 1) * col ≤ x.bytes.length := x.bytes_length ▸ Nat.mul_le_mul_right col hj
  rw [Nat.succ_mul] at hlast
  split
  · rename_i hx
    have hcol : col = padOf x.n := if_pos hx
    rw [Nat.add_assoc, hf _ (by omega)]
    exact Source.bytes_getD_wide hx hi hj
  · rename_i hx
    have hcol : col = padOf x.n / 2 := if_neg hx
    have heven := padOf_even x.n
    rw [Nat.add_assoc, hf _ (by omega)]
    exact Source.bytes_getD_nibble hx hi hj

/-- What a stored code stands for is nearest to qmax × J / M (02 R29). -/
theorem Source.store_near {x : Source} (hx : x.form ≤ 2) {i j : Nat} (hi : i < x.n) (hj : j < x.n) (hne : i ≠ j) :
    2 * ((qmaxOf x.form : Int) * x.j i j - codeOf x.form (x.store i j) * x.m).natAbs ≤ x.m := by
  rw [Source.codeOf_store hx hi hj hne]
  exact x.code_near i j

/-- An index of a host codebook names a nearest entry of its row's block (02 R31). -/
theorem Source.store_nearest {x : Source} (hx : x.form = 3) {i j : Nat} (hi : i < x.n) (hj : j < x.n) (hne : i ≠ j) : x.store i j < 16 ∧ ∀ e < 16,
    (x.j i j - 4 * (x.cb (i / 256) (x.store i j)).getD 0).natAbs ≤ (x.j i j - 4 * (x.cb (i / 256) e).getD 0).natAbs := by
  rw [Source.store_on hi hj hne, hx, if_neg (by decide), if_neg (by decide), if_neg (by decide)]
  exact x.nearest_spec _ _

/-- The coupling store of a load taken, where it reads as it was written: its places, code 0 off the matrix, and nearest codes (02 R29 to R31; 03 R59). -/
theorem Source.store_of_bytes {x : Source} {f : Nat → Byte} {a : Nat} (hf : ∀ o < x.bytes.length, f (a + o) = x.bytes.getD o 0) :
    let pad := padOf x.n
    let col := columnBytes x.form pad
    (∀ j < pad, ∀ i < pad, if x.form = 1 then f (a + j * col + i) = BitVec.ofNat 8 (x.store i j)
      else (f (a + j * col + i / 2)).toNat / 16 ^ (i % 2) % 16 = x.store i j) ∧
    (∀ i j, i = j ∨ x.n ≤ i ∨ x.n ≤ j → x.store i j = if x.form ≤ 1 then 0 else 8) ∧
    (∀ i < x.n, ∀ j < x.n, i ≠ j → x.form ≤ 2 →
      let code := if x.form = 2 then (x.store i j : Int) - 8 else signed (if x.form = 1 then 8 else 4) (x.store i j)
      2 * ((qmaxOf x.form : Int) * x.j i j - code * (x.m : Int)).natAbs ≤ x.m) ∧
    ∀ i < x.n, ∀ j < x.n, i ≠ j → x.form = 3 → x.store i j < 16 ∧ ∀ e < 16,
      (x.j i j - 4 * (x.cb (i / 256) (x.store i j)).getD 0).natAbs ≤ (x.j i j - 4 * (x.cb (i / 256) e).getD 0).natAbs :=
  ⟨Source.codes_of_bytes hf, fun _ _ hoff => Source.store_off hoff, fun _ hi _ hj hne hform => Source.store_near hform hi hj hne,
    fun _ hi _ hj hne hform => Source.store_nearest hform hi hj hne⟩

/-- Settles O35: a load is its reads, then its report, then the problem and the coupling store of its source, or the rejection. -/
theorem coupleLoadFormsTheProblem : Obligations.CoupleLoadFormsTheProblem := by
  refine ⟨fun s s0 d r k w h hhost ha hb hc => ?_, fun s s0 d r k w rep dst h hhost ha hb hc hrep hdst hrs hds hapart => ?_⟩
  · obtain ⟨t, z, f, hexec, hran, hz, hif, hother⟩ := State.coupleLoad_problem h ⟨hhost, ha, hb, hc⟩
    refine ⟨t, z, f, hexec, hran, hz, ?_, fun p _ hp => hother p hp⟩
    split at hif
    · rename_i ht
      obtain ⟨hf, hprob, hmark⟩ := hif
      exact (if_pos ht).mpr ⟨hf, ⟨_, hprob, rfl, rfl, rfl, rfl, rfl, rfl, rfl⟩, hmark⟩
    · rename_i ht
      exact (if_neg ht).mpr hif
  · obtain ⟨u, t, hexec, hbytes, hwritten⟩ := State.coupleLoad_written h ⟨hhost, ha, hb, hc⟩
    have hlen : (s.loadSource r k w).bytes.length = padOf (clN w) * columnBytes (clForm w) (padOf (clN w)) := Source.bytes_length _
    have hout : r.LoadOutputs w (s.loadSource r k w) rep dst := ⟨hhost, hrep, hdst, hrs, hds, by rw [hlen]; exact hapart⟩
    refine ⟨t, hexec, ?_, ?_, fun p v hp h3 h1 h2 => ?_⟩
    · refine Source.fields_of_report (x := s.loadSource r k w) (f := fun o m => t.bytes rep.space (rep.start r + o) m) fun o m hm => ?_
      exact (State.bytes_congr (fun a => hwritten _ a (by omega) (by omega)) _ _).trans (hout.report_bytes u hm)
    · by_cases ht : (s.loadSource r k w).finite = true ∧ 0 ≤ (s.loadSource r k w).headroom
      · have hstore := Source.store_of_bytes (x := s.loadSource r k w) (f := t.byteAt dst.space) (a := dst.start r) fun o ho =>
          (hwritten _ _ (by omega) (by omega)).trans (hout.store_byteAt u ht ho)
        exact (if_pos ht).mpr hstore
      · exact (if_neg ht).mpr fun v hv =>
          (hwritten _ _ (by omega) (by omega)).trans ((hout.store_of_rejected u ht (by rw [hlen]; exact hv)).trans (hbytes _ _))
    · exact (hwritten p v hp h3).trans ((hout.byteAt_outside u hp h1 (by rw [hlen]; exact h2)).trans (hbytes p v))

end Sys2Proof.Machine
end

section
/-!
SUPPORT. The anneal engine, what both of its modes share: the value of a half after the other half's is replaced, and an arbiter's latest token.
-/
namespace Sys2Proof.Machine

theorem Halves.get_set_of_ne {α : Type} (x : Halves α) {h g : Half} (v : α) (hne : g ≠ h) : (x.set h v).get g = x.get g := by
  cases h with
  | west => cases g with
    | west => exact absurd rfl hne
    | east => rfl
  | east => cases g with
    | west => rfl
    | east => exact absurd rfl hne

/-- Noting the latest token of an arbiter changes nothing but LAST_TOKEN (14 R374). -/
theorem State.noteToken_frame (s : State) (h : Half) (old new : List Token) :
    ∃ x, s.noteToken h old new = { s with units := { s.units with lastToken := x } } := by
  unfold State.noteToken
  split
  · exact ⟨_, rfl⟩
  · exact ⟨s.units.lastToken, rfl⟩

@[simp] theorem State.noteToken_spindles (s : State) (h : Half) (old new : List Token) : (s.noteToken h old new).units.spindles = s.units.spindles := by
  obtain ⟨x, hx⟩ := s.noteToken_frame h old new
  rw [hx]

@[simp] theorem State.noteToken_mem (s : State) (h : Half) (old new : List Token) : (s.noteToken h old new).mem = s.mem := by
  obtain ⟨x, hx⟩ := s.noteToken_frame h old new
  rw [hx]

@[simp] theorem State.noteToken_anneal (s : State) (h : Half) (old new : List Token) : (s.noteToken h old new).anneal = s.anneal := by
  obtain ⟨x, hx⟩ := s.noteToken_frame h old new
  rw [hx]

end Sys2Proof.Machine
end

section
/-!
PROOF. OPEN_EVALUATION (O41): the slot whose turn is due, the decision taken for it, and the turn it ends.
-/
namespace Sys2Proof.Machine

-- The slots of a cell.

/-- The ply and the variable of slot k of a cell (03 R55). -/
def Problem.cellPlace (q : Problem) (l cell k : Nat) : Nat × Nat := ((1024 * k + cell) / max 1 q.m, l * q.m + (1024 * k + cell) % max 1 q.m)

/-- The number of slot k of a cell among the turns of a pass (03 R68). -/
def slotNumber (l cell k : Nat) : Nat := 8192 * l + 1024 * k + cell

/-- Slot k of a cell holds a variable of a ply. -/
def Problem.occupies (q : Problem) (l cell k : Nat) : Bool := decide ((q.cellPlace l cell k).1 < q.plies) && decide ((q.cellPlace l cell k).2 < q.n)

/-- An occupied slot of the cell below this one still waits for its turn (03 R68). -/
def AnnealRun.waitsBelow (a : AnnealRun) (q : Problem) (l cell slot : Nat) : Bool :=
  (List.range slot).any fun k => q.occupies l cell k && !(a.seen.get (halfOfSpindle l)).contains (slotNumber l cell k)

/-- The half may evaluate: it has passes left and its noise is READY (03 R68, R71; 04 R96). -/
structure State.Evaluates (s : State) (a : AnnealRun) (q : Problem) (h : Half) : Prop where
  passes : a.passesDone q h = false
  ready : s.noise.half.get h = 1

/-- The turn of an occupied slot of a cell is due: it has not come in this pass, and that of every lower occupied slot has (03 R68). -/
structure AnnealRun.TurnDue (a : AnnealRun) (q : Problem) (l cell slot : Nat) : Prop where
  ply : (q.cellPlace l cell slot).1 < q.plies
  var : (q.cellPlace l cell slot).2 < q.n
  unseen : (a.seen.get (halfOfSpindle l)).contains (slotNumber l cell slot) = false
  lower : ∀ k < slot, (q.cellPlace l cell k).1 < q.plies → (q.cellPlace l cell k).2 < q.n → (a.seen.get (halfOfSpindle l)).contains (slotNumber l cell k) = true

theorem AnnealRun.TurnDue.occupied {a : AnnealRun} {q : Problem} {l cell slot : Nat} (h : a.TurnDue q l cell slot) : q.occupies l cell slot = true := by
  rw [Problem.occupies, decide_eq_true h.ply, decide_eq_true h.var]
  rfl

theorem AnnealRun.TurnDue.none_below {a : AnnealRun} {q : Problem} {l cell slot : Nat} (h : a.TurnDue q l cell slot) : a.waitsBelow q l cell slot = false := by
  refine List.any_eq_false.2 fun k hk => ?_
  simp only [Problem.occupies, Bool.and_eq_true, decide_eq_true_eq, Bool.not_eq_true', not_and, Bool.not_eq_false, and_imp]
  exact h.lower k (List.mem_range.1 hk)

-- One evaluation.

/-- The decision of a variable on its present field and a noise word (02 R38; 03 R68). -/
def State.openDecision (s : State) (q : Problem) (a : AnnealRun) (p i w : Nat) : Bool :=
  decide_ a.rule a.dist (q.plus p i) (s.field q p i) w (a.tfx.getD p 0) (a.bfx.getD p 0)

theorem State.evaluate_of_no_flip {s : State} {r : Run} {q : Problem} {a : AnnealRun} {p i w cycle : Nat} (h : s.openDecision q a p i w = q.plus p i) :
    s.evaluate r q a p i w cycle = a := if_pos h

/-- A flip sends one request to the arbiter of the variable's half (03 R69). -/
theorem State.evaluate_of_flip {s : State} {r : Run} {q : Problem} {a : AnnealRun} {p i w cycle : Nat} (h : s.openDecision q a p i w ≠ q.plus p i) :
    ∃ x : FlipRequest, x.ply = p ∧ x.var = i ∧ x.up = s.openDecision q a p i w ∧ x.cycle = cycle ∧
      s.evaluate r q a p i w cycle = { a with arriving := a.arriving.set (q.halfOf i) (a.arriving.get (q.halfOf i) ++ [x]) } :=
  ⟨_, rfl, rfl, rfl, rfl, if_neg h⟩

/-- An evaluation leaves everything of the run but the requests that arrive. -/
theorem State.evaluate_frame (s : State) (r : Run) (q : Problem) (a : AnnealRun) (p i w cycle : Nat) :
    s.evaluate r q a p i w cycle = { a with arriving := (s.evaluate r q a p i w cycle).arriving } := by
  by_cases h : s.openDecision q a p i w = q.plus p i
  · rw [State.evaluate_of_no_flip h]
  · obtain ⟨x, -, -, -, -, hx⟩ := State.evaluate_of_flip (r := r) (cycle := cycle) h
    rw [hx]

theorem State.evaluate_passes (s : State) (r : Run) (q : Problem) (a : AnnealRun) (p i w cycle : Nat) : (s.evaluate r q a p i w cycle).passes = a.passes := by
  rw [State.evaluate_frame]

theorem State.evaluate_seen (s : State) (r : Run) (q : Problem) (a : AnnealRun) (p i w cycle : Nat) : (s.evaluate r q a p i w cycle).seen = a.seen := by
  rw [State.evaluate_frame]

/-- A turn is taken in the pass, or it is the pass's last (03 R68), and nothing else of the run changes. -/
theorem AnnealRun.takeTurn_frame (a : AnnealRun) (q : Problem) (h : Half) (id : Nat) :
    a.takeTurn q h id = { a with seen := (a.takeTurn q h id).seen, passes := (a.takeTurn q h id).passes } := by
  unfold AnnealRun.takeTurn
  dsimp only
  split <;> rfl

theorem AnnealRun.takeTurn_turn (a : AnnealRun) (q : Problem) (h : Half) (id : Nat) :
    (a.takeTurn q h id).passes.get h = a.passes.get h + 1 ∨ (a.takeTurn q h id).seen.get h = id :: a.seen.get h := by
  unfold AnnealRun.takeTurn
  dsimp only
  split
  · exact .inl (Halves.get_set _ _ _)
  · exact .inr (Halves.get_set _ _ _)

/-- The run after the turn of a slot was taken with an evaluation. -/
def State.evaluated (s : State) (r : Run) (q : Problem) (a : AnnealRun) (l cell slot w cycle : Nat) : AnnealRun :=
  let place := q.cellPlace l cell slot
  { (s.evaluate r q a place.1 place.2 w cycle).takeTurn q (halfOfSpindle l) (slotNumber l cell slot) with decided := true }

theorem State.evaluated_frame (s : State) (r : Run) (q : Problem) (a : AnnealRun) (l cell slot w cycle : Nat) :
    (s.evaluated r q a l cell slot w cycle).deciding = a.deciding ∧ (s.evaluated r q a l cell slot w cycle).tokens = a.tokens ∧
      (s.evaluated r q a l cell slot w cycle).arriving = (s.evaluate r q a (q.cellPlace l cell slot).1 (q.cellPlace l cell slot).2 w cycle).arriving := by
  unfold State.evaluated
  dsimp only
  rw [AnnealRun.takeTurn_frame, State.evaluate_frame]
  exact ⟨rfl, rfl, rfl⟩

theorem State.evaluated_turn (s : State) (r : Run) (q : Problem) (a : AnnealRun) (l cell slot w cycle : Nat) :
    (s.evaluated r q a l cell slot w cycle).passes.get (halfOfSpindle l) = a.passes.get (halfOfSpindle l) + 1 ∨
      (s.evaluated r q a l cell slot w cycle).seen.get (halfOfSpindle l) = slotNumber l cell slot :: a.seen.get (halfOfSpindle l) := by
  rw [← s.evaluate_passes r q a (q.cellPlace l cell slot).1 (q.cellPlace l cell slot).2 w cycle,
    ← s.evaluate_seen r q a (q.cellPlace l cell slot).1 (q.cellPlace l cell slot).2 w cycle]
  exact AnnealRun.takeTurn_turn _ q (halfOfSpindle l) (slotNumber l cell slot)

theorem exec_openEvaluation {s : State} {a : AnnealRun} {r : Run} {q : Problem} {l : Fin 128} {cell : Fin 1024} {slot : Fin 8} {cycle word : Nat} {lane : LaneKey}
    (he : s.engine = some (a, r, q)) (hc : a.colourfast = false) (hw : a.startWait = false) (hh : s.Evaluates a q (halfOfSpindle l)) (ht : a.TurnDue q l cell slot)
    (hp : a.pendingVar q (q.cellPlace l cell slot).1 (q.cellPlace l cell slot).2 = false)
    (hs : (s.noise.lane (s.hostOf l) (cell / 8)).serve (s.hostOf l) (cell / 8) cell cycle = some (word, lane)) :
    exec (.openEvaluation l cell slot cycle) s =
      .next ({ s with noise := s.noise.setLane (s.hostOf l) (cell / 8) lane }.setAnneal (s.evaluated r q a l cell slot word cycle)) := by
  have hguard : (a.colourfast || a.startWait || a.passesDone q (halfOfSpindle l) || decide (s.noise.half.get (halfOfSpindle l) ≠ 1) ||
      !q.occupies l cell slot || (a.seen.get (halfOfSpindle l)).contains (slotNumber l cell slot) || a.waitsBelow q l cell slot) = false := by
    rw [hc, hw, hh.passes, hh.ready, ht.occupied, ht.unseen, ht.none_below]
    rfl
  change execOpenEvaluation l cell slot cycle s = _
  unfold execOpenEvaluation
  rw [he]
  dsimp only
  refine (if_neg (Bool.eq_false_iff.1 hguard)).trans ((if_neg (Bool.eq_false_iff.1 hp)).trans ?_)
  rw [hs]
  rfl

/-- Settles O41: the case split is on whether the decision keeps the variable's value. -/
theorem openEvaluationDecidesOnTheField : Obligations.OpenEvaluationDecidesOnTheField := by
  intro s a r q l cell slot cycle word lane he hc hw h place id p i hpasses hready hply hvar hhalf hunseen hlower hpending hserve new
  have hexec := exec_openEvaluation he hc hw ⟨hpasses, hready⟩ ⟨hply, hvar, hunseen, hlower⟩ hpending hserve
  obtain ⟨hdeciding, htokens, harriving⟩ := s.evaluated_frame r q a l cell slot word cycle
  refine ⟨_, _, hexec, rfl, rfl, hdeciding, htokens, s.evaluated_turn r q a l cell slot word cycle, ?_⟩
  by_cases hnew : s.openDecision q a p i word = q.plus p i
  · have hsame := harriving.trans (congrArg AnnealRun.arriving (State.evaluate_of_no_flip (r := r) (cycle := cycle) hnew))
    exact (if_pos hnew).mpr hsame
  · obtain ⟨x, hxp, hxi, hxup, hxcycle, hx⟩ := State.evaluate_of_flip (r := r) (cycle := cycle) hnew
    refine (if_neg hnew).mpr ⟨x, hxp, hxi, hxup, hxcycle, ?_⟩
    rw [harriving.trans (congrArg AnnealRun.arriving hx)]
    dsimp only
    rw [hhalf, Halves.get_set]

end Sys2Proof.Machine
end

section
/-!
PROOF. ARBITER_WINDOW (O42): the order of the requests, those that commit, their tokens, and what the window leaves of the run.
-/
namespace Sys2Proof.Machine

-- The arbiter's order (03 R70).

theorem FlipRequest.before_total (x y : FlipRequest) : x.before y = true ∨ y.before x = true := by
  simp only [FlipRequest.before, Bool.or_eq_true, Bool.and_eq_true, decide_eq_true_eq]
  omega

theorem FlipRequest.before_trans {x y z : FlipRequest} (h : x.before y = true) (g : y.before z = true) : x.before z = true := by
  simp only [FlipRequest.before, Bool.or_eq_true, Bool.and_eq_true, decide_eq_true_eq] at h g ⊢
  omega

/-- Requests in arbiter order. -/
def arbiterOrder (xs : List FlipRequest) : List FlipRequest := xs.foldl (fun l x => insertRequest x l) []

theorem insertRequest_eq_orderedInsert (x : FlipRequest) (l : List FlipRequest) :
    insertRequest x l = l.orderedInsert (fun x y => x.before y = true) x := by
  induction l with
  | nil => rfl
  | cons y l ih => rw [insertRequest, List.orderedInsert_cons, ih]

theorem arbiterOrder_eq_insertionSort (xs : List FlipRequest) :
    arbiterOrder xs = xs.reverse.insertionSort (fun x y => x.before y = true) := by
  simp only [arbiterOrder, insertRequest_eq_orderedInsert, List.insertionSort, List.foldr_reverse]

theorem arbiterOrder_perm (xs : List FlipRequest) : (arbiterOrder xs).Perm xs := by
  rw [arbiterOrder_eq_insertionSort]
  exact (List.perm_insertionSort _ _).trans xs.reverse_perm

theorem arbiterOrder_sorted (xs : List FlipRequest) : (arbiterOrder xs).Pairwise fun x y => x.before y = true := by
  have htotal : Std.Total fun x y : FlipRequest => x.before y = true := ⟨FlipRequest.before_total⟩
  have htrans : IsTrans FlipRequest fun x y => x.before y = true := ⟨fun _ _ _ => FlipRequest.before_trans⟩
  rw [arbiterOrder_eq_insertionSort]
  exact List.pairwise_insertionSort _ _

-- The requests that commit and their tokens.

/-- The requests that a window takes: as many as its capacity admits (03 R64, R67, R70). -/
def State.candidates (s : State) (q : Problem) (a : AnnealRun) (h : Half) : List FlipRequest := (arbiterOrder (a.deciding.get h)).take (s.capacity q a h)

/-- The requests of them that commit (03 R70, R74). -/
def State.committing (s : State) (r : Run) (q : Problem) (a : AnnealRun) (h : Half) : List FlipRequest :=
  if a.tangleGuard then s.guarded r q (s.candidates q a h) else s.candidates q a h

theorem State.capacity_le (s : State) (q : Problem) (a : AnnealRun) (h : Half) : s.capacity q a h ≤ 16 := List.length_filter_le ..

theorem State.committing_sublist (s : State) (r : Run) (q : Problem) (a : AnnealRun) (h : Half) : (s.committing r q a h).Sublist (s.candidates q a h) := by
  unfold State.committing
  split
  · exact List.filter_sublist
  · exact List.Sublist.refl _

theorem State.committing_length (s : State) (r : Run) (q : Problem) (a : AnnealRun) (h : Half) : (s.committing r q a h).length ≤ 16 :=
  calc (s.committing r q a h).length ≤ (s.candidates q a h).length := (s.committing_sublist r q a h).length_le
    _ ≤ s.capacity q a h := List.length_take_le ..
    _ ≤ 16 := s.capacity_le q a h

/-- What commits was a request of the previous window. -/
theorem State.mem_deciding_of_committing {s : State} {r : Run} {q : Problem} {a : AnnealRun} {h : Half} {x : FlipRequest} (hx : x ∈ s.committing r q a h) :
    x ∈ a.deciding.get h :=
  (arbiterOrder_perm _).mem_iff.1 (List.mem_of_mem_take ((s.committing_sublist r q a h).subset hx))

/-- The flip a request asks for. -/
def FlipRequest.flip (x : FlipRequest) : Nat × Nat × Bool := (x.ply, x.var, x.up)

/-- The flip token of a request that commits (03 R61, R70). -/
def FlipRequest.token (x : FlipRequest) (q : Problem) (h : Half) : Token :=
  { ply := x.ply, var := x.var, up := x.up, half := h, cseq := 0, buffered := !q.spilled, applied := [] }

/-- Each request commits once, as its token, in order. -/
theorem State.commitAll_tokens (s : State) (r : Run) (q : Problem) (h : Half) (xs : List FlipRequest) (ts : List Token) (p : Problem) :
    (s.commitAll r q h xs ts p).1 = ts ++ xs.map fun x => x.token q h := by
  induction xs generalizing ts p with
  | nil => exact (List.append_nil ts).symm
  | cons x xs ih =>
    unfold State.commitAll
    rw [ih, List.append_assoc]
    rfl

-- The window.

theorem State.arbitrate_tokens (s : State) (r : Run) (q : Problem) (a : AnnealRun) (h : Half) :
    (s.arbitrate r q a h).1.tokens = a.tokens.set h (a.tokens.get h ++ (s.committing r q a h).map fun x => x.token q h) :=
  congrArg (fun ts => a.tokens.set h (a.tokens.get h ++ ts)) (s.commitAll_tokens r q h (s.committing r q a h) [] q)

theorem State.arbitrate_arriving (s : State) (r : Run) (q : Problem) (a : AnnealRun) (h : Half) : (s.arbitrate r q a h).1.arriving = a.arriving.set h [] := rfl

/-- A request as the commits of a window leave it: stale in its half where one of them is coupled to it (03 R73). -/
def State.metBy (s : State) (r : Run) (q : Problem) (ts : List Token) (x : FlipRequest) : FlipRequest :=
  if ts.any fun t => t.ply = x.ply && decide (s.coef r q x.var t.var ≠ 0) then { x with staleHalf := true } else x

theorem State.flip_metBy (s : State) (r : Run) (q : Problem) (ts : List Token) (x : FlipRequest) : (s.metBy r q ts x).flip = x.flip := by
  unfold State.metBy
  split <;> rfl

/-- The requests of the present window come up for the next (03 R69). -/
theorem State.arbitrate_deciding (s : State) (r : Run) (q : Problem) (a : AnnealRun) (h : Half) : (s.arbitrate r q a h).1.deciding =
    a.deciding.set h ((a.arriving.get h).map (s.metBy r q ((s.committing r q a h).map fun x => x.token q h))) :=
  congrArg (fun ts => a.deciding.set h ((a.arriving.get h).map (s.metBy r q ts))) (s.commitAll_tokens r q h (s.committing r q a h) [] q)

theorem exec_arbiterWindow {s : State} {a : AnnealRun} {r : Run} {q : Problem} {h : Half} (he : s.engine = some (a, r, q)) (hc : a.colourfast = false)
    (hw : a.startWait = false) : exec (.arbiterWindow h) s = .next (((s.setProblem a.distaff a.problem (s.arbitrate r q a h).2).setAnneal
      (s.arbitrate r q a h).1).noteToken h (a.tokens.get h) ((s.arbitrate r q a h).1.tokens.get h)) := by
  change execArbiterWindow h s = _
  unfold execArbiterWindow
  rw [he]
  simp only [hc, hw, Bool.or_self, Bool.false_eq_true, if_false]

/-- Settles O42: the requests that commit are a part of the previous window's in arbiter order, and their tokens are all that the window adds. -/
theorem arbiterAnswersThePreviousWindow : Obligations.ArbiterAnswersThePreviousWindow := by
  intro s a r q h g he hc hw hne
  have hexec := exec_arbiterWindow (h := h) he hc hw
  obtain ⟨last, hlast⟩ := ((s.setProblem a.distaff a.problem (s.arbitrate r q a h).2).setAnneal (s.arbitrate r q a h).1).noteToken_frame h
    (a.tokens.get h) ((s.arbitrate r q a h).1.tokens.get h)
  rw [hlast] at hexec
  have hdeciding := s.arbitrate_deciding r q a h
  have htokens := s.arbitrate_tokens r q a h
  have harriving := s.arbitrate_arriving r q a h
  refine ⟨_, (s.arbitrate r q a h).1, (s.committing r q a h).map fun x => x.token q h, hexec, rfl, ?_, ?_, ?_, ?_, ?_, ?_, ?_, ?_, rfl,
    arbiterOrder (a.deciding.get h), arbiterOrder_perm _, arbiterOrder_sorted _, ?_⟩
  · rw [htokens, Halves.get_set]
  · rw [List.length_map]
    exact s.committing_length r q a h
  · intro x hx
    obtain ⟨y, hy, rfl⟩ := List.mem_map.1 hx
    exact ⟨y, State.mem_deciding_of_committing hy, rfl, rfl, rfl, rfl, rfl⟩
  · rw [harriving, Halves.get_set]
  · rw [hdeciding, Halves.get_set, List.map_map]
    exact List.map_congr_left fun x _ => s.flip_metBy r q _ x
  · rw [htokens, Halves.get_set_of_ne _ _ hne]
  · rw [harriving, Halves.get_set_of_ne _ _ hne]
  · rw [hdeciding, Halves.get_set_of_ne _ _ hne]
  · exact List.map_map

end Sys2Proof.Machine
end

section
/-!
PROOF. The Colourfast walk (O44): an evaluation ahead of the resolution point, a position resolved with and without a flip, and a window retired.
-/
namespace Sys2Proof.Machine

section
variable {s : State} {a : AnnealRun} {r : Run} {q : Problem} {ply : Fin 64} {v : Walk} {key : Nat}

theorem AnnealRun.holdsForSave_of_none (h : a.savePending = none) (w : Walk) : a.holdsForSave w = false := by
  rw [AnnealRun.holdsForSave, h]
  rfl

/-- The walk of a ply goes on: sweeps of the step are left to it, and no save holds it (03 R76; 12 R337). -/
structure State.Walks (s : State) (a : AnnealRun) (r : Run) (q : Problem) (ply : Nat) (v : Walk) : Prop where
  engine : s.engine = some (a, r, q)
  colourfast : a.colourfast = true
  walk : a.walks[ply]? = some v
  sweeps : v.sweep < a.sweeps
  save : a.savePending = none

-- An evaluation ahead (03 R80).

/-- The evaluation of a position on the fields as they stand. -/
def State.evaluationAt (s : State) (q : Problem) (a : AnnealRun) (key ply : Nat) (v : Walk) (pos : Nat) : Evaluation :=
  { ply := ply, position := pos, var := a.visit key q ply v pos, up := s.cfDecide q a key ply (a.visit key q ply v pos) v, commit := v.commits, valid := true }

theorem exec_cfSpeculativeEvaluation {pos : Nat} (h : s.Walks a r q ply v) (hkey : r.key = some key) (hlo : v.position ≤ pos) (hn : pos < q.n)
    (hahead : pos / 64 ≤ v.position / 64 + 8) (hnew : (a.evals.any fun e => e.ply = ply.val && e.position = pos) = false) :
    exec (.cfSpeculativeEvaluation ply pos) s = .next (s.setAnneal { a with evals := a.evals ++ [s.evaluationAt q a key ply v pos] }) := by
  have hguard : (!a.colourfast || decide (a.sweeps ≤ v.sweep) || a.holdsForSave v || decide (pos < v.position) || decide (q.n ≤ pos) ||
      decide (v.position / 64 + 8 < pos / 64) || a.evals.any fun e => e.ply = ply.val && e.position = pos) = false := by
    rw [h.colourfast, a.holdsForSave_of_none h.save, hnew, decide_eq_false (Nat.not_le.2 h.sweeps), decide_eq_false (Nat.not_lt.2 hlo),
      decide_eq_false (Nat.not_le.2 hn), decide_eq_false (Nat.not_lt.2 hahead)]
    rfl
  change execCfSpeculativeEvaluation ply pos s = _
  unfold execCfSpeculativeEvaluation
  simp only [h.engine, h.walk, hkey]
  exact if_neg (Bool.eq_false_iff.1 hguard)

-- A position resolved (03 R80, R81).

/-- The resolved value of the walk's position: a valid evaluation is final, any other decision is made now. -/
def State.resolved (s : State) (q : Problem) (a : AnnealRun) (key ply : Nat) (v : Walk) : Bool :=
  match a.evals.find? fun e => e.ply = ply && e.position = v.position with
  | some e => if e.valid = true then e.up else s.cfDecide q a key ply (a.visit key q ply v v.position) v
  | none => s.cfDecide q a key ply (a.visit key q ply v v.position) v

/-- The position that resolves may do so: it is in the window that retires next, every commit of the ply stands at its Spindle, and a column finds a free buffer. -/
structure AnnealRun.Resolves (a : AnnealRun) (q : Problem) (key ply : Nat) (v : Walk) : Prop where
  inside : v.position < q.n
  window : v.position / 64 = v.retired
  applied : ((a.tokens.w ++ a.tokens.e).any fun x => x.ply = ply && !x.applied.contains (q.spindleOf (a.visit key q ply v v.position))) = false
  column : a.freeColumns q ≠ 0

/-- The run with the evaluation of the walk's position spent, and the ply's walk as given. -/
def AnnealRun.walkOn (a : AnnealRun) (ply : Nat) (v z : Walk) : AnnealRun :=
  { a with evals := a.evals.filter fun e => !(e.ply = ply && e.position = v.position), walks := a.walks.set ply z }

/-- The token that a flip at the walk's position commits. -/
def Walk.token (v : Walk) (q : Problem) (ply i : Nat) (up : Bool) : Token :=
  { ply := ply, var := i, up := up, half := q.halfOf i, cseq := (v.commits + 1) % 16, buffered := !q.spilled, applied := [] }

/-- The run with a flip at the walk's position committed. -/
def AnnealRun.flipped (a : AnnealRun) (q : Problem) (ply : Nat) (v : Walk) (i : Nat) (up : Bool) : AnnealRun :=
  { a.walkOn ply v { v with position := v.position + 1, commits := v.commits + 1 } with
    tokens := a.tokens.set (q.halfOf i) (a.tokens.get (q.halfOf i) ++ [v.token q ply i up]) }

/-- A flip at the walk's position: counted in the ply's summary, committed, and noted by its arbiter. -/
def State.flipAt (s : State) (q : Problem) (a : AnnealRun) (ply : Nat) (v : Walk) (i : Nat) (up : Bool) : State :=
  ((s.setProblem a.distaff a.problem { q with stats := q.stats.modify ply fun y => { y with flips := y.flips + 1 } }).setAnneal
    (a.flipped q ply v i up)).noteToken (q.halfOf i) [] [v.token q ply i up]

theorem State.flipAt_frame (s : State) (q : Problem) (a : AnnealRun) (ply : Nat) (v : Walk) (i : Nat) (up : Bool) :
    (s.flipAt q a ply v i up).units.spindles = s.units.spindles ∧ (s.flipAt q a ply v i up).mem = s.mem ∧
      (s.flipAt q a ply v i up).anneal = some (a.flipped q ply v i up) :=
  ⟨State.noteToken_spindles .., State.noteToken_mem .., State.noteToken_anneal ..⟩

theorem exec_cfPositionResolve (h : s.Walks a r q ply v) (hkey : r.key = some key) (hr : a.Resolves q key ply v) :
    exec (.cfPositionResolve ply) s =
      if s.resolved q a key ply v = q.plus ply (a.visit key q ply v v.position) then .next (s.setAnneal (a.walkOn ply v { v with position := v.position + 1 }))
      else .next (s.flipAt q a ply v (a.visit key q ply v v.position) (s.resolved q a key ply v)) := by
  have hguard : (!a.colourfast || decide (a.sweeps ≤ v.sweep) || a.holdsForSave v || decide (q.n ≤ v.position) || decide (v.position / 64 ≠ v.retired) ||
      ((a.tokens.w ++ a.tokens.e).any fun x => x.ply = ply.val && !x.applied.contains (q.spindleOf (a.visit key q ply v v.position))) ||
      decide (a.freeColumns q = 0)) = false := by
    rw [h.colourfast, a.holdsForSave_of_none h.save, hr.applied, decide_eq_false (Nat.not_le.2 h.sweeps), decide_eq_false (Nat.not_le.2 hr.inside),
      decide_eq_false (not_not.2 hr.window), decide_eq_false hr.column]
    rfl
  change execCfPositionResolve ply s = _
  unfold execCfPositionResolve
  simp only [h.engine, h.walk, hkey]
  exact if_neg (Bool.eq_false_iff.1 hguard)

/-- The walk of a ply, once set. -/
theorem walk_set_self (h : a.walks[ply.val]? = some v) (z : Walk) : (a.walks.set ply.val z)[ply.val]? = some z :=
  List.getElem?_set_self (List.getElem?_eq_some_iff.1 h).1

-- A window retired (03 R81).

theorem exec_cfWindowRetire (h : s.Walks a r q ply v) (hmore : 64 * (v.retired + 1) < q.n) (hdone : 64 * (v.retired + 1) ≤ v.position)
    (happlied : ((a.tokens.w ++ a.tokens.e).any fun x => x.ply = ply.val) = false) :
    exec (.cfWindowRetire ply) s = .next (s.setAnneal { a with walks := a.walks.set ply { v with retired := v.retired + 1 } }) := by
  have hguard : (!a.colourfast || decide (a.sweeps ≤ v.sweep) || decide (v.position < min q.n (64 * (v.retired + 1))) ||
      (a.tokens.w ++ a.tokens.e).any fun x => x.ply = ply.val) = false := by
    rw [h.colourfast, happlied, decide_eq_false (Nat.not_le.2 h.sweeps), decide_eq_false (by omega)]
    rfl
  change execCfWindowRetire ply s = _
  unfold execCfWindowRetire
  simp only [h.engine, h.walk]
  exact (if_neg (Bool.eq_false_iff.1 hguard)).trans (if_pos hmore)

end

/-- Settles O44: the guards of the three commands hold; the case split is on whether the position resolved flips its variable. -/
theorem colourfastWalkResolvesInOrder : Obligations.ColourfastWalkResolvesInOrder := by
  intro s a r q ply v key he hc hv hkey hsweep hsave
  have hwalks : s.Walks a r q ply v := ⟨he, hc, hv, hsweep, hsave⟩
  refine ⟨fun pos hlo hn hahead hnew => ?_, fun hinside hwindow happlied hcolumn => ?_, exec_cfWindowRetire hwalks⟩
  · exact ⟨_, _, exec_cfSpeculativeEvaluation hwalks hkey hlo hn hahead hnew, rfl, rfl, rfl, rfl, rfl, rfl⟩
  · have hexec := exec_cfPositionResolve hwalks hkey ⟨hinside, hwindow, happlied, hcolumn⟩
    by_cases hflip : s.resolved q a key ply v = q.plus ply (a.visit key q ply v v.position)
    · rw [if_pos hflip] at hexec
      exact ⟨_, _, _, hexec, rfl, walk_set_self hv _, rfl, rfl, rfl, rfl, (if_pos hflip).mpr ⟨rfl, rfl⟩⟩
    · rw [if_neg hflip] at hexec
      obtain ⟨hspindles, hmem, hanneal⟩ := s.flipAt_frame q a ply v (a.visit key q ply v v.position) (s.resolved q a key ply v)
      exact ⟨_, _, _, hexec, hanneal, walk_set_self hv _, rfl, rfl, hspindles, hmem,
        (if_neg hflip).mpr ⟨rfl, _, Halves.get_set _ _ _, rfl, rfl, rfl, rfl⟩⟩

end Sys2Proof.Machine
end

section
/-!
PROOF. The reset state (O4): the numbered tables read as they were filled, and every memory is empty.
-/
namespace Sys2Proof.Machine

theorem vget_replicate {α : Type} (n : Nat) (x : α) (i : Nat) : vget (Vector.replicate n x) x i = x := by
  by_cases h : i < n
  · rw [vget_eq _ _ _ h, Vector.getElem_replicate]
  · exact vget_of_le _ _ _ (not_lt.1 h)

theorem State.ring_reset (r : Nat) : State.reset.ring r = Ring.reset := vget_replicate ..

theorem State.group_reset (g : Nat) : State.reset.group g = Group.reset := vget_replicate ..

theorem State.run_reset {d : Nat} (h : d < 8) : State.reset.run d = none := by
  rw [State.run, State.reset, vget_eq _ _ _ h, Vector.getElem_replicate]

/-- Nothing is listed in any memory of the reset state. -/
theorem Memory.space_reset (sp : Nat) : Memory.reset.space sp = [] := by
  unfold Memory.space
  split <;> rfl

/-- Settles O4: field after field at its reset value; every memory is the empty list, in canonical form. -/
theorem resetState : Obligations.ResetState := by
  refine ⟨⟨rfl, rfl, rfl, fun r _ => ?_, fun g _ => ?_, rfl, fun d hd => State.run_reset hd, rfl, rfl, rfl, rfl, rfl, rfl, rfl, rfl, rfl, rfl, rfl, rfl, rfl⟩,
    State.reset_mem_wf, fun sp a => ?_⟩
  · rw [State.ring_reset]
    exact ⟨rfl, rfl, rfl, rfl, rfl, rfl, rfl, rfl⟩
  · rw [State.group_reset]
    rfl
  · change (Memory.reset.space sp).byte a = 0
    rw [Memory.space_reset]
    rfl

end Sys2Proof.Machine
end

section
/-!
SUPPORT. The groups and halves of the noise controller: what a change of a half's state leaves alone, the state it gives the half, and that records only join the
queue to the recorder (04 R90 to R92, R98 to R101, R105).
-/
namespace Sys2Proof.Machine

-- A half.

/-- What a change of a half's noise state may write to: the half's own marks and counts, the turns of its donors, the records, the hanks it holds and the running word. -/
structure State.HalfMoves (s t : State) : Prop where
  frame : t = { s with noise := t.noise, recorder := t.recorder, distaffs := t.distaffs, anneal := t.anneal }
  noise : t.noise = { s.noise with half := t.noise.half, wasReady := t.noise.wasReady, holds := t.noise.holds, holdTimer := t.noise.holdTimer, turn := t.noise.turn }
  inbox : s.recorder.inbox ⊆ t.recorder.inbox

theorem State.HalfMoves.refl (s : State) : s.HalfMoves s := ⟨rfl, rfl, List.Subset.refl _⟩

theorem State.HalfMoves.trans {s t u : State} (h : s.HalfMoves t) (g : t.HalfMoves u) : s.HalfMoves u := by
  refine ⟨?_, ?_, List.Subset.trans h.inbox g.inbox⟩
  · rw [g.frame, h.frame]
  · rw [g.noise, h.noise]

theorem State.HalfMoves.groups {s t : State} (h : s.HalfMoves t) : t.noise.groups = s.noise.groups := by rw [h.noise]
theorem State.HalfMoves.group {s t : State} (h : s.HalfMoves t) (g : Nat) : t.group g = s.group g := by rw [State.group, h.groups]; rfl
theorem State.HalfMoves.healthy {s t : State} (h : s.HalfMoves t) (x : Half) : t.healthy x = s.healthy x := by simp only [State.healthy, h.group]
theorem State.HalfMoves.readyThreshold {s t : State} (h : s.HalfMoves t) (x : Half) : t.readyThreshold x = s.readyThreshold x := by
  simp only [State.readyThreshold, h.group]

/-- A hold touches the half's timer, the hanks it pauses and the running word (04 R98, R100, R101). -/
theorem State.countHold_eq (s : State) (h : Half) : s.countHold h =
    { s with noise := { s.noise with holdTimer := (s.countHold h).noise.holdTimer }, distaffs := (s.countHold h).distaffs, anneal := (s.countHold h).anneal } := by
  unfold State.countHold
  dsimp only
  cases s.anneal with
  | none => dsimp only; split <;> rfl
  | some a =>
    dsimp only
    cases a.colourfast <;> cases (a.startWait || !a.decided) <;> cases a.waitHeld <;> split <;> rfl

theorem State.countHold_halfMoves (s : State) (h : Half) : s.HalfMoves (s.countHold h) := by
  have hframe := s.countHold_eq h
  refine ⟨?_, ?_, ?_⟩
  · rw [hframe]
  · rw [hframe]
  · rw [hframe]
    exact List.Subset.refl _

theorem State.countHold_half (s : State) (h : Half) : (s.countHold h).noise.half = s.noise.half := by rw [s.countHold_eq h]

/-- The state that 04 R92 gives a half. -/
def State.halfState (s : State) (h : Half) : Nat := if s.readyThreshold h ≤ s.healthy h then 1 else if s.noise.wasReady.get h = true then 2 else 0

theorem State.emit_halfMoves (s : State) (n : Notice) : s.HalfMoves (s.emit n) := ⟨rfl, rfl, fun _ hm => List.mem_append_left _ hm⟩

theorem State.markHalf (s : State) (half : Halves Nat) (ready : Halves Bool) (holds : Halves Nat) (timer : Halves Bool) :
    s.HalfMoves { s with noise := { s.noise with half := half, wasReady := ready, holds := holds, holdTimer := timer } } := ⟨rfl, rfl, List.Subset.refl _⟩

theorem State.updateHalf_moves (s : State) (h : Half) (win : Option (BitVec 16 × BitVec 16)) :
    s.HalfMoves (s.updateHalf h win) ∧ (s.updateHalf h win).noise.half = s.noise.half.set h (s.halfState h) := by
  have hnew : (if decide (s.readyThreshold h ≤ s.healthy h) = true then 1 else if s.noise.wasReady.get h = true then 2 else 0) = s.halfState h := by
    simp only [State.halfState, decide_eq_true_eq]
  unfold State.updateHalf
  simp only [hnew]
  split
  · exact ⟨(s.markHalf _ _ _ _).trans ((State.emit_halfMoves _ _).trans (State.countHold_halfMoves _ _)), State.countHold_half _ _⟩
  · split
    · exact ⟨(s.markHalf _ _ s.noise.holds _).trans (State.emit_halfMoves _ _), rfl⟩
    · exact ⟨s.markHalf _ _ s.noise.holds s.noise.holdTimer, rfl⟩

theorem State.newDonors_halfMoves (s : State) (h : Half) : s.HalfMoves (s.newDonors h) := ⟨rfl, rfl, List.Subset.refl _⟩

theorem State.updateGroupHalf_moves (s : State) (g : Nat) (win : Option (BitVec 16 × BitVec 16)) :
    s.HalfMoves (s.updateGroupHalf g win) ∧ (g < 136 → (s.updateGroupHalf g win).noise.half = s.noise.half.set (halfOfPhysical g) (s.halfState (halfOfPhysical g))) ∧
      (136 ≤ g → s.updateGroupHalf g win = s) := by
  unfold State.updateGroupHalf
  split
  · obtain ⟨hm, hh⟩ := (s.newDonors (halfOfPhysical g)).updateHalf_moves (halfOfPhysical g) win
    exact ⟨(s.newDonors_halfMoves _).trans hm, fun _ => hh, fun hg => absurd hg (by omega)⟩
  · exact ⟨.refl s, fun hg => absurd hg ‹_›, fun _ => rfl⟩

end Sys2Proof.Machine
end

section
/-!
PROOF. HEALTH_WINDOW_END (O45): the whole window, its counts as estimates, the group's next state, and the half behind it.
-/
namespace Sys2Proof.Machine

-- The window and its counts.

theorem State.length_of_window {s : State} {g : Nat} {lead bs : List Bool} {raw : RawBits} (h : s.window g lead raw = some bs) : bs.length = 65536 := by
  unfold State.window at h
  dsimp only at h
  split at h
  · rename_i hc
    simp only [Bool.and_eq_true, decide_eq_true_eq] at hc
    cases h
    rw [List.length_take]
    omega
  · cases h

theorem onesOf_eq_countP (bs : List Bool) : onesOf bs = bs.countP id := List.countP_eq_length_filter.symm

theorem equalPairs_eq_countP (bs : List Bool) : equalPairs bs = (bs.zip bs.tail).countP fun p => p.1 = p.2 := by
  induction bs with
  | nil => rfl
  | cons a r ih =>
    cases r with
    | nil => rfl
    | cons b r =>
      rw [equalPairs, ih, List.tail_cons, List.tail_cons, List.zip_cons_cons, List.countP_cons, Nat.add_comm]
      simp only [decide_eq_true_eq]

-- The group.

/-- A window within both limits (04 R88). -/
def State.windowPasses (s : State) (ones equals : Nat) : Bool :=
  (windowBias ones).natAbs ≤ s.entry 0x3800 1 && (windowCorr equals).natAbs ≤ s.entry 0x3800 2

/-- The state of a group after a window (04 R90). -/
def Group.after (x : Group) (pass : Bool) : Nat :=
  if x.state = 0 then (if pass = true ∧ 15 ≤ x.streak then 1 else 0) else if x.state = 1 then (if pass = true then 1 else 2)
  else if x.state = 2 then (if pass = true ∧ 3 ≤ x.streak then 1 else 2) else x.state

/-- The group after a window with these counts. -/
def Group.windowed (x : Group) (pass : Bool) (ones equals : Nat) : Group :=
  { state := x.after pass, bias := BitVec.ofInt 16 (windowBias ones), corr := BitVec.ofInt 16 (windowCorr equals),
    fails := if pass then x.fails else sat16 x.fails, passRun := if pass then min 255 (x.passRun + 1) else 0,
    streak := if x.after pass = x.state then (if pass then x.streak + 1 else 0) else 0 }

/-- The record of a group's change (04 R105). -/
def stateRecord (old new : Nat) : Nat × Nat := if new = 2 then (0x0401, notice) else if old = 2 then (0x0402, info) else (0x0403, info)

/-- The state that the model's `endWindow` finds for the group. -/
theorem Group.after_eq (x : Group) (pass : Bool) : (match x.state with
    | 0 => if 16 ≤ (if pass = true then x.streak + 1 else 0) then 1 else 0
    | 1 => if pass = true then 1 else 2
    | 2 => if 4 ≤ (if pass = true then x.streak + 1 else 0) then 1 else 2
    | k => k) = x.after pass := by
  unfold Group.after
  obtain ⟨state, bias, corr, fails, passRun, streak⟩ := x
  cases pass <;> rcases state with _ | _ | _ | k <;> simp

/-- The end of a window: the group takes its estimates and state; a change of state is recorded and reaches the half (04 R87 to R92). -/
theorem State.endWindow_eq (s : State) (g : Fin 137) (ones equals : Nat) : s.endWindow g ones equals =
    let pass := s.windowPasses ones equals
    let new := (s.group g).windowed pass ones equals
    let win := (new.bias, new.corr)
    let c := stateRecord (s.group g).state new.state
    if new.state = (s.group g).state then s.modGroup g fun _ => new
    else ((s.modGroup g fun _ => new).emit (noiseNotice c.1 c.2 (noisePayload 0 g new.state (some win) new.fails 0))).updateGroupHalf g (some win) := by
  unfold State.endWindow
  extract_lets x b c pass win streak state new s₁ s₂ pass' new' win' code
  have hstate : state = x.after pass := Group.after_eq x pass
  clear_value state
  subst hstate
  by_cases h : x.after pass = x.state
  · exact (if_pos h).trans ((if_pos h).trans (if_pos h).symm)
  · refine (if_neg h).trans (Eq.trans ?_ (if_neg h).symm)
    exact congrArg (fun y => State.updateGroupHalf y g (some win)) (if_neg h)

/-- The fields of a group after a window whose verdict is `pass` (04 R87, R89, R90). -/
theorem Group.windowed_fields (x : Group) (p : Bool) (pass : Prop) [Decidable pass] (hp : p = true ↔ pass) (ones equals : Nat) :
    let y := x.windowed p ones equals
    y.bias = BitVec.ofInt 16 (windowBias ones) ∧ y.corr = BitVec.ofInt 16 (windowCorr equals) ∧ y.fails = (if pass then x.fails else min (x.fails + 1) 0xFFFF) ∧
      y.passRun = (if pass then min 255 (x.passRun + 1) else 0) ∧ y.streak = (if y.state = x.state ∧ pass then x.streak + 1 else 0) ∧
      y.state = (if x.state = 0 then (if pass ∧ 15 ≤ x.streak then 1 else 0) else if x.state = 1 then (if pass then 1 else 2)
        else if x.state = 2 then (if pass ∧ 3 ≤ x.streak then 1 else 2) else x.state) := by
  intro y
  have hverdict {α : Type} (u v : α) : (if p = true then u else v) = if pass then u else v := by simp only [hp]
  refine ⟨rfl, rfl, hverdict .., hverdict .., ?_, ?_⟩
  · rw [ite_and]
    exact congrArg (fun k => if y.state = x.state then k else 0) (hverdict ..)
  · change x.after p = _
    simp only [Group.after, hp]

theorem State.groups_modGroup_of_ne (s : State) {g k : Fin 137} (hne : k ≠ g) (f : Group → Group) :
    (s.modGroup g f).noise.groups[k] = s.noise.groups[k] := by
  have hk : (s.modGroup g f).group k = s.group k := by rw [State.group_modGroup, if_neg fun h => hne (Fin.ext h.1.symm)]
  rwa [State.group, State.group, vget_eq _ _ _ k.isLt, vget_eq _ _ _ k.isLt] at hk

theorem State.windowPasses_iff (s : State) (ones equals : Nat) :
    s.windowPasses ones equals = true ↔ (windowBias ones).natAbs ≤ s.entry 0x3800 1 ∧ (windowCorr equals).natAbs ≤ s.entry 0x3800 2 := by
  simp only [State.windowPasses, Bool.and_eq_true, decide_eq_true_eq]

/-- What a window does to the state, beside the fields of its group: nothing more while the group keeps its state, else the record and the half (04 R90 to R92, R105). -/
theorem State.endWindow_moves (s : State) (g : Fin 137) (ones equals : Nat) :
    let x := s.group g
    let new := x.windowed (s.windowPasses ones equals) ones equals
    let t := s.endWindow g ones equals
    (s.modGroup g fun _ => new).HalfMoves t ∧ (new.state = x.state → t = s.modGroup g fun _ => new) ∧
      (new.state ≠ x.state → (∃ n ∈ t.recorder.inbox, n.type = (stateRecord x.state new.state).1) ∧
        (g.val < 136 → t.noise.half.get (halfOfPhysical g) = (if t.readyThreshold (halfOfPhysical g) ≤ t.healthy (halfOfPhysical g) then 1
          else if s.noise.wasReady.get (halfOfPhysical g) = true then 2 else 0)) ∧ (g.val = 136 → t.noise.half = s.noise.half)) := by
  intro x new t
  have ht : t = _ := s.endWindow_eq g ones equals
  by_cases hsame : new.state = x.state
  · rw [if_pos hsame] at ht
    exact ⟨ht ▸ .refl _, fun _ => ht, fun h => absurd hsame h⟩
  · rw [if_neg hsame] at ht
    obtain ⟨hmoves, hgroup, hroot⟩ := ((s.modGroup g fun _ => new).emit (noiseNotice _ _ _)).updateGroupHalf_moves g (some (new.bias, new.corr))
    rw [← ht] at hmoves hgroup hroot
    refine ⟨(State.emit_halfMoves _ _).trans hmoves, fun h => absurd h hsame, fun _ => ⟨⟨_, hmoves.inbox (List.mem_append_right _ (List.mem_singleton_self _)), rfl⟩, ?_, ?_⟩⟩
    · intro hg
      rw [hgroup hg, Halves.get_set, hmoves.readyThreshold, hmoves.healthy]
      rfl
    · intro hg
      rw [hroot (by omega)]
      rfl

/-- Settles O45: bits that end no window fail the match; for a whole window the counts are the model's, and the split is on whether the group's state changes. -/
theorem windowsMoveTheGroups : Obligations.WindowsMoveTheGroups := by
  refine ⟨fun s g raw lead hnone => ?_, fun s g raw lead bs hphase hbs => ?_⟩
  · change execHealthWindowEnd g raw lead s = _
    unfold execHealthWindowEnd
    rw [hnone]
    cases s.board.phase <;> rfl
  · intro x ones pairs b c pass
    have hexec : exec (.healthWindowEnd g raw lead) s = .next (s.endWindow g ones pairs) := by
      change execHealthWindowEnd g raw lead s = _
      unfold execHealthWindowEnd
      rw [hbs]
      cases h : s.board.phase with
      | reset => exact absurd h hphase
      | _ => exact congrArg _ (congrArg₂ _ (onesOf_eq_countP bs) (equalPairs_eq_countP bs))
    obtain ⟨hmoves, hsame, hchange⟩ := s.endWindow_moves g ones pairs
    have hgroup : (s.endWindow g ones pairs).group g = x.windowed (s.windowPasses ones pairs) ones pairs := by
      rw [hmoves.group, State.group_modGroup, if_pos ⟨rfl, g.isLt⟩]
    obtain ⟨hbias, hcorr, hfails, hrun, hstreak, hstate⟩ := x.windowed_fields _ pass (s.windowPasses_iff ones pairs) ones pairs
    refine ⟨State.length_of_window hbs, _, hexec, hmoves.frame, ?_⟩
    rw [hgroup]
    refine ⟨hbias, hcorr, hfails, hrun, hstreak, hstate, fun k hk => ?_, fun h => ?_, fun h => ?_⟩
    · rw [hmoves.groups, s.groups_modGroup_of_ne hk]
    · rw [hsame h]
      exact ⟨rfl, rfl, rfl, rfl⟩
    · obtain ⟨⟨n, hn, htype⟩, hhalf, hroot⟩ := hchange h
      refine ⟨⟨n, hn, htype.trans ?_⟩, hhalf, hroot⟩
      simp only [stateRecord, apply_ite Prod.fst]
      rfl

end Sys2Proof.Machine
end

section
/-!
PROOF. A re-stir of a lane, and the seeding and blocking of the root-of-trust generator (O46).
-/
namespace Sys2Proof.Machine

-- The lanes.

theorem Noise.lane_setLane_self (x : Noise) (p l : Nat) (v : LaneKey) : (x.setLane p l v).lane p l = v := by
  rw [Noise.lane, Noise.setLane, List.find?_cons_of_pos (by exact decide_eq_true rfl)]

theorem Noise.lane_setLane_of_ne (x : Noise) (p l : Nat) (v : LaneKey) {p2 l2 : Nat} (hne : 128 * p2 + l2 ≠ 128 * p + l) :
    (x.setLane p l v).lane p2 l2 = x.lane p2 l2 := by
  have hkept : (x.lanes.filter fun c => c.1 ≠ 128 * p + l).find? (fun c => c.1 = 128 * p2 + l2) = x.lanes.find? fun c => c.1 = 128 * p2 + l2 := by
    rw [List.find?_filter]
    congr 1
    funext c
    by_cases hc : c.1 = 128 * p2 + l2 <;> simp [hc, hne]
  simp only [Noise.lane, Noise.setLane]
  rw [List.find?_cons_of_neg (by simpa using hne.symm), hkept]

theorem LaneKey.restir_low (x : LaneKey) (stir : BitVec 256) (l : Nat) {i : Nat} (hi : i < 64) :
    (x.restir stir l).key.getLsbD i = (x.key.getLsbD i ^^ stir.getLsbD ((i + 2 * l) % 256)) := by
  have hshift : (2 * l) % 256 < 256 := Nat.mod_lt _ (by decide)
  have hwide : i < 256 := by omega
  simp only [LaneKey.restir, BitVec.getLsbD_xor, BitVec.getLsbD_setWidth, BitVec.getLsbD_rotateRight, hi, hwide, decide_true, Bool.true_and, Nat.mod_eq_of_lt hshift]
  congr 1
  by_cases hround : i < 256 - 2 * l % 256
  · rw [decide_eq_true hround, cond_true, show 2 * l % 256 + i = (i + 2 * l) % 256 by omega]
  · rw [decide_eq_false hround, cond_false, show i - (256 - 2 * l % 256) = (i + 2 * l) % 256 by omega]

theorem LaneKey.restir_high (x : LaneKey) (stir : BitVec 256) (l : Nat) {i : Nat} (hi : 64 ≤ i) : (x.restir stir l).key.getLsbD i = x.key.getLsbD i := by
  have hlow : ¬ i < 64 := by omega
  simp [LaneKey.restir, hlow]

-- The stir registers.

/-- A fold that sets a list of entries leaves the others. -/
theorem vget_foldl_vset_of_notMem {α : Type} {n : Nat} (d : α) (f : α → Nat → α) (l : List (Nat × Nat)) (v : Vector α n) (x : Nat) (hx : ∀ c ∈ l, c.1 ≠ x) :
    vget (l.foldl (fun v c => vset v c.1 (f (vget v d c.1) c.2)) v) d x = vget v d x := by
  induction l generalizing v with
  | nil => rfl
  | cons c l ih =>
    rw [List.foldl_cons, ih _ fun c hc => hx c (List.mem_cons_of_mem _ hc), vget_vset, if_neg fun h => hx c List.mem_cons_self h.1]

/-- A fold that sets a list of different entries sets each once. -/
theorem vget_foldl_vset {α : Type} {n : Nat} (d : α) (f : α → Nat → α) (l : List (Nat × Nat)) (v : Vector α n) (hl : (l.map Prod.fst).Nodup) {c : Nat × Nat}
    (hc : c ∈ l) (hn : c.1 < n) : vget (l.foldl (fun v c => vset v c.1 (f (vget v d c.1) c.2)) v) d c.1 = f (vget v d c.1) c.2 := by
  induction l generalizing v with
  | nil => cases hc
  | cons b l ih =>
    obtain ⟨hb, hl⟩ := List.nodup_cons.1 hl
    rw [List.foldl_cons]
    rcases List.mem_cons.1 hc with rfl | hc
    · rw [vget_foldl_vset_of_notMem _ _ _ _ _ fun e he h => hb (List.mem_map.2 ⟨e, he, h⟩), vget_vset, if_pos ⟨rfl, hn⟩]
    · have hne : b.1 ≠ c.1 := fun h => hb (List.mem_map.2 ⟨c, hc, h.symm⟩)
      rw [ih _ hl hc, vget_vset, if_neg fun h => hne h.1]

/-- A group that feeds a register is HEALTHY and so feeds its own (04 R95). -/
theorem State.stirSource_self {s : State} {p g : Nat} (h : s.stirSource p = some g) : s.stirSource g = some g := by
  have hhealthy : (s.group g).state = 1 := by
    unfold State.stirSource at h
    split at h
    case isTrue hp => cases h; exact hp
    case isFalse =>
      obtain ⟨j, -, hj⟩ := Option.bind_eq_some_iff.1 h
      have hmem := List.mem_of_getElem? hj
      simpa using (List.mem_filter.1 hmem).2
  rw [State.stirSource, if_pos hhealthy]

theorem State.stirSource_of_mem_takers {s : State} {g x : Nat} (hg : s.stirSource g = some g) (hx : x ∈ s.takers g) : s.stirSource x = some g := by
  rcases List.mem_cons.1 hx with rfl | hx
  · exact hg
  · exact of_decide_eq_true (List.mem_filter.1 hx).2

theorem State.feedStir_stir_of_ne {s : State} {p g x : Nat} (raw : RawBits) (h : s.stirSource p = some g) (hx : s.stirSource x ≠ some g) :
    vget (s.feedStir g raw).noise.stir 0 x = vget s.noise.stir 0 x := by
  refine vget_foldl_vset_of_notMem 0 (fun v k => shiftStir v (dealt _ _ _ k)) _ _ _ fun c hc hcx => hx ?_
  exact hcx ▸ State.stirSource_of_mem_takers (State.stirSource_self h) (List.fst_mem_of_mem_zipIdx hc)

theorem State.feedStir_stir {s : State} {g j x : Nat} (raw : RawBits) (hj : (s.takers g)[j]? = some x) (hnodup : (s.takers g).Nodup) (hx : x < 136) :
    vget (s.feedStir g raw).noise.stir 0 x =
      shiftStir (vget s.noise.stir 0 x) (dealt (s.conditioned g raw) (vget s.noise.turn 0 g) (s.takers g).length j) :=
  vget_foldl_vset 0 (fun v k => shiftStir v (dealt _ _ _ k)) _ _ (by rwa [List.zipIdx_map_fst]) (c := (x, j))
    (List.mem_zipIdx_iff_getElem?.2 hj) hx

/-- The bits that entered the stir registers from the source of register `p` (04 R95). -/
def State.stirred (s : State) (p : Nat) (raw : RawBits) : State :=
  match s.stirSource p with
  | some g => s.feedStir g raw
  | none => s

theorem State.stirred_eq (s : State) (p : Nat) (raw : RawBits) :
    s.stirred p raw = { s with noise := { s.noise with stir := (s.stirred p raw).noise.stir, turn := (s.stirred p raw).noise.turn } } := by
  unfold State.stirred
  split <;> rfl

theorem State.lane_stirred (s : State) (p : Nat) (raw : RawBits) (x y : Nat) : (s.stirred p raw).noise.lane x y = s.noise.lane x y := by
  rw [s.stirred_eq]
  rfl

/-- What a due re-stir of a lane leaves: the bits of the source go in first, then the lane takes its own from its Spindle's register (04 R95, R97). -/
theorem exec_restir_lane (s : State) (l lane : Fin 128) (raw : RawBits) (hdue : (s.noise.lane (s.hostOf l) lane).due = true) :
    let p := s.hostOf l
    let t := s.stirred p raw
    exec (.restir l lane false raw) s =
      .next { t with noise := t.noise.setLane p lane ((s.noise.lane p lane).restir (vget t.noise.stir 0 p) lane) } := by
  change execRestir l lane false raw s = _
  unfold execRestir
  exact if_neg (by simp [hdue])

-- The root-of-trust generator.

/-- What the generator's return to service leaves of the state that a step found (04 R103; 12 R330). -/
structure State.RotKept (s t : State) : Prop where
  seeded : t.noise.rotSeeded = s.noise.rotSeeded
  blocked : t.noise.rotBlocked = s.noise.rotBlocked
  seed : t.noise.rotSeed = s.noise.rotSeed
  groups : t.noise.groups = s.noise.groups
  mem : t.mem = s.mem
  units : t.units = s.units

theorem State.RotKept.refl (s : State) : s.RotKept s := ⟨rfl, rfl, rfl, rfl, rfl, rfl⟩

theorem State.RotKept.trans {s t u : State} (h : s.RotKept t) (g : t.RotKept u) : s.RotKept u :=
  ⟨g.seeded.trans h.seeded, g.blocked.trans h.blocked, g.seed.trans h.seed, g.groups.trans h.groups, g.mem.trans h.mem, g.units.trans h.units⟩

/-- A fold keeps what each of its steps keeps. -/
theorem State.RotKept.foldl {α : Type} {f : State → α → State} (hf : ∀ (s : State) (x : α), s.RotKept (f s x)) (l : List α) (s : State) : s.RotKept (l.foldl f s) := by
  induction l generalizing s with
  | nil => exact .refl s
  | cons x l ih => exact (hf s x).trans (ih _)

theorem State.rotOutput_rotKept {s : State} {k : Bytes × State} (h : s.rotOutput = some k) : s.RotKept k.2 := by
  unfold State.rotOutput at h
  split at h
  · cases h
  · cases h
    exact ⟨rfl, rfl, rfl, rfl, rfl, rfl⟩

theorem State.modRun_rotKept (s : State) (d : Nat) (f : Run → Run) : s.RotKept (s.modRun d f) := ⟨rfl, rfl, rfl, rfl, rfl, rfl⟩

theorem State.drawHeaderKey_rotKept (s : State) (d : Nat) : s.RotKept (s.drawHeaderKey d) := by
  unfold State.drawHeaderKey
  split
  case h_2 => exact .refl s
  case h_1 r _ =>
    split
    · exact .refl s
    · split
      case h_2 => exact s.modRun_rotKept d _
      case h_1 k hk =>
        refine .trans ?_ (k.2.modRun_rotKept d _)
        split at hk
        · cases hk; exact .refl s
        · exact State.rotOutput_rotKept hk

theorem State.rotUnblocks_rotKept (s : State) : s.RotKept s.rotUnblocks := by
  refine .trans (.foldl (fun s r => ?_) _ s) (.foldl (fun s d => s.drawHeaderKey_rotKept d) _ _)
  dsimp only
  split
  · exact .refl s
  · exact ⟨rfl, rfl, rfl, rfl, rfl, rfl⟩

/-- The generator's new seed (04 R103). -/
def State.reseeded (s : State) (raw : RawBits) : State :=
  { s with noise := { s.noise with rotSeeded := true, rotBlocked := false, rotSeed := le 64 (packNat ((s.conditioned 136 raw).take 512)), rotOutputs := 0 } }

/-- A due seeding or reseeding: the record where the generator was blocked, and what waited for it where it did not serve (04 R103, R105). -/
theorem exec_rotReseed (s : State) (raw : RawBits) (hphase : s.board.phase = .ready) (hGR : (s.group 136).state = 1)
    (hneed : s.noise.rotSeeded = false ∨ 65536 ≤ s.noise.rotOutputs) (hbits : 512 ≤ (s.conditioned 136 raw).length) :
    let t := if s.noise.rotBlocked then (s.reseeded raw).emit (noiseNotice 0x0408 notice (noisePayload 2 0 0 none 0 0)) else s.reseeded raw
    exec (.rotReseed raw) s = .next (if s.rotServes then t else t.rotUnblocks) := by
  change execRotReseed raw s = _
  unfold execRotReseed
  refine if_neg ?_
  rcases hneed with h | h <;> simp [hphase, hGR, h, hbits]

/-- Settles O46: the three commands' guards hold; a generator that served serves still, so nothing waited for it. -/
theorem restirAndRootOfTrust : Obligations.RestirAndRootOfTrust := by
  refine ⟨fun s l lane raw => ?_, fun s raw => ?_, fun s hGR hseeded hblocked hcount => ?_⟩
  · intro p k hp hdue
    have hexec := exec_restir_lane s l lane raw hdue
    have hframe := s.stirred_eq p raw
    refine ⟨_, hexec, ?_, ?_, fun hnone => ?_, fun g hg => ⟨fun x hx => ?_, fun j x hj hnodup hx => ?_⟩, ?_, fun i hi => ?_, fun i hi => ?_, fun p2 l2 hne => ?_⟩
    · rw [hframe]
    · rw [hframe]
      rfl
    · simp only [Noise.setLane, State.stirred, hnone, p]
    · simp only [Noise.setLane, State.stirred, hg, p]
      exact State.feedStir_stir_of_ne raw hg hx
    · simp only [Noise.setLane, State.stirred, hg, p]
      exact State.feedStir_stir raw hj hnodup hx
    · rw [Noise.lane_setLane_self]
      rfl
    · rw [Noise.lane_setLane_self]
      exact LaneKey.restir_low _ _ _ hi
    · rw [Noise.lane_setLane_self]
      exact LaneKey.restir_high _ _ _ hi
    · exact (Noise.lane_setLane_of_ne _ _ _ _ hne).trans (s.lane_stirred ..)
  · intro bs v hphase hGR hneed hbits
    have hexec := exec_rotReseed s raw hphase hGR hneed hbits
    dsimp only at hexec
    set t := if s.noise.rotBlocked then (s.reseeded raw).emit (noiseNotice 0x0408 notice (noisePayload 2 0 0 none 0 0)) else s.reseeded raw with ht
    have htime : (s.reseeded raw).RotKept t := by
      rw [ht]
      split <;> exact ⟨rfl, rfl, rfl, rfl, rfl, rfl⟩
    have hkept : (s.reseeded raw).RotKept (if s.rotServes then t else t.rotUnblocks) := by
      split
      · exact htime
      · exact htime.trans t.rotUnblocks_rotKept
    refine ⟨_, hexec, hkept.seeded, hkept.blocked, hkept.seed, hkept.mem, hkept.units, hkept.groups, fun hseeded hblocked => ?_⟩
    have hserves : s.rotServes = true := by simp [State.rotServes, hseeded, hblocked, hGR]
    rw [if_pos hserves, ht, if_neg (by simp [hblocked]), State.reseeded, ← hseeded, ← hblocked]
  · refine ⟨_, _, if_neg ?_, rfl, State.emit_inbox _ _, rfl⟩
    simp [hGR, hseeded, hblocked, hcount]

end Sys2Proof.Machine
end

section
/-!
PROOF. NOISE.SEED and NOISE.RAW (O39).
-/
namespace Sys2Proof.Machine

theorem length_le (n v : Nat) : (le n v).length = n := by rw [le, List.length_map, List.length_range]

theorem State.length_freeBytes (s : State) (n : Nat) : (s.freeBytes n).1.length = n := by rw [State.freeBytes, List.length_map, List.length_range]

/-- An output of the root-of-trust generator: 32 bytes, counted, and no memory changes (04 R103). -/
theorem State.rotOutput_of_serves {s : State} (h : s.rotServes = true) : ∃ key t, s.rotOutput = some (key, t) ∧ key.length = 32 ∧
    t.noise.rotOutputs = sat32 s.noise.rotOutputs ∧ t.mem = s.mem ∧ t.distaffs = s.distaffs := by
  have hout : s.rotOutput = some ((s.freeBytes 32).1,
      { (s.freeBytes 32).2 with noise := { s.noise with rotOutputs := sat32 s.noise.rotOutputs } }) := by
    unfold State.rotOutput
    rw [h]
    rfl
  exact ⟨_, _, hout, s.length_freeBytes 32, rfl, rfl, rfl⟩

theorem State.rotOutput_of_not_serves {s : State} (h : s.rotServes = false) : s.rotOutput = none := by
  unfold State.rotOutput
  rw [h]
  rfl

/-- A word that has run leaves the keys of its hank. -/
theorem Effect.left_done_keys {t : State} {d k : Nat} {f : Option Failure} {y : Run} (hy : t.run d = some y) :
    ∃ q, ((Effect.done t f).left d k).run d = some q ∧ q.keys = y.keys ∧ q.keyIndex = y.keyIndex := by
  have hmod := State.run_modRun_self t d (fun r => { r with issued := r.issued.map fun i => if i.index = k then
    { i with ran := true, noiseWait := false, failure := f } else i }) y hy
  refine ⟨_, (State.run_markHeld _ d).trans (congrArg _ hmod), ?_⟩
  dsimp only
  split <;> exact ⟨rfl, rfl⟩

/-- A wait for noise leaves the keys of its hank, and beside its hank's record nothing changes (04 R99). -/
theorem State.startNoiseWait_keys (s : State) (d k : Nat) (held : Bool) {y : Run} (hy : s.run d = some y) :
    (s.startNoiseWait d k held).noise = s.noise ∧ ∃ q, (s.startNoiseWait d k held).run d = some q ∧ q.keys = y.keys := by
  unfold State.startNoiseWait
  split
  case h_2 => exact ⟨rfl, y, hy, rfl⟩
  case h_1 =>
    split
    · exact ⟨rfl, y, hy, rfl⟩
    · exact ⟨rfl, _, State.run_modRun_self _ _ _ _ (State.run_modRun_self _ _ _ _ hy), rfl⟩

/-- NOISE.SEED whose key is found, in the state `t`: the word has run and the key is in force (04 R107). -/
theorem exec_noiseSeed_done {s s0 t : State} {d : Fin 8} {r : Run} {k w : Nat} {key : Bytes} (h : s.atUnits d .noiseSeed = some (s0, r, k, w))
    (heff : effNoiseSeed d r k w s0 = .done (t.modRun d fun y => y.putKey key) none) (ht : t.distaffs = s0.distaffs) :
    ∃ u q, exec (.noiseSeed d) s = .next u ∧ u.ranWith d k none ∧ u.run d = some q ∧ q.keys = r.keys ++ [key] ∧ q.keyIndex = some r.keys.length ∧
      u = { t with distaffs := u.distaffs } := by
  have hrun : t.run d = some r := (State.run_congr ht d).trans (State.handed_of_atUnits h).run
  have hkey := State.run_modRun_self t d (fun r => r.putKey key) r hrun
  have hran := State.word_done h heff hkey rfl
  have hleft := (s.word_of_atUnits s0 d .noiseSeed (effNoiseSeed d) r k w h).1
  obtain ⟨q, hq, hkeys, hindex⟩ := Effect.left_done_keys (k := k) (f := none) hkey
  rw [← heff, ← hleft] at hq
  exact ⟨_, q, rfl, hran.ran, hq, hkeys, hindex, hran.frame⟩

/-- NOISE.RAW whose group has given its length writes the stream to its range (04 R102; 07 R208). -/
theorem effNoiseRaw_done {s s0 : State} {d : Nat} {r : Run} {k w : Nat} (hs : s.Handed s0 d r k) (raw : RawBits) (hopen : nrRaw w = true ∨ (s.group (nrGroup w)).state = 1) :
    let bs := if nrRaw w = true then rawBits raw else s.conditioned (nrGroup w) raw
    8 * nrLen w ≤ bs.length → ∀ b, r.buf (nrBuf w) = some b → b.space ≤ 1 →
      effNoiseRaw d raw r k w s0 = .done (s0.put b.space (b.base + nrOff w) (le (nrLen w) (packNat (bs.take (8 * nrLen w))))) none := by
  intro bs hlen b hb hsp
  have hwaits : (!nrRaw w && (s0.group (nrGroup w)).state ≠ 1) = false := by
    have hgroup : s0.group (nrGroup w) = s.group (nrGroup w) := by rw [State.group, hs.noise]; rfl
    rw [hgroup]
    rcases hopen with h | h <;> simp [h]
  have hbits : (if nrRaw w = true then rawBits raw else s0.conditioned (nrGroup w) raw) = bs := by
    rw [hs.frame]
    rfl
  have hhost : b.space ≠ 2 := by omega
  unfold effNoiseRaw
  rw [if_neg (by rw [hwaits]; exact Bool.false_ne_true)]
  dsimp only
  rw [hbits, if_neg (by omega)]
  simp only [State.writeIdx, hb, State.writeBuf, if_neg hhost]

/-- Settles O39: a read repeats in the state the word is handed in, the generator serves or the word waits, and the range holds the bytes written. -/
theorem noiseWordsDrawKeysAndBits : Obligations.NoiseWordsDrawKeysAndBits := by
  refine fun s s0 d r k w => ⟨fun h hdev hread => ?_, fun h hdev hnew => ⟨fun hserves => ?_, fun hserves => ?_⟩, fun raw b h hopen => ?_⟩
  · have hs := State.handed_of_atUnits h
    obtain ⟨hfail, hreads, hbytes, -⟩ := State.readIdx_repeats hs.alike hread
    have heff : effNoiseSeed d r k w s0 = .done ((s0.readIdx r k (nsBuf w) (nsOff w) 32).st.modRun d fun y => y.putKey (s0.readIdx r k (nsBuf w) (nsOff w) 32).bytes) none := by
      unfold effNoiseSeed
      simp only [hdev, Bool.false_eq_true, if_false, hfail]
    obtain ⟨u, q, hexec, hran, hq, hkeys, hindex, hframe⟩ := exec_noiseSeed_done h heff hreads.distaffs
    refine ⟨u, q, hexec, hran, hq, hkeys.trans (by rw [hbytes (.inr hs.out)]), hindex, ?_, ?_⟩
    · rw [hframe]; exact hreads.noise.trans hs.noise
    · rw [hframe]; exact hreads.units.trans hs.units
  · have hs := State.handed_of_atUnits h
    have hserves0 : s0.rotServes = true := by rw [hs.frame]; exact hserves
    obtain ⟨key, t, hout, hlen, hcount, hmem, hdist⟩ := State.rotOutput_of_serves hserves0
    have heff : effNoiseSeed d r k w s0 = .done (t.modRun d fun y => y.putKey key) none := by
      unfold effNoiseSeed
      simp only [hdev, if_true, hnew, hout]
    obtain ⟨u, q, hexec, hran, hq, hkeys, hindex, hframe⟩ := exec_noiseSeed_done h heff hdist
    refine ⟨u, q, key, hexec, hran, hq, hkeys, hlen, hindex, ?_, ?_⟩
    · rw [hframe]; exact hcount.trans (by rw [hs.noise]; rfl)
    · rw [hframe]; exact hmem.trans hs.mem
  · have hs := State.handed_of_atUnits h
    have hserves0 : s0.rotServes = false := by rw [hs.frame]; exact hserves
    have heff : effNoiseSeed d r k w s0 = .wait (s0.startNoiseWait d k false) := by
      unfold effNoiseSeed
      simp only [hdev, if_true, hnew, State.rotOutput_of_not_serves hserves0]
    obtain ⟨hnoise, q, hq, hkeys⟩ := s0.startNoiseWait_keys d k false hs.run
    refine ⟨_, q, rfl, ?_, hkeys, ?_⟩ <;> rw [(s.word_of_atUnits s0 d .noiseSeed (effNoiseSeed d) r k w h).1, heff]
    · exact hq
    · exact hnoise.trans hs.noise
  · intro bs hlen hb hsp
    have hs := State.handed_of_atUnits h
    have hran := State.word_done h (effNoiseRaw_done hs raw hopen hlen b hb hsp) hs.run rfl
    have hput (sp a : Nat) := s0.byteAt_put b.space (b.base + nrOff w) (le (nrLen w) (packNat (bs.take (8 * nrLen w)))) sp a (by omega)
    refine ⟨_, rfl, hran.ran, ?_, ?_, fun sp a hout hsp5 => ?_⟩
    · refine hran.frame.trans ?_
      rw [hran.mem, hs.frame]
      rfl
    · have hback := s0.bytes_put b.space (b.base + nrOff w) (le (nrLen w) (packNat (bs.take (8 * nrLen w)))) (by omega)
      rw [length_le] at hback
      rw [State.bytes, hran.mem]
      exact hback
    · rw [hran.byteAt, hput _ _ hsp5, length_le, if_neg (by omega), hs.byteAt]

end Sys2Proof.Machine
end

section
/-!
PROOF. ANNEAL and SAMPLE at their start (O37): a record refused, no key in force, a start wait, and the first step.
-/
namespace Sys2Proof.Machine

theorem exec_of_annealWord {c : Instr} {d : Nat} {o : Op} (hc : wordCommand c = some (d, o)) (ho : o = .anneal ∨ o = .sample) (s : State) :
    exec c s = .next (s.word d o (effAnneal d (decide (o = .sample)))) := by
  unfold wordCommand at hc
  rcases ho with rfl | rfl <;> split at hc <;> cases hc <;> rfl

-- The word at its start.

/-- The run that a record asks for. -/
def AnnealRun.asked (d k : Nat) (r : Run) (prob : Nat) (sample : Bool) (q : Problem) (b : Bytes) (guard : Bool) : AnnealRun :=
  if sample then (AnnealRun.blank d k r prob).ofSample q b guard else (AnnealRun.blank d k r prob).ofAnneal q b guard

/-- A word of ANNEAL or SAMPLE that reads its record: `u` is the state after the read. -/
structure State.RecordRead (s0 u : State) (r : Run) (k w : Nat) (q : Problem) (b : Bytes) : Prop where
  problem : r.problem (anProb w) = some q
  free : s0.anneal = none
  room : anOff w + 64 ≤ ((r.buf (anParam w)).map fun b => b.length).getD 0
  fail : (s0.readIdx r k (anParam w) (anOff w) 64).fail = none
  st : (s0.readIdx r k (anParam w) (anOff w) 64).st = u
  bytes : (s0.readIdx r k (anParam w) (anOff w) 64).bytes = b

section
variable {s0 u : State} {d : Nat} {sample : Bool} {r : Run} {k w : Nat} {q : Problem} {b : Bytes}

theorem State.RecordRead.reads (h : s0.RecordRead u r k w q b) : s0.Reads u := h.st ▸ State.readIdx_reads h.fail

/-- A record outside its rules (07 R204, R205). -/
theorem effAnneal_reject (h : s0.RecordRead u r k w q b) (hbad : (if sample then sampleRecordOk r q b else annealRecordOk r q b) = false) :
    effAnneal d sample r k w s0 = .done (u.failInput r k).1 (some (u.failInput r k).2) := by
  have hroom := Nat.not_lt.2 h.room
  unfold effAnneal
  simp only [h.problem, h.free, h.fail, h.bytes, h.st, hroom, hbad, Option.isSome_none, Bool.false_eq_true, if_false, Bool.not_false, if_true]

/-- A record within its rules, of a word whose plies fit and whose moments do. -/
structure State.RecordFits (u : State) (sample : Bool) (r : Run) (q : Problem) (b : Bytes) : Prop where
  ok : (if sample then sampleRecordOk r q b else annealRecordOk r q b) = true
  plies : u.pliesFit q = true
  second : sample = true → bit (num b 3 1) 1 = false

theorem AnnealRun.asked_colourfast (prob : Nat) (guard : Bool) : (AnnealRun.asked d k r prob sample q b guard).colourfast = decide (r.header.mode = 1) := by
  cases sample <;> rfl

theorem AnnealRun.asked_distaff (prob : Nat) (guard : Bool) : (AnnealRun.asked d k r prob sample q b guard).distaff = d := by cases sample <;> rfl
theorem AnnealRun.asked_word (prob : Nat) (guard : Bool) : (AnnealRun.asked d k r prob sample q b guard).word = k := by cases sample <;> rfl
theorem AnnealRun.asked_stream (prob : Nat) (guard : Bool) : (AnnealRun.asked d k r prob sample q b guard).stream = num b 4 2 := by cases sample <;> rfl
theorem AnnealRun.asked_sample (prob : Nat) (guard : Bool) : (AnnealRun.asked d k r prob sample q b guard).sample = sample := by cases sample <;> rfl

/-- A word that does not resume starts at its record's first step; a SAMPLE at sweep 0 (07 R204, R205). -/
theorem AnnealRun.asked_steps (hnew : bit (num b 3 1) 0 = false) (prob : Nat) (guard : Bool) :
    let a := AnnealRun.asked d k r prob sample q b guard
    a.resumed = false ∧ a.step = (if sample then 0 else num b 8 4) ∧ a.first = a.step ∧
      a.last = if sample then num b 12 4 + num b 16 4 * num b 6 2 else num b 12 4 := by
  cases sample with
  | false => exact ⟨hnew, if_neg (by simp [hnew]), rfl, rfl⟩
  | true => exact ⟨hnew, if_neg (by simp [hnew]), rfl, rfl⟩

theorem AnnealRun.asked_second (h : sample = true → bit (num b 3 1) 1 = false) (prob : Nat) (guard : Bool) :
    (sample && (AnnealRun.asked d k r prob sample q b guard).second) = false := by
  cases sample with
  | false => rfl
  | true => exact h rfl

/-- A Colourfast word with no key in force (04 R107). -/
theorem effAnneal_noKey (h : s0.RecordRead u r k w q b) (hfit : u.RecordFits sample r q b) (hmode : r.header.mode = 1) (hkey : r.key = none) :
    effAnneal d sample r k w s0 = .done (u.failWord r.ring r.seq k stAborted cNoKey).1 (some (u.failWord r.ring r.seq k stAborted cNoKey).2) := by
  have hroom := Nat.not_lt.2 h.room
  have hsecond := AnnealRun.asked_second (d := d) (k := k) (r := r) (q := q) hfit.second (anProb w) (u.entry 0x3010 3 = 1)
  have hcf := AnnealRun.asked_colourfast (d := d) (k := k) (r := r) (q := q) (sample := sample) (b := b) (anProb w) (u.entry 0x3010 3 = 1)
  unfold AnnealRun.asked at hsecond hcf
  unfold effAnneal
  simp only [h.problem, h.free, h.fail, h.bytes, h.st, hroom, hfit.ok, hfit.plies, hsecond, hcf, hmode, hkey, Option.isSome_none, Bool.false_eq_true, if_false,
    Bool.not_true, Bool.false_and, Bool.or_self, Option.isNone_none, decide_true, Bool.and_self, if_true]

/-- The state a word starts in: its outputs named, a SAMPLE's sums cleared (02 R51). -/
def State.annealReady (u : State) (d k : Nat) (r : Run) (q : Problem) (a : AnnealRun) : State :=
  (u.modIssued d k fun i => { i with outs := some a.outs }).zeroSums r q a

theorem State.rebuild_of_marks (u : State) {prob : Nat} (h : ∀ v < 128, (u.spindle v).mark = some prob) (r : Run) (k : Nat) (q : Problem) :
    u.rebuild r k prob q = (u, none) := by
  have hfresh : ((List.range 128).filter fun v => (u.spindle v).mark ≠ some prob) = [] :=
    List.filter_eq_nil_iff.2 fun v hv => by simp [h v (List.mem_range.1 hv)]
  unfold State.rebuild
  rw [hfresh]
  rfl

/-- A word on fields that stand starts: in Open mode it waits for both halves, else its first step begins (04 R100; 07 R204, R205). -/
theorem effAnneal_starts (h : s0.RecordRead u r k w q b) (hfit : u.RecordFits sample r q b) (hkey : r.header.mode = 1 → r.key ≠ none)
    (hmarks : ∀ v < 128, (u.spindle v).mark = some (anProb w)) :
    let a := AnnealRun.asked d k r (anProb w) sample q b (u.entry 0x3010 3 = 1)
    let v := u.annealReady d k r q a
    effAnneal d sample r k w s0 = .started (if !a.colourfast && !v.bothReady then v.beginWait q a else v.beginAnneal r q a) := by
  intro a v
  have hroom := Nat.not_lt.2 h.room
  have hsecond := AnnealRun.asked_second (d := d) (k := k) (r := r) (q := q) hfit.second (anProb w) (u.entry 0x3010 3 = 1)
  have hcf := AnnealRun.asked_colourfast (d := d) (k := k) (r := r) (q := q) (sample := sample) (b := b) (anProb w) (u.entry 0x3010 3 = 1)
  have hmode : a.colourfast = decide (r.header.mode = 1) := hcf
  have hnokey : (decide (r.header.mode = 1) && r.key.isNone) = false := by
    by_cases hmode : r.header.mode = 1
    · simp [hmode, Option.isSome_iff_ne_none, hkey hmode]
    · simp [hmode]
  unfold AnnealRun.asked at hsecond hcf
  unfold effAnneal
  simp only [h.problem, h.free, h.fail, h.bytes, h.st, hroom, hfit.ok, hfit.plies, hsecond, hcf, hnokey, u.rebuild_of_marks hmarks, Option.isSome_none,
    Bool.false_eq_true, if_false, Bool.not_true, Bool.false_and, Bool.or_self]
  rw [hmode]
  rfl

end

-- What the word then leaves.

theorem State.zeroSums_eq (s : State) (r : Run) (q : Problem) (a : AnnealRun) : s.zeroSums r q a = { s with mem := (s.zeroSums r q a).mem } := by
  have hzero (t : State) (b n : Nat) : ∃ m, (if b = 0x3F then t else t.writeIdx r b 0 (zeros (8 * n))) = { t with mem := m } := by
    split
    · exact ⟨t.mem, rfl⟩
    · exact ⟨_, State.writeIdx_eq ..⟩
  obtain ⟨m, hm⟩ := hzero s (a.out 0) q.n
  obtain ⟨m', hm'⟩ := hzero { s with mem := m } (a.out 1) (a.nw * a.nw)
  unfold State.zeroSums
  dsimp only
  rw [hm, hm']
  split
  · split <;> rfl
  · rfl

/-- What stands ready for the first step: of an ANNEAL the state before but for its hank's record, of a SAMPLE also the memory of its sums. -/
theorem State.annealReady_eq (u : State) (d k : Nat) (r : Run) (q : Problem) (a : AnnealRun) :
    u.annealReady d k r q a = { (u.modIssued d k fun i => { i with outs := some a.outs }) with mem := (u.annealReady d k r q a).mem } :=
  State.zeroSums_eq ..

theorem State.annealReady_mem (u : State) (d k : Nat) (r : Run) (q : Problem) {a : AnnealRun} (h : a.sample = false) : (u.annealReady d k r q a).mem = u.mem := by
  unfold State.annealReady State.zeroSums
  rw [h]
  rfl

theorem State.beginWait_eq (s : State) (q : Problem) (a : AnnealRun) : ∃ held, s.beginWait q a =
    { s with anneal := some { a with startWait := true, waitHeld := held }, distaffs := (s.beginWait q a).distaffs } := ⟨_, rfl⟩

/-- A Colourfast word with a step to make begins it (07 R204, R205). -/
theorem State.beginAnneal_of_colourfast {s : State} {r : Run} {q : Problem} {a : AnnealRun} (hc : a.colourfast = true) (hnew : a.resumed = false)
    (hstep : if a.sample = true then a.first < a.last else a.first ≤ a.last ∧ (s.checkSched r a.word q 0 a.step).2 = none) :
    ∃ t cum, s.Reads t ∧ s.beginAnneal r q a = t.setAnneal (t.beginStep r q (a.started cum) ⟨0, 0⟩ 0) := by
  have hmore : ¬(if a.sample then a.last ≤ a.first else a.last < a.first) := by
    cases hs : a.sample <;> simp only [hs, Bool.false_eq_true, if_true, if_false] at hstep ⊢
    · omega
    · omega
  obtain ⟨t, ht, henter⟩ := State.enterStep_of_readable (s := s) (r := r) (q := q) (a := a.started (if a.sample then a.first else s.sweepsBefore r q a.first))
    (lo := 0) ⟨0, 0⟩ 0 fun hs => by
      rw [if_neg (by simp [show a.sample = false from hs])] at hstep
      exact hstep.2
  refine ⟨t, _, ht, Eq.trans ?_ henter⟩
  have hpasses : (if a.resumed = true then q.resumePasses else ⟨0, 0⟩) = ⟨0, 0⟩ := if_neg (by simp [hnew])
  have hdone : (if (a.resumed && !a.sample) = true then q.resumeSweep else 0) = 0 := if_neg (by simp [hnew])
  unfold State.beginAnneal
  dsimp only
  rw [if_pos hc, if_neg hmore, hpasses, hdone]
  rfl

theorem State.beginStep_walks (s : State) (r : Run) (q : Problem) (a : AnnealRun) (passes : Halves Nat) (done : Nat) :
    (s.beginStep r q a passes done).walks.length = q.plies ∧ ∀ x ∈ (s.beginStep r q a passes done).walks, x.sweep = done ∧ x.position = 0 := by
  refine ⟨by rw [State.beginStep, List.length_map, List.length_range], fun x hx => ?_⟩
  obtain ⟨p, -, rfl⟩ := List.mem_map.1 hx
  exact ⟨rfl, rfl⟩

theorem State.beginStep_sweeps_of_sample (s : State) (r : Run) (q : Problem) {a : AnnealRun} (h : a.sample = true) (passes : Halves Nat) (done : Nat) :
    (s.beginStep r q a passes done).sweeps = 1 := by
  rw [State.beginStep, if_pos h]

theorem annealRecordOk_order {r : Run} {q : Problem} {b : Bytes} (h : annealRecordOk r q b = true) (hnew : bit (num b 3 1) 0 = false) : num b 8 4 ≤ num b 12 4 := by
  simp only [annealRecordOk, hnew, Bool.false_or, Bool.and_eq_true, decide_eq_true_eq] at h
  obtain ⟨⟨⟨⟨⟨⟨⟨-, horder⟩, -⟩, -⟩, -⟩, -⟩, -⟩, -⟩ := h
  exact horder

theorem State.word_started {s s0 t : State} {d k w : Nat} {o : Op} {r : Run} {eff : WordEffect} (h : s.atUnits d o = some (s0, r, k, w))
    (heff : eff r k w s0 = .started t) : s.word d o eff = t.markHeld := by
  rw [(s.word_of_atUnits s0 d o eff r k w h).1, heff]
  rfl

/-- A word that ends its hank leaves no ANNEAL running where none ran. -/
theorem State.word_failWord {s s0 u : State} {d k w status cause : Nat} {o : Op} {r : Run} {eff : WordEffect} (h : s.atUnits d o = some (s0, r, k, w))
    (hrun : u.run d = some r) (hidle : u.anneal = none)
    (heff : eff r k w s0 = .done (u.failWord r.ring r.seq k status cause).1 (some (u.failWord r.ring r.seq k status cause).2)) :
    ∃ f, (s.word d o eff).ranWith d k (some f) ∧ f.status = status ∧ f.cause = cause ∧ (s.word d o eff).anneal = none := by
  rw [State.failWord_eq] at heff
  obtain ⟨m, hrun'⟩ := State.run_countRejected_some (u.emit (hankNotice 0x0701 error r.ring r.seq (rejectPayload cause 0 status k 0xFFFF))) r.ring r.seq d r hrun
  have hran := State.word_done h heff hrun' rfl
  refine ⟨_, hran.ran, rfl, rfl, ?_⟩
  rw [hran.frame, State.countRejected_eq]
  exact hidle

/-- Settles O37: a bad record or a missing key fails the word; else it waits with its run set down, or its first step begins. -/
theorem annealAndSampleStart : Obligations.AnnealAndSampleStart := by
  intro s s0 c d o r k w q hc ho h hprob hfree hroom hread hmarks b ok
  have hs := State.handed_of_atUnits h
  have hrep := State.readIdx_repeats hs.alike hread
  set u := (s0.readIdx r k (anParam w) (anOff w) 64).st with hu
  have hrec : s0.RecordRead u r k w q b := ⟨hprob, hs.anneal.trans hfree, hroom, hrep.fail, rfl, hrep.bytes (.inr hs.out)⟩
  have hrun : u.run d = some r := (hrec.reads.run d).trans hs.run
  have hidle : u.anneal = none := by rw [hrec.reads.frame]; exact hs.anneal.trans hfree
  have hunits : u.units = s.units := hrec.reads.units.trans hs.units
  have hok : (if decide (o = .sample) then sampleRecordOk r q b else annealRecordOk r q b) = ok := by simp only [decide_eq_true_eq, ok]
  have hexec := exec_of_annealWord hc ho s
  refine ⟨fun hbad => ?_, fun hgood hfits hsecond => ?_⟩
  · obtain ⟨f, hfailed⟩ := State.word_failWord h hrun hidle (effAnneal_reject hrec (hok.trans hbad))
    exact ⟨_, f, hexec, hfailed⟩
  have hfit : u.RecordFits (decide (o = .sample)) r q b :=
    ⟨hok.trans hgood, by rw [State.pliesFit, hunits]; exact hfits, fun h => hsecond (of_decide_eq_true h)⟩
  have hmarks' : ∀ v < 128, (u.spindle v).mark = some (anProb w) := fun v hv => by
    rw [State.spindle, hunits]
    exact hmarks v hv
  have hstarts (hkey : r.header.mode = 1 → r.key ≠ none) :=
    State.word_started (eff := effAnneal d (decide (o = .sample))) h (effAnneal_starts hrec hfit hkey hmarks')
  set a := AnnealRun.asked d k r (anProb w) (decide (o = .sample)) q b (decide (u.entry 0x3010 3 = 1)) with ha
  have hcf : a.colourfast = decide (r.header.mode = 1) := AnnealRun.asked_colourfast ..
  have hdistaff : a.distaff = d := AnnealRun.asked_distaff ..
  have hword : a.word = k := AnnealRun.asked_word ..
  have hsample : a.sample = decide (o = .sample) := AnnealRun.asked_sample ..
  set v := u.annealReady d k r q a with hv
  have hvframe := u.annealReady_eq d k r q a
  rw [← hv] at hvframe
  have hvunits : v.units = s.units := by rw [hvframe]; exact hunits
  have hsteps (hresume : bit (num b 3 1) 0 = false) : a.resumed = false ∧ a.step = (if decide (o = .sample) then 0 else num b 8 4) ∧ a.first = a.step ∧
      a.last = if decide (o = .sample) then num b 12 4 + num b 16 4 * num b 6 2 else num b 12 4 := AnnealRun.asked_steps hresume ..
  have hfirstStep (hmode : r.header.mode = 1) (hkey : r.key ≠ none) (hnew : a.resumed = false)
      (hstep : if a.sample = true then a.first < a.last else a.first ≤ a.last ∧ (v.checkSched r a.word q 0 a.step).2 = none) :
      ∃ t cum, v.Reads t ∧ exec c s = .next (t.setAnneal (t.beginStep r q (a.started cum) ⟨0, 0⟩ 0)).markHeld := by
    obtain ⟨t, cum, ht, hbegin⟩ := State.beginAnneal_of_colourfast (s := v) (r := r) (q := q) (hcf.trans (decide_eq_true hmode)) hnew hstep
    refine ⟨t, cum, ht, ?_⟩
    rw [hexec, hstarts fun _ => hkey, if_neg (by simp [hcf, hmode]), hbegin]
  refine ⟨fun hmode hkey => ?_, fun hmode hready => ?_, fun hmode hkey ho hresume hsched => ?_, fun hmode hkey ho hresume hlast => ?_⟩
  · obtain ⟨f, hfailed⟩ := State.word_failWord h hrun hidle (effAnneal_noKey hrec hfit hmode hkey)
    exact ⟨_, f, hexec, hfailed⟩
  · have hwait : (!a.colourfast && !v.bothReady) = true := by
      have hvready : v.bothReady = s.bothReady := by rw [hvframe, State.bothReady, State.modIssued_noise, hrec.reads.noise, hs.noise]; rfl
      rw [hcf, hvready, hready, decide_eq_false hmode]
      rfl
    rw [hstarts fun hm => absurd hm hmode, if_pos hwait] at hexec
    obtain ⟨held, hbegin⟩ := v.beginWait_eq q a
    rw [hbegin] at hexec
    refine ⟨_, _, hexec, rfl, hdistaff, hword, rfl, fun ho sp x => ?_, hvunits⟩
    have hmem : v.mem = u.mem := u.annealReady_mem d k r q (hsample.trans (by rw [ho]; rfl))
    rw [State.byteAt, State.markHeld_eq]
    dsimp only
    rw [hmem]
    exact (hrec.reads.byteAt sp x).trans (hs.byteAt sp x)
  · have hanneal : decide (o = .sample) = false := by rw [ho]; rfl
    obtain ⟨hnew, hstep, hfirst, hlast⟩ := hsteps hresume
    simp only [hanneal, Bool.false_eq_true, if_false] at hstep hlast hsample
    have hreadable : (v.checkSched r a.word q 0 a.step).2 = none := by
      have halike : s.mem.Alike v.mem := (u.annealReady_mem d k r q hsample).symm ▸ hs.alike.trans hrec.reads.alike
      rw [hword, hstep]
      exact (State.checkSched_reads halike hsched).1
    have horder : num b 8 4 ≤ num b 12 4 := annealRecordOk_order ((if_neg (by rw [ho]; decide)).symm.trans hgood) hresume
    obtain ⟨t, cum, ht, hbegin⟩ := hfirstStep hmode hkey hnew (by
      rw [if_neg (by simp [hsample]), hfirst, hlast, hstep]
      exact ⟨horder, hstep ▸ hreadable⟩)
    obtain ⟨hlen, hwalks⟩ := t.beginStep_walks r q (a.started cum) ⟨0, 0⟩ 0
    exact ⟨_, _, hbegin, rfl, hdistaff, hword, rfl, hstep, hlast, hcf.trans (decide_eq_true hmode), AnnealRun.asked_stream .., hlen, hwalks,
      ht.units.trans hvunits⟩
  · have hsampled : decide (o = .sample) = true := by rw [ho]; rfl
    obtain ⟨hnew, hstep, hfirst, hend⟩ := hsteps hresume
    simp only [hsampled, if_true] at hstep hend hsample
    obtain ⟨t, cum, -, hbegin⟩ := hfirstStep hmode hkey hnew (by
      rw [if_pos hsample, hfirst, hend, hstep]
      exact hlast)
    exact ⟨_, _, hbegin, rfl, hdistaff, hword, hsample, hstep, State.beginStep_sweeps_of_sample (a := a.started cum) _ _ _ hsample _ _,
      (t.beginStep_walks r q (a.started cum) ⟨0, 0⟩ 0).1⟩

end Sys2Proof.Machine
end

section
/-!
SUPPORT. What the reads and writes of a word keep: the board, the steward, the records made and the words that each hank has issued.
-/
namespace Sys2Proof.Machine

/-- The later state has every record of the earlier one and, on its Distaffs, hanks with the words issued before. -/
structure State.Grows (s t : State) : Prop where
  board : t.board = s.board
  steward : t.steward = s.steward
  inbox : s.recorder.inbox ⊆ t.recorder.inbox
  runs : ∀ d y, s.run d = some y → ∃ z, t.run d = some z ∧ z.issued = y.issued

theorem State.Grows.refl (s : State) : s.Grows s := ⟨rfl, rfl, List.Subset.refl _, fun _ y hy => ⟨y, hy, rfl⟩⟩

theorem State.Grows.trans {s t u : State} (h : s.Grows t) (g : t.Grows u) : s.Grows u := by
  refine ⟨g.board.trans h.board, g.steward.trans h.steward, List.Subset.trans h.inbox g.inbox, fun d y hy => ?_⟩
  obtain ⟨z, hz, hissued⟩ := h.runs d y hy
  obtain ⟨x, hx, hissued'⟩ := g.runs d z hz
  exact ⟨x, hx, hissued'.trans hissued⟩

theorem State.Grows.of_same {s t : State} (hb : t.board = s.board) (hs : t.steward = s.steward) (hr : t.recorder = s.recorder) (hd : t.distaffs = s.distaffs) : s.Grows t :=
  ⟨hb, hs, hr ▸ List.Subset.refl _, fun d y hy => ⟨y, (State.run_congr hd d).trans hy, rfl⟩⟩

/-- A fold keeps what each of its steps keeps. -/
theorem State.Grows.foldl {α : Type} {f : State → α → State} (hf : ∀ (s : State) (x : α), s.Grows (f s x)) (l : List α) (s : State) : s.Grows (l.foldl f s) := by
  induction l generalizing s with
  | nil => exact .refl s
  | cons x l ih => exact (hf s x).trans (ih _)

theorem State.modRun_grows (s : State) (d : Nat) {f : Run → Run} (hf : ∀ y, (f y).issued = y.issued) : s.Grows (s.modRun d f) := by
  refine ⟨rfl, rfl, List.Subset.refl _, fun e y hy => ?_⟩
  by_cases he : e = d
  · subst he
    exact ⟨_, State.run_modRun_self _ _ _ _ hy, hf y⟩
  · exact ⟨y, (State.run_modRun_of_ne _ _ _ _ he).trans hy, rfl⟩

theorem State.setProblem_grows (s : State) (d p : Nat) (q : Problem) : s.Grows (s.setProblem d p q) := s.modRun_grows d fun _ => rfl

theorem State.emit_grows (s : State) (n : Notice) : s.Grows (s.emit n) :=
  ⟨rfl, rfl, fun _ hm => List.mem_append_left _ hm, fun _ y hy => ⟨y, hy, rfl⟩⟩

theorem State.countRejected_grows (s : State) (ring seq : Nat) : s.Grows (s.countRejected ring seq) := by
  have hframe := s.countRejected_eq ring seq
  refine ⟨by rw [hframe], by rw [hframe], by rw [hframe]; exact List.Subset.refl _, fun d y hy => ?_⟩
  obtain ⟨m, hm⟩ := State.run_countRejected_some s ring seq d y hy
  exact ⟨_, hm, rfl⟩

theorem State.failWord_grows (s : State) (ring seq k status cause : Nat) : s.Grows (s.failWord ring seq k status cause).1 :=
  (s.emit_grows _).trans (State.countRejected_grows _ _ _)

-- Reads.

theorem State.readMem_grows (s : State) (r : Run) (k sp a n : Nat) : s.Grows (s.readMem r k sp a n).st := by
  unfold State.readMem
  dsimp only
  split
  · exact .of_same rfl rfl rfl rfl
  · exact ⟨rfl, rfl, fun _ hm => List.mem_append_left _ hm, fun _ y hy => ⟨y, hy, rfl⟩⟩

theorem State.readLs_grows (s : State) (sp a n : Nat) : s.Grows (s.readLs sp a n).st := .of_same rfl rfl rfl rfl

theorem State.hostFault_grows (s : State) (n : Bytes → Notice) (kind address word length : Nat) : s.Grows (s.hostFault n kind address word length) :=
  ⟨rfl, rfl, fun _ hm => List.mem_append_left _ hm, fun _ y hy => ⟨y, hy, rfl⟩⟩

theorem State.freeBytes_grows (s : State) (n : Nat) : s.Grows (s.freeBytes n).2 := .of_same rfl rfl rfl rfl

theorem State.readHost_grows (s : State) (r : Run) (k a n : Nat) : s.Grows (s.readHost r k a n).st := by
  unfold State.readHost
  dsimp only
  split
  case isTrue => exact .of_same rfl rfl rfl rfl
  case isFalse =>
    split
    case h_1 => exact .refl s
    case h_2 b _ =>
      have hfault := s.hostFault_grows (hankNotice 0x0902 error r.ring r.seq) b.kind b.address k b.length
      split
      case isTrue =>
        dsimp only
        split
        · exact hfault
        · exact hfault.trans (State.failWord_grows _ _ _ _ _ _)
      case isFalse => exact .refl s

theorem State.readBuf_grows (s : State) (r : Run) (k : Nat) (b : Buffer) (off n : Nat) : s.Grows (s.readBuf r k b off n).st := by
  unfold State.readBuf
  split
  · exact s.readHost_grows r k _ n
  · exact s.readMem_grows r k _ _ n

theorem State.readIdx_grows (s : State) (r : Run) (k i off n : Nat) : s.Grows (s.readIdx r k i off n).st := by
  unfold State.readIdx
  split
  · exact s.readBuf_grows r k _ off n
  · exact .refl s

theorem eachUnit_grows {f : Nat → State → Done} (hf : ∀ u (s : State), s.Grows (f u s).1) (us : List Nat) (s : State) : s.Grows (eachUnit us f s).1 := by
  suffices h : ∀ (acc : Done), acc.1.Grows (us.foldl (fun acc u => ((f u acc.1).1, firstFail acc.2 (f u acc.1).2)) acc).1 from h (s, none)
  induction us with
  | nil => exact fun acc => .refl _
  | cons u us ih => exact fun acc => (hf u acc.1).trans (ih ((f u acc.1).1, firstFail acc.2 (f u acc.1).2))

theorem State.checkBiases_grows (s : State) (q : Problem) (prob : Nat) (us : List Nat) : s.Grows (s.checkBiases q prob us).1 :=
  eachUnit_grows (fun _ t => t.readLs_grows _ _ _) us s

-- Writes.

theorem State.writeBuf_grows (s : State) (r : Run) (b : Buffer) (off : Nat) (bs : Bytes) : s.Grows (s.writeBuf r b off bs) := by
  have hframe := s.writeBuf_eq r b off bs
  exact .of_same (by rw [hframe]) (by rw [hframe]) (by rw [hframe]) (by rw [hframe])

theorem State.writeIdx_grows (s : State) (r : Run) (i off : Nat) (bs : Bytes) : s.Grows (s.writeIdx r i off bs) := by
  have hframe := s.writeIdx_eq r i off bs
  exact .of_same (by rw [hframe]) (by rw [hframe]) (by rw [hframe]) (by rw [hframe])

theorem State.Grows.writeIdx {s t : State} (h : s.Grows t) (r : Run) (i off : Nat) (bs : Bytes) : s.Grows (t.writeIdx r i off bs) :=
  h.trans (t.writeIdx_grows r i off bs)

theorem State.Grows.writeBuf {s t : State} (h : s.Grows t) (r : Run) (b : Buffer) (off : Nat) (bs : Bytes) : s.Grows (t.writeBuf r b off bs) :=
  h.trans (t.writeBuf_grows r b off bs)

theorem State.Grows.finishMoments {s t : State} (h : s.Grows t) (r : Run) (k b count ns : Nat) (fp : Bool) : s.Grows (t.finishMoments r k b count ns fp).1 := by
  unfold State.finishMoments
  split
  · exact h
  · dsimp only
    exact .writeIdx (h.trans ((t.readIdx_grows r k b 0 (8 * count)).trans (State.freeBytes_grows _ _))) _ _ _ _

/-- An output of moments, where the record asks for one (02 R51). -/
theorem State.Grows.moments {s t : State} (h : s.Grows t) {c : Prop} {hc : Decidable c} {r : Run} {k b count ns : Nat} {fp : Bool} :
    s.Grows (if c then ((t, none) : Done) else t.finishMoments r k b count ns fp).1 := by
  split
  · exact h
  · exact h.finishMoments ..

theorem State.Grows.setIntOverflow {s t : State} (h : s.Grows t) {c : Prop} {hc : Decidable c} {d : Nat} : s.Grows (if c then t.setIntOverflow d else t) := by
  split
  · exact h.trans (t.modRun_grows d fun _ => rfl)
  · exact h

theorem State.writeOutputs_grows (s : State) (d : Nat) (r : Run) (q : Problem) (a : AnnealRun) : s.Grows (s.writeOutputs d r q a).1 := by
  have hbias := s.checkBiases_grows q a.problem (List.range 128)
  unfold State.writeOutputs
  dsimp only
  split
  case isTrue =>
    exact .setIntOverflow (.moments (.moments ((hbias.writeIdx ..).writeIdx ..)))
  case isFalse =>
    dsimp only
    split
    · exact ((((hbias.writeIdx ..).writeIdx ..).writeIdx ..).writeIdx ..).writeIdx ..
    · exact ((hbias.writeIdx ..).writeIdx ..).writeIdx ..

-- The checkpoint of a stopped run.

theorem State.readSaved_grows (s : State) (r : Run) (k : Nat) : s.Grows (s.readSaved r k).1 := by
  unfold State.readSaved
  dsimp only
  refine (eachUnit_grows (fun _ t => t.readLs_grows _ _ _) _ s).trans ((eachUnit_grows (fun _ t => t.readLs_grows _ _ _) _ _).trans (eachUnit_grows (fun i t => ?_) _ _))
  split
  · exact t.readBuf_grows ..
  · exact .refl t

theorem State.saveCheckpoint_grows (s : State) (d : Nat) (r : Run) (word : Nat) (partialPass : Bool) (problems : Vector (Option Problem) 4) :
    s.Grows (s.saveCheckpoint d r word partialPass problems).1 := by
  have hmark := s.modRun_grows d (f := fun r => { r with saving := false }) fun _ => rfl
  unfold State.saveCheckpoint
  extract_lets us secs t f u gen keep v content
  split
  case isTrue => exact hmark.trans (State.failWord_grows _ _ _ _ _ _)
  case isFalse =>
    have hv : s.Grows v := (hmark.writeBuf ..).trans (.of_same rfl rfl rfl rfl)
    have hread := hv.trans (v.readSaved_grows r word)
    clear_value v
    split
    · rename_i h
      rw [h] at hread
      exact hread
    · rename_i z h
      rw [h] at hread
      clear_value secs
      extract_lets n free sram body cd own flags sk head c keys sections head' written settled out t' snap out' u'
      have hwritten : s.Grows written := (hread.trans (.foldl (fun t x => t.writeBuf_grows ..) _ _)).writeBuf ..
      exact (hwritten.trans (.of_same (t := u') rfl rfl rfl rfl)).trans (u'.modRun_grows d fun _ => rfl)

-- The end of an ANNEAL or SAMPLE.

theorem State.seamLag_eq (s : State) (crossed : Bool) : (s.seamLag crossed).2 = { s with out := (s.seamLag crossed).2.out } := by cases crossed <;> rfl

/-- Beside the hanks' records the end of a run writes to its seam lags, to the noise timers and to the count of free values. -/
theorem State.endAnneal_keeps (s : State) (a : AnnealRun) (last : Option Nat) (fail : Option Failure) :
    (s.endAnneal a last fail).board = s.board ∧ (s.endAnneal a last fail).steward = s.steward ∧ (s.endAnneal a last fail).recorder = s.recorder := by
  unfold State.endAnneal
  extract_lets we ew t cls plies recs u v w
  have ht : t = { s with out := t.out } := by
    rw [show t = _ from we.2.seamLag_eq a.crossed.e, show we.2 = _ from s.seamLag_eq a.crossed.w]
  have hv {γ : Type} (p : State → γ) (hp : ∀ f, p (u.modDict f) = p u) : p v = p u := by rw [show p v = _ from apply_ite p _ _ _, hp, ite_self]
  have hboard := hv State.board fun _ => rfl
  have hsteward := hv State.steward fun _ => rfl
  have hrecorder := hv State.recorder fun _ => rfl
  rw [show u = t.modRun a.distaff _ from rfl, ht] at hboard hsteward hrecorder
  exact ⟨hboard, hsteward, hrecorder⟩

end Sys2Proof.Machine
end

section
/-!
PROOF. NOISE_TIMEOUT (O47): a word's wait fails; a run in its start wait, or a held one with nothing pending, ends with its outputs.
-/
namespace Sys2Proof.Machine

-- A held run with nothing pending.

/-- A state whose engine runs what the earlier one ran, with nothing pending. -/
structure State.Held (s t : State) (a : AnnealRun) (r : Run) : Prop where
  grows : s.Grows t
  engine : ∃ b y q, t.engine = some (b, y, q) ∧ b.quiet = true ∧ b.distaff = a.distaff ∧ b.word = a.word ∧ y.issued = r.issued

theorem AnnealRun.quiet_iff (a : AnnealRun) : a.quiet = true ↔ ∀ h, a.arriving.get h = [] ∧ a.deciding.get h = [] ∧ a.tokens.get h = [] := by
  simp only [AnnealRun.quiet, Bool.and_eq_true, List.isEmpty_iff]
  constructor
  · rintro ⟨⟨⟨⟨⟨h1, h2⟩, h3⟩, h4⟩, h5⟩, h6⟩ h
    cases h <;> simp only [Halves.get, *, and_self]
  · intro h
    have hw := h .west
    have he := h .east
    simp only [Halves.get] at hw he
    simp only [hw, he, and_self]

/-- With no token in flight there is none to apply. -/
theorem State.applyAll_of_quiet {s : State} {a : AnnealRun} (ha : s.anneal = some a) (hq : a.quiet = true) : s.applyAll = s := by
  have hone (h : Half) (u : Nat) : s.applyTokens u h ((s.anneal.map fun a => (a.tokens.get h).length).getD 0) = s := by
    rw [ha, Option.map_some, ((a.quiet_iff.1 hq) h).2.2]
    rfl
  have hall (h : Half) (l : List Nat) :
      l.foldl (fun (s : State) u => s.applyTokens u h ((s.anneal.map fun a => (a.tokens.get h).length).getD 0)) s = s := by
    induction l with
    | nil => rfl
    | cons u l ih => rw [List.foldl_cons, hone, ih]
  unfold State.applyAll
  dsimp only
  rw [hall, hall]

theorem State.engine_of_some {s : State} {a : AnnealRun} {r : Run} {q : Problem} (hp : s.board.phase = .ready) (ha : s.anneal = some a) (hr : s.run a.distaff = some r)
    (hq : r.problem a.problem = some q) : s.engine = some (a, r, q) := by
  unfold State.engine
  rw [hp, ha]
  dsimp only
  rw [hr, Option.bind_some, hq, Option.map_some]

/-- A window of an arbiter with no request pending commits nothing (03 R70). -/
theorem State.arbitrate_of_quiet (s : State) (r : Run) (q : Problem) {a : AnnealRun} (hq : a.quiet = true) (h : Half) :
    (s.arbitrate r q a h).2 = q ∧ (s.arbitrate r q a h).1.quiet = true ∧ (s.arbitrate r q a h).1.distaff = a.distaff ∧ (s.arbitrate r q a h).1.word = a.word ∧
      (s.arbitrate r q a h).1.problem = a.problem := by
  have hempty := a.quiet_iff.1 hq
  obtain ⟨harriving, hdeciding, htokens⟩ := hempty h
  unfold State.arbitrate
  simp only [hdeciding, harriving, htokens, List.foldl_nil, List.take_nil, State.guarded, List.filter_nil, ite_self, State.commitAll, List.map_nil, List.append_nil,
    and_self, and_true, true_and, AnnealRun.quiet_iff]
  intro g
  obtain ⟨harriving', hdeciding', htokens'⟩ := hempty g
  by_cases hg : g = h
  · subst hg
    simp only [Halves.get_set, and_self]
  · simp only [Halves.get_set_of_ne _ _ hg, harriving', hdeciding', htokens', and_self]

/-- The arbiter of one half answers a window's requests. -/
def State.arbiterDrains (s : State) (h : Half) : State :=
  match s.engine with
  | some (a, r, q) =>
    let x := s.arbitrate r q a h
    ((s.setProblem a.distaff a.problem x.2).setAnneal x.1).noteToken h (a.tokens.get h) (x.1.tokens.get h)
  | none => s

theorem State.drainWindow_eq (s : State) : s.drainWindow = ((s.arbiterDrains .west).arbiterDrains .east).applyAll := rfl

theorem State.noteToken_eq (s : State) (h : Half) (old new : List Token) : s.noteToken h old new = { s with units := (s.noteToken h old new).units } := by
  unfold State.noteToken
  split <;> rfl

theorem State.arbiterDrains_held {s : State} {a : AnnealRun} {r : Run} {q : Problem} (he : s.engine = some (a, r, q)) (hq : a.quiet = true) (h : Half) :
    s.Held (s.arbiterDrains h) a r := by
  obtain ⟨hphase, ha, hr, hp⟩ := State.engine_eq_some he
  obtain ⟨hproblem, hquiet, hdistaff, hword, hprob⟩ := s.arbitrate_of_quiet r q hq h
  set x := s.arbitrate r q a h with hx
  set t := (s.setProblem a.distaff a.problem x.2).setAnneal x.1 with ht
  have hdrains : s.arbiterDrains h = t.noteToken h (a.tokens.get h) (x.1.tokens.get h) := by
    unfold State.arbiterDrains
    rw [he]
  have hnote := t.noteToken_eq h (a.tokens.get h) (x.1.tokens.get h)
  have hrun := State.run_setProblem hr a.problem x.2
  rw [hdrains, hnote]
  refine ⟨(s.setProblem_grows a.distaff a.problem x.2).trans (.of_same rfl rfl rfl rfl),
    x.1, { r with problems := vset r.problems a.problem (some x.2) }, q, State.engine_of_some hphase rfl ?_ ?_, hquiet, hdistaff, hword, rfl⟩
  · rw [hdistaff]
    exact hrun
  · rw [hprob, Run.problem_vset _ _ _ _ (Run.lt_of_problem hp), if_pos rfl, hproblem]

theorem State.drainWindow_held {s : State} {a : AnnealRun} {r : Run} {q : Problem} (he : s.engine = some (a, r, q)) (hq : a.quiet = true) :
    s.Held s.drainWindow a r := by
  obtain ⟨hwest, b, y, p, heb, hqb, hdb, hwb, hib⟩ := State.arbiterDrains_held he hq .west
  obtain ⟨heast, c, z, o, hec, hqc, hdc, hwc, hic⟩ := State.arbiterDrains_held heb hqb .east
  rw [State.drainWindow_eq, State.applyAll_of_quiet (State.engine_eq_some hec).2.1 hqc]
  exact ⟨hwest.trans heast, c, z, o, hec, hqc, hdc.trans hdb, hwc.trans hwb, hic.trans hib⟩

-- The stop.

/-- The end of a stop that has answered its requests: outputs, checkpoint, NOISE_FAILED (04 R102 steps 2 to 4). -/
def State.stopRun (s : State) (a : AnnealRun) (r : Run) (q : Problem) (evRef : Nat) : State :=
  let x := s.writeOutputs a.distaff r q a
  let s := x.1.setProblem a.distaff a.problem q
  let s := if r.header.ckptSpace = 0 || r.aborted.isSome then s
    else (s.saveCheckpoint a.distaff r 0xFFFF true (vset r.problems a.problem (some q))).1
  s.endAnneal a none (some { status := stNoise, cause := 0, evRef := evRef })

theorem State.stopAnneal_eq (s : State) (evRef : Nat) {t : State} {a : AnnealRun} {r : Run} {q : Problem}
    (ht : t = if (s.anneal.map fun a => a.startWait) = some true then s else s.applyAll.drainWindow.drainWindow) (he : t.engine = some (a, r, q)) :
    ∃ p, s.stopAnneal evRef = t.stopRun a r p evRef := by
  subst ht
  unfold State.stopAnneal
  dsimp only
  rw [he]
  exact ⟨_, rfl⟩

/-- What a stop leaves of the state: no run, its word failed with NOISE_FAILED and the record, the records, the board and the steward. -/
structure State.Stopped (s t : State) (a : AnnealRun) (evRef : Nat) : Prop where
  anneal : t.anneal = none
  ran : t.ranWith a.distaff a.word (some { status := stNoise, cause := 0, evRef := evRef })
  inbox : s.recorder.inbox ⊆ t.recorder.inbox
  board : t.board = s.board
  steward : t.steward = s.steward

theorem State.stopRun_stopped {s : State} {a : AnnealRun} {r y : Run} (q : Problem) (evRef : Nat) (hr : s.run a.distaff = some y)
    (hi : ∃ i ∈ y.issued, i.index = a.word) : s.Stopped (s.stopRun a r q evRef) a evRef := by
  unfold State.stopRun
  extract_lets x t u
  have hout : s.Grows t := (s.writeOutputs_grows a.distaff r q a).trans (State.setProblem_grows _ _ _ _)
  have hu : s.Grows u := by
    change s.Grows (if _ then t else _)
    split
    · exact hout
    · exact hout.trans (t.saveCheckpoint_grows ..)
  obtain ⟨z, hz, hissued⟩ := hu.runs _ _ hr
  obtain ⟨hnone, hran, -⟩ := State.endAnneal_ran none (some { status := stNoise, cause := 0, evRef := evRef }) hz (hissued ▸ hi)
  obtain ⟨hboard, hsteward, hrecorder⟩ := u.endAnneal_keeps a none (some { status := stNoise, cause := 0, evRef := evRef })
  exact ⟨hnone, hran, hrecorder ▸ hu.inbox, hboard.trans hu.board, hsteward.trans hu.steward⟩

theorem State.stopAnneal_stopped {s : State} {a : AnnealRun} {r : Run} {q : Problem} (evRef : Nat) (he : s.engine = some (a, r, q))
    (hi : ∃ i ∈ r.issued, i.index = a.word) (hwait : a.startWait = true ∨ a.startWait = false ∧ a.quiet = true) : s.Stopped (s.stopAnneal evRef) a evRef := by
  obtain ⟨hphase, ha, hr, hp⟩ := State.engine_eq_some he
  rcases hwait with hw | ⟨hw, hq⟩
  · obtain ⟨p, hstop⟩ := s.stopAnneal_eq evRef (t := s) (by rw [ha, Option.map_some, hw]; rfl) he
    rw [hstop]
    exact State.stopRun_stopped p evRef hr hi
  · obtain ⟨hfirst, b, y, p, heb, hqb, hdb, hwb, hib⟩ := State.drainWindow_held he hq
    obtain ⟨hsecond, c, z, o, hec, -, hdc, hwc, hic⟩ := State.drainWindow_held heb hqb
    have hgrows := hfirst.trans hsecond
    obtain ⟨p, hstop⟩ := s.stopAnneal_eq evRef (t := s.drainWindow.drainWindow) (by
      rw [ha, Option.map_some, hw, State.applyAll_of_quiet ha hq]
      exact (if_neg (by simp)).symm) hec
    have hissued : ∃ i ∈ z.issued, i.index = c.word := by rwa [hic, hib, hwc, hwb]
    have hstopped := State.stopRun_stopped (r := z) p evRef (State.engine_eq_some hec).2.2.1 hissued
    rw [← hstop] at hstopped
    exact ⟨hstopped.anneal, hdc.trans hdb ▸ hwc.trans hwb ▸ hstopped.ran, List.Subset.trans hgrows.inbox hstopped.inbox, hstopped.board.trans hgrows.board,
      hstopped.steward.trans hgrows.steward⟩

/-- The timeout of the running word: its record, and the stop with it (04 R102, R105). -/
theorem State.timeoutAnneal_stopped {s : State} {a : AnnealRun} {r : Run} {q : Problem} (he : s.engine = some (a, r, q)) (hi : ∃ i ∈ r.issued, i.index = a.word)
    (hwait : a.startWait = true ∨ a.startWait = false ∧ a.quiet = true) (h : Half) (consumer : Nat) :
    ∃ f n, (s.timeoutAnneal h consumer).anneal = none ∧ (s.timeoutAnneal h consumer).ranWith a.distaff a.word (some f) ∧ f.status = 0x10 ∧ f.cause = 0 ∧
      f.evRef = s.recorder.made + 1 ∧ n ∈ (s.timeoutAnneal h consumer).recorder.inbox ∧ n.type = 0x0406 ∧ n.source = r.ring ∧ n.sourceSeq = r.seq ∧
      (s.timeoutAnneal h consumer).board = s.board ∧ (s.timeoutAnneal h consumer).steward = s.steward := by
  have hstop : s.timeoutAnneal h consumer = (s.timeoutHalf r h consumer).stopAnneal (s.timeoutHalf r h consumer).lastRef := by
    unfold State.timeoutAnneal
    rw [he]
  have hstopped := State.stopAnneal_stopped (s := s.timeoutHalf r h consumer) (s.timeoutHalf r h consumer).lastRef he hi hwait
  rw [← hstop] at hstopped
  exact ⟨_, _, hstopped.anneal, hstopped.ran, rfl, rfl, rfl, hstopped.inbox (List.mem_append_right _ (List.mem_singleton_self _)), rfl, rfl, rfl, hstopped.board,
    hstopped.steward⟩

-- The waits of one word.

theorem Run.noiseWaiter_issued {r : Run} {o : Op} {k x : Nat} (h : r.noiseWaiter o = some (k, x)) : ∃ i ∈ r.issued, i.index = k := by
  obtain ⟨i, hi, hc⟩ := Option.bind_eq_some_iff.1 h
  obtain ⟨c, -, hk⟩ := Option.map_eq_some_iff.1 hc
  exact ⟨i, List.mem_of_find?_eq_some hi, congrArg Prod.fst hk⟩

/-- A waiting word fails after its record: its hank's list of issued words and the record are all that changes (04 R99, R105). -/
theorem State.failWait_emit {s : State} {d k : Nat} {r : Run} (hr : s.run d = some r) (hi : ∃ i ∈ r.issued, i.index = k) (n : Notice) :
    let t := (s.emit n).failWait d k
    ∃ f, t = { s with distaffs := t.distaffs, recorder := t.recorder } ∧ t.ranWith d k (some f) ∧ f.status = 0x10 ∧
      t.recorder.inbox = s.recorder.inbox ++ [n] ∧ ∀ e, e ≠ d → t.run e = s.run e :=
  ⟨_, rfl, (State.modIssued_ran (t := s.emit n) _ hr hi).1, rfl, rfl, fun _ he => State.run_modRun_of_ne _ _ _ _ he⟩

theorem exec_noiseTimeout {s : State} (h : s.board.phase = .ready) (w : NoiseWait) : exec (.noiseTimeout w) s = .next (match w with
    | .openStart => s.timeoutStart
    | .hold h => s.timeoutHold h
    | .openExchange d => s.timeoutExchange d
    | .deviceKey d => s.timeoutKey d
    | .raw d => s.timeoutRaw d
    | .rootOfTrust => s.timeoutRot5) := by
  change execNoiseTimeout w s = _
  unfold execNoiseTimeout
  rw [if_neg (not_not_intro h)]
  cases w <;> rfl

/-- Settles O47: the running word stops behind its record; a waiting word, key or request fails with its own. -/
theorem noiseTimeoutsEndTheWait : Obligations.NoiseTimeoutsEndTheWait := by
  intro s hphase
  refine ⟨fun a r q h w he hcf hi hw => ?_, fun d r k x hr => ⟨fun hwaiter hgroup => ?_, fun hwaiter hkey hserves => ?_, fun hkey hfail habort hserves => ?_⟩,
    fun q rest hqueue hkind hserves => ?_⟩
  · rcases hw with ⟨rfl, hwait, hready⟩ | ⟨rfl, hwait, htimer, hquiet⟩
    · have hexec : exec (.noiseTimeout .openStart) s = .next (s.timeoutAnneal (if s.noise.half.w ≠ 1 then .west else .east) 0) := by
        rw [exec_noiseTimeout hphase]
        simp only [State.timeoutStart, he, hcf, hwait, hready, Bool.not_true, Bool.or_self, Bool.false_eq_true, if_false]
      obtain ⟨f, n, hend⟩ := State.timeoutAnneal_stopped he hi (.inl hwait) (if s.noise.half.w ≠ 1 then .west else .east) 0
      exact ⟨_, f, n, hexec, hend⟩
    · have hexec : exec (.noiseTimeout (.hold h)) s = .next (s.timeoutAnneal h 1) := by
        rw [exec_noiseTimeout hphase]
        simp only [State.timeoutHold, he, hcf, hwait, htimer, Bool.not_true, Bool.or_self, Bool.false_eq_true, if_false]
      obtain ⟨f, n, hend⟩ := State.timeoutAnneal_stopped he hi (.inr ⟨hwait, hquiet⟩) h 1
      exact ⟨_, f, n, hexec, hend⟩
  · have hexec := exec_noiseTimeout hphase (.raw d)
    simp only [State.timeoutRaw, hr, hwaiter, if_neg hgroup] at hexec
    obtain ⟨f, hframe, hran, hstatus, hinbox, hothers⟩ := State.failWait_emit hr (Run.noiseWaiter_issued hwaiter)
      (hankNotice 0x0406 error r.ring r.seq (noisePayload 0 (nrGroup x) (s.group (nrGroup x)).state none (s.group (nrGroup x)).fails 4))
    exact ⟨_, f, _, hexec, hframe, hran, hstatus, hinbox, rfl, hothers⟩
  · have hexec := exec_noiseTimeout hphase (.deviceKey d)
    simp only [State.timeoutKey, hr, hserves, hkey, hwaiter, Bool.false_and, Bool.false_eq_true, if_false] at hexec
    obtain ⟨f, hframe, hran, hstatus, hinbox, hothers⟩ := State.failWait_emit hr (Run.noiseWaiter_issued hwaiter)
      (hankNotice 0x0406 error r.ring r.seq (noisePayload 2 0 (if s.rotServes then 0 else 1) none s.noise.rotOutputs 3))
    exact ⟨_, f, _, hexec, hframe, hran, hstatus, hinbox, rfl, hothers⟩
  · have hexec := exec_noiseTimeout hphase (.deviceKey d)
    simp only [State.timeoutKey, hr, hserves, hkey, hfail, habort, Option.isNone_none, Bool.and_self, Bool.false_eq_true, if_false, if_true] at hexec
    exact ⟨_, _, _, hexec, rfl, State.run_modRun_self _ _ _ _ hr, rfl, rfl, rfl⟩
  · have hexec := exec_noiseTimeout hphase .rootOfTrust
    simp only [State.timeoutRot5, State.failSigning, hserves, hqueue, hkind, Bool.false_eq_true, if_false] at hexec
    exact ⟨_, _, hexec, rfl, rfl, rfl⟩

end Sys2Proof.Machine
end

section
/-!
PROOF. UNIT_FAULT on a Bobbin whose waiting fault has a class above 3 (O52).
-/
namespace Sys2Proof.Machine

theorem State.cutSave_units (s : State) (d : Nat) (r : Run) : (s.cutSave d r).units = s.units := by
  unfold State.cutSave
  split
  · rw [State.writeBuf_eq]
  · rfl

theorem State.stopFaulted_units (s : State) (d : Nat) (r : Run) : (s.stopFaulted d r).units = s.units := s.cutSave_units d r

/-- A mismatch on a Bobbin that a hank holds adds class 3 to the faults that wait (13 R360). -/
theorem exec_unitFault_bobbin {s : State} {unit : Fin 136} {stage : Fin 7} {c : Nat × Nat} (hphase : s.board.phase = .ready) (hok : unitFaultOk true unit stage = true)
    (hholder : s.unitHolder true unit = some c) :
    ∃ t, exec (.unitFault true unit stage) s = .next t ∧ t.units.faults = addFault s.units.faults true unit 3 := by
  change ∃ t, execUnitFault true unit stage s = .next t ∧ _
  unfold execUnitFault
  rw [hok, hphase, hholder]
  refine ⟨_, rfl, ?_⟩
  dsimp only
  split
  · split
    · rw [State.stopFaulted_units]
      rfl
    · rfl
  · rfl

/-- A hank in execution, of ring 0 and sequence number 1, with no word issued. -/
def holdingRun : Run := Run.start State.reset ⟨1, .running, ⟨0, 0, 0, 0⟩, 0, false, true, 0, none, none⟩ 0 []

/-- A ready device: the hank on Distaff 0 holds Bobbin 0, and a fault of class 5 of its unit waits to be mapped. -/
def bobbinFaulted : State :=
  (({ State.reset with board := { State.reset.board with phase := .ready }, units := { State.reset.units with faults := [(true, 0, 5)] } }).modBobbin 0
    fun x => { x with holder := some (0, 1) }).setRun 0 (some holdingRun)

/-- Refutes O52: a class 5 that waits for a Bobbin stays the larger one, where the statement has 3. The statement takes any list of waiting faults; the model's own
steps list a Bobbin's with class 3 alone (13 R360). -/
theorem not_faultsStopTheHankAndRemap : ¬ Obligations.FaultsStopTheHankAndRemap := by
  rintro ⟨hfault, -⟩
  have hholder : bobbinFaulted.unitHolder true (0 : Fin 136) = some (0, 1) := rfl
  have hrun : bobbinFaulted.run 0 = some holdingRun := rfl
  obtain ⟨t, q, n, x, hexec, -, -, -, -, -, -, -, -, hwaits, -, hclass, -⟩ :=
    (hfault bobbinFaulted true 0 6 rfl (by decide)).2 (0, 1) 0 holdingRun hholder rfl hrun rfl rfl rfl rfl
  obtain ⟨u, hexec', hfaults⟩ := exec_unitFault_bobbin (s := bobbinFaulted) (unit := 0) (stage := 6) rfl (by decide) hholder
  cases hexec.symm.trans hexec'
  rw [hfaults, hclass rfl] at hwaits
  revert hwaits
  decide

end Sys2Proof.Machine
end

section
/-!
SUPPORT. The paths of the dictionary: serving a path empties its queue, and neither it nor a write of an entry moves what the paths stand on (10 R275, R284).
-/
namespace Sys2Proof.Machine

/-- What decides whether a path is there, and the three queues. -/
def State.ports (s : State) : Board × Pcie × List Nat × List (Nat × Request) × List (Nat × Request) :=
  (s.board, s.pcie, s.dict.bar0, s.dict.i3c.queue, s.dict.vdm.queue)

/-- The same, of the dictionary. -/
def Dictionary.queues (x : Dictionary) : List Nat × List (Nat × Request) × List (Nat × Request) := (x.bar0, x.i3c.queue, x.vdm.queue)

theorem State.ports_eq {s t : State} (hb : t.board = s.board) (hp : t.pcie = s.pcie) (hd : t.dict.queues = s.dict.queues) : t.ports = s.ports := by
  simp only [Dictionary.queues, Prod.mk.injEq] at hd
  obtain ⟨hbar0, hi3c, hvdm⟩ := hd
  rw [State.ports, State.ports, hb, hp, hbar0, hi3c, hvdm]

-- What an entry's action does.

theorem State.startFlush_ports (s : State) : s.startFlush.ports = s.ports := by
  refine State.ports_eq rfl rfl ?_
  change s.dict.startFlush.queues = _
  unfold Dictionary.startFlush
  split <;> rfl

theorem State.markRestore_ports (s : State) : s.markRestore.ports = s.ports := by
  unfold State.markRestore
  split <;> rfl

theorem State.confirmImage_ports (s : State) : s.confirmImage.ports = s.ports := by
  unfold State.confirmImage
  split
  · rfl
  · rfl

theorem State.disarmImage_ports (s : State) : s.disarmImage.ports = s.ports := by
  unfold State.disarmImage
  dsimp only
  split
  · rfl
  · split <;> rfl

theorem State.imageCtrl_ports (s : State) (v : Nat) (ok : Bool) : (s.imageCtrl v ok).ports = s.ports := by
  have hbegin : s.beginStage.ports = s.ports := s.startFlush_ports
  unfold State.imageCtrl
  split
  · exact hbegin
  · split
    · rfl
    · split
      · rfl
      · split
        · rfl
        · rfl
        · exact s.confirmImage_ports
        · exact s.disarmImage_ports
        · rfl

theorem State.HalfMoves.ports {s t : State} (h : s.HalfMoves t) : t.ports = s.ports := by
  rw [h.frame]
  rfl

theorem State.rewarm_ports (s : State) (g : Nat) : (s.rewarm g).ports = s.ports := by
  unfold State.rewarm
  split
  · rfl
  · dsimp only
    split
    · rfl
    · exact (State.updateGroupHalf_moves _ g none).1.ports

theorem State.markWaits_ports (s : State) : s.markWaits.ports = s.ports := by
  unfold State.markWaits
  refine foldl_keeps State.ports _ (fun t p => ?_) _ _
  split <;> rfl

theorem State.entryAct_ports (s : State) (index sub v : Nat) (ok : Bool) : (s.entryAct index sub v ok).ports = s.ports := by
  unfold State.entryAct
  split
  · exact s.startFlush_ports
  · exact s.markRestore_ports
  · exact s.imageCtrl_ports v ok
  · exact s.rewarm_ports _
  · exact s.markWaits_ports
  · rfl
  · rfl
  · rfl
  · split <;> rfl
  · split <;> rfl
  · rfl
  · split <;> rfl
  · rfl
  · rfl

-- A write.

theorem State.modDict_ports (s : State) {f : Dictionary → Dictionary} (h : (f s.dict).queues = s.dict.queues) : (s.modDict f).ports = s.ports := State.ports_eq rfl rfl h

theorem Dictionary.noteChange_queues (x : Dictionary) (index sub path : Nat) (old new : BitVec 64) (rwp : Bool) : (x.noteChange index sub path old new rwp).queues = x.queues := by
  unfold Dictionary.queues Dictionary.noteChange
  rfl

theorem Dictionary.store_queues (x : Dictionary) (index sub : Nat) (v : BitVec 64) : (x.store index sub v).queues = x.queues := by
  unfold Dictionary.queues Dictionary.store
  rfl

/-- A change of an entry that is noted in the journal. -/
theorem State.noted_ports (s : State) (index sub path : Nat) (old new : BitVec 64) (rwp : Bool) {f : Dictionary → Dictionary} (hf : (f s.dict).queues = s.dict.queues) :
    (s.modDict fun x => (f x).noteChange index sub path old new rwp).ports = s.ports :=
  s.modDict_ports ((Dictionary.noteChange_queues ..).trans hf)

theorem State.useFree_ports (s : State) : s.useFree.ports = s.ports := rfl

theorem State.applyScalar_ports (s : State) (path : Nat) (r : Row) (sub v : Nat) (ok : Bool) : (s.applyScalar path r sub v ok).ports = s.ports := by
  unfold State.applyScalar
  dsimp only
  split
  · refine (State.entryAct_ports _ _ _ _ _).trans ((State.useFree_ports _).trans ?_)
    exact s.noted_ports (f := id) _ _ _ _ _ _ rfl
  · refine (State.entryAct_ports _ _ _ _ _).trans ?_
    exact s.noted_ports _ _ _ _ _ _ (Dictionary.store_queues ..)

/-- A write that may be refused first. -/
theorem ports_refused {s : State} {x : State × Nat} (h : x.1.ports = s.ports) {c : Prop} {hc : Decidable c} {e : Nat} : (if c then (s, e) else x).1.ports = s.ports := by
  split
  · rfl
  · exact h

theorem State.putScalar_ports (s : State) (path index sub v : Nat) (ok : Bool) : (s.putScalar path index sub v ok).1.ports = s.ports := by
  unfold State.putScalar
  refine ports_refused ?_
  split
  case h_1 => rfl
  case h_2 r _ => exact ports_refused (ports_refused (ports_refused (ports_refused (ports_refused (s.applyScalar_ports path r sub v ok)))))

theorem State.writeBlock_ports (s : State) (path offset : Nat) (data : Bytes) (ok : Bool) : (s.writeBlock path offset data ok).1.ports = s.ports := by
  unfold State.writeBlock
  dsimp only
  refine ports_refused (ports_refused (ports_refused ?_))
  split
  · exact s.startFlush_ports
  · split
    · split
      · exact s.noted_ports (f := id) _ _ _ _ _ _ rfl
      · rfl
    · split
      · rfl
      · exact (State.noted_ports _ (f := id) _ _ _ _ _ _ rfl).trans rfl

theorem State.storeBytes_ports (s : State) (index sub : Nat) (b : Bytes) : (s.storeBytes index sub b).ports = s.ports := by
  refine s.modDict_ports ?_
  split <;> rfl

theorem State.putBytes_ports (s : State) (path index sub offset : Nat) (data : Bytes) (ok : Bool) : (s.putBytes path index sub offset data ok).1.ports = s.ports := by
  unfold State.putBytes
  refine ports_refused ?_
  split
  case h_1 => rfl
  case h_2 r _ =>
    refine ports_refused (ports_refused ?_)
    split
    · exact s.writeBlock_ports path offset data ok
    · exact ports_refused (ports_refused (ports_refused ((State.storeBytes_ports _ _ _ _).trans (s.noted_ports (f := id) _ _ _ _ _ _ rfl))))

-- The service of a path.

theorem State.serveSlot_ports (s : State) (x : Slot) (ok : Bool) : (s.serveSlot x ok).1.ports = s.ports := by
  unfold State.serveSlot
  split
  · rfl
  · exact s.putScalar_ports ..
  · split <;> rfl
  · exact s.putBytes_ports ..

theorem State.mctpWrite_ports (s : State) (p : Mctp) (q : Request) (ok : Bool) : (s.mctpWrite p q ok).1.ports = s.ports := by
  unfold State.mctpWrite
  split
  · exact ports_refused (s.putScalar_ports ..)
  · exact s.putScalar_ports ..

theorem State.serveRequest_ports (s : State) (p : Mctp) (command : Nat) (q : Request) (ok : Bool) : (s.serveRequest p command q ok).1.ports = s.ports := by
  have hwrite := s.mctpWrite_ports p q ok
  have hbytes := s.putBytes_ports (pathCode (mctpPath p)) q.index.toNat q.sub.toNat q.offset.toNat q.data ok
  unfold State.serveRequest
  dsimp only
  split
  · rfl
  · split
    · split <;> rfl
    · split
      · exact hwrite
      · split
        · split <;> rfl
        · split
          · rfl
          · split
            · split <;> rfl
            · exact hbytes

-- The queues.

/-- The queue of a path; the device's own has none. -/
def State.waiting (s : State) : Path → Nat
  | .bar0 => s.dict.bar0.length
  | .i3c => s.dict.i3c.queue.length
  | .vdm => s.dict.vdm.queue.length
  | .device => 0

/-- A state whose paths stand on the same, with path `p` served. -/
structure State.Served (s t : State) (p : Path) : Prop where
  board : t.board = s.board
  pcie : t.pcie = s.pcie
  waiting : t.waiting p = 0

theorem State.serveBar0_step {s : State} {k : Nat} {rest : List Nat} (h : s.dict.bar0 = k :: rest) (ok : Bool) :
    (s.serveBar0 ok).board = s.board ∧ (s.serveBar0 ok).pcie = s.pcie ∧ (s.serveBar0 ok).dict.bar0 = rest := by
  have hports : (s.serveBar0 ok).ports = ({ s with dict := { s.dict with bar0 := rest } } : State).ports := by
    unfold State.serveBar0
    rw [h]
    exact (State.serveSlot_ports _ _ _).trans rfl
  simp only [State.ports, Prod.mk.injEq] at hports
  exact ⟨hports.1, hports.2.1, hports.2.2.1⟩

theorem State.serveAllBar0_served (s : State) (ok : Bool) : s.Served (s.serveAllBar0 ok) .bar0 := by
  unfold State.serveAllBar0
  suffices h : ∀ (l : List Nat) (s : State), s.dict.bar0 = l → s.Served (l.foldl (fun s _ => s.serveBar0 ok) s) .bar0 from h _ s rfl
  intro l
  induction l with
  | nil => exact fun s h => ⟨rfl, rfl, by rw [State.waiting, List.foldl_nil, h]; rfl⟩
  | cons k l ih =>
    intro s h
    obtain ⟨hb, hp, hrest⟩ := State.serveBar0_step h ok
    obtain ⟨hb', hp', hw⟩ := ih _ hrest
    exact ⟨hb'.trans hb, hp'.trans hp, hw⟩

theorem State.serveMctp_step {s : State} (p : Mctp) {q : Nat × Request} {rest : List (Nat × Request)} (h : (s.dict.end_ p).queue = q :: rest) (ok : Bool) :
    (s.serveMctp p ok).board = s.board ∧ (s.serveMctp p ok).pcie = s.pcie ∧ ((s.serveMctp p ok).dict.end_ p).queue = rest := by
  have hports : (s.serveMctp p ok).ports = (s.modEnd p fun x => { x with queue := rest }).ports := by
    unfold State.serveMctp
    rw [h]
    cases p <;> exact (State.serveRequest_ports _ _ _ _ _).trans rfl
  cases p <;> simp only [State.ports, Prod.mk.injEq] at hports
  · exact ⟨hports.1, hports.2.1, hports.2.2.2.1⟩
  · exact ⟨hports.1, hports.2.1, hports.2.2.2.2⟩

theorem State.serveAllMctp_served (s : State) (p : Mctp) (ok : Bool) :
    s.Served ((s.dict.end_ p).queue.foldl (fun s _ => s.serveMctp p ok) s) (mctpPath p) := by
  suffices h : ∀ (l : List (Nat × Request)) (s : State), (s.dict.end_ p).queue = l → s.Served (l.foldl (fun s _ => s.serveMctp p ok) s) (mctpPath p) from h _ s rfl
  intro l
  induction l with
  | nil =>
    intro s h
    refine ⟨rfl, rfl, ?_⟩
    rw [List.foldl_nil]
    cases p <;> exact congrArg List.length h
  | cons q l ih =>
    intro s h
    obtain ⟨hb, hp, hrest⟩ := State.serveMctp_step p h ok
    obtain ⟨hb', hp', hw⟩ := ih _ hrest
    exact ⟨hb'.trans hb, hp'.trans hp, hw⟩

theorem State.servePath_served (s : State) (p : Path) : s.Served (s.servePath p) p := by
  cases p with
  | bar0 => exact s.serveAllBar0_served true
  | i3c => exact s.serveAllMctp_served .i3c true
  | vdm => exact s.serveAllMctp_served .vdm true
  | device => exact ⟨rfl, rfl, rfl⟩

theorem State.Served.pathOpen {s t : State} {p : Path} (h : s.Served t p) : t.pathOpen p = s.pathOpen p := by
  cases p <;> simp only [State.pathOpen, State.windowOpen, State.linkOpen, h.board, h.pcie]

/-- With nothing waiting a path is not full, and its service does nothing. -/
theorem State.pathFull_of_waiting {s : State} {p : Path} (h : s.waiting p = 0) : s.pathFull p = false := by
  cases p with
  | device => rfl
  | bar0 | i3c | vdm =>
    rw [State.waiting] at h
    simp [State.pathFull, h]

theorem State.servePath_of_waiting {s : State} {p : Path} (h : s.waiting p = 0) : s.servePath p = s := by
  cases p with
  | device => rfl
  | bar0 =>
    have hnil : s.dict.bar0 = [] := List.length_eq_zero_iff.1 h
    simp [State.servePath, State.serveAllBar0, hnil]
  | i3c =>
    have hnil : s.dict.i3c.queue = [] := List.length_eq_zero_iff.1 h
    simp [State.servePath, hnil]
  | vdm =>
    have hnil : s.dict.vdm.queue = [] := List.length_eq_zero_iff.1 h
    simp [State.servePath, hnil]

end Sys2Proof.Machine
end

section
/-!
PROOF. The writes of an entry (O54): the path serves what waits, a refused write answers its status, a write applied is stored and journalled and takes its effect.
-/
namespace Sys2Proof.Machine

-- The commands.

/-- A command that is one write of an entry is a write of a scalar or of bytes on its path. -/
theorem exec_of_pathCommand {c : Instr} {p : Path} (h : pathCommand c = some p) :
    (∃ index sub v ok, ∀ s, exec c s = .next (s.pathWrite p index sub v ok)) ∨ ∃ index sub offset data ok, ∀ s, exec c s = .next (s.pathBytes p index sub offset data ok) := by
  unfold pathCommand at h
  split at h <;> cases h
  case h_11 => exact .inr ⟨_, _, _, _, _, fun _ => rfl⟩
  case h_21 => exact .inr ⟨_, _, _, _, _, fun _ => rfl⟩
  all_goals exact .inl ⟨_, _, _, _, fun _ => rfl⟩

theorem State.pathWrite_closed {s : State} {p : Path} (h : s.pathOpen p = false) (index sub v : Nat) (ok : Bool) : s.pathWrite p index sub v ok = s :=
  if_pos (by rw [h]; rfl)

theorem State.pathBytes_closed {s : State} {p : Path} (h : s.pathOpen p = false) (index sub offset : Nat) (data : Bytes) (ok : Bool) :
    s.pathBytes p index sub offset data ok = s := if_pos (by rw [h]; rfl)

theorem State.pathWrite_full {s : State} {p : Path} (h : s.pathOpen p = true) (hf : s.pathFull p = true) (index sub v : Nat) (ok : Bool) :
    s.pathWrite p index sub v ok = s.reply 0x08 := (if_neg (by rw [h]; decide)).trans (if_pos hf)

theorem State.pathBytes_full {s : State} {p : Path} (h : s.pathOpen p = true) (hf : s.pathFull p = true) (index sub offset : Nat) (data : Bytes) (ok : Bool) :
    s.pathBytes p index sub offset data ok = s.reply 0x08 := (if_neg (by rw [h]; decide)).trans (if_pos hf)

theorem State.pathWrite_open {s : State} {p : Path} (h : s.pathOpen p = true) (hf : s.pathFull p = false) (index sub v : Nat) (ok : Bool) :
    s.pathWrite p index sub v ok = ((s.servePath p).putScalar (pathCode p) index sub v ok).1.reply ((s.servePath p).putScalar (pathCode p) index sub v ok).2 :=
  (if_neg (by rw [h]; decide)).trans (if_neg (by rw [hf]; decide))

theorem State.pathBytes_open {s : State} {p : Path} (h : s.pathOpen p = true) (hf : s.pathFull p = false) (index sub offset : Nat) {data : Bytes} (ok : Bool) :
    s.pathBytes p index sub offset data ok = if data.isEmpty || 4096 < data.length then (s.servePath p).reply 0x04
      else ((s.servePath p).putBytes (pathCode p) index sub offset data ok).1.reply ((s.servePath p).putBytes (pathCode p) index sub offset data ok).2 :=
  (if_neg (by rw [h]; decide)).trans (if_neg (by rw [hf]; decide))

/-- The first clause: a closed path, a full queue, and a write after what waits (10 R275, R284). -/
theorem exec_pathCommand {c : Instr} {p : Path} (hc : pathCommand c = some p) (s : State) :
    (s.pathOpen p = false → exec c s = .next s) ∧ (s.pathOpen p = true → s.pathFull p = true → exec c s = .next (s.reply 0x08)) ∧
      (s.pathOpen p = true → s.pathFull p = false → exec c s = exec c (s.servePath p)) := by
  have hserved := s.servePath_served p
  have hagain := State.servePath_of_waiting hserved.waiting
  have hfree := State.pathFull_of_waiting hserved.waiting
  rcases exec_of_pathCommand hc with ⟨i, k, v, ok, hexec⟩ | ⟨i, k, o, data, ok, hexec⟩
  · refine ⟨fun h => ?_, fun h hf => ?_, fun h hf => ?_⟩
    · rw [hexec, State.pathWrite_closed h]
    · rw [hexec, State.pathWrite_full h hf]
    · rw [hexec, hexec, State.pathWrite_open h hf, State.pathWrite_open (hserved.pathOpen.trans h) hfree, hagain]
  · refine ⟨fun h => ?_, fun h hf => ?_, fun h hf => ?_⟩
    · rw [hexec, State.pathBytes_closed h]
    · rw [hexec, State.pathBytes_full h hf]
    · rw [hexec, hexec, State.pathBytes_open h hf, State.pathBytes_open (hserved.pathOpen.trans h) hfree, hagain]

/-- A path that is there with nothing waiting. -/
theorem State.pathIdle_iff {s : State} {p : Path} : s.pathIdle p = true ↔ s.pathOpen p = true ∧ s.waiting p = 0 := by
  cases p <;> simp [State.pathIdle, State.waiting]

-- The table of values.

/-- A lookup in a table after one entry of it is replaced. -/
theorem Sparse.find?_replace_one {α : Type} [DecidableEq α] (d : α) (m : Sparse α) (key : Nat) (v : α) (i : Nat) :
    (Sparse.replace d m key 1 fun _ => v).find? (fun c => c.1 = i) =
      if i = key then (if v = d then none else some (key, v)) else m.find? fun c => c.1 = i := by
  have hkept (p : Nat → Bool) : (m.filter fun c => p c.1).find? (fun c => c.1 = i) = if p i then m.find? (fun c => c.1 = i) else none := by
    rw [List.find?_filter]
    split
    case isTrue hp =>
      congr 1
      funext c
      by_cases hc : c.1 = i <;> simp [hc, hp]
    case isFalse hp =>
      refine List.find?_eq_none.2 fun c _ => ?_
      by_cases hc : c.1 = i <;> simp [hc, hp]
  have hbelow := hkept fun k => k < key
  have habove := hkept fun k => key + 1 ≤ k
  rw [Sparse.replace, List.find?_append, List.find?_append, hbelow, habove]
  have hnew : ((List.range 1).filterMap fun k => let w := v; if w = d then none else some (key + k, w)) = if v = d then [] else [(key, v)] := by
    by_cases hv : v = d <;> simp [hv]
  rw [hnew]
  rcases Nat.lt_trichotomy i key with hlt | rfl | hgt
  · have hother : ((if v = d then [] else [(key, v)]) : Sparse α).find? (fun c => c.1 = i) = none := by
      split <;> simp [hlt.ne']
    rw [hother, if_pos (decide_eq_true hlt), if_neg (by simp; omega), if_neg hlt.ne, Option.or_none, Option.or_none]
  · rw [if_neg (show ¬decide (i < i) = true by simp), if_neg (show ¬decide (i + 1 ≤ i) = true by simp), if_pos rfl, Option.none_or, Option.or_none]
    split <;> simp
  · have hother : ((if v = d then [] else [(key, v)]) : Sparse α).find? (fun c => c.1 = i) = none := by
      split <;> simp [hgt.ne]
    rw [hother, if_neg (by simp; omega), if_pos (decide_eq_true (by omega)), if_neg hgt.ne', Option.or_none, Option.none_or]

theorem defaultOf_lt (index sub : Nat) : defaultOf index sub < 2 ^ 64 := by
  have hschema : ∀ r ∈ schema, r.default < 2 ^ 64 := by decide +kernel
  unfold defaultOf
  split
  · rename_i r hr
    exact hschema r (List.mem_of_find?_eq_some hr)
  · decide

theorem Dictionary.scalar_store_self (x : Dictionary) (index sub : Nat) (v : BitVec 64) : (x.store index sub v).scalar index sub = v.toNat := by
  unfold Dictionary.scalar Dictionary.store
  rw [Sparse.find?_replace_one, if_pos rfl]
  by_cases hv : v = BitVec.ofNat 64 (defaultOf index sub)
  · rw [if_pos hv, hv, BitVec.toNat_ofNat, Nat.mod_eq_of_lt (defaultOf_lt ..)]
  · rw [if_neg hv]

theorem Dictionary.scalar_store_of_ne (x : Dictionary) {index sub a b : Nat} (v : BitVec 64) (h : entryKey a b ≠ entryKey index sub) :
    (x.store index sub v).scalar a b = x.scalar a b := by
  unfold Dictionary.scalar Dictionary.store
  rw [Sparse.find?_replace_one, if_neg h]

/-- What a write that changes a stored scalar leaves in the dictionary: the value, and one journal record (10 R272, R288). -/
def Dictionary.changed (x : Dictionary) (path : Nat) (r : Row) (sub v : Nat) : Dictionary :=
  (x.store r.index sub (BitVec.ofNat 64 v)).noteChange r.index sub path (BitVec.ofNat 64 (x.scalar r.index sub)) (BitVec.ofNat 64 v) (r.access = .rwp)

theorem Dictionary.scalar_noteChange (x : Dictionary) (index sub path : Nat) (old new : BitVec 64) (rwp : Bool) (a b : Nat) :
    (x.noteChange index sub path old new rwp).scalar a b = x.scalar a b := by
  unfold Dictionary.scalar Dictionary.noteChange
  rfl

theorem Dictionary.scalar_changed_self (x : Dictionary) (path : Nat) (r : Row) (sub : Nat) {v : Nat} (hv : v < 2 ^ 64) :
    (x.changed path r sub v).scalar r.index sub = v := by
  rw [Dictionary.changed, Dictionary.scalar_noteChange, Dictionary.scalar_store_self, BitVec.toNat_ofNat, Nat.mod_eq_of_lt hv]

theorem Dictionary.scalar_changed_of_ne (x : Dictionary) (path : Nat) (r : Row) {sub a b : Nat} (v : Nat) (h : entryKey a b ≠ entryKey r.index sub) :
    (x.changed path r sub v).scalar a b = x.scalar a b := by
  rw [Dictionary.changed, Dictionary.scalar_noteChange, Dictionary.scalar_store_of_ne _ _ h]

/-- A dictionary with one journal record more, under the next JSEQ (10 R288). -/
def Dictionary.journals (x y : Dictionary) (index sub path : Nat) : Prop :=
  ∃ j : JournalRec, j.index = index ∧ j.sub = sub ∧ j.path = path ∧ j.jseq = (x.jseq + 1) % 2 ^ 32 ∧ y.jseq = j.jseq ∧ y.journal = lastOf 256 (x.journal ++ [j])

theorem Dictionary.journals_noteChange (x : Dictionary) (index sub path : Nat) (old new : BitVec 64) (rwp : Bool) :
    x.journals (x.noteChange index sub path old new rwp) index sub path := by
  unfold Dictionary.noteChange Dictionary.journals
  dsimp only
  exact ⟨{ jseq := (x.jseq + 1) % 2 ^ 32, index := index, sub := sub, path := path, old := old, new := new, rwp := rwp, flushed := false },
    rfl, rfl, rfl, rfl, rfl, rfl⟩

theorem Dictionary.journals_changed (x : Dictionary) (path : Nat) (r : Row) (sub v : Nat) : x.journals (x.changed path r sub v) r.index sub path := by
  unfold Dictionary.changed Dictionary.store
  exact Dictionary.journals_noteChange _ _ _ _ _ _ _

theorem State.wrote_of_journals {s t : State} {index sub path : Nat} (h : s.dict.journals t.dict index sub path) (hr : t.out.reply = 0) : s.wrote t index sub path :=
  ⟨hr, h⟩

-- A scalar write on an idle path.

/-- A ready device, not in RECOVERY, with nothing waiting on the path. -/
structure State.Writable (s : State) (p : Path) : Prop where
  phase : s.board.phase = .ready
  start : s.start.state ≠ 4
  idle : s.pathIdle p = true

theorem rowOf_index {index sub : Nat} {r : Row} (h : rowOf index sub = some r) : r.index = index := by
  have hr := List.find?_some h
  simp only [Bool.and_eq_true, decide_eq_true_eq] at hr
  exact hr.1.1

section
variable {s : State} {p : Path} {index sub v : Nat} {r : Row}

theorem State.Writable.rowNow (h : s.Writable p) (index sub : Nat) : s.rowNow index sub = rowOf index sub := if_neg (by simp [h.start])

theorem State.Writable.halted (h : s.Writable p) : s.halted = false := by
  rw [State.halted, h.phase]
  rfl

/-- On an idle path a write is one write of its entry, whose status is the answer. -/
theorem State.Writable.pathWrite (h : s.Writable p) (index sub v : Nat) :
    s.pathWrite p index sub v true = (s.putScalar (pathCode p) index sub v true).1.reply (s.putScalar (pathCode p) index sub v true).2 := by
  obtain ⟨hopen, hwait⟩ := State.pathIdle_iff.1 h.idle
  rw [State.pathWrite_open hopen (State.pathFull_of_waiting hwait), State.servePath_of_waiting hwait]

theorem State.Writable.pathWrite_of_put (h : s.Writable p) {t : State} {status : Nat} (hput : s.putScalar (pathCode p) index sub v true = (t, status)) :
    s.pathWrite p index sub v true = t.reply status := by
  rw [h.pathWrite, hput]

theorem State.Writable.absent (h : s.Writable p) (hrow : rowOf index sub = none) (v : Nat) : s.pathWrite p index sub v true = s.reply 1 := by
  refine h.pathWrite_of_put ?_
  unfold State.putScalar
  simp only [h.halted, h.rowNow, hrow, Bool.false_eq_true, if_false]

theorem State.Writable.readOnly (h : s.Writable p) (hrow : rowOf index sub = some r) (hro : r.access = .ro ∨ r.access = .const) (v : Nat) :
    s.pathWrite p index sub v true = s.reply 3 := by
  refine h.pathWrite_of_put ?_
  have hro' : (decide (r.access = .ro) || decide (r.access = .const)) = true := by simpa using hro
  unfold State.putScalar
  simp only [h.halted, h.rowNow, hrow, hro', Bool.false_eq_true, if_false, if_true]

/-- A scalar entry that a write stores to. -/
structure Row.Stores (r : Row) (index sub : Nat) : Prop where
  row : rowOf index sub = some r
  access : r.access = .rw ∨ r.access = .rwp
  scalar : r.type.isScalar = true

theorem Row.Stores.not_readOnly (h : r.Stores index sub) : (decide (r.access = .ro) || decide (r.access = .const)) = false := by
  rcases h.access with ha | ha <;> rw [ha] <;> rfl

theorem Row.Stores.ne_wo (h : r.Stores index sub) : r.access ≠ .wo := by
  rcases h.access with ha | ha <;> rw [ha] <;> decide

/-- A write of a stored scalar: out of range, no change, refused by its chapter, or applied (10 R271, R272). -/
theorem State.Writable.stores (h : s.Writable p) (hr : r.Stores index sub) (v : Nat) : s.putScalar (pathCode p) index sub v true =
    if s.inRange r sub v = false then (s, 0x05) else if s.entry index sub = v then (s, 0) else if s.stateAllows index sub v = false then (s, 0x06)
      else (({ s with dict := s.dict.changed (pathCode p) r sub v } : State).entryAct index sub v true, 0) := by
  have happly : s.applyScalar (pathCode p) r sub v true = ({ s with dict := s.dict.changed (pathCode p) r sub v } : State).entryAct index sub v true := by
    rw [← rowOf_index hr.row]
    exact if_neg hr.ne_wo
  unfold State.putScalar
  simp only [h.halted, h.rowNow, hr.row, hr.not_readOnly, hr.scalar, hr.ne_wo, happly, Bool.false_eq_true, if_false, Bool.not_true, ne_eq, not_false_eq_true, decide_true,
    Bool.true_and, decide_eq_true_eq, Bool.not_eq_true']

end

-- The effects.

theorem Distaff.marked_marked (d : Distaff) : d.marked.marked = d.marked := by
  unfold Distaff.marked
  rw [Option.map_map]
  rfl

/-- The Distaffs alone change, and there only the marks of waiting hanks (11 R299, R300). -/
def State.marks (s t : State) : Prop := t = { s with distaffs := t.distaffs } ∧ s.onlyWaits t

theorem State.marks_modRun {s t : State} (h : s.marks t) (d : Nat) : s.marks (t.modRun d fun r => { r with waitedPermit := true, budgetLimited := true }) := by
  obtain ⟨hframe, hwaits⟩ := h
  refine ⟨by rw [hframe]; rfl, fun e => ?_⟩
  have hentry : (t.modRun d fun r => { r with waitedPermit := true, budgetLimited := true }).distaffs[e] =
      if d = e.val ∧ d < 8 then t.distaffs[e].marked else t.distaffs[e] := by
    have hget := vget_vmod t.distaffs t.distaffs[e] d e fun x => { x with run := x.run.map fun r => { r with waitedPermit := true, budgetLimited := true } }
    rw [vget_eq _ _ _ e.isLt, vget_eq _ _ _ e.isLt] at hget
    exact hget
  rw [hentry]
  split
  · rcases hwaits e with he | he <;> rw [he]
    · exact .inr rfl
    · exact .inr (Distaff.marked_marked _)
  · exact hwaits e

theorem State.markWaits_marks (s : State) : s.marks s.markWaits := by
  unfold State.markWaits
  refine List.foldlRecOn _ _ ⟨rfl, fun _ => .inl rfl⟩ fun t h c _ => ?_
  split
  · exact h
  · exact State.marks_modRun h _

/-- The write-only scalars whose writes are commands (10 R270, R273). -/
def commandEntries : List (Nat × Nat) :=
  [(0x1000, 0x09), (0x1000, 0x0B), (0x1100, 0x10), (0x6100, 0x01), (0x7000, 0x02), (0x7000, 0x06), (0x7800, 0x01), (0x7800, 0x02), (0x7800, 0x21)]

theorem commandEntries_writeOnly : ∀ c ∈ commandEntries, (rowOf c.1 c.2).any (fun r => r.access = .wo) = true := by decide +kernel

theorem Row.Stores.not_command {r : Row} {index sub : Nat} (h : r.Stores index sub) : (index, sub) ∉ commandEntries := fun hc => by
  have hwo := commandEntries_writeOnly _ hc
  rw [h.row] at hwo
  exact h.ne_wo (of_decide_eq_true hwo)

/-- Of the stored scalars the conditioning of a group, the power entries and those of debug mode have an effect of their own. -/
theorem State.entryAct_of_stores {r : Row} {index sub : Nat} (hr : r.Stores index sub) (hc : index ≠ 0x3820) (hd : index ≠ 0x8000) (s : State) (v : Nat) (ok : Bool) :
    s.entryAct index sub v ok = if index = 0x6000 then s.markWaits else s := by
  have hplain := hr.not_command
  unfold State.entryAct
  split
  case h_4 => exact absurd rfl hc
  case h_5 => exact (if_pos rfl).symm
  case h_12 => exact absurd rfl hd
  case h_13 => exact absurd rfl hd
  case h_14 => exact (if_neg ‹index = 0x6000 → False›).symm
  all_goals exact absurd (by decide) hplain

/-- What a write with no command of its own leaves after the store: at most the marks of waiting hanks. -/
theorem State.entryAct_marks {r : Row} {index sub : Nat} (hr : r.Stores index sub) (hc : index ≠ 0x3820) (hd : index ≠ 0x8000) (s : State) (v : Nat) (ok : Bool) :
    s.marks (s.entryAct index sub v ok) ∧ (index ≠ 0x6000 → (s.entryAct index sub v ok).distaffs = s.distaffs) := by
  rw [State.entryAct_of_stores hr hc hd]
  split
  · exact ⟨s.markWaits_marks, fun h => absurd ‹_› h⟩
  · exact ⟨⟨rfl, fun _ => .inl rfl⟩, fun _ => rfl⟩

section
variable {s : State} {p : Path} {index sub v : Nat} {r : Row}

/-- A write that its row and its chapter allow and that changes the value (10 R271, R272, R288). -/
structure State.Changes (s : State) (p : Path) (r : Row) (index sub v : Nat) : Prop where
  writable : s.Writable p
  stores : r.Stores index sub
  inRange : s.inRange r sub v = true
  allowed : s.stateAllows index sub v = true
  fits : v < 2 ^ 64
  differs : s.entry index sub ≠ v

/-- The state with the write stored and noted. -/
def State.stored (s : State) (p : Path) (r : Row) (sub v : Nat) : State := { s with dict := s.dict.changed (pathCode p) r sub v }

theorem State.Changes.pathWrite (h : s.Changes p r index sub v) :
    s.pathWrite p index sub v true = ((s.stored p r sub v).entryAct index sub v true).reply 0 := by
  refine h.writable.pathWrite_of_put ?_
  rw [h.writable.stores h.stores, if_neg (by simp [h.inRange]), if_neg h.differs, if_neg (by simp [h.allowed])]
  rfl

theorem State.Changes.entry (h : s.Changes p r index sub v) {t : State} (ht : t.dict = (s.stored p r sub v).dict) :
    t.entry index sub = v ∧ ∀ a b, entryKey a b ≠ entryKey index sub → t.entry a b = s.entry a b := by
  have hindex := rowOf_index h.stores.row
  refine ⟨?_, fun a b hne => ?_⟩
  · rw [State.entry, ht, ← hindex]
    exact Dictionary.scalar_changed_self _ _ _ _ h.fits
  · rw [State.entry, ht]
    exact Dictionary.scalar_changed_of_ne _ _ _ _ (hindex ▸ hne)

theorem State.Changes.wrote (h : s.Changes p r index sub v) {t : State} (ht : t.dict = (s.stored p r sub v).dict) (hr : t.out.reply = 0) :
    s.wrote t index sub (pathCode p) := by
  refine State.wrote_of_journals ?_ hr
  rw [ht, ← rowOf_index h.stores.row]
  exact s.dict.journals_changed (pathCode p) r sub v

/-- A plain stored scalar: the value, its record, and at most the marks of waiting hanks. -/
theorem State.Changes.plain (h : s.Changes p r index sub v) (hc : index ≠ 0x3820) (hd : index ≠ 0x8000) :
    let t := s.pathWrite p index sub v true
    t = { s with dict := t.dict, distaffs := t.distaffs, out := t.out } ∧ s.onlyWaits t ∧ (index ≠ 0x6000 → t.distaffs = s.distaffs) ∧ t.out.reply = 0 ∧
      t.entry index sub = v ∧ (∀ a b, entryKey a b ≠ entryKey index sub → t.entry a b = s.entry a b) ∧ s.wrote t index sub (pathCode p) := by
  obtain ⟨⟨hframe, hwaits⟩, hdistaffs⟩ := State.entryAct_marks h.stores hc hd (s.stored p r sub v) v true
  intro t
  have ht : t = ((s.stored p r sub v).entryAct index sub v true).reply 0 := h.pathWrite
  have hdict : t.dict = (s.stored p r sub v).dict := by rw [ht, hframe]; rfl
  have hreply : t.out.reply = 0 := by rw [ht]; rfl
  obtain ⟨hentry, hothers⟩ := h.entry hdict
  refine ⟨?_, ?_, fun hi => ?_, hreply, hentry, hothers, h.wrote hdict hreply⟩
  · rw [ht, hframe]
    rfl
  · rw [ht]
    exact hwaits
  · rw [ht]
    exact hdistaffs hi

end

-- The entries with an effect of their own.

theorem State.rewarm_moves (s : State) (g : Nat) (h : (s.group g).state ≠ 3) : (s.modGroup g fun x => { x with state := 0, streak := 0, passRun := 0 }).HalfMoves (s.rewarm g) := by
  unfold State.rewarm
  rw [if_neg h]
  dsimp only
  split
  · exact .refl _
  · exact (State.updateGroupHalf_moves _ g none).1

theorem State.rewarm_of_retired {s : State} {g : Nat} (h : (s.group g).state = 3) : s.rewarm g = s := if_pos h

/-- A change of conditioning: memories and units stay, another group stays, and a group that is not RETIRED is WARMING (04 R90, R94). -/
theorem State.rewarm_effect (s : State) (g : Fin 137) :
    (s.rewarm g).dict = s.dict ∧ (s.rewarm g).mem = s.mem ∧ (s.rewarm g).units = s.units ∧ (∀ k : Fin 137, k ≠ g → (s.rewarm g).noise.groups[k] = s.noise.groups[k]) ∧
      (if (s.group g).state = 3 then (s.rewarm g).noise = s.noise
        else ((s.rewarm g).group g).state = 0 ∧ ((s.rewarm g).group g).streak = 0 ∧ ((s.rewarm g).group g).passRun = 0) := by
  by_cases h : (s.group g).state = 3
  · rw [State.rewarm_of_retired h, if_pos h]
    exact ⟨rfl, rfl, rfl, fun _ _ => rfl, rfl⟩
  · have hmoves := s.rewarm_moves g h
    have hgroup : (s.rewarm g).group g = { s.group g with state := 0, streak := 0, passRun := 0 } := by
      rw [hmoves.group, State.group_modGroup, if_pos ⟨rfl, g.isLt⟩]
    rw [if_neg h, hgroup]
    refine ⟨?_, ?_, ?_, fun k hk => ?_, rfl, rfl, rfl⟩
    · rw [hmoves.frame]
      rfl
    · rw [hmoves.frame]
      rfl
    · rw [hmoves.frame]
      rfl
    · rw [hmoves.groups, s.groups_modGroup_of_ne hk]

theorem State.debugOn_of_markDebug {s : State} {d : Nat} {r : Run} (h : s.markDebug.run d = some r) : r.debugOn = true := by
  have hd := State.lt_of_run _ _ _ h
  simp only [State.run, State.markDebug, vget_eq _ _ _ hd, Vector.getElem_map, Option.map_eq_some_iff] at h
  obtain ⟨y, -, rfl⟩ := h
  rfl

def conditioningRow : Row := ⟨0x3820, 0, 0x88, .u8, .rwp, 0, 0, 1⟩
def debugRow (k : Nat) : Row := one 0x8000 k .u8 .rw 0 0 1
def powerRow (thermal : Bool) : Row := if thermal then one 0x6000 0x02 .u8 .rwp 100 70 105 else one 0x6000 0x01 .u16 .rwp 950 350 950
def ckptKeyRow : Row := ⟨0x7030, 0, 0x0F, .bytes, .wo, 0, 0, 32⟩

theorem rowOf_conditioning (g : Fin 137) : rowOf 0x3820 g = some conditioningRow := by
  have hall : ∀ g : Fin 137, rowOf 0x3820 g = some conditioningRow := by decide +kernel
  exact hall g

theorem rowOf_ckptKey (fn : Fin 16) : rowOf 0x7030 fn = some ckptKeyRow := by
  have hall : ∀ g : Fin 16, rowOf 0x7030 g = some ckptKeyRow := by decide +kernel
  exact hall fn

theorem rowOf_debug : rowOf 0x8000 1 = some (debugRow 1) ∧ rowOf 0x8000 2 = some (debugRow 2) := by decide +kernel

theorem rowOf_power (thermal : Bool) : rowOf 0x6000 (if thermal then 2 else 1) = some (powerRow thermal) := by
  cases thermal <;> decide +kernel

section
variable {s : State} {p : Path}

theorem State.changes_power (h : s.Writable p) {thermal : Bool} {v : BitVec 16}
    (hv : if thermal = true then 70 ≤ v.toNat ∧ v.toNat ≤ 105 else 350 ≤ v.toNat ∧ v.toNat ≤ 950) (hdiff : s.entry 0x6000 (if thermal then 2 else 1) ≠ v.toNat) :
    s.Changes p (powerRow thermal) 0x6000 (if thermal then 2 else 1) v.toNat := by
  have hlt := v.isLt
  refine ⟨h, ⟨rowOf_power thermal, ?_, ?_⟩, ?_, ?_, by omega, hdiff⟩
  · cases thermal <;> exact .inr rfl
  · cases thermal <;> rfl
  · cases thermal <;> simp [State.inRange, powerRow, one, DType.size] at hv ⊢ <;> omega
  · cases thermal <;> rfl

theorem State.changes_conditioning (h : s.Writable p) (g : Fin 137) {v : BitVec 8} (hv : v.toNat ≤ 1) (hdiff : s.entry 0x3820 g ≠ v.toNat) :
    s.Changes p conditioningRow 0x3820 g v.toNat :=
  ⟨h, ⟨rowOf_conditioning g, .inr rfl, rfl⟩, by simp [State.inRange, conditioningRow, DType.size]; omega, rfl, by omega, hdiff⟩

theorem State.changes_debug (h : s.Writable p) {k : Nat} (hrow : rowOf 0x8000 k = some (debugRow k)) {v : BitVec 8} (hv : v.toNat ≤ 1)
    (hdiff : s.entry 0x8000 k ≠ v.toNat) : s.Changes p (debugRow k) 0x8000 k v.toNat :=
  ⟨h, ⟨hrow, .inl rfl, rfl⟩, by simp [State.inRange, debugRow, one, DType.size]; omega, rfl, by omega, hdiff⟩

theorem State.Changes.conditioning {g : Fin 137} {v : Nat} (h : s.Changes p conditioningRow 0x3820 g v) :
    let t := s.pathWrite p 0x3820 g v true
    t.entry 0x3820 g = v ∧ s.wrote t 0x3820 g (pathCode p) ∧ t.mem = s.mem ∧ t.units = s.units ∧ (∀ k : Fin 137, k ≠ g → t.noise.groups[k] = s.noise.groups[k]) ∧
      (if (s.group g).state = 3 then t.noise = s.noise else (t.group g).state = 0 ∧ (t.group g).streak = 0 ∧ (t.group g).passRun = 0) := by
  intro t
  have ht : t = ((s.stored p conditioningRow g v).rewarm g).reply 0 := h.pathWrite
  obtain ⟨hdict, hmem, hunits, hothers, hgroup⟩ := (s.stored p conditioningRow g v).rewarm_effect g
  have htdict : t.dict = (s.stored p conditioningRow g v).dict := by rw [ht]; exact hdict
  refine ⟨(h.entry htdict).1, h.wrote htdict (by rw [ht]; rfl), ?_⟩
  rw [ht]
  exact ⟨hmem, hunits, hothers, hgroup⟩

theorem State.Changes.debugEnable {v : BitVec 8} (h : s.Changes p (debugRow 1) 0x8000 1 v.toNat) :
    let t := s.pathWrite p 0x8000 1 v.toNat true
    (t.debug = true ↔ v = 1) ∧ s.wrote t 0x8000 1 (pathCode p) ∧ t.mem = s.mem ∧ t.steward = s.steward ∧
      (v = 1 → ∀ d r, t.run d = some r → r.debugOn = true) ∧ (v = 0 → t.distaffs = s.distaffs ∧ t.rings = s.rings) := by
  intro t
  have hval : v = 1 ↔ v.toNat = 1 := by rw [← BitVec.toNat_inj]; rfl
  set u := s.stored p (debugRow 1) 1 v.toNat with hu
  have ht : t = ((if v.toNat = 1 then u.markDebug else u).requestTest).reply 0 := h.pathWrite
  have hdict : t.dict = u.dict := by
    rw [ht]
    change (if v.toNat = 1 then u.markDebug else u).dict = _
    split <;> rfl
  have hentry := (h.entry hdict).1
  refine ⟨?_, h.wrote hdict (by rw [ht]; rfl), ?_, ?_, fun hv d r hr => ?_, fun hv => ?_⟩
  · rw [State.debug, hentry, decide_eq_true_eq, hval]
  · rw [ht]
    change (if v.toNat = 1 then u.markDebug else u).mem = _
    split <;> rfl
  · rw [ht]
    change (if v.toNat = 1 then u.markDebug else u).steward = _
    split <;> rfl
  · rw [ht, if_pos (hval.1 hv)] at hr
    exact State.debugOn_of_markDebug hr
  · rw [ht, if_neg (by rw [hv]; decide)]
    exact ⟨rfl, rfl⟩

theorem State.Changes.testShape {v : Nat} (h : s.Changes p (debugRow 2) 0x8000 2 v) :
    let t := s.pathWrite p 0x8000 2 v true
    t = { s with dict := t.dict, units := { s.units with testPending := t.testDiffers }, out := t.out } ∧ t.entry 0x8000 2 = v ∧ s.wrote t 0x8000 2 (pathCode p) := by
  intro t
  have ht : t = ((s.stored p (debugRow 2) 2 v).requestTest).reply 0 := h.pathWrite
  have hdict : t.dict = (s.stored p (debugRow 2) 2 v).dict := by rw [ht]; rfl
  refine ⟨?_, (h.entry hdict).1, h.wrote hdict (by rw [ht]; rfl)⟩
  rw [ht]
  rfl

theorem overlay_of_length {old data : Bytes} (h : old.length ≤ data.length) : overlay old 0 data = data := by
  rw [overlay, List.take_zero, Nat.zero_add, List.drop_eq_nil_of_le h, List.append_nil]
  rfl

/-- The dictionary with a function's checkpoint key. -/
def Dictionary.withKey (x : Dictionary) (fn : Nat) (key : Bytes) : Dictionary := { x with ckptKeys := vset x.ckptKeys fn (some key) }

theorem State.storeBytes_ckptKey (s : State) (fn : Nat) (key : Bytes) : s.storeBytes 0x7030 fn key = { s with dict := s.dict.withKey fn key } := rfl

theorem Dictionary.journals_withKey {x y : Dictionary} {index sub path : Nat} (h : x.journals y index sub path) (fn : Nat) (key : Bytes) :
    x.journals (y.withKey fn key) index sub path := h

/-- The dictionary after a key is noted and stored. -/
def Dictionary.keyed (x : Dictionary) (path fn : Nat) (old key : Bytes) : Dictionary :=
  (x.noteChange 0x7030 fn path (journalHash old) (journalHash key) false).withKey fn key

theorem Dictionary.ckptKeys_keyed (x : Dictionary) (path fn : Nat) (old key : Bytes) : (x.keyed path fn old key).ckptKeys = vset x.ckptKeys fn (some key) := by
  unfold Dictionary.keyed Dictionary.withKey Dictionary.noteChange
  rfl

/-- A checkpoint key in full replaces what the entry held (12 R336). -/
theorem State.Writable.putKey (h : s.Writable p) (fn : Fin 16) {key : Bytes} (hkey : key.length = 32)
    (hold : ∀ k, vget s.dict.ckptKeys none fn = some k → k.length ≤ 32) :
    ∃ old, s.putBytes (pathCode p) 0x7030 fn 0 key true = ({ s with dict := s.dict.keyed (pathCode p) fn old key }, 0) := by
  have hheld : (s.heldBytes 0x7030 fn).length ≤ key.length := by
    change ((vget s.dict.ckptKeys none fn).getD []).length ≤ _
    cases hk : vget s.dict.ckptKeys none fn with
    | none => exact Nat.zero_le _
    | some k => exact (hold k hk).trans hkey.ge
  have hnew := overlay_of_length hheld
  refine ⟨s.heldBytes 0x7030 fn, ?_⟩
  have hfits : ¬ckptKeyRow.hi < 0 + key.length := by rw [hkey]; decide
  unfold State.putBytes
  simp only [h.halted, h.rowNow, rowOf_ckptKey, hnew, if_neg hfits, Bool.false_eq_true, if_false]
  rw [if_neg (by decide), if_neg (by decide), if_neg (by decide), if_neg (by simp), if_neg (by simp [ckptKeyRow]), State.storeBytes_ckptKey]
  simp only [State.modDict, Dictionary.keyed]

theorem State.Writable.ckptKey (h : s.Writable p) (fn : Fin 16) {key : Bytes} (hkey : key.length = 32) (hold : ∀ k, vget s.dict.ckptKeys none fn = some k → k.length ≤ 32) :
    let t := s.pathBytes p 0x7030 fn 0 key true
    t = { s with dict := t.dict, out := t.out } ∧ vget t.dict.ckptKeys none fn = some key ∧ s.wrote t 0x7030 fn (pathCode p) ∧
      ∀ g : Fin 16, g ≠ fn → t.dict.ckptKeys[g] = s.dict.ckptKeys[g] := by
  intro t
  obtain ⟨old, hput⟩ := h.putKey fn hkey hold
  obtain ⟨hopen, hwait⟩ := State.pathIdle_iff.1 h.idle
  have ht : t = ({ s with dict := s.dict.keyed (pathCode p) fn old key } : State).reply 0 := by
    have hsize : (key.isEmpty || decide (4096 < key.length)) = false := by
      cases key with
      | nil => cases hkey
      | cons b l => simp only [List.isEmpty_cons, hkey]; rfl
    rw [show t = _ from State.pathBytes_open hopen (State.pathFull_of_waiting hwait) _ _ _ _, State.servePath_of_waiting hwait, hsize, hput]
    rfl
  have hkeys : t.dict.ckptKeys = vset s.dict.ckptKeys fn (some key) := by
    rw [ht]
    exact s.dict.ckptKeys_keyed ..
  refine ⟨by rw [ht]; rfl, ?_, ?_, fun g hg => ?_⟩
  · rw [hkeys, vget_vset, if_pos ⟨rfl, fn.isLt⟩]
  · refine State.wrote_of_journals ?_ (by rw [ht]; rfl)
    rw [ht]
    exact Dictionary.journals_withKey (s.dict.journals_noteChange ..) fn key
  · have hget := vget_vset s.dict.ckptKeys none fn g (some key)
    rw [← hkeys, vget_eq _ _ _ g.isLt, vget_eq _ _ _ g.isLt, if_neg fun hc => hg (Fin.ext hc.1.symm)] at hget
    exact hget

end

/-- Settles O54: the path's part is said once for the commands; each entry's write is one write of its row, refused or applied. -/
theorem entryWritesTakeEffect : Obligations.EntryWritesTakeEffect := by
  refine ⟨fun s c p hc => exec_pathCommand hc s, fun s p hphase hstart hidle => ?_⟩
  have h : s.Writable p := ⟨hphase, hstart, hidle⟩
  refine ⟨fun index sub v => ⟨fun r hrow hacc hscalar hc hd => ⟨fun hrange hallow => ?_, fun hrange hallow hdiff => ?_, fun hrange => ?_⟩, fun hrow => ?_, fun r hrow hro => ?_⟩,
    fun thermal v => ?_, fun g v hv hdiff => ?_, fun v hv hdiff => ?_, fun v hv hdiff => ?_, fun fn key hkey hold => ?_⟩
  · by_cases hsame : s.entry index.toNat sub.toNat = v.toNat
    · have hput : s.pathWrite p index.toNat sub.toNat v.toNat true = s.reply 0 :=
        h.pathWrite_of_put (by rw [h.stores ⟨hrow, hacc, hscalar⟩, if_neg (by simp [hrange]), if_pos hsame])
      exact ⟨s.reply 0, congrArg Host.Outcome.next hput, rfl, fun _ => .inl rfl, fun _ => rfl, rfl, hsame, fun _ _ _ => rfl, fun _ => rfl, fun hne => absurd hsame hne⟩
    · obtain ⟨hframe, hwaits, hdistaffs, hreply, hentry, hothers, hwrote⟩ :=
        State.Changes.plain ⟨h, ⟨hrow, hacc, hscalar⟩, hrange, hallow, v.isLt, hsame⟩ hc hd
      exact ⟨_, rfl, hframe, hwaits, hdistaffs, hreply, hentry, hothers, fun he => absurd he hsame, fun _ => hwrote⟩
  · exact congrArg Host.Outcome.next (h.pathWrite_of_put (by
      rw [h.stores ⟨hrow, hacc, hscalar⟩, if_neg (by simp [hrange]), if_neg hdiff, if_pos hallow]))
  · exact congrArg Host.Outcome.next (h.pathWrite_of_put (by rw [h.stores ⟨hrow, hacc, hscalar⟩, if_pos hrange]))
  · exact congrArg Host.Outcome.next (h.absent hrow v.toNat)
  · exact congrArg Host.Outcome.next (h.readOnly hrow hro v.toNat)
  · intro k hv hdiff
    obtain ⟨hframe, hwaits, -, -, hentry, -, hwrote⟩ := (State.changes_power h hv hdiff).plain (by decide) (by decide)
    exact ⟨_, rfl, hframe, hwaits, hentry, hwrote⟩
  · exact ⟨_, rfl, (State.changes_conditioning h g hv hdiff).conditioning⟩
  · exact ⟨_, rfl, (State.changes_debug h rowOf_debug.1 hv hdiff).debugEnable⟩
  · exact ⟨_, rfl, (State.changes_debug h rowOf_debug.2 hv hdiff).testShape⟩
  · exact ⟨_, rfl, h.ckptKey fn hkey hold⟩

end Sys2Proof.Machine
end

section
/-!
SUPPORT. Words on Spindles: what a lane reads as after a write, what the steps of a slot word leave to the other Spindles and to the rest of the device, and the hank's
record once its word has run.
-/
namespace Sys2Proof.Machine

-- Operands.

theorem wUnit_lt (w : Nat) : wUnit w < 128 := Nat.mod_lt _ (by decide)
theorem wAcc_lt (w : Nat) : wAcc w < 8 := Nat.mod_lt _ (by decide)

/-- A word of class 1 that names one unit or all of them names Spindles, each once. -/
theorem spindlesOf_slotWord {o : Op} (hc : o.uclass = 1) (hs : o ≠ .splitK) (w : Nat) : spindlesOf o w = if wAll w then List.range 128 else [wUnit w] := by
  have hw : wholeDevice o = false := by simp [wholeDevice, hc]; rintro rfl; cases hc
  simp only [spindlesOf, hw, hs, hc, Bool.false_eq_true, if_false, decide_true, Bool.true_or, if_true]

theorem spindlesOf_one {o : Op} (hc : o.uclass = 1) (hs : o ≠ .splitK) {w : Nat} (h : wAll w = false) : spindlesOf o w = [wUnit w] := by
  rw [spindlesOf_slotWord hc hs, h]
  rfl

theorem nodup_spindlesOf {o : Op} (hc : o.uclass = 1) (w : Nat) : (spindlesOf o w).Nodup := by
  by_cases hs : o = .splitK
  · subst hs
    exact (List.nodup_range).map fun _ _ h => Nat.add_left_cancel h
  · rw [spindlesOf_slotWord hc hs]
    split
    · exact List.nodup_range
    · exact List.nodup_singleton _

theorem lt_of_mem_spindlesOf {o : Op} (hc : o.uclass = 1) (hs : o ≠ .splitK) {w u : Nat} (h : u ∈ spindlesOf o w) : u < 128 := by
  rw [spindlesOf_slotWord hc hs] at h
  split at h
  · exact List.mem_range.1 h
  · exact List.mem_singleton.1 h ▸ wUnit_lt w

-- A Spindle's lanes.

theorem Spindle.lane_setLane (x : Spindle) (l : Nat) (f : Nat → BitVec 40) (j c : Nat) :
    (x.setLane l f).lane j c = if j = l ∧ l < 8 ∧ c < 1024 then f c else x.lane j c := by
  rw [Spindle.lane, Spindle.setLane, vget_vset]
  by_cases h : l = j ∧ l < 8
  · obtain ⟨rfl, hl⟩ := h
    rw [if_pos ⟨rfl, hl⟩, Sparse.get_replace]
    simp [hl, Spindle.lane]
  · rw [if_neg h, if_neg fun g => h ⟨g.1.symm, g.2.1⟩, Spindle.lane]

theorem Spindle.lane_setLane_self (x : Spindle) {l : Nat} (f : Nat → BitVec 40) {c : Nat} (hl : l < 8) (hc : c < 1024) : (x.setLane l f).lane l c = f c := by
  rw [x.lane_setLane, if_pos ⟨rfl, hl, hc⟩]

theorem Spindle.lane_setLane_of_ne (x : Spindle) {l j : Nat} (f : Nat → BitVec 40) (c : Nat) (h : j ≠ l) : (x.setLane l f).lane j c = x.lane j c := by
  rw [x.lane_setLane, if_neg fun g => h g.1]

/-- A lane depends on the lanes alone. -/
theorem Spindle.lane_congr {x y : Spindle} (h : y.lanes = x.lanes) (l c : Nat) : y.lane l c = x.lane l c := by rw [Spindle.lane, h, Spindle.lane]

theorem Spindle.lane_replicate (x : Spindle) (l c : Nat) : ({ x with lanes := Vector.replicate 8 [] } : Spindle).lane l c = 0 := by
  rw [Spindle.lane, vget]
  by_cases h : l < 8 <;> simp [h]

theorem Spindle.fillLane_of_no_pair {x : Spindle} (h : x.pair = none) (k : Nat) : x.fillLane k = k := by
  unfold Spindle.fillLane
  rw [h]

-- Reads of a local store, and words on one unit.

theorem Mem.bytes_succ (m : Mem) (a n : Nat) : m.bytes a (n + 1) = m.byte a :: m.bytes (a + 1) n := by
  simp only [Mem.bytes, List.range_succ_eq_map, List.map_cons, List.map_map, Nat.add_zero, Function.comp_def, Nat.succ_eq_add_one, Nat.add_assoc, Nat.add_comm 1]

/-- A number in a read of memory is the number that stands there. -/
theorem arrNum_bytes (m : Mem) (a : Nat) {o n size : Nat} (h : o + n ≤ size) : arrNum (m.bytes a size).toArray o n = ofLe (m.bytes (a + o) n) := by
  induction n generalizing o with
  | zero => rfl
  | succ n ih =>
    have hbyte : (m.bytes a size).toArray.getD o 0 = m.byte (a + o) := by
      simp [Mem.bytes, Array.getD_eq_getD_getElem?, show o < size by omega]
    rw [arrNum, ih (by omega), hbyte, Mem.bytes_succ, ofLe, Nat.add_assoc]

theorem eachUnit_singleton (u : Nat) (f : Nat → State → Done) (s : State) : eachUnit [u] f s = f u s := by
  simp only [eachUnit, firstFail, List.foldl_cons, List.foldl_nil, Option.none_or]

-- What is done to the Spindles of a list.

/-- Work on the Spindles of a list: the units alone change, of the Spindles only those, and no read-out begins or ends. -/
structure State.Within (s t : State) (us : List Nat) : Prop where
  frame : t = { s with units := t.units }
  drains : t.units.drains = s.units.drains
  spindle : ∀ v, v ∉ us → t.spindle v = s.spindle v

theorem State.Within.refl (s : State) (us : List Nat) : s.Within s us := ⟨rfl, rfl, fun _ _ => rfl⟩

theorem State.Within.trans {s t u : State} {us : List Nat} (h : s.Within t us) (g : t.Within u us) : s.Within u us := by
  refine ⟨?_, g.drains.trans h.drains, fun v hv => (g.spindle v hv).trans (h.spindle v hv)⟩
  rw [g.frame, h.frame]

theorem State.Within.mono {s t : State} {us vs : List Nat} (h : s.Within t us) (hs : ∀ u ∈ us, u ∈ vs) : s.Within t vs :=
  ⟨h.frame, h.drains, fun v hv => h.spindle v fun hu => hv (hs v hu)⟩

theorem State.Within.mem {s t : State} {us : List Nat} (h : s.Within t us) : t.mem = s.mem := by rw [h.frame]
theorem State.Within.dict {s t : State} {us : List Nat} (h : s.Within t us) : t.dict = s.dict := by rw [h.frame]
theorem State.Within.distaffs {s t : State} {us : List Nat} (h : s.Within t us) : t.distaffs = s.distaffs := by rw [h.frame]
theorem State.Within.run {s t : State} {us : List Nat} (h : s.Within t us) (d : Nat) : t.run d = s.run d := State.run_congr h.distaffs d

theorem State.within_modSpindle (s : State) (u : Nat) (f : Spindle → Spindle) : s.Within (s.modSpindle u f) [u] :=
  ⟨rfl, rfl, fun v hv => by rw [State.spindle_modSpindle, if_neg fun h => hv (List.mem_singleton.2 h.1.symm)]⟩

theorem State.within_leaveTree (s : State) (u : Nat) (ls us : List Nat) : s.Within (s.leaveTree u ls) us := ⟨rfl, rfl, fun _ _ => rfl⟩
theorem State.within_enterTree (s : State) (e : InTree) (us : List Nat) : s.Within (s.enterTree e) us := ⟨rfl, rfl, fun _ _ => rfl⟩

theorem State.spindle_modSpindle_self (s : State) {u : Nat} (f : Spindle → Spindle) (h : u < 128) : (s.modSpindle u f).spindle u = f (s.spindle u) := by
  rw [State.spindle_modSpindle, if_pos ⟨rfl, h⟩]

theorem State.within_clearMark (s : State) (r : Run) (u l : Nat) : s.Within (s.clearMark r u l) [u] := by
  unfold State.clearMark
  split
  · split
    · exact s.within_modSpindle u _
    · exact .refl s _
  · exact .refl s _

/-- A write to an occupied slot may take a Spindle's fields-valid mark, and nothing else of it (03 R57). -/
theorem State.spindle_clearMark (s : State) (r : Run) (u l v : Nat) : ∃ m, (s.clearMark r u l).spindle v = { s.spindle v with mark := m } := by
  unfold State.clearMark
  split
  · split
    · rw [State.spindle_modSpindle]
      split
      · exact ⟨none, rfl⟩
      · exact ⟨(s.spindle v).mark, rfl⟩
    · exact ⟨(s.spindle v).mark, rfl⟩
  · exact ⟨(s.spindle v).mark, rfl⟩

/-- Beside the Spindles' marks it leaves the units as they are. -/
theorem State.units_clearMark (s : State) (r : Run) (u l : Nat) : (s.clearMark r u l).units = { s.units with spindles := (s.clearMark r u l).units.spindles } := by
  unfold State.clearMark
  split
  · split <;> rfl
  · rfl

/-- What the slot words do before a slot's contents go: the mark is cleared, and the products on their way to the lane leave the tree (05 R123; 03 R57). -/
def State.emptied (s : State) (r : Run) (u l : Nat) : State := (s.clearMark r u l).leaveTree u [l]

theorem State.within_emptied (s : State) (r : Run) (u l : Nat) : s.Within (s.emptied r u l) [u] := (s.within_clearMark r u l).trans (State.within_leaveTree ..)

theorem State.spindle_emptied (s : State) (r : Run) (u l v : Nat) : ∃ m, (s.emptied r u l).spindle v = { s.spindle v with mark := m } := s.spindle_clearMark r u l v

/-- A slot filled anew, its old contents gone (05 R130). -/
def State.fillSlot (s : State) (r : Run) (u l : Nat) (v : Nat → BitVec 40) : State := (s.emptied r u l).modSpindle u fun x => x.setLane l v

theorem State.fillSlot_within (s : State) (r : Run) (u l : Nat) (v : Nat → BitVec 40) : s.Within (s.fillSlot r u l v) [u] :=
  (s.within_emptied r u l).trans (State.within_modSpindle ..)

theorem State.lane_fillSlot (s : State) (r : Run) {u : Nat} (hu : u < 128) (l : Nat) (v : Nat → BitVec 40) (j c : Nat) :
    ((s.fillSlot r u l v).spindle u).lane j c = ((s.spindle u).setLane l v).lane j c := by
  obtain ⟨m, hm⟩ := s.spindle_emptied r u l u
  rw [State.fillSlot, State.spindle_modSpindle_self _ _ hu, hm]
  rfl

/-- Steps on different Spindles, one after another: each Spindle of the list is as its own step leaves it. -/
theorem State.foldl_within {f : State → Nat → State} {p : Nat → Spindle → Spindle → Prop} {us : List Nat} (hn : us.Nodup) (s : State)
    (hf : ∀ (t : State), ∀ u ∈ us, t.Within (f t u) [u] ∧ p u (t.spindle u) ((f t u).spindle u)) :
    s.Within (us.foldl f s) us ∧ ∀ u ∈ us, p u (s.spindle u) ((us.foldl f s).spindle u) := by
  induction us generalizing s with
  | nil => exact ⟨.refl s _, fun _ h => nomatch h⟩
  | cons u us ih =>
    obtain ⟨hu, hn⟩ := List.nodup_cons.1 hn
    obtain ⟨hw, hp⟩ := hf s u List.mem_cons_self
    obtain ⟨hrest, hps⟩ := ih hn (f s u) fun t v hv => hf t v (List.mem_cons_of_mem _ hv)
    refine ⟨(hw.mono (by simp)).trans (hrest.mono fun v hv => List.mem_cons_of_mem _ hv), fun v hv => ?_⟩
    rcases List.mem_cons.1 hv with rfl | hv
    · rw [List.foldl_cons, hrest.spindle v hu]
      exact hp
    · have hne : v ∉ [u] := fun h => hu (List.mem_singleton.1 h ▸ hv)
      have := hps v hv
      rwa [hw.spindle v hne] at this

-- The hank once its word has run.

/-- A word that has run leaves of its hank's record all but the list of issued words and one mark. -/
theorem Effect.left_done_run {t : State} {d k : Nat} {f : Option Failure} {y : Run} (hy : t.run d = some y) :
    ∃ q, ((Effect.done t f).left d k).run d = some q ∧ q = { y with issued := q.issued, budgetLimited := q.budgetLimited } := by
  have hmod := State.run_modRun_self t d (fun r => { r with issued := r.issued.map fun i => if i.index = k then
    { i with ran := true, noiseWait := false, failure := f } else i }) y hy
  refine ⟨_, (State.run_markHeld _ d).trans (congrArg _ hmod), ?_⟩
  dsimp only
  split <;> rfl

/-- A word handed to its units whose effect is done, with its hank's record. -/
theorem State.word_done_run {s s0 t : State} {d k w : Nat} {o : Op} {r y : Run} {eff : WordEffect} {f : Option Failure} (h : s.atUnits d o = some (s0, r, k, w))
    (heff : eff r k w s0 = .done t f) (hy : t.run d = some y) :
    ∃ q, (s.word d o eff).run d = some q ∧ q = { y with issued := q.issued, budgetLimited := q.budgetLimited } := by
  rw [(s.word_of_atUnits s0 d o eff r k w h).1, heff]
  exact Effect.left_done_run hy

theorem State.Ran.out {t u : State} {d k : Nat} {f : Option Failure} (h : t.Ran u d k f) : u.out = t.out := by rw [h.frame]

theorem State.Handed.spindle {s s0 : State} {d k : Nat} {r : Run} (h : s.Handed s0 d r k) (u : Nat) : s0.spindle u = s.spindle u := by
  rw [State.spindle, h.units]
  rfl

theorem State.Handed.laneBusy {s s0 : State} {d k : Nat} {r : Run} (h : s.Handed s0 d r k) (u l : Nat) : s0.laneBusy u l = s.laneBusy u l := by
  rw [State.laneBusy, h.units]
  rfl

theorem State.Handed.bytes {s s0 : State} {d k : Nat} {r : Run} (h : s.Handed s0 d r k) (sp a n : Nat) : s0.bytes sp a n = s.bytes sp a n := by
  rw [State.bytes, h.mem]
  rfl

/-- A word whose effect is work on Spindles, and on its hank's record, has run: beside the units and the hanks' records the state is as it was. -/
theorem State.Within.ran {s s0 t t' : State} {d k w : Nat} {o : Op} {r y : Run} {eff : WordEffect} {us : List Nat} (hw : s0.Within t us)
    (h : s.atUnits d o = some (s0, r, k, w)) (heff : eff r k w s0 = .done t' none) (ht : t' = { t with distaffs := t'.distaffs }) (hy : t'.run d = some y)
    (hi : y.issued = r.issued) :
    (s.word d o eff).ranWith d k none ∧ (s.word d o eff) = { s with units := (s.word d o eff).units, distaffs := (s.word d o eff).distaffs } ∧
      (∀ v, (s.word d o eff).spindle v = t.spindle v) ∧ ∀ v, v ∉ us → (s.word d o eff).spindle v = s.spindle v := by
  have hs := State.handed_of_atUnits h
  have hran := State.word_done h heff hy hi
  have hspindle : ∀ v, t'.spindle v = t.spindle v := fun v => by rw [ht]; rfl
  refine ⟨hran.ran, ?_, fun v => (hran.spindle v).trans (hspindle v), fun v hv => ?_⟩
  · rw [hran.frame, ht, hw.frame, hs.frame]
  · rw [hran.spindle, hspindle, hw.spindle v hv, hs.spindle]

/-- A word that reads its store and then works on Spindles, and perhaps counts, has run: no byte changes, and beside the memory's marks, the units, the counts
and the hanks' records the state is as it was. -/
structure State.Worked (s t u : State) (d k : Nat) (f : Option Failure) (us : List Nat) : Prop where
  ran : u.ranWith d k f
  frame : u = { s with mem := u.mem, units := u.units, dict := u.dict, distaffs := u.distaffs }
  dict : u.dict = t.dict
  units : u.units = t.units
  spindle : ∀ v, u.spindle v = t.spindle v
  others : ∀ v, v ∉ us → u.spindle v = s.spindle v
  byteAt : ∀ p a, u.byteAt p a = s.byteAt p a

theorem State.Within.worked {s s0 t t' : State} {d k w : Nat} {o : Op} {r : Run} {eff : WordEffect} {us : List Nat} {m : Memory} {f : Option Failure}
    (hm : s0.mem.Alike m) (hw : ({ s0 with mem := m } : State).Within t us) (ht : t' = { t with dict := t'.dict }) (h : s.atUnits d o = some (s0, r, k, w))
    (heff : eff r k w s0 = .done t' f) : s.Worked t' (s.word d o eff) d k f us := by
  have hs := State.handed_of_atUnits h
  have hran := State.word_done h heff ((State.run_congr (by rw [ht, hw.distaffs]) d).trans hs.run) rfl
  have hspindle : ∀ v, t'.spindle v = t.spindle v := fun v => by rw [ht]; rfl
  refine ⟨hran.ran, ?_, by rw [hran.frame], hran.units, hran.spindle, fun v hv => ?_, fun p a => ?_⟩
  · rw [hran.frame, ht, hw.frame, hs.frame]
  · rw [hran.spindle, hspindle, hw.spindle v hv]
    exact hs.spindle v
  · have hmem : t'.mem = m := by rw [ht]; exact hw.mem
    rw [hran.byteAt, State.byteAt, hmem, hm.cells, hs.mem]
    rfl

/-- Where it counts nothing, the dictionary is as it was. -/
theorem State.Worked.frame_of_dict {s t u : State} {d k : Nat} {f : Option Failure} {us : List Nat} (h : s.Worked t u d k f us) (hd : t.dict = s.dict) :
    u = { s with mem := u.mem, units := u.units, distaffs := u.distaffs } := by
  have hdict := h.dict.trans hd
  have hframe := h.frame
  rwa [hdict] at hframe

end Sys2Proof.Machine
end

section
/-!
PROOF. The words that open, close, pair, split and fill slots (O29).
-/
namespace Sys2Proof.Machine

-- A slot cleared.

/-- The skein cleared: every lane, every flag, PCOUNT (05 R123, R127). -/
theorem Spindle.clearSlot_skein (x : Spindle) (l : Nat) : (x.clearSlot true l).pcount = 0 ∧ ∀ c, (∀ j, (x.clearSlot true l).lane j c = 0) ∧ (x.clearSlot true l).flag c = 0 :=
  ⟨rfl, fun c => ⟨fun j => x.lane_replicate j c, rfl⟩⟩

theorem Spindle.lane_clearSlot (x : Spindle) (l j c : Nat) : (x.clearSlot false l).lane j c = if j = l ∧ l < 8 ∧ c < 1024 then 0 else x.lane j c :=
  x.lane_setLane l (fun _ => 0) j c

-- ACC.OPEN.

/-- A Spindle after ACC.OPEN whose slot stands in lane `l` (05 R123, R127). -/
def Spindle.opened (x : Spindle) (r : Run) (w l : Nat) : Spindle :=
  { x.clearSlot (r.header.mode = 1) l with
    open_ := vset x.open_ (wAcc w) (some (aoInt w)), ewin := if r.header.mode = 1 then (if aoInt w then 0 else aoEwin w) else x.ewin }

def State.openSlot (r : Run) (w : Nat) (s : State) (u : Nat) : State :=
  let l := (s.spindle u).fillLane (wAcc w)
  (s.emptied r u l).modSpindle u fun x => x.opened r w l

theorem State.openSlot_within (r : Run) (w : Nat) (s : State) {u : Nat} (hu : u < 128) : s.Within (s.openSlot r w u) [u] ∧
    ∃ m, (s.openSlot r w u).spindle u = ({ s.spindle u with mark := m } : Spindle).opened r w ((s.spindle u).fillLane (wAcc w)) := by
  obtain ⟨m, hm⟩ := s.spindle_emptied r u ((s.spindle u).fillLane (wAcc w)) u
  refine ⟨(s.within_emptied r u _).trans (State.within_modSpindle ..), m, ?_⟩
  rw [State.openSlot, State.spindle_modSpindle_self _ _ hu, hm]

theorem effAccOpen_of_free {r : Run} {k w : Nat} {s : State} (h : ∀ u ∈ spindlesOf .accOpen w, s.laneBusy u ((s.spindle u).fillLane (wAcc w)) = false) :
    effAccOpen r k w s = .done ((spindlesOf .accOpen w).foldl (fun s u => s.openSlot r w u) s) none :=
  if_neg (by simpa using h)

theorem Spindle.open_opened (x : Spindle) (r : Run) (w l : Nat) : vget (x.opened r w l).open_ none (wAcc w) = some (aoInt w) ∧
    ∀ j, j ≠ wAcc w → vget (x.opened r w l).open_ none j = vget x.open_ none j := by
  refine ⟨?_, fun j hj => ?_⟩
  · rw [Spindle.opened, vget_vset, if_pos ⟨rfl, wAcc_lt w⟩]
  · rw [Spindle.opened, vget_vset, if_neg fun h => hj h.1.symm]

theorem Spindle.opened_skein (x : Spindle) {r : Run} (hm : r.header.mode = 1) (w l : Nat) : (x.opened r w l).pcount = 0 ∧
    (x.opened r w l).ewin = (if aoInt w then 0 else aoEwin w) ∧ ∀ c, (∀ j < 8, (x.opened r w l).lane j c = 0) ∧ (x.opened r w l).flag c = 0 := by
  obtain ⟨hpcount, hcells⟩ := x.clearSlot_skein l
  simp only [Spindle.opened, hm, decide_true, if_true]
  exact ⟨hpcount, trivial, fun c => ⟨fun j _ => (hcells c).1 j, (hcells c).2⟩⟩

theorem Spindle.opened_slot (x : Spindle) {r : Run} (hm : r.header.mode ≠ 1) (w : Nat) {l : Nat} (hl : l < 8) :
    vget (x.opened r w l).overflow true l = false ∧ (x.opened r w l).ewin = x.ewin ∧ (∀ c < 1024, (x.opened r w l).lane l c = 0) ∧
      ∀ j, j ≠ l → ∀ c, (x.opened r w l).lane j c = x.lane j c := by
  have hlane : ∀ j c, (x.opened r w l).lane j c = (x.clearSlot false l).lane j c := fun j c => by
    refine Spindle.lane_congr ?_ j c
    simp only [Spindle.opened, hm, decide_false]
  refine ⟨?_, by simp only [Spindle.opened, hm, if_false], fun c hc => ?_, fun j hj c => ?_⟩
  · simp only [Spindle.opened, hm, decide_false, Spindle.clearSlot, Bool.false_eq_true, if_false]
    rw [vget_vset, if_pos ⟨rfl, hl⟩]
  · rw [hlane, x.lane_clearSlot, if_pos ⟨rfl, hl, hc⟩]
  · rw [hlane, x.lane_clearSlot, if_neg fun h => hj h.1]

-- ACC.CLOSE.

def State.closeSlot (r : Run) (w u : Nat) (s : State) (l : Nat) : State :=
  (s.emptied r u l).modSpindle u fun x =>
    { x.clearSlot (r.header.mode = 1) l with open_ := vset x.open_ l none, pair := if wAcc w = 0 then none else x.pair }

/-- The slots that ACC.CLOSE of an Open hank closes on a Spindle: both of a pair for slot 0 (05 R125). -/
def Spindle.closing (x : Spindle) (k : Nat) : List Nat := if k = 0 && x.pair.isSome then [0, 1] else [k]

theorem Spindle.lt_of_mem_closing {x : Spindle} {k l : Nat} (hk : k < 8) (h : l ∈ x.closing k) : l < 8 := by
  unfold Spindle.closing at h
  split at h <;> simp only [List.mem_cons, List.not_mem_nil, or_false] at h <;> omega

theorem Spindle.closing_ne_nil (x : Spindle) (k : Nat) : x.closing k ≠ [] := by
  unfold Spindle.closing
  split <;> exact nofun

theorem Spindle.mem_closing {x : Spindle} {k l : Nat} (h : l = k ∨ (k = 0 ∧ x.pair ≠ none ∧ l = 1)) : l ∈ x.closing k := by
  unfold Spindle.closing
  rcases h with rfl | ⟨rfl, hp, rfl⟩
  · split
    case isTrue h => simp only [Bool.and_eq_true, decide_eq_true_eq] at h; simp [h.1]
    case isFalse => exact List.mem_singleton_self _
  · simp [Option.isSome_iff_ne_none.2 hp]

/-- Slots closed on one Spindle: their groups are closed, their contents 0, and slot 0 ends the pair (05 R123, R125). -/
theorem State.closeSlots_within {r : Run} (hm : r.header.mode ≠ 1) (w : Nat) {u : Nat} (hu : u < 128) (ls : List Nat) (hl : ∀ l ∈ ls, l < 8) (s : State) :
    s.Within (ls.foldl (fun s l => s.closeSlot r w u l) s) [u] ∧
      (∀ l ∈ ls, vget ((ls.foldl (fun s l => s.closeSlot r w u l) s).spindle u).open_ (some true) l = none ∧
        ∀ c < 1024, ((ls.foldl (fun s l => s.closeSlot r w u l) s).spindle u).lane l c = 0) ∧
      (ls ≠ [] → wAcc w = 0 → ((ls.foldl (fun s l => s.closeSlot r w u l) s).spindle u).pair = none) := by
  induction ls using List.reverseRecOn with
  | nil => exact ⟨.refl s _, by simp, fun h => absurd rfl h⟩
  | append_singleton ls l ih =>
    obtain ⟨hw, hclosed, -⟩ := ih fun j hj => hl j (List.mem_append_left _ hj)
    simp only [List.foldl_append, List.foldl_cons, List.foldl_nil]
    generalize ls.foldl (fun s l => s.closeSlot r w u l) s = t at hw hclosed
    have hl8 := hl l (List.mem_append_right _ (List.mem_singleton_self l))
    obtain ⟨m, hmark⟩ := t.spindle_emptied r u l u
    have hlane : ∀ j c, ((t.closeSlot r w u l).spindle u).lane j c = if j = l ∧ l < 8 ∧ c < 1024 then 0 else (t.spindle u).lane j c := fun j c => by
      rw [State.closeSlot, State.spindle_modSpindle_self _ _ hu, hmark]
      simp only [hm, decide_false]
      exact Spindle.lane_clearSlot { t.spindle u with mark := m } l j c
    have hopen : ∀ j, vget ((t.closeSlot r w u l).spindle u).open_ (some true) j = if l = j ∧ l < 8 then none else vget (t.spindle u).open_ (some true) j := fun j => by
      rw [State.closeSlot, State.spindle_modSpindle_self _ _ hu, hmark]
      exact vget_vset ..
    refine ⟨hw.trans ((t.within_emptied r u l).trans (State.within_modSpindle ..)), fun j hj => ?_, fun _ h0 => ?_⟩
    · by_cases h : l = j
      · subst h
        exact ⟨by rw [hopen, if_pos ⟨rfl, hl8⟩], fun c hc => by rw [hlane, if_pos ⟨rfl, hl8, hc⟩]⟩
      · obtain ⟨ho, hz⟩ := hclosed j ((List.mem_append.1 hj).resolve_right fun g => h (List.mem_singleton.1 g).symm)
        exact ⟨by rw [hopen, if_neg fun g => h g.1, ho], fun c hc => by rw [hlane, if_neg fun g => h g.1.symm, hz c hc]⟩
    · rw [State.closeSlot, State.spindle_modSpindle_self _ _ hu]
      exact if_pos h0

theorem effAccClose_of_free {r : Run} {k w : Nat} {s : State} (hm : r.header.mode ≠ 1) (h : ∀ u l, s.laneBusy u l = false) :
    effAccClose r k w s = .done ((spindlesOf .accClose w).foldl (fun t u => ((s.spindle u).closing (wAcc w)).foldl (fun t l => t.closeSlot r w u l) t) s) none := by
  refine (if_neg (by simp [h])).trans ?_
  simp only [hm, decide_false, Bool.false_and, Bool.false_eq_true, if_false, State.closeSlot, Spindle.closing]
  rfl

-- ACC.PAIR.

def State.pairSlots (r : Run) (w : Nat) (s : State) (u : Nat) : State :=
  (((s.clearMark r u 0).clearMark r u 1).leaveTree u [0, 1]).modSpindle u fun x =>
    { (x.clearSlot false 0).clearSlot false 1 with
      open_ := vset (vset x.open_ 0 (some (aoInt w))) 1 (some (aoInt w)), pair := some (false, true) }

/-- A Spindle after ACC.PAIR: both slots open with one kind and empty, slot 0 the fill side (05 R125). -/
structure Spindle.Paired (x : Spindle) (int : Bool) : Prop where
  pair : x.pair = some (false, true)
  fill : vget x.open_ none 0 = some int
  drain : vget x.open_ none 1 = some int
  empty : ∀ c < 1024, x.lane 0 c = 0 ∧ x.lane 1 c = 0

theorem State.pairSlots_within (r : Run) (w : Nat) (s : State) {u : Nat} (hu : u < 128) :
    s.Within (s.pairSlots r w u) [u] ∧ ((s.pairSlots r w u).spindle u).Paired (aoInt w) := by
  refine ⟨(s.within_clearMark r u 0).trans ((State.within_clearMark _ r u 1).trans ((State.within_leaveTree ..).trans (State.within_modSpindle ..))), ?_⟩
  rw [State.pairSlots, State.spindle_modSpindle_self _ _ hu]
  refine ⟨rfl, ?_, ?_, fun c hc => ⟨?_, ?_⟩⟩
  · simp [vget_vset]
  · simp [vget_vset]
  · refine (Spindle.lane_clearSlot _ 1 0 c).trans ?_
    rw [if_neg (by simp), Spindle.lane_clearSlot, if_pos ⟨rfl, by decide, hc⟩]
  · refine (Spindle.lane_clearSlot _ 1 1 c).trans ?_
    rw [if_pos ⟨rfl, by decide, hc⟩]

theorem effAccPair_of_free {r : Run} {k w : Nat} {s : State} (h : ∀ u l, s.laneBusy u l = false) :
    effAccPair r k w s = .done ((spindlesOf .accPair w).foldl (fun s u => s.pairSlots r w u) s) none :=
  if_neg (by simp [h])

-- SPLIT.K.

/-- The parts of a SPLIT.K but the first (07 R196). -/
def laterParts (w : Nat) : List Nat := (List.range (skParts w - 1)).map fun p => wUnit w + 1 + p

theorem mem_laterParts {w u : Nat} : u ∈ laterParts w ↔ wUnit w < u ∧ u < wUnit w + skParts w := by
  simp only [laterParts, List.mem_map, List.mem_range]
  exact ⟨fun ⟨p, hp, h⟩ => by omega, fun h => ⟨u - wUnit w - 1, by omega, by omega⟩⟩

theorem nodup_laterParts (w : Nat) : (laterParts w).Nodup := List.nodup_range.map fun _ _ h => Nat.add_left_cancel h

theorem spindlesOf_splitK (w : Nat) : spindlesOf .splitK w = (List.range (skParts w)).map fun p => wUnit w + p := rfl

theorem mem_spindlesOf_splitK {w u : Nat} (h : u ∈ laterParts w) : u ∈ spindlesOf .splitK w := by
  rw [mem_laterParts] at h
  rw [spindlesOf_splitK]
  exact List.mem_map.2 ⟨u - wUnit w, List.mem_range.2 (by omega), by omega⟩

def State.clearPart (r : Run) (k : Nat) (s : State) (u : Nat) : State :=
  let l := (s.spindle u).fillLane k
  (s.emptied r u l).modSpindle u fun x => x.clearSlot (r.header.mode = 1) l

theorem State.clearPart_within {r : Run} (hm : r.header.mode ≠ 1) {k : Nat} (hk : k < 8) (s : State) {u : Nat} (hu : u < 128) :
    s.Within (s.clearPart r k u) [u] ∧ ((s.spindle u).pair = none → ∀ c < 1024, ((s.clearPart r k u).spindle u).lane k c = 0) := by
  refine ⟨(s.within_emptied r u _).trans (State.within_modSpindle ..), fun hp c hc => ?_⟩
  rw [State.clearPart, State.spindle_modSpindle_self _ _ hu]
  simp only [hm, decide_false, Spindle.fillLane_of_no_pair hp]
  rw [Spindle.lane_clearSlot, if_pos ⟨rfl, hk, hc⟩]

theorem effSplitK_of_free {d : Nat} {r : Run} {k w : Nat} {s : State} (h : ∀ u l, s.laneBusy u l = false) :
    effSplitK d r k w s = .done (((laterParts w).foldl (fun s u => s.clearPart r (wAcc w) u) s).modRun d fun r =>
      { r with splits := { base := wUnit w, slot := wAcc w, parts := skParts w, logs := [] } :: r.splits }) none :=
  if_neg (by simp [h])

-- ACC.PRELOAD.

/-- Bytes of an element of a preload tile (05 R130). -/
def preloadSize (w : Nat) : Nat := if apFmt w = 1 then 2 else 4

/-- What ACC.PRELOAD in Open mode puts into a cell, from the element that stands there (05 R130). -/
def preloadValue (w v : Nat) : BitVec 40 :=
  if apFmt w = 2 then BitVec.ofInt 40 (signed 32 v) else if apFmt w = 1 then BitVec.ofNat 40 (v * 65536) else BitVec.ofNat 40 v

theorem preloadBytes_eq {w : Nat} (h : apFmt w ≤ 2) : preloadBytes (apFmt w) = 1024 * preloadSize w := by
  have h3 : apFmt w ≠ 3 := by omega
  by_cases h1 : apFmt w = 1 <;> simp [preloadBytes, preloadSize, h1, h3]

theorem preloadUnit_of_readable {r : Run} {w u : Nat} {s : State} (hm : r.header.mode ≠ 1) (hf : apFmt w ≤ 2)
    (hread : s.lsReadable false u (64 * apSrc w) (1024 * preloadSize w)) :
    ∃ m v, s.mem.Alike m ∧ (∀ c < 1024, v c = preloadValue w (ofLe (s.bytes 3 (lsKey false u (64 * apSrc w) + preloadSize w * c) (preloadSize w)))) ∧
      preloadUnit r w u s = (({ s with mem := m } : State).fillSlot r u ((s.spindle u).fillLane (wAcc w)) v, none) := by
  have hcheck : (s.mem.check 3 (lsKey false u (64 * apSrc w)) (1024 * preloadSize w)).2 = none := hread
  have halike := s.mem.check_alike _ _ _ hcheck
  set m := (s.mem.check 3 (lsKey false u (64 * apSrc w)) (1024 * preloadSize w)).1 with hmdef
  refine ⟨m, fun c => preloadValue w (arrNum (({ s with mem := m } : State).bytes 3 (lsKey false u (64 * apSrc w)) (1024 * preloadSize w)).toArray
    (preloadSize w * c) (preloadSize w)), halike, fun c hc => ?_, ?_⟩
  · have hin : preloadSize w * c + preloadSize w ≤ 1024 * preloadSize w := by rw [← Nat.mul_succ, Nat.mul_comm]; exact Nat.mul_le_mul_right _ hc
    dsimp only
    rw [State.bytes_of_cells (s := s) (halike.cells 3), State.bytes, arrNum_bytes _ _ hin]
    rfl
  · unfold preloadUnit State.readLs
    simp only [preloadBytes_eq hf, hcheck, hm, if_false, Option.map_none]
    refine Prod.ext (congrArg (State.modSpindle _ u) (funext fun x => congrArg (x.setLane _) (funext fun c => ?_))) rfl
    by_cases h1 : apFmt w = 1 <;> simp [preloadValue, preloadSize, h1, hmdef]

/-- Settles O29: each word's step is said for one Spindle and taken to the list it names; a fill repeats the read in the state the word is handed in. -/
theorem slotWordsOpenCloseAndFill : Obligations.SlotWordsOpenCloseAndFill := by
  refine ⟨fun s s0 d r k w h hfree => ?_, fun s s0 d r k w hm hfree => ⟨fun h => ?_, fun h => ?_, fun h hparts hpair => ?_⟩, fun s s0 d r k w h hall hm hf => ?_⟩
  · have hs := State.handed_of_atUnits h
    have heff := effAccOpen_of_free (r := r) (k := k) (w := w) (s := s0) fun u hu => by
      rw [hs.laneBusy, hs.spindle, Spindle.fillLane_of_no_pair (hfree u hu).1]
      exact (hfree u hu).2
    obtain ⟨hw, hp⟩ := State.foldl_within (p := fun _ x y => ∃ m, y = ({ x with mark := m } : Spindle).opened r w (x.fillLane (wAcc w))) (nodup_spindlesOf (o := .accOpen) rfl w) s0
      fun t u hu => t.openSlot_within r w (lt_of_mem_spindlesOf (o := .accOpen) rfl nofun hu)
    obtain ⟨hran, hframe, hspindle, hother⟩ := hw.ran h heff rfl ((hw.run d).trans hs.run) rfl
    refine ⟨_, rfl, hran, hframe, fun u hu => ?_, fun v _ hv => hother v hv⟩
    obtain ⟨m, hm⟩ := hp u hu
    rw [hspindle, hm, hs.spindle, Spindle.fillLane_of_no_pair (hfree u hu).1]
    obtain ⟨hopen, hopens⟩ := Spindle.open_opened { s.spindle u with mark := m } r w (wAcc w)
    refine ⟨hopen, fun l _ hl => hopens l hl, ?_⟩
    split
    case isTrue hm => exact Spindle.opened_skein _ hm w _
    case isFalse hm =>
      obtain ⟨hover, hewin, hzero, hlanes⟩ := Spindle.opened_slot { s.spindle u with mark := m } hm w (wAcc_lt w)
      exact ⟨hover, hewin, hzero, fun l _ hl => hlanes l hl⟩
  · have hs := State.handed_of_atUnits h
    have hm1 : r.header.mode ≠ 1 := by omega
    obtain ⟨hw, hp⟩ := State.foldl_within (us := spindlesOf .accClose w) (f := fun t u => ((s0.spindle u).closing (wAcc w)).foldl (fun t l => t.closeSlot r w u l) t)
      (p := fun u _ y => (∀ l ∈ (s0.spindle u).closing (wAcc w), vget y.open_ (some true) l = none ∧ ∀ c < 1024, y.lane l c = 0) ∧ (wAcc w = 0 → y.pair = none))
      (nodup_spindlesOf (o := .accClose) rfl w) s0 fun t u hu => by
        obtain ⟨hw, hclosed, hpair⟩ := State.closeSlots_within hm1 w (lt_of_mem_spindlesOf (o := .accClose) rfl nofun hu) ((s0.spindle u).closing (wAcc w))
          (fun l hl => Spindle.lt_of_mem_closing (wAcc_lt w) hl) t
        exact ⟨hw, hclosed, hpair (Spindle.closing_ne_nil _ _)⟩
    obtain ⟨hran, hframe, hspindle, hother⟩ := hw.ran h (effAccClose_of_free hm1 fun u l => (hs.laneBusy u l).trans (hfree u l)) rfl ((hw.run d).trans hs.run) rfl
    refine ⟨_, rfl, hran, hframe, fun u hu l _ hl => ?_, fun u hu h0 => ?_, fun v _ hv => hother v hv⟩ <;> rw [hspindle]
    · exact (hp u hu).1 l (Spindle.mem_closing (by rwa [hs.spindle]))
    · exact (hp u hu).2 h0
  · have hs := State.handed_of_atUnits h
    obtain ⟨hw, hp⟩ := State.foldl_within (p := fun _ _ y => y.Paired (aoInt w)) (nodup_spindlesOf (o := .accPair) rfl w) s0
      fun t u hu => t.pairSlots_within r w (lt_of_mem_spindlesOf (o := .accPair) rfl nofun hu)
    obtain ⟨hran, hframe, hspindle, hother⟩ := hw.ran h (effAccPair_of_free fun u l => (hs.laneBusy u l).trans (hfree u l)) rfl ((hw.run d).trans hs.run) rfl
    refine ⟨_, rfl, hran, hframe, fun u hu => ?_, fun v _ hv => hother v hv⟩
    rw [hspindle]
    exact ⟨(hp u hu).pair, (hp u hu).fill, (hp u hu).drain, (hp u hu).empty⟩
  · have hs := State.handed_of_atUnits h
    have hm1 : r.header.mode ≠ 1 := by omega
    obtain ⟨hw, hp⟩ := State.foldl_within (p := fun _ x y => x.pair = none → ∀ c < 1024, y.lane (wAcc w) c = 0) (nodup_laterParts w) s0
      fun t u hu => t.clearPart_within hm1 (wAcc_lt w) (by have := mem_laterParts.1 hu; omega)
    have heff := effSplitK_of_free (d := d) (r := r) (k := k) (w := w) (s := s0) fun u l => (hs.laneBusy u l).trans (hfree u l)
    have hy := State.run_modRun_self _ d (fun r => { r with splits := { base := wUnit w, slot := wAcc w, parts := skParts w, logs := [] } :: r.splits }) r
      ((hw.run d).trans hs.run)
    obtain ⟨hran, hframe, hspindle, hother⟩ := hw.ran h heff rfl hy rfl
    obtain ⟨q, hq, hqy⟩ := State.word_done_run h heff hy
    refine ⟨_, q, rfl, hran, hframe, hq, by rw [hqy], fun p hp1 hpP c hc => ?_, fun v _ hv => hother v ?_⟩
    · have hmem : wUnit w + p ∈ laterParts w := mem_laterParts.2 ⟨by omega, by omega⟩
      rw [hspindle]
      exact hp _ hmem (by rw [hs.spindle]; exact hpair _ (mem_spindlesOf_splitK hmem)) c hc
    · rw [mem_laterParts]
      omega
  · intro u lane size at_ hlane hfree hread
    have hs := State.handed_of_atUnits h
    have hus : spindlesOf .accPreload w = [u] := spindlesOf_one (o := .accPreload) rfl nofun hall
    obtain ⟨m, v, halike, hv, hunit⟩ := preloadUnit_of_readable (s := s0) (u := u) (by omega : r.header.mode ≠ 1) hf (by rw [State.lsReadable, hs.mem]; exact hread)
    have heff : effAccPreload r k w s0 = .done (({ s0 with mem := m } : State).fillSlot r u lane v) none := by
      unfold effAccPreload
      simp only [hus, List.any_cons, List.any_nil, Bool.or_false, hs.laneBusy, hs.spindle, eachUnit_singleton, hunit]
      exact if_neg (Bool.eq_false_iff.1 hfree)
    have hw := State.Within.worked halike (State.fillSlot_within _ r u lane v) rfl h heff
    have hlanes : ∀ j c, (({ s0 with mem := m } : State).fillSlot r u lane v |>.spindle u).lane j c = ((s.spindle u).setLane lane v).lane j c := fun j c =>
      (State.lane_fillSlot _ r (wUnit_lt w) lane v j c).trans (by rw [← hs.spindle u]; rfl)
    refine ⟨_, rfl, hw.ran, hw.frame_of_dict (by rw [(State.fillSlot_within _ r u lane v).dict, hs.frame]), fun c hc => ?_, fun l _ hne c => ?_,
      fun z _ hz => hw.others z (by simpa using hz), hw.byteAt⟩
    · rw [hw.spindle, hlanes, Spindle.lane_setLane_self _ _ hlane hc, hv c hc, hs.bytes]
      rfl
    · rw [hw.spindle, hlanes, Spindle.lane_setLane_of_ne _ _ _ hne]

end Sys2Proof.Machine
end

section
/-!
PROOF. DRAIN_READOUT and DEBUG.PEEK (O31).
-/
namespace Sys2Proof.Machine

-- DRAIN_READOUT.

/-- One read-out ends: its products have left the tree, and CLR clears the lane (05 R135). -/
def State.endReadout (r : Run) (s : State) (y : Drain) : State :=
  let s := s.leaveTree y.spindle [y.slot]
  if y.clear then (s.clearMark r y.spindle y.slot).modSpindle y.spindle fun z => z.clearSlot (r.header.mode = 1) y.slot else s

theorem State.endReadout_within (r : Run) (s : State) (y : Drain) : s.Within (s.endReadout r y) [y.spindle] := by
  unfold State.endReadout
  dsimp only
  split
  · exact (State.within_leaveTree ..).trans ((State.within_clearMark ..).trans (State.within_modSpindle ..))
  · exact State.within_leaveTree ..

theorem State.tree_endReadout (r : Run) (s : State) (y : Drain) :
    (s.endReadout r y).units.tree = s.units.tree.filter fun e => !(e.spindle = y.spindle && e.lane = y.slot) := by
  have hleft : (s.leaveTree y.spindle [y.slot]).units.tree = s.units.tree.filter fun e => !(e.spindle = y.spindle && e.lane = y.slot) :=
    List.filter_congr fun e _ => by simp
  unfold State.endReadout
  dsimp only
  split
  · exact (congrArg Units.tree (State.units_clearMark ..)).trans hleft
  · exact hleft

/-- With CLR the drained lane of an Open slot is 0 and the other lanes stay. -/
theorem State.lane_endReadout {r : Run} (hm : r.header.mode ≠ 1) (s : State) {y : Drain} (hu : y.spindle < 128) (hc : y.clear = true) (l c : Nat) :
    ((s.endReadout r y).spindle y.spindle).lane l c = if l = y.slot ∧ y.slot < 8 ∧ c < 1024 then 0 else (s.spindle y.spindle).lane l c := by
  obtain ⟨m, hmark⟩ := (s.leaveTree y.spindle [y.slot]).spindle_clearMark r y.spindle y.slot y.spindle
  unfold State.endReadout
  simp only [hc, if_true, hm, decide_false]
  rw [State.spindle_modSpindle_self _ _ hu, hmark, Spindle.lane_clearSlot]
  rfl

theorem State.endReadout_keeps (r : Run) (s : State) {y : Drain} (hc : y.clear = false) : (s.endReadout r y).units.spindles = s.units.spindles := by
  unfold State.endReadout
  rw [hc]
  rfl

theorem exec_drainReadout {s : State} {d : Fin 8} {r : Run} {x : Drain} (hp : s.board.phase = .ready) (hr : s.run d = some r)
    (hx : s.units.drains.find? (fun y => y.distaff = d.val) = some x) :
    exec (.drainReadout d) s =
      let mine := fun (y : Drain) => decide (y.distaff = d.val) && decide (y.word = x.word)
      let t := (s.units.drains.filter mine).foldl (fun s y => s.endReadout r y) s
      .next { t with units := { t.units with drains := t.units.drains.filter fun y => !mine y } } := by
  have hd : x.distaff = d.val := by simpa using List.find?_some hx
  have harm : exec (.drainReadout d) s = execDrainReadout d s := rfl
  rw [harm, execDrainReadout, hp, hr, hx, ← hd]
  rfl

-- DEBUG.PEEK.

theorem length_flatMap_range {α : Type} (f : Nat → List α) {c : Nat} (hc : ∀ j, (f j).length = c) (n : Nat) : ((List.range n).flatMap f).length = n * c := by
  simp [List.length_flatMap, hc]

/-- Parts of equal length, joined: part j where it stands. -/
theorem part_flatMap_range {α : Type} (f : Nat → List α) {c : Nat} (hc : ∀ j, (f j).length = c) {n j : Nat} (hj : j < n) (rest : List α) :
    (((List.range n).flatMap f ++ rest).drop (j * c)).take c = f j := by
  obtain ⟨m, rfl⟩ : ∃ m, n = j + (m + 1) := ⟨n - j - 1, by omega⟩
  rw [List.range_add, List.flatMap_append, List.append_assoc, List.drop_left' (length_flatMap_range f hc j), List.range_succ_eq_map, List.map_cons, List.flatMap_cons,
    List.append_assoc, List.take_left' (hc _), Nat.add_zero]

/-- No group is shown later than the newest one's first row (05 R137). -/
theorem firstRows_le (step : Nat) (free : Nat → Nat) (ws : List Nat) (k : Nat) (v : Int) : ∀ x ∈ firstRows step free ws k v, x ≤ v := by
  induction ws generalizing k v with
  | nil => exact fun _ h => nomatch h
  | cons g ws ih =>
    intro x hx
    rcases List.mem_append.1 hx with h | h
    · obtain ⟨i, -, rfl⟩ := List.mem_map.1 h
      omega
    · have := ih _ _ x h
      omega

theorem getD_map_range {α : Type} (f : Nat → α) {n i : Nat} (hi : i < n) (y : α) : ((List.range n).map f).toArray.getD i y = f i := by
  simp [Array.getD_eq_getD_getElem?, hi]

/-- What the rows of a peek show: with no product in the tree, with IN_FLIGHT 0, and from row 5 on, the slot as it stands (05 R137). -/
structure State.Peeked (s : State) (x : Spindle) (inFlight : List InTree) (p : Array Spindle × Bool × State) : Prop where
  frame : p.2.2 = { s with out := p.2.2.out }
  idle : inFlight = [] → p.2.1 = false ∧ p.2.2 = s
  shown : ∀ i < 32, 5 ≤ i ∨ p.2.1 = false → ∀ y, p.1.getD i y = x

theorem State.peekRows_peeked (s : State) (r : Run) (u lane : Nat) : s.Peeked (s.hostSlot r (s.leadOf r u lane) lane) (s.inTree u lane) (s.peekRows r u lane) := by
  unfold State.peekRows
  split
  · rename_i he
    refine ⟨rfl, fun _ => ⟨rfl, rfl⟩, fun i hi _ y => ?_⟩
    simp [Array.getD_eq_getD_getElem?, hi]
  · rename_i e rest he
    refine ⟨rfl, fun h => absurd (he.symm.trans h) (List.cons_ne_nil _ _), fun i hi hshown y => ?_⟩
    dsimp only at hshown ⊢
    generalize hfree : ((((Config.freeValue (s.out.free + 0)).toNat % (peekLate + 1) : Nat)) : Int) = v at hshown ⊢
    generalize hrows : firstRows _ _ _ 1 v = rows at hshown ⊢
    have hv : v ≤ 5 := by unfold peekLate at hfree; omega
    have hmissing : (rows.filter fun v => decide ((i : Int) < v)).length = 0 := by
      refine List.length_eq_zero_iff.2 (List.filter_eq_nil_iff.2 fun x hx => ?_)
      have hle : x ≤ v := firstRows_le _ _ _ _ _ x (hrows ▸ hx)
      rcases hshown with h5 | h0
      · simp only [decide_eq_true_eq]
        omega
      · have hnone := List.length_eq_zero_iff.1 (not_not.1 (of_decide_eq_false h0))
        have := List.filter_eq_nil_iff.1 hnone x hx
        simp only [decide_eq_true_eq] at this ⊢
        omega
    exact (getD_map_range _ hi y).trans (if_pos hmissing)

/-- The bytes a peek of an Open slot writes, from the Spindle that each row shows (07 R198). -/
def peekData (lane : Nat) (x : Spindle) (rows : Array Spindle) (flight : Bool) : Bytes :=
  ((List.range 1024).flatMap fun c => le 4 (((rows.getD (c / 32) x).lane lane c).toNat % 2 ^ 32)) ++ le 4 (if flight then 1 else 0)

theorem length_peekData (lane : Nat) (x : Spindle) (rows : Array Spindle) (flight : Bool) : (peekData lane x rows flight).length = 4100 := by
  rw [peekData, List.length_append, length_flatMap_range _ (fun _ => length_le 4 _), length_le]

theorem effPeek_of_slot {r : Run} {k w : Nat} {s : State} (hm : r.header.mode ≠ 1) (hsel : drSel w = false) :
    let p := s.peekRows r (wUnit w) ((s.spindle (wUnit w)).fillLane (wAcc w))
    effPeek r k w s = .done (p.2.2.put 3 (lsKey false (wUnit w) (64 * drAddr w))
      (peekData ((s.spindle (wUnit w)).fillLane (wAcc w)) (s.spindle (wUnit w)) p.1 p.2.1)) none := by
  unfold effPeek State.writeDest
  simp only [hm, hsel, if_false, Bool.false_eq_true]
  rfl

/-- The parts of what a peek has written. -/
theorem State.bytes_put_peekData (s : State) (a lane : Nat) (x : Spindle) (rows : Array Spindle) (flight : Bool) :
    (∀ c < 1024, (s.put 3 a (peekData lane x rows flight)).bytes 3 (a + 4 * c) 4 = le 4 (((rows.getD (c / 32) x).lane lane c).toNat % 2 ^ 32)) ∧
      (s.put 3 a (peekData lane x rows flight)).bytes 3 (a + 4096) 4 = le 4 (if flight then 1 else 0) := by
  refine ⟨fun c hc => ?_, ?_⟩
  · rw [State.bytes_put_part _ _ _ _ _ _ (by decide) (by rw [length_peekData]; omega), peekData, Nat.mul_comm 4 c]
    exact part_flatMap_range (fun c => le 4 (((rows.getD (c / 32) x).lane lane c).toNat % 2 ^ 32)) (fun _ => length_le 4 _) hc _
  · rw [State.bytes_put_part _ _ _ _ _ _ (by decide) (by rw [length_peekData]), peekData, List.drop_left' (length_flatMap_range _ (fun _ => length_le 4 _) 1024),
      List.take_of_length_le (length_le 4 _).le]

theorem le_flag_eq_zeros {b : Bool} : le 4 (if b then 1 else 0) = zeros 4 ↔ b = false := by cases b <;> decide

/-- Settles O31: the one read-out ends on its Spindle; a peek writes what its rows show, which late rows and a clear flag make the slot as it stands. -/
theorem readoutsAndPeeks : Obligations.ReadoutsAndPeeks := by
  refine ⟨fun s d r x hphase hr hm hx hone hu hl => ?_, fun s s0 d r k w h hm hsel => ?_⟩
  · have hm1 : r.header.mode ≠ 1 := by omega
    have hw := State.endReadout_within r s x
    have hexec := exec_drainReadout hphase hr hx
    dsimp only at hexec
    rw [hone, List.foldl_cons, List.foldl_nil] at hexec
    refine ⟨_, hexec, ?_, congrArg (List.filter _) hw.drains, State.tree_endReadout r s x, fun hc c hlt => ?_, State.endReadout_keeps r s, fun l _ hne c => ?_,
      fun v _ hv => hw.spindle v (by simpa using hv)⟩
    · rw [hw.frame]
    · exact (State.lane_endReadout hm1 s hu hc x.slot c).trans (if_pos ⟨rfl, hl, hlt⟩)
    · cases hc : x.clear with
      | true => exact (State.lane_endReadout hm1 s hu hc l c).trans (if_neg fun h => hne h.1)
      | false => exact Spindle.lane_congr (congrArg (fun v => (vget v Spindle.reset x.spindle).lanes) (State.endReadout_keeps r s hc)) l c
  · intro u lane x dst
    have hs := State.handed_of_atUnits h
    have hp := s0.peekRows_peeked r u lane
    have hx : s0.hostSlot r (s0.leadOf r u lane) lane = x := by rw [hs.frame]; rfl
    have htree : s0.inTree u lane = s.inTree u lane := by rw [hs.frame]; rfl
    have hlane : (s0.spindle u).fillLane (wAcc w) = lane := by rw [hs.spindle]
    have heff := effPeek_of_slot (s := s0) (k := k) (by omega : r.header.mode ≠ 1) hsel
    dsimp only at heff
    rw [hlane] at heff
    rw [hx, htree] at hp
    generalize s0.peekRows r u lane = p at hp heff
    have hdist : p.2.2.distaffs = s0.distaffs := by rw [hp.frame]
    obtain ⟨hcells, hflag⟩ := p.2.2.bytes_put_peekData dst lane (s0.spindle u) p.1 p.2.1
    have hlen := length_peekData lane (s0.spindle u) p.1 p.2.1
    generalize peekData lane (s0.spindle u) p.1 p.2.1 = data at heff hcells hflag hlen
    have hran := State.word_done h heff ((State.run_congr ((State.put_distaffs ..).trans hdist) d).trans hs.run) rfl
    have hbytes : ∀ a n, (s.word d .debugPeek effPeek).bytes 3 a n = (p.2.2.put 3 dst data).bytes 3 a n := fun a n => by
      rw [State.bytes, hran.mem]
      rfl
    have hout : (s.word d .debugPeek effPeek).out = p.2.2.out := hran.out.trans (State.put_out ..)
    have hshown : ∀ c < 1024, 160 ≤ c ∨ p.2.1 = false → (s.word d .debugPeek effPeek).bytes 3 (dst + 4 * c) 4 = le 4 ((x.lane lane c).toNat % 2 ^ 32) := fun c hc hc5 => by
      rw [hbytes, hcells c hc, hp.shown (c / 32) (by omega) (hc5.imp (by omega) id)]
    refine ⟨_, rfl, hran.ran, ?_, fun hidle => ?_, fun c hc hc5 => hshown c hc (hc5.imp id fun hz => ?_), ?_, fun q a hq hq5 => ?_⟩
    · obtain ⟨m, hput⟩ : ∃ m, p.2.2.put 3 dst data = { p.2.2 with mem := m } := ⟨_, rfl⟩
      rw [hran.frame, hput, hp.frame, hs.frame]
    · obtain ⟨hclear, hsame⟩ := hp.idle hidle
      refine ⟨hout.trans (by rw [hsame, hs.out]), fun c hc => hshown c hc (.inr hclear), ?_⟩
      rw [hbytes, hflag, le_flag_eq_zeros, hclear]
    · rwa [hbytes, hflag, le_flag_eq_zeros] at hz
    · rw [hbytes, hflag]
      cases p.2.1
      · exact .inl rfl
      · exact .inr rfl
    · rw [hran.byteAt, State.byteAt_put _ _ _ _ _ _ (by decide) hq5, hlen]
      refine (if_neg (by omega : ¬(q = 3 ∧ dst ≤ a ∧ a < dst + 4100))).trans ?_
      rw [State.byteAt, hp.frame]
      exact hs.byteAt q a

end Sys2Proof.Machine
end

section
/-!
SUPPORT. The products of a MAC.*: the tiles it reads, and what a slot or a skein holds after them.
-/
namespace Sys2Proof.Machine

-- The tiles.

/-- A tile that reads in `s` reads the same in a state whose memory is alike, and the read changes marks of the memory alone. -/
theorem State.tile_repeats {s t : State} (hm : s.mem.Alike t.mem) {u a f k w : Nat} (cbk : Nat) (cb : Bytes)
    (h : s.lsReadable false u (64 * a) (256 * (k / w) + if isMx f then k else 0)) :
    (t.tile u a f k w cbk cb).1.fail = none ∧ (t.tile u a f k w cbk cb).2 = (s.tile u a f k w cbk cb).2 ∧
      ∃ m, t.mem.Alike m ∧ (t.tile u a f k w cbk cb).1.st = { t with mem := m } := by
  have hs : (s.mem.check 3 (lsKey false u (64 * a)) (256 * (k / w) + if isMx f then k else 0)).2 = none := h
  have ht := hm.check hs
  refine ⟨Option.map_eq_none_iff.2 ht, ?_, _, t.mem.check_alike _ _ _ ht, rfl⟩
  have hbytes := State.bytes_of_cells (s := { s with mem := (s.mem.check 3 (lsKey false u (64 * a)) (256 * (k / w) + if isMx f then k else 0)).1 })
    (t := { t with mem := (t.mem.check 3 (lsKey false u (64 * a)) (256 * (k / w) + if isMx f then k else 0)).1 })
    (((t.mem.check_alike _ _ _ ht).cells 3).trans ((hm.cells 3).trans ((s.mem.check_alike _ _ _ hs).cells 3).symm))
    (lsKey false u (64 * a)) (256 * (k / w) + if isMx f then k else 0)
  simp only [State.tile, State.readLs, hbytes]

/-- A codebook, where a MAC.* reads one (05 R113). -/
def State.macBook (s : State) (u w : Nat) : Bytes := if macFb w = 1 ∧ macCbk w ≠ 0 then s.bytes 3 (lsKey false u (64 * macCb w)) 16 else []

/-- The operand tiles of a MAC.* on a Spindle (07 R194). -/
def State.macTileA (s : State) (u w : Nat) : Tile := (s.tile u (macA w) (macFa w) (macK w) (gwWidth (wGw w)) 0 []).2
def State.macTileB (s : State) (u w : Nat) : Tile := (s.tile u (macB w) (macFb w) (macK w) (gwWidth (wGw w)) (macCbk w) (s.macBook u w)).2

/-- A MAC.* reads its codebook and both tiles. -/
structure State.MacReads (s : State) (u w : Nat) : Prop where
  book : macFb w = 1 ∧ macCbk w ≠ 0 → s.lsReadable false u (64 * macCb w) 16
  a : s.lsReadable false u (64 * macA w) (256 * (macK w / gwWidth (wGw w)) + if isMx (macFa w) then macK w else 0)
  b : s.lsReadable false u (64 * macB w) (256 * (macK w / gwWidth (wGw w)) + if isMx (macFb w) then macK w else 0)

theorem Tile.length_line (t : Tile) (i : Nat) : (t.line i).length = t.k := by simp [Tile.line]

theorem Tile.zipWith_line {α : Type} (f : Num → Num → α) {a b : Tile} (hk : a.k = b.k) (i j : Nat) :
    List.zipWith f (a.line i) (b.line j) = (List.range a.k).map fun k => f (a.at_ i k) (b.at_ j k) := by
  rw [Tile.line, Tile.line, ← hk, List.zipWith_map, List.zipWith_self]

theorem mapIdx_map_range {α β : Type} (f : Nat → α) (g : Nat → α → β) (n : Nat) : ((List.range n).map f).mapIdx g = (List.range n).map fun j => g j (f j) :=
  List.ext_getElem (by simp) fun i h1 h2 => by simp

-- A skein.

/-- The digits of a number give it back. -/
theorem sum_digits (b z n : Nat) : ((List.range n).map fun l => z / b ^ l % b * b ^ l).sum = z % b ^ n := by
  induction n with
  | zero => simp [Nat.mod_one]
  | succ n ih => rw [List.range_succ, List.map_append, List.sum_append, ih, List.map_singleton, List.sum_singleton, Nat.mod_pow_succ, Nat.mul_comm]

theorem Spindle.lane_setSkeins (x : Spindle) (f : Nat → Int) {l c : Nat} (hl : l < 8) (hc : c < 1024) :
    (x.setSkeins f).lane l c = BitVec.ofNat 40 (bits (wrap 256 (f c)) (32 * l + 31) (32 * l)) := by
  rw [Spindle.lane, Spindle.setSkeins, vget_eq _ _ _ hl]
  simp only [Vector.getElem_ofFn]
  rw [Sparse.get_replace, if_pos ⟨Nat.zero_le c, by omega⟩, Nat.sub_zero, getD_map_range (fun c => wrap 256 (f c)) hc]

/-- A skein reads as the number put into it modulo 2^256 (05 R127). -/
theorem Spindle.skein_setSkeins (x : Spindle) (f : Nat → Int) {c : Nat} (hc : c < 1024) : (x.setSkeins f).skein c = signed 256 (wrap 256 (f c)) := by
  have hlanes : ((List.range 8).map fun l => ((x.setSkeins f).lane l c).toNat % 2 ^ 32 * 2 ^ (32 * l)) =
      (List.range 8).map fun l => wrap 256 (f c) / (2 ^ 32) ^ l % 2 ^ 32 * (2 ^ 32) ^ l := List.map_congr_left fun l hl => by
    rw [x.lane_setSkeins f (List.mem_range.1 hl) hc, BitVec.toNat_ofNat, Nat.mod_mod_of_dvd _ (by decide), bits, show 32 * l + 31 + 1 - 32 * l = 32 by omega, Nat.mod_mod,
      Nat.pow_mul]
  rw [Spindle.skein, hlanes, sum_digits, ← Nat.pow_mul, Nat.mod_eq_of_lt (wrap_lt 256 _)]

/-- A skein depends on the lanes alone, a flag on the flags. -/
theorem Spindle.skein_congr {x y : Spindle} (h : y.lanes = x.lanes) (c : Nat) : y.skein c = x.skein c := by
  simp only [Spindle.skein, Spindle.lane_congr h]

theorem Spindle.flag_congr {x y : Spindle} (h : y.flags = x.flags) (c : Nat) : y.flag c = x.flag c := by
  rw [Spindle.flag, h, Spindle.flag]

theorem Spindle.flag_lt (x : Spindle) (c : Nat) : x.flag c < 8 := (Sparse.get 0 x.flags c).isLt

theorem Spindle.flag_setFlags (x : Spindle) (f : Nat → Nat) {c : Nat} (hc : c < 1024) (hf : f c < 8) : (x.setFlags f).flag c = f c := by
  rw [Spindle.flag, Spindle.setFlags]
  dsimp only
  rw [Sparse.get_replace, if_pos ⟨Nat.zero_le c, by omega⟩, Nat.sub_zero, BitVec.toNat_ofNat, Nat.mod_eq_of_lt hf]

theorem skeinFlag_lt (x : Num) : skeinFlag x < 8 := by
  unfold skeinFlag
  split <;> decide

theorem foldl_or_skeinFlag_lt (g : Nat → Num) (js : List Nat) (f : Nat) (hf : f < 8) : js.foldl (fun f j => f ||| skeinFlag (g j)) f < 8 := by
  induction js generalizing f with
  | nil => exact hf
  | cons j js ih => exact ih _ (Nat.or_lt_two_pow (n := 3) hf (skeinFlag_lt _))

-- The products added.

section
variable (x : Spindle) (mx : Bool) (sub lane : Nat) {a b : Tile} (ha : a.k = b.k)
include ha

/-- An INT slot takes the exact sum of the products (05 R118, R124). -/
theorem Spindle.addProducts_int : ∃ v, x.addProducts false true mx sub lane a b a.k = x.setLane lane v ∧
    ∀ c < 1024, v c = BitVec.ofInt 40 ((x.lane lane c).toInt + cellSum (a.line (c / 32)) (b.line (c % 32))) := by
  refine ⟨_, rfl, fun c hc => ?_⟩
  dsimp only
  rw [getD_map_range _ (by omega), getD_map_range _ (by omega), List.take_of_length_le (a.length_line _).le, List.take_of_length_le ((b.length_line _).trans ha.symm).le]

/-- A floating slot takes the terms of the tree in order (06 R148). -/
theorem Spindle.addProducts_float : ∃ v, x.addProducts false false mx sub lane a b a.k = x.setLane lane v ∧
    ∀ c < 1024, v c = BitVec.ofNat 40 (addTerms ((x.lane lane c).toNat % 2 ^ 32)
      (cellTerms mx sub (fun k => a.x (c / 32) k + b.x (c % 32) k) (a.line (c / 32)) (b.line (c % 32)))) := by
  refine ⟨_, rfl, fun c hc => ?_⟩
  dsimp only
  rw [getD_map_range _ (by omega), getD_map_range _ (by omega), List.take_of_length_le (a.length_line _).le, List.take_of_length_le ((b.length_line _).trans ha.symm).le]

/-- The product of elements j of row and column of a cell, with its block scales (05 R115). -/
def cellProduct (a b : Tile) (c j : Nat) : Num := ((a.at_ (c / 32) j).mul (b.at_ (c % 32) j)).scale (a.x (c / 32) j + b.x (c % 32) j)

/-- The skeins and flags that a Colourfast MAC.* leaves, and PCOUNT (05 R122, R127). -/
theorem Spindle.addProducts_cf (int : Bool) : ∃ z f, x.addProducts true int mx sub lane a b a.k = { (x.setSkeins z).setFlags f with pcount := x.pcount + 1024 * a.k } ∧
    ∀ c < 1024, z c = x.skein c + ((List.range a.k).map fun j => skeinTerm x.ewin (cellProduct a b c j)).sum ∧
      f c = (List.range a.k).foldl (fun g j => g ||| skeinFlag (cellProduct a b c j)) (x.flag c) := by
  refine ⟨_, _, rfl, fun c hc => ?_⟩
  have hps : List.mapIdx (fun k p => p.scale (a.x (c / 32) k + b.x (c % 32) k)) (List.zipWith (fun p q => Num.mul p q) (a.line (c / 32)) (b.line (c % 32))) =
      (List.range a.k).map (cellProduct a b c) := by
    rw [Tile.zipWith_line _ ha, mapIdx_map_range]
    rfl
  dsimp only
  rw [getD_map_range _ (by omega), getD_map_range _ (by omega), List.take_of_length_le (a.length_line _).le, List.take_of_length_le ((b.length_line _).trans ha.symm).le,
    hps, List.map_map, List.foldl_map]
  exact ⟨rfl, rfl⟩

/-- The skein takes the exact products modulo 2^256 and the flags of special ones, and PCOUNT rises (05 R122, R127). -/
theorem Spindle.addProducts_skein (int : Bool) : (x.addProducts true int mx sub lane a b a.k).pcount = x.pcount + 1024 * a.k ∧
    (x.addProducts true int mx sub lane a b a.k).ewin = x.ewin ∧ ∀ c < 1024,
      (x.addProducts true int mx sub lane a b a.k).skein c =
        signed 256 (wrap 256 (x.skein c + ((List.range a.k).map fun j => skeinTerm x.ewin (cellProduct a b c j)).sum)) ∧
      (x.addProducts true int mx sub lane a b a.k).flag c = (List.range a.k).foldl (fun g j => g ||| skeinFlag (cellProduct a b c j)) (x.flag c) := by
  obtain ⟨z, f, heq, hcells⟩ := x.addProducts_cf mx sub lane ha int
  have hlanes : (x.addProducts true int mx sub lane a b a.k).lanes = (x.setSkeins z).lanes := by
    simp only [heq, Spindle.setFlags]
  have hflags : (x.addProducts true int mx sub lane a b a.k).flags = ((x.setSkeins z).setFlags f).flags := by simp only [heq]
  refine ⟨rfl, rfl, fun c hc => ?_⟩
  obtain ⟨hz, hf⟩ := hcells c hc
  rw [Spindle.skein_congr hlanes, Spindle.flag_congr hflags, x.skein_setSkeins z hc, hz, ← hf]
  refine ⟨rfl, (x.setSkeins z).flag_setFlags f hc ?_⟩
  rw [hf]
  exact foldl_or_skeinFlag_lt _ _ _ (x.flag_lt c)

end

theorem cellSum_line {a b : Tile} (hk : a.k = b.k) (i j : Nat) :
    cellSum (a.line i) (b.line j) = ((List.range a.k).map fun k => ((a.at_ i k).mul (b.at_ j k)).toInt).sum := by
  rw [cellSum, Tile.zipWith_line _ hk]

end Sys2Proof.Machine
end

section
/-!
PROOF. MAC.ACC and MAC.END (O28).
-/
namespace Sys2Proof.Machine

/-- The lane that a MAC.* adds to; in Colourfast it counts as lane 0 (05 R125, R127). -/
def Spindle.macLane (x : Spindle) (r : Run) (w : Nat) : Nat := if r.header.mode = 1 then 0 else x.fillLane (wAcc w)

/-- A Spindle with the products of a MAC.* added. -/
def Spindle.added (x : Spindle) (r : Run) (w sub lane : Nat) (a b : Tile) : Spindle :=
  x.addProducts (r.header.mode = 1) (x.isInt (wAcc w)) (isMx (macFa w) || isMx (macFb w)) sub lane a b (macK w)

/-- The products of a MAC.* enter the tree and are added on its Spindle (05 R118, R126). -/
def State.added (s : State) (d : Nat) (r : Run) (k w u : Nat) (a b : Tile) : State :=
  let x := s.spindle u
  let s := (s.clearMark r u (x.macLane r w)).enterTree { distaff := d, word := k, bits := w, spindle := u, lane := x.macLane r w, before := x }
  s.modSpindle u fun y => y.added r w (s.subWidth u (gwWidth (wGw w))) (x.macLane r w) a b

theorem State.added_within (s : State) (d : Nat) (r : Run) (k w u : Nat) (a b : Tile) : s.Within (s.added d r k w u a b) [u] :=
  (s.within_clearMark r u _).trans ((State.within_enterTree ..).trans (State.within_modSpindle ..))

/-- A change of the fields-valid mark alone does not bear on the products. -/
theorem Spindle.added_mark (x : Spindle) (r : Run) (w sub lane : Nat) (a b : Tile) (m : Option Nat) :
    ({ x with mark := m } : Spindle).added r w sub lane a b = { x.added r w sub lane a b with mark := m } := by
  unfold Spindle.added Spindle.addProducts
  dsimp only
  split
  · rfl
  · have hint : ({ x with mark := m } : Spindle).isInt (wAcc w) = x.isInt (wAcc w) := rfl
    rw [hint]
    split <;> rfl

theorem State.spindle_added (s : State) (d : Nat) (r : Run) (k w : Nat) {u : Nat} (hu : u < 128) (a b : Tile) : ∃ m, (s.added d r k w u a b).spindle u =
    { (s.spindle u).added r w (s.subWidth u (gwWidth (wGw w))) ((s.spindle u).macLane r w) a b with mark := m } := by
  obtain ⟨m, hm⟩ := s.spindle_clearMark r u ((s.spindle u).macLane r w) u
  have hsub : ((s.clearMark r u ((s.spindle u).macLane r w)).enterTree
      { distaff := d, word := k, bits := w, spindle := u, lane := (s.spindle u).macLane r w, before := s.spindle u }).subWidth u (gwWidth (wGw w)) =
      s.subWidth u (gwWidth (wGw w)) := by
    simp only [State.subWidth, State.enterTree]
    rw [State.units_clearMark]
  refine ⟨m, ?_⟩
  rw [State.added, State.spindle_modSpindle_self _ _ hu, hsub, ← Spindle.added_mark]
  exact congrArg (fun y : Spindle => y.added r w _ _ a b) hm

/-- A Colourfast MAC.* on a Spindle passes the exponent window and the limit of PCOUNT (05 R128). -/
def State.macWindow (s : State) (r : Run) (w u : Nat) : Bool :=
  windowOk (s.spindle u).ewin ((s.hostParts r u (wAcc w)).map fun p => (s.spindle p).pcount).sum (s.macTileA u w) (s.macTileB u w)

/-- The products of a MAC.* are added on its own Spindle: it shares no host with an earlier part of an Open floating split (06 R161). -/
def State.macOwn (s : State) (r : Run) (w u : Nat) : Prop := r.header.mode = 1 ∨ (s.spindle u).isInt (wAcc w) = true ∨ r.split u (wAcc w) = none

theorem State.readBook {s : State} {u w : Nat} (h : s.MacReads u w) : ∃ m, s.mem.Alike m ∧
    (if macFb w = 1 ∧ macCbk w ≠ 0 then s.readLs 3 (lsKey false u (64 * macCb w)) 16 else ⟨[], s, none⟩ : Got) = ⟨s.macBook u w, { s with mem := m }, none⟩ := by
  unfold State.macBook
  by_cases hb : macFb w = 1 ∧ macCbk w ≠ 0
  · have hc : (s.mem.check 3 (lsKey false u (64 * macCb w)) 16).2 = none := h.book hb
    refine ⟨_, s.mem.check_alike _ _ _ hc, ?_⟩
    rw [if_pos hb, if_pos hb, State.readLs, hc]
    exact congrArg (fun b => (⟨b, _, none⟩ : Got)) (State.bytes_of_cells ((s.mem.check_alike _ _ _ hc).cells 3) _ 16)
  · exact ⟨s.mem, .refl _, by rw [if_neg hb, if_neg hb]⟩

/-- What a MAC.* does on a Spindle once its tiles are read. -/
def macOn (d : Nat) (r : Run) (k w : Nat) (end_ : Bool) (u : Nat) (s : State) (a b : Tile) : Done :=
  let x := s.spindle u
  if r.header.mode = 1 && !windowOk x.ewin ((s.hostParts r u (wAcc w)).map fun p => (s.spindle p).pcount).sum a b then s.windowFault
  else
    let s := (s.clearMark r u (x.macLane r w)).enterTree { distaff := d, word := k, bits := w, spindle := u, lane := x.macLane r w, before := x }
    let sub := s.subWidth u (gwWidth (wGw w))
    let s := if !decide (r.header.mode = 1) && !x.isInt (wAcc w) && s.follower r u (wAcc w) then s.logTerms d (wAcc w) u (isMx (macFa w) || isMx (macFb w)) sub a b
      else s.modSpindle u fun y => y.added r w sub (x.macLane r w) a b
    (if end_ then s.swapPair u else s, none)

theorem macOn_of_own (d : Nat) {r : Run} (k : Nat) {w : Nat} (end_ : Bool) {u : Nat} {s : State} (hown : s.macOwn r w u) (a b : Tile) :
    macOn d r k w end_ u s a b =
      if r.header.mode = 1 && !windowOk (s.spindle u).ewin ((s.hostParts r u (wAcc w)).map fun p => (s.spindle p).pcount).sum a b then s.windowFault
      else (if end_ then (s.added d r k w u a b).swapPair u else s.added d r k w u a b, none) := by
  have hfollow : ∀ v : State, (!decide (r.header.mode = 1) && !(s.spindle u).isInt (wAcc w) && v.follower r u (wAcc w)) = false := fun v => by
    rcases hown with h | h | h
    · simp [h]
    · simp [h]
    · simp [State.follower, h]
  simp only [macOn, hfollow, Bool.false_eq_true, if_false]
  rfl

/-- A MAC.* reads its codebook and its tiles, each in the state the read before left. -/
theorem macUnit_eq (d : Nat) (r : Run) (k w : Nat) (end_ : Bool) (u : Nat) (s : State) : macUnit d r k w end_ u s =
    let c := if macFb w = 1 ∧ macCbk w ≠ 0 then s.readLs 3 (lsKey false u (64 * macCb w)) 16 else ⟨[], s, none⟩
    let ta := c.st.tile u (macA w) (macFa w) (macK w) (gwWidth (wGw w)) 0 []
    let tb := ta.1.st.tile u (macB w) (macFb w) (macK w) (gwWidth (wGw w)) (macCbk w) c.bytes
    match firstFail c.fail (firstFail ta.1.fail tb.1.fail) with
    | some f => (tb.1.st.spoilLanes u (if r.header.mode = 1 then List.range 8 else [(tb.1.st.spindle u).macLane r w]), some f)
    | none => macOn d r k w end_ u tb.1.st ta.2 tb.2 := rfl

theorem macUnit_of_readable {s : State} {u w : Nat} (h : s.MacReads u w) (d : Nat) {r : Run} (k : Nat) (end_ : Bool) (hown : s.macOwn r w u) :
    ∃ m, s.mem.Alike m ∧ macUnit d r k w end_ u s =
      if r.header.mode = 1 && !s.macWindow r w u then ({ s with mem := m } : State).windowFault
      else
        let t := ({ s with mem := m } : State).added d r k w u (s.macTileA u w) (s.macTileB u w)
        (if end_ then t.swapPair u else t, none) := by
  obtain ⟨m1, hm1, hbook⟩ := State.readBook h
  obtain ⟨hfa, hta, m2, hm2, hsta⟩ := State.tile_repeats (t := { s with mem := m1 }) hm1 0 [] h.a
  obtain ⟨hfb, htb, m3, hm3, hstb⟩ := State.tile_repeats (t := { s with mem := m2 }) (hm1.trans hm2) (macCbk w) (s.macBook u w) h.b
  refine ⟨m3, (hm1.trans hm2).trans hm3, ?_⟩
  rw [macUnit_eq]
  dsimp only
  rw [hbook]
  dsimp only
  rw [hsta, hfa, hfb, hta, htb, hstb]
  exact macOn_of_own d k end_ (s := { s with mem := m3 }) hown _ _

/-- An Open slot takes its products: the exact sum on the integer path, the terms of the tree in order on the floating one (05 R118, R124; 06 R148). -/
theorem Spindle.added_slot (x : Spindle) {r : Run} (hm : r.header.mode ≠ 1) {w : Nat} (sub lane : Nat) {a b : Tile} (ha : a.k = macK w) (hb : b.k = macK w) :
    ∃ v, x.added r w sub lane a b = x.setLane lane v ∧ ∀ c < 1024, v c = if x.isInt (wAcc w) = true
      then BitVec.ofInt 40 ((x.lane lane c).toInt + ((List.range (macK w)).map fun j => ((a.at_ (c / 32) j).mul (b.at_ (c % 32) j)).toInt).sum)
      else BitVec.ofNat 40 (addTerms ((x.lane lane c).toNat % 2 ^ 32)
        (cellTerms (isMx (macFa w) || isMx (macFb w)) sub (fun j => a.x (c / 32) j + b.x (c % 32) j) (a.line (c / 32)) (b.line (c % 32)))) := by
  have hk : a.k = b.k := ha.trans hb.symm
  unfold Spindle.added
  simp only [hm, decide_false, ← ha]
  cases x.isInt (wAcc w) with
  | true =>
    obtain ⟨v, hv, hcells⟩ := x.addProducts_int (isMx (macFa w) || isMx (macFb w)) sub lane hk
    exact ⟨v, hv, fun c hc => by rw [hcells c hc, cellSum_line hk, if_pos rfl]⟩
  | false =>
    obtain ⟨v, hv, hcells⟩ := x.addProducts_float (isMx (macFa w) || isMx (macFb w)) sub lane hk
    exact ⟨v, hv, fun c hc => by rw [hcells c hc, if_neg Bool.false_ne_true]⟩

theorem Spindle.added_pair (x : Spindle) {r : Run} (hm : r.header.mode ≠ 1) (w sub lane : Nat) (a b : Tile) : (x.added r w sub lane a b).pair = x.pair := by
  unfold Spindle.added Spindle.addProducts
  simp only [hm, decide_false, Bool.false_eq_true, if_false]
  split <;> rfl

-- The words.

theorem effMac_of_free {d : Nat} {end_ : Bool} {r : Run} {k w : Nat} {s : State} (hall : wAll w = false)
    (hfill : s.laneBusy (wUnit w) ((s.spindle (wUnit w)).fillLane (wAcc w)) = false) (hdrain : end_ = true → s.laneBusy (wUnit w) ((s.spindle (wUnit w)).drainLane 0) = false) :
    effMac d end_ r k w s = .done (macUnit d r k w end_ (wUnit w) s).1 (macUnit d r k w end_ (wUnit w) s).2 := by
  have hus : spindlesOf (if end_ then Op.macEnd else Op.macAcc) w = [wUnit w] := spindlesOf_one (by cases end_ <;> rfl) (by cases end_ <;> nofun) hall
  unfold effMac
  simp only [hus, List.any_cons, List.any_nil, Bool.or_false, hfill, Bool.false_or, eachUnit_singleton]
  refine if_neg ?_
  rw [Bool.and_eq_true]
  exact fun h => Bool.false_ne_true ((hdrain h.1).symm.trans h.2)

theorem State.Handed.macReads {s s0 : State} {d k : Nat} {r : Run} (hs : s.Handed s0 d r k) {u w : Nat} (h : s.MacReads u w) : s0.MacReads u w := by
  have hread : ∀ a n, s.lsReadable false u a n → s0.lsReadable false u a n := fun a n g => by rw [State.lsReadable, hs.mem]; exact g
  exact ⟨fun hb => hread _ _ (h.book hb), hread _ _ h.a, hread _ _ h.b⟩

/-- What a MAC.* finds on its Spindle is what stands there when it is handed over. -/
theorem State.Handed.mac {s s0 : State} {d k : Nat} {r : Run} (hs : s.Handed s0 d r k) (w u : Nat) : s0.macTileA u w = s.macTileA u w ∧ s0.macTileB u w = s.macTileB u w ∧
    s0.macWindow r w u = s.macWindow r w u ∧ (s0.macOwn r w u ↔ s.macOwn r w u) ∧ ∀ n, s0.subWidth u n = s.subWidth u n := by
  rw [hs.frame]
  exact ⟨rfl, rfl, rfl, Iff.rfl, fun _ => rfl⟩

theorem State.Handed.macBusy {s s0 : State} {d k : Nat} {r : Run} (hs : s.Handed s0 d r k) (w : Nat) :
    s0.laneBusy (wUnit w) ((s0.spindle (wUnit w)).fillLane (wAcc w)) = s.laneBusy (wUnit w) ((s.spindle (wUnit w)).fillLane (wAcc w)) ∧
      s0.laneBusy (wUnit w) ((s0.spindle (wUnit w)).drainLane 0) = s.laneBusy (wUnit w) ((s.spindle (wUnit w)).drainLane 0) := by
  rw [hs.laneBusy, hs.laneBusy, hs.spindle]
  exact ⟨rfl, rfl⟩

section
variable {s s0 : State} {d : Fin 8} {r : Run} {k w : Nat}

/-- MAC.ACC of one Spindle whose tiles are read and fit: the products are added there, and the word has run. -/
theorem State.macAcc_adds (h : s.atUnits d .macAcc = some (s0, r, k, w)) (hall : wAll w = false)
    (hfree : s.laneBusy (wUnit w) ((s.spindle (wUnit w)).fillLane (wAcc w)) = false) (hreads : s.MacReads (wUnit w) w) (hown : s.macOwn r w (wUnit w))
    (hfit : r.header.mode = 1 → s.macWindow r w (wUnit w) = true) :
    ∃ t m, s.Worked t (s.word d .macAcc (effMac d false)) d k none [wUnit w] ∧ t.dict = s.dict ∧ (s.word d .macAcc (effMac d false)).spindle (wUnit w) =
      { (s.spindle (wUnit w)).added r w (s.subWidth (wUnit w) (gwWidth (wGw w))) ((s.spindle (wUnit w)).macLane r w)
          (s.macTileA (wUnit w) w) (s.macTileB (wUnit w) w) with mark := m } := by
  have hs := State.handed_of_atUnits h
  obtain ⟨ha, hb, hwin, hown0, hsub⟩ := hs.mac w (wUnit w)
  obtain ⟨m, halike, hunit⟩ := macUnit_of_readable (hs.macReads hreads) d (r := r) k false (hown0.2 hown)
  have heff := effMac_of_free (d := d) (end_ := false) (r := r) (k := k) (s := s0) hall ((hs.macBusy w).1.trans hfree) nofun
  rw [hunit, hwin, if_neg (by simpa using hfit), ha, hb] at heff
  simp only [Bool.false_eq_true, if_false] at heff
  have hw := State.added_within { s0 with mem := m } d r k w (wUnit w) (s.macTileA (wUnit w) w) (s.macTileB (wUnit w) w)
  obtain ⟨n, hn⟩ := State.spindle_added { s0 with mem := m } d r k w (wUnit_lt w) (s.macTileA (wUnit w) w) (s.macTileB (wUnit w) w)
  have hworked := State.Within.worked halike hw rfl h heff
  refine ⟨_, n, hworked, by rw [hw.dict, hs.frame], (hworked.spindle _).trans (hn.trans ?_)⟩
  rw [← hsub, ← hs.spindle]
  rfl

/-- MAC.ACC of one Spindle that does not fit the window ends its hank with WINDOW_FAULT and changes no unit (05 R128). -/
theorem State.macAcc_faults (h : s.atUnits d .macAcc = some (s0, r, k, w)) (hall : wAll w = false)
    (hfree : s.laneBusy (wUnit w) ((s.spindle (wUnit w)).fillLane (wAcc w)) = false) (hreads : s.MacReads (wUnit w) w) (hm : r.header.mode = 1)
    (hfit : s.macWindow r w (wUnit w) = false) :
    ∃ t, s.Worked t (s.word d .macAcc (effMac d false)) d k (some (Failure.plain stWindow)) [wUnit w] ∧ t.units = s.units ∧
      t.dict = { s.dict with windowFaults := sat32 s.dict.windowFaults } := by
  have hs := State.handed_of_atUnits h
  obtain ⟨-, -, hwin, hown0, -⟩ := hs.mac w (wUnit w)
  obtain ⟨m, halike, hunit⟩ := macUnit_of_readable (hs.macReads hreads) d (r := r) k false (hown0.2 (.inl hm))
  have heff := effMac_of_free (d := d) (end_ := false) (r := r) (k := k) (s := s0) hall ((hs.macBusy w).1.trans hfree) nofun
  rw [hunit, hwin, if_pos (by simp [hm, hfit])] at heff
  refine ⟨_, State.Within.worked halike (.refl _ _) rfl h heff, hs.units, ?_⟩
  rw [hs.frame]
  rfl

end

/-- A Spindle after the swap of MAC.END: the lane `old` is cleared and fills (05 R125). -/
def Spindle.swapped (x : Spindle) (old : Nat) : Spindle :=
  { (x.setLane old fun _ => 0) with pair := x.pair.map fun p => (!p.1, false), overflow := vset x.overflow old false }

theorem State.swapPair_eq {s : State} {u : Nat} {side drained : Bool} (hp : (s.spindle u).pair = some (side, drained)) :
    s.swapPair u = { (s.leaveTree u [(s.spindle u).drainLane 0]).modSpindle u fun x => x.swapped ((s.spindle u).drainLane 0) with
      dict := if drained then s.dict else { s.dict with pairDiscards := sat32 s.dict.pairDiscards } } := by
  unfold State.swapPair
  simp only [hp, Option.map_some]
  cases drained <;> rfl

/-- MAC.END on an Open pair: the products are added to the fill side, then the sides swap (05 R125, R126). -/
theorem State.macEnd_swaps {s s0 : State} {d : Fin 8} {r : Run} {k w : Nat} {side drained : Bool} (h : s.atUnits d .macEnd = some (s0, r, k, w)) (hall : wAll w = false)
    (hm : r.header.mode ≠ 1) (hp : (s.spindle (wUnit w)).pair = some (side, drained))
    (hfree : s.laneBusy (wUnit w) ((s.spindle (wUnit w)).fillLane (wAcc w)) = false ∧ s.laneBusy (wUnit w) ((s.spindle (wUnit w)).drainLane 0) = false)
    (hreads : s.MacReads (wUnit w) w) (hown : s.macOwn r w (wUnit w)) :
    ∃ t m, s.Worked t (s.word d .macEnd (effMac d true)) d k none [wUnit w] ∧
      t.dict = (if drained then s.dict else { s.dict with pairDiscards := sat32 s.dict.pairDiscards }) ∧ (s.word d .macEnd (effMac d true)).spindle (wUnit w) =
      ({ (s.spindle (wUnit w)).added r w (s.subWidth (wUnit w) (gwWidth (wGw w))) ((s.spindle (wUnit w)).macLane r w)
          (s.macTileA (wUnit w) w) (s.macTileB (wUnit w) w) with mark := m } : Spindle).swapped ((s.spindle (wUnit w)).drainLane 0) := by
  have hs := State.handed_of_atUnits h
  obtain ⟨ha, hb, -, hown0, hsub⟩ := hs.mac w (wUnit w)
  obtain ⟨m, halike, hunit⟩ := macUnit_of_readable (hs.macReads hreads) d (r := r) k true (hown0.2 hown)
  have heff := effMac_of_free (d := d) (end_ := true) (r := r) (k := k) (s := s0) hall ((hs.macBusy w).1.trans hfree.1) fun _ => (hs.macBusy w).2.trans hfree.2
  rw [hunit, if_neg (by simp [hm]), ha, hb] at heff
  simp only [if_true] at heff
  have hw := State.added_within { s0 with mem := m } d r k w (wUnit w) (s.macTileA (wUnit w) w) (s.macTileB (wUnit w) w)
  obtain ⟨n, hn⟩ := State.spindle_added { s0 with mem := m } d r k w (wUnit_lt w) (s.macTileA (wUnit w) w) (s.macTileB (wUnit w) w)
  have hx : ({ s0 with mem := m } : State).spindle (wUnit w) = s.spindle (wUnit w) := hs.spindle _
  have hwidth : ({ s0 with mem := m } : State).subWidth (wUnit w) (gwWidth (wGw w)) = s.subWidth (wUnit w) (gwWidth (wGw w)) := hsub _
  rw [hx, hwidth] at hn
  generalize ({ s0 with mem := m } : State).added d r k w (wUnit w) (s.macTileA (wUnit w) w) (s.macTileB (wUnit w) w) = v at heff hw hn
  have hpair : (v.spindle (wUnit w)).pair = some (side, drained) := by
    rw [hn, ← hp]
    exact Spindle.added_pair _ hm ..
  have hold : (v.spindle (wUnit w)).drainLane 0 = (s.spindle (wUnit w)).drainLane 0 := by
    simp only [Spindle.drainLane, hpair, hp]
  rw [State.swapPair_eq hpair, hold] at heff
  have hswap := hw.trans ((State.within_leaveTree v (wUnit w) [(s.spindle (wUnit w)).drainLane 0] _).trans
    (State.within_modSpindle _ (wUnit w) fun x => x.swapped ((s.spindle (wUnit w)).drainLane 0)))
  have hworked := State.Within.worked halike hswap rfl h heff
  have hdict : v.dict = s.dict := by rw [hw.dict, hs.frame]
  refine ⟨_, n, hworked, by rw [hdict], (hworked.spindle _).trans ?_⟩
  rw [← hn]
  exact State.spindle_modSpindle_self (v.leaveTree (wUnit w) [(s.spindle (wUnit w)).drainLane 0]) _ (wUnit_lt w)

-- What a Spindle holds does not turn on its mark.

theorem Spindle.lane_mark (x : Spindle) (m : Option Nat) (l c : Nat) : ({ x with mark := m } : Spindle).lane l c = x.lane l c := rfl
theorem Spindle.skein_mark (x : Spindle) (m : Option Nat) (c : Nat) : ({ x with mark := m } : Spindle).skein c = x.skein c := rfl
theorem Spindle.flag_mark (x : Spindle) (m : Option Nat) (c : Nat) : ({ x with mark := m } : Spindle).flag c = x.flag c := rfl

theorem Spindle.lane_swapped (x : Spindle) (old l c : Nat) : (x.swapped old).lane l c = (x.setLane old fun _ => 0).lane l c := rfl
theorem Spindle.pair_swapped (x : Spindle) (old : Nat) : (x.swapped old).pair = x.pair.map fun p => (!p.1, false) := rfl

/-- Without a codebook the tile of B reads as its plain format (05 R113). -/
theorem State.macTileB_plain (s : State) (u : Nat) {w : Nat} (h : macCbk w = 0) :
    s.macTileB u w = (s.tile u (macB w) (macFb w) (macK w) (gwWidth (wGw w)) 0 []).2 := by
  have hbook : s.macBook u w = [] := if_neg fun g => g.2 h
  rw [State.macTileB, hbook, h]

theorem State.hostParts_of_no_split (s : State) {r : Run} {u k : Nat} (h : r.split u k = none) : s.hostParts r u k = [u] := by
  simp only [State.hostParts, h]

/-- Settles O28: a MAC.* adds its products on its Spindle, and there the slot, the skein or the pair is read off. -/
theorem macAddsProductsAndSwapsThePair : Obligations.MacAddsProductsAndSwapsThePair := by
  refine ⟨fun s s0 d r k w h hall hm => ?_, fun s s0 d r k w h hall hsplit => ?_, fun s s0 d r k w side drained h hall hm => ?_⟩
  · intro u x lane n a b hint hlane hfree hcbk hA hB
    have hm1 : r.header.mode ≠ 1 := by omega
    obtain ⟨t, m, hw, hdict, hspindle⟩ := State.macAcc_adds h hall hfree ⟨fun g => absurd hcbk g.2, hA, hB⟩ (.inr (.inl hint)) fun g => absurd g hm1
    have hmac : x.macLane r w = lane := if_neg hm1
    obtain ⟨v, hv, hcells⟩ := x.added_slot hm1 (w := w) (s.subWidth u (gwWidth (wGw w))) lane (a := a) (b := b) rfl rfl
    rw [hmac, s.macTileB_plain u hcbk] at hspindle
    have hlanes : ∀ l c, ((s.word d .macAcc (effMac d false)).spindle u).lane l c = (x.setLane lane v).lane l c := fun l c => by
      rw [hspindle, Spindle.lane_mark, ← hv]
      rfl
    refine ⟨_, rfl, hw.ran, hw.frame_of_dict hdict, fun c hc => ?_, fun l _ hne c => ?_, fun z _ hz => hw.others z (by simpa using hz), hw.byteAt⟩
    · rw [hlanes, Spindle.lane_setLane_self _ _ hlane hc, hcells c hc, if_pos hint]
    · rw [hlanes, Spindle.lane_setLane_of_ne _ _ _ hne]
  · intro u x cf lane gw n coded cb a b xs product hfree hbook hA hB
    have hreads : s.MacReads u w := ⟨hbook, hA, hB⟩
    have hwindow : s.macWindow r w u = windowOk x.ewin x.pcount a b := by
      rw [State.macWindow, s.hostParts_of_no_split hsplit, List.map_singleton, List.sum_singleton]
      rfl
    by_cases hbad : cf ∧ windowOk x.ewin x.pcount a b = false
    · obtain ⟨hcf, hbad⟩ := hbad
      obtain ⟨t, hw, hunits, hdict⟩ := State.macAcc_faults h hall hfree hreads hcf (hwindow.trans hbad)
      refine ⟨_, _, rfl, hw.ran, hw.frame, hw.byteAt, fun z _ hz => hw.others z (by simpa using hz), fun hn => absurd hcf hn,
        fun _ hgood => absurd (hbad.symm.trans hgood) Bool.false_ne_true, fun _ _ => ⟨rfl, hw.units.trans hunits, hw.dict.trans hdict⟩⟩
    · have hgood : cf → windowOk x.ewin x.pcount a b = true := fun hcf => by simpa using fun g => hbad ⟨hcf, g⟩
      obtain ⟨t, m, hw, hdict, hspindle⟩ := State.macAcc_adds h hall hfree hreads (.inr (.inr hsplit)) fun hcf => hwindow.trans (hgood hcf)
      refine ⟨_, none, rfl, hw.ran, hw.frame, hw.byteAt, fun z _ hz => hw.others z (by simpa using hz), fun hn hint hlane => ⟨rfl, hw.dict.trans hdict, ?_⟩,
        fun hcf _ => ⟨rfl, hw.dict.trans hdict, ?_⟩, fun hcf g => absurd (g.symm.trans (hgood hcf)) Bool.false_ne_true⟩
      · have hmac : x.macLane r w = lane := if_neg hn
        obtain ⟨v, hv, hcells⟩ := x.added_slot hn (w := w) (s.subWidth u gw) lane (a := a) (b := b) rfl rfl
        rw [hmac] at hspindle
        have hlanes : ∀ l c, ((s.word d .macAcc (effMac d false)).spindle u).lane l c = (x.setLane lane v).lane l c := fun l c => by
          rw [hspindle, Spindle.lane_mark, ← hv]
          rfl
        refine ⟨fun c hc => ?_, fun l _ hne c => ?_⟩
        · rw [hlanes, Spindle.lane_setLane_self _ _ hlane hc, hcells c hc, if_neg (by simp [hint])]
        · rw [hlanes, Spindle.lane_setLane_of_ne _ _ _ hne]
      · obtain ⟨hpcount, hewin, hcells⟩ := x.addProducts_skein (isMx (macFa w) || isMx (macFb w)) (s.subWidth u gw) (x.macLane r w) (a := a) (b := b) rfl (x.isInt (wAcc w))
        have hadded : x.added r w (s.subWidth u gw) (x.macLane r w) a b =
            x.addProducts true (x.isInt (wAcc w)) (isMx (macFa w) || isMx (macFb w)) (s.subWidth u gw) (x.macLane r w) a b a.k := by
          rw [Spindle.added, decide_eq_true hcf]
          rfl
        rw [← hadded] at hpcount hewin hcells
        refine ⟨?_, ?_, fun c hc => ?_⟩ <;> rw [hspindle]
        · exact hpcount
        · exact hewin
        · rw [Spindle.skein_mark, Spindle.flag_mark]
          exact hcells c hc
  · intro u x fill n a b hacc hpair hint hfree0 hfree1 hcbk hA hB
    have hm1 : r.header.mode ≠ 1 := by omega
    have hfill : x.fillLane (wAcc w) = fill := by simp only [Spindle.fillLane, hpair, hacc]; rfl
    have hdrain : x.drainLane 0 = 1 - fill := by
      simp only [Spindle.drainLane, hpair, fill]
      cases side <;> rfl
    have hside : (fill = 0 ∧ 1 - fill = 1) ∨ (fill = 1 ∧ 1 - fill = 0) := by cases side <;> simp [fill]
    have hbusy : s.laneBusy u (x.fillLane (wAcc w)) = false ∧ s.laneBusy u (x.drainLane 0) = false := by
      rw [hfill, hdrain]
      rcases hside with ⟨h0, h1⟩ | ⟨h0, h1⟩ <;> rw [h0] <;> simp [hfree0, hfree1]
    obtain ⟨t, m, hw, hdict, hspindle⟩ := State.macEnd_swaps h hall hm1 hpair hbusy ⟨fun g => absurd hcbk g.2, hA, hB⟩ (.inr (.inl (by rw [hacc]; exact hint)))
    have hmac : x.macLane r w = fill := (if_neg hm1).trans hfill
    obtain ⟨v, hv, hcells⟩ := x.added_slot hm1 (w := w) (s.subWidth u (gwWidth (wGw w))) fill (a := a) (b := b) rfl rfl
    have hp := x.added_pair hm1 w (s.subWidth u (gwWidth (wGw w))) fill a b
    rw [hmac, s.macTileB_plain u hcbk, hdrain] at hspindle
    refine ⟨_, rfl, hw.ran, hw.frame, ?_, fun c hc => ?_, fun c hc => ?_, hw.dict.trans hdict, fun z _ hz => hw.others z (by simpa using hz), hw.byteAt⟩ <;> rw [hspindle]
    · rw [Spindle.pair_swapped]
      exact (congrArg (Option.map _) (hp.trans hpair)).trans rfl
    · rw [Spindle.lane_swapped, Spindle.lane_setLane_self _ _ (by omega) hc]
    · rw [Spindle.lane_swapped, Spindle.lane_setLane_of_ne _ _ _ (by omega), Spindle.lane_mark]
      refine (congrArg (fun y : Spindle => y.lane fill c) hv).trans ?_
      rw [Spindle.lane_setLane_self _ _ (by omega) hc, hcells c hc, if_pos (by rw [hacc]; exact hint)]

end Sys2Proof.Machine
end

section
/-!
SUPPORT. Writes of small elements to the Bobbins' stores: what they leave to read, that they spare the soundness of other ranges, and what VEC.* computes.
-/
namespace Sys2Proof.Machine

-- Marks of the memory under a write.

/-- A word met by a partial write may turn into poison; no other mark appears (08 R214). -/
theorem Memory.meet_marks (m : Memory) (sp w : Nat) : (∀ c ∈ (m.meet sp w).upsets, c ∈ m.upsets) ∧ ∀ c ∈ (m.meet sp w).poison, c ∈ m.poison ∨ c = (sp, w) := by
  unfold Memory.meet
  split
  · exact ⟨fun _ h => h, fun _ h => .inl h⟩
  · dsimp only
    split
    · split
      all_goals
        refine ⟨fun c h => (List.mem_filter.1 h).1, fun c h => ?_⟩
        dsimp only at h
        split at h
        · exact .inl h
        · simpa using h
    · split <;> exact ⟨fun c h => (List.mem_filter.1 h).1, fun _ h => .inl h⟩

theorem Memory.meets_marks (sp : Nat) (ws : List Nat) (m : Memory) : (∀ c ∈ (ws.foldl (fun m w => m.meet sp w) m).upsets, c ∈ m.upsets) ∧
    ∀ c ∈ (ws.foldl (fun m w => m.meet sp w) m).poison, c ∈ m.poison ∨ ∃ w ∈ ws, c = (sp, w) := by
  induction ws generalizing m with
  | nil => exact ⟨fun _ h => h, fun _ h => .inl h⟩
  | cons w ws ih =>
    obtain ⟨hu, hp⟩ := m.meet_marks sp w
    obtain ⟨hus, hps⟩ := ih (m.meet sp w)
    refine ⟨fun c h => hu c (hus c h), fun c h => ?_⟩
    rcases hps c h with h | ⟨v, hv, rfl⟩
    · exact (hp c h).imp id fun h => ⟨w, List.mem_cons_self, h⟩
    · exact .inr ⟨v, List.mem_cons_of_mem _ hv, rfl⟩

theorem mem_partialWords {sp base len w : Nat} (h : w ∈ partialWords sp base len) : w = base / 8 ∨ w = (base + len - 1) / 8 := by
  unfold partialWords at h
  split at h
  · cases h
  · simpa using (List.mem_filter.1 h).1

/-- A write to words that a range does not meet leaves the range sound. -/
theorem Memory.SoundIn.write {m : Memory} {a n : Nat} (h : m.SoundIn 4 a n) {base len : Nat} (hw : ∀ w, w = base / 8 ∨ w = (base + len - 1) / 8 → a / 8 ≤ w → a + n ≤ w * 8)
    (f : Nat → Byte) : (m.write 4 base len f).SoundIn 4 a n := by
  obtain ⟨hu, hp⟩ := Memory.meets_marks 4 (partialWords 4 base len) m
  refine ⟨fun c hc => h.upsets c (hu c (List.mem_filter.1 hc).1), fun c hc hsp hlo => ?_⟩
  rcases hp c (List.mem_filter.1 hc).1 with hc | ⟨w, hmem, rfl⟩
  · exact h.poison c hc hsp hlo
  · exact hw w (mem_partialWords hmem) hlo

-- A list of writes.

/-- Elements of `m` bytes written to the Bobbins' stores, each an address, a value and whether it sets INT_OVERFLOW: what they leave of a state. -/
structure State.Writes (s t : State) (d m : Nat) (ws : List (Nat × Nat × Bool)) : Prop where
  frame : t = { s with mem := t.mem, distaffs := t.distaffs }
  written : ∀ x ∈ ws, t.bytes 4 x.1 m = le m x.2.1
  others : ∀ p a, (p ≠ 4 ∨ ∀ x ∈ ws, a < x.1 ∨ x.1 + m ≤ a) → p ≤ 5 → t.byteAt p a = s.byteAt p a
  run : ∀ r, s.run d = some r → ∃ q, t.run d = some q ∧ q.issued = r.issued ∧ (q.intOverflow = true ↔ r.intOverflow = true ∨ ∃ x ∈ ws, x.2.2 = true)
  sound : ∀ a n, (∀ x ∈ ws, (x.1 + m + 7) / 8 * 8 ≤ a / 8 * 8 ∨ a + n ≤ x.1 / 8 * 8) → s.mem.SoundIn 4 a n → t.mem.SoundIn 4 a n

theorem State.writes_alike (s : State) (d m : Nat) {x : Memory} (h : s.mem.Alike x) : s.Writes { s with mem := x } d m [] :=
  ⟨rfl, fun _ hx => absurd hx List.not_mem_nil, fun p a _ _ => congrArg (fun m : Mem => m.byte a) (h.cells p), fun r hr => ⟨r, hr, rfl, by simp⟩, fun _ _ _ hs => h.soundIn hs⟩

theorem State.Writes.bytes {s t : State} {d m : Nat} {ws : List (Nat × Nat × Bool)} (h : s.Writes t d m ws) {a n : Nat} (hd : ∀ x ∈ ws, a + n ≤ x.1 ∨ x.1 + m ≤ a) :
    t.bytes 4 a n = s.bytes 4 a n :=
  List.map_congr_left fun j hj => h.others 4 (a + j) (.inr fun x hx => by
    have := hd x hx
    have := List.mem_range.1 hj
    omega) (by decide)

theorem State.Writes.append {s t u : State} {d m : Nat} {ws xs : List (Nat × Nat × Bool)} (h : s.Writes t d m ws) (g : t.Writes u d m xs)
    (hd : ∀ x ∈ ws, ∀ y ∈ xs, x.1 + m ≤ y.1 ∨ y.1 + m ≤ x.1) : s.Writes u d m (ws ++ xs) := by
  refine ⟨by rw [g.frame, h.frame], fun x hx => ?_, fun p a hp h5 => ?_, fun r hr => ?_, fun a n ha hs => ?_⟩
  · rcases List.mem_append.1 hx with hx | hx
    · rw [g.bytes fun y hy => hd x hx y hy, h.written x hx]
    · exact g.written x hx
  · rw [g.others p a (hp.imp id fun hp x hx => hp x (List.mem_append_right _ hx)) h5, h.others p a (hp.imp id fun hp x hx => hp x (List.mem_append_left _ hx)) h5]
  · obtain ⟨q, hq, hissued, hover⟩ := h.run r hr
    obtain ⟨z, hz, hissued', hover'⟩ := g.run q hq
    refine ⟨z, hz, hissued'.trans hissued, ?_⟩
    rw [hover', hover, or_assoc]
    simp only [List.mem_append, or_and_right, exists_or]
  · exact g.sound a n (fun x hx => ha x (List.mem_append_right _ hx)) (h.sound a n (fun x hx => ha x (List.mem_append_left _ hx)) hs)

/-- One element written; INT_OVERFLOW where it sets it (07 R200). -/
def State.putElement (s : State) (d m : Nat) (x : Nat × Nat × Bool) : State :=
  let t := s.put 4 x.1 (le m x.2.1)
  if x.2.2 then t.setIntOverflow d else t

theorem State.putElement_mem (s : State) (d m : Nat) (x : Nat × Nat × Bool) : (s.putElement d m x).mem = (s.put 4 x.1 (le m x.2.1)).mem := by
  unfold State.putElement
  dsimp only
  split <;> rfl

theorem State.writes_putElement (s : State) (d : Nat) {m : Nat} (hm : 0 < m) (x : Nat × Nat × Bool) : s.Writes (s.putElement d m x) d m [x] := by
  have hmem := s.putElement_mem d m x
  refine ⟨?_, fun y hy => ?_, fun p a hp h5 => ?_, fun r hr => ?_, fun a n ha hs => ?_⟩
  · unfold State.putElement
    dsimp only
    split <;> rfl
  · obtain rfl := List.mem_singleton.1 hy
    have hback := s.bytes_put 4 y.1 (le m y.2.1) (by decide)
    rw [length_le] at hback
    rwa [State.bytes, hmem]
  · have hput := s.byteAt_put 4 x.1 (le m x.2.1) p a (by decide) h5
    rw [length_le] at hput
    rw [State.byteAt, hmem]
    refine hput.trans (if_neg ?_)
    rcases hp with hp | hp
    · exact fun h => hp h.1
    · have := hp x (List.mem_singleton_self x)
      omega
  · have hrun : (s.put 4 x.1 (le m x.2.1)).run d = some r := hr
    unfold State.putElement
    cases hx : x.2.2 with
    | true => exact ⟨_, State.run_modRun_self _ d _ r hrun, rfl, by simp [hx]⟩
    | false => exact ⟨r, hrun, rfl, by simp [hx]⟩
  · have hx := ha x (List.mem_singleton_self x)
    rw [hmem]
    refine hs.write (fun v hv hlo => ?_) _
    rw [length_le] at hv
    omega

-- What VEC.* computes.

/-- The element type of a VEC.* word's results (07 R199). -/
def vecTypeOut (o : Op) (w : Nat) : Nat := if o = .vecCvt then veTypeOut w else veType w

/-- The words that reduce groups of elements (07 R200). -/
abbrev Op.reduces (o : Op) : Prop := o = .vecRsum ∨ o = .vecRmax

/-- The number of a word's results on a Bobbin (07 R199, R200). -/
def vecOuts (o : Op) (w : Nat) : Nat := if o.reduces then veCount w / 2 ^ veRlog w else veCount w

/-- Result i of a VEC.* word on a Bobbin, from the elements that stand there (07 R200). -/
def State.vecResult (s : State) (o : Op) (w u i : Nat) : Nat × Bool :=
  let size := veSize (veType w)
  if o.reduces then (vecReduce o (veType w) (veRlog w) ((List.range (2 ^ veRlog w)).map fun j => s.vecAt u (veA w) size (i * 2 ^ veRlog w + j)), false)
  else vecOp o (veType w) (vecTypeOut o w) (s.vecAt u (veA w) size i) (s.vecAt u (veB w) size (if veBcast w then 0 else i)) (s.vecAt u (veC w) size i)

/-- The elements that result i is made of: the source's address and the element's number (07 R199). -/
def vecReads (o : Op) (w i : Nat) : List (Nat × Nat) :=
  if o.reduces then (List.range (2 ^ veRlog w)).map fun j => (veA w, i * 2 ^ veRlog w + j)
  else [(veA w, i)] ++ (if o.readsB then [(veB w, if veBcast w then 0 else i)] else []) ++ if o = .vecFma then [(veC w, i)] else []

/-- An operation looks at SRC_B and SRC_C only where it reads them. -/
theorem vecOp_congr (o : Op) (t tout a : Nat) {b b' c c' : Nat} (hb : o.readsB = true → b = b') (hc : o = .vecFma → c = c') :
    vecOp o t tout a b c = vecOp o t tout a b' c' := by
  cases hr : o.readsB with
  | true =>
    obtain rfl := hb hr
    by_cases hf : o = .vecFma
    · obtain rfl := hc hf
      rfl
    · cases o
      case vecFma => exact absurd rfl hf
      all_goals rfl
  | false =>
    cases o
    case vecAdd | vecSub | vecMul | vecFma | vecDiv | vecMax | vecMin => cases hr
    all_goals rfl

theorem State.vecResult_congr {s t : State} {o : Op} {w u i : Nat}
    (h : ∀ x ∈ vecReads o w i, t.vecAt u x.1 (veSize (veType w)) x.2 = s.vecAt u x.1 (veSize (veType w)) x.2) : t.vecResult o w u i = s.vecResult o w u i := by
  unfold vecReads at h
  unfold State.vecResult
  dsimp only
  split
  case isTrue hr =>
    rw [if_pos hr] at h
    have hgroup : ((List.range (2 ^ veRlog w)).map fun j => t.vecAt u (veA w) (veSize (veType w)) (i * 2 ^ veRlog w + j)) =
        (List.range (2 ^ veRlog w)).map fun j => s.vecAt u (veA w) (veSize (veType w)) (i * 2 ^ veRlog w + j) :=
      List.map_congr_left fun j hj => h _ (List.mem_map.2 ⟨j, hj, rfl⟩)
    rw [hgroup]
  case isFalse hr =>
    rw [if_neg hr] at h
    rw [h (veA w, i) (by simp)]
    exact vecOp_congr _ _ _ _ (fun hb => h (veB w, if veBcast w then 0 else i) (by simp [hb])) fun hc => h (veC w, i) (by simp [hc])

/-- Element i that a VEC.* word writes on a Bobbin: its address, and the result (07 R199). -/
def State.vecWrite (s : State) (o : Op) (w u i : Nat) : Nat × Nat × Bool :=
  (lsKey true u (64 * veDst w) + veSize (vecTypeOut o w) * i, s.vecResult o w u i)

theorem veSize_pos (t : Nat) : 0 < veSize t := by
  unfold veSize
  split <;> decide

-- One Bobbin.

/-- A VEC.* word that keeps inside its Bobbins' stores, its sources clear of its destination or in place with elements of one size. -/
structure VecPlaced (o : Op) (w : Nat) : Prop where
  written : 64 * veDst w + veSize (vecTypeOut o w) * vecOuts o w ≤ 2 ^ 19
  read : ∀ i < vecOuts o w, ∀ x ∈ vecReads o w i, 64 * x.1 + veSize (veType w) * x.2 + veSize (veType w) ≤ 2 ^ 19
  count : ∀ i < vecOuts o w, ∀ x ∈ vecReads o w i, x.2 < veCount w
  apart : ∀ i < vecOuts o w, ∀ x ∈ vecReads o w i,
    (64 * x.1 + veSize (veType w) * veCount w ≤ 64 * veDst w ∨ 64 * veDst w + veSize (vecTypeOut o w) * vecOuts o w ≤ 64 * x.1) ∨
      x.1 = veDst w ∧ veSize (vecTypeOut o w) = veSize (veType w) ∧ x.2 = i

theorem mul_add_self_le_mul {m i n : Nat} (h : i < n) : m * i + m ≤ m * n := Nat.mul_succ m i ▸ Nat.mul_le_mul_left m h

/-- An element in its turn is not yet overwritten when it is read. -/
theorem VecPlaced.not_overwritten {o : Op} {w : Nat} (h : VecPlaced o w) {i j : Nat} (hi : i < vecOuts o w) (hj : j < i) {x : Nat × Nat} (hx : x ∈ vecReads o w i) (u : Nat) :
    let a := lsKey true u (64 * x.1) + veSize (veType w) * x.2
    let dst := lsKey true u (64 * veDst w) + veSize (vecTypeOut o w) * j
    a + veSize (veType w) ≤ dst ∨ dst + veSize (vecTypeOut o w) ≤ a := by
  have hread := mul_add_self_le_mul (m := veSize (veType w)) (h.count i hi x hx)
  have hwrite := mul_add_self_le_mul (m := veSize (vecTypeOut o w)) (hj.trans hi)
  dsimp only [lsKey]
  rw [if_pos rfl, if_pos rfl]
  rcases h.apart i hi x hx with hclear | ⟨ha, hsize, rfl⟩
  · omega
  · have hbefore := mul_add_self_le_mul (m := veSize (veType w)) hj
    rw [ha, hsize]
    omega

/-- The elements one after another, each read as the store stands: the results are those of the elements that stood there at first (07 R200). -/
theorem State.writes_vecSteps (s : State) (d : Nat) {o : Op} {w : Nat} (h : VecPlaced o w) (u n : Nat) (hn : n ≤ vecOuts o w) :
    s.Writes ((List.range n).foldl (fun t i => t.putElement d (veSize (vecTypeOut o w)) (t.vecWrite o w u i)) s) d (veSize (vecTypeOut o w))
      ((List.range n).map (s.vecWrite o w u)) := by
  induction n with
  | zero => exact s.writes_alike d _ (.refl _)
  | succ n ih =>
    have hbefore := ih (by omega)
    simp only [List.range_succ, List.foldl_append, List.foldl_cons, List.foldl_nil, List.map_append, List.map_cons, List.map_nil]
    generalize (List.range n).foldl _ s = t at hbefore ⊢
    have hresult : t.vecWrite o w u n = s.vecWrite o w u n := by
      rw [State.vecWrite, State.vecWrite, State.vecResult_congr fun x hx => congrArg ofLe (hbefore.bytes ?_)]
      intro y hy
      obtain ⟨j, hj, rfl⟩ := List.mem_map.1 hy
      exact h.not_overwritten (by omega) (List.mem_range.1 hj) hx u
    rw [hresult]
    refine hbefore.append (t.writes_putElement d (veSize_pos _) _) fun x hx y hy => ?_
    obtain ⟨j, hj, rfl⟩ := List.mem_map.1 hx
    obtain rfl := List.mem_singleton.1 hy
    have := mul_add_self_le_mul (m := veSize (vecTypeOut o w)) (List.mem_range.1 hj)
    dsimp only [State.vecWrite]
    omega

/-- Sources that can be read leave nothing but marks of the memory. -/
theorem State.reads_of_readable {s : State} {u : Nat} {xs : List (Nat × Nat)} (h : ∀ x ∈ xs, s.lsReadable true u x.1 x.2) :
    ∃ m, s.mem.Alike m ∧ xs.foldl (fun (a : State × Option Failure) x => let g := a.1.readLs 4 (lsKey true u x.1) x.2; (g.st, firstFail a.2 g.fail)) (s, none) =
      ({ s with mem := m }, none) := by
  induction xs generalizing s with
  | nil => exact ⟨s.mem, .refl _, rfl⟩
  | cons x xs ih =>
    obtain ⟨hx, hxs⟩ := List.forall_mem_cons.1 h
    have hmet := s.mem.check_alike 4 _ _ hx
    obtain ⟨m, hm, hfold⟩ := ih (s := (s.readLs 4 (lsKey true u x.1) x.2).st) fun y hy => hmet.check (hxs y hy)
    refine ⟨m, hmet.trans hm, ?_⟩
    have hfail : (s.readLs 4 (lsKey true u x.1) x.2).fail = none := Option.map_eq_none_iff.2 hx
    rw [List.foldl_cons]
    dsimp only
    rw [hfail]
    exact hfold

/-- Whole groups: each element is in one, and there are as many results (07 R200). -/
theorem vecOuts_of_whole {o : Op} {w : Nat} (hr : o.reduces) (h : veCount w % 2 ^ veRlog w = 0) :
    2 ^ veRlog w * vecOuts o w = veCount w ∧ (veCount w + 2 ^ veRlog w - 1) / 2 ^ veRlog w = vecOuts o w := by
  have hper := Nat.two_pow_pos (veRlog w)
  obtain ⟨n, hn⟩ := Nat.dvd_of_mod_eq_zero h
  have houts : vecOuts o w = n := by rw [vecOuts, if_pos hr, hn, Nat.mul_div_cancel_left n hper]
  rw [houts]
  refine ⟨hn.symm, ?_⟩
  rw [hn, Nat.add_sub_assoc hper, Nat.mul_add_div hper, Nat.div_eq_of_lt (Nat.sub_lt hper Nat.one_pos), Nat.add_zero]

/-- One Bobbin's part of a VEC.* word whose sources can be read and whose groups are whole: the elements one after another (07 R200). -/
theorem vecUnit_of_readable {s : State} {d : Nat} {o : Op} {w u : Nat} (hread : ∀ x ∈ (bobbinRanges o w).dropLast, s.lsReadable true u x.1 x.2)
    (hwhole : o.reduces → veCount w % 2 ^ veRlog w = 0) :
    ∃ m, s.mem.Alike m ∧ vecUnit d o w u s =
      ((List.range (vecOuts o w)).foldl (fun t i => t.putElement d (veSize (vecTypeOut o w)) (t.vecWrite o w u i)) { s with mem := m }, none) := by
  obtain ⟨m, hm, hfold⟩ := State.reads_of_readable hread
  refine ⟨m, hm, ?_⟩
  unfold vecUnit
  dsimp only at hfold ⊢
  rw [hfold]
  by_cases hr : o.reduces
  case pos =>
    have hb : (decide (o = .vecRsum) || decide (o = .vecRmax)) = true := by simpa using hr
    obtain ⟨hgroups, houts⟩ := vecOuts_of_whole hr (hwhole hr)
    simp only [hb, if_true, houts]
    refine Prod.ext (List.foldl_ext _ _ _ fun t i hi => ?_) rfl
    have hfull := mul_add_self_le_mul (m := 2 ^ veRlog w) (List.mem_range.1 hi)
    rw [if_neg (by rw [← hgroups, Nat.mul_comm i]; omega), State.putElement, State.vecWrite, State.vecResult]
    dsimp only
    rw [if_pos hr]
    rfl
  case neg =>
    have hb : (decide (o = .vecRsum) || decide (o = .vecRmax)) = false := by simpa using hr
    have houts : (veCount w + 1 - 1) / 1 = vecOuts o w := by rw [vecOuts, if_neg hr, Nat.div_one, Nat.add_sub_cancel]
    simp only [hb, Bool.false_eq_true, if_false, houts]
    refine Prod.ext (List.foldl_ext _ _ _ fun t i hi => ?_) rfl
    rw [State.putElement, State.vecWrite, State.vecResult]
    dsimp only
    rw [if_neg hr]
    rfl

end Sys2Proof.Machine
end

section
/-!
PROOF. The VEC.* words (O27): one Bobbin after another, and what INT32 operations are as operations on words of 32 bits.
-/
namespace Sys2Proof.Machine

-- The word's operands.

theorem bobbinsOf_vec {o : Op} (hc : o.uclass = 2) (w : Nat) : bobbinsOf o w = if wAll w then List.range 32 else [wUnit w] := by
  have hnot : ¬(decide (o = .coupleLoad) || decide (o = .stateRestore)) = true := by
    simp only [Bool.or_eq_true, decide_eq_true_eq]
    rintro (rfl | rfl) <;> cases hc
  rw [bobbinsOf, if_neg hnot, if_pos (by simp [hc])]

theorem nodup_bobbinsOf_vec {o : Op} (hc : o.uclass = 2) (w : Nat) : (bobbinsOf o w).Nodup := by
  rw [bobbinsOf_vec hc]
  split
  · exact List.nodup_range
  · exact List.nodup_singleton _

theorem forall_mem_bobbinRanges {o : Op} (hc : o.uclass = 2) {w : Nat} (hwhole : o.reduces → veCount w % 2 ^ veRlog w = 0) (h : ∀ x ∈ bobbinRanges o w, x.1 + x.2 ≤ 2 ^ 19) :
    64 * veA w + veCount w * veSize (veType w) ≤ 2 ^ 19 ∧
      (o.readsB = true → 64 * veB w + (if veBcast w then veSize (veType w) else veCount w * veSize (veType w)) ≤ 2 ^ 19) ∧
      (o = .vecFma → 64 * veC w + veCount w * veSize (veType w) ≤ 2 ^ 19) ∧ 64 * veDst w + veSize (vecTypeOut o w) * vecOuts o w ≤ 2 ^ 19 := by
  rw [bobbinRanges, if_pos hc] at h
  dsimp only at h
  have hdst := h (64 * veDst w, _) (List.mem_append_right _ (List.mem_singleton_self _))
  refine ⟨h (64 * veA w, veCount w * veSize (veType w)) (by simp), fun hb => h (64 * veB w, if veBcast w then veSize (veType w) else veCount w * veSize (veType w)) (by simp [hb]),
    fun hf => h (64 * veC w, veCount w * veSize (veType w)) (by simp [hf]), ?_⟩
  by_cases hr : o.reduces
  case pos =>
    have hcvt : o ≠ .vecCvt := by rintro rfl; rcases hr with h | h <;> cases h
    have hb : (decide (o = .vecRsum) || decide (o = .vecRmax)) = true := by simpa using hr
    rw [if_neg hcvt, if_pos hb, (vecOuts_of_whole hr (hwhole hr)).2] at hdst
    rwa [vecTypeOut, if_neg hcvt, Nat.mul_comm (veSize _)]
  case neg =>
    have hb : ¬(decide (o = .vecRsum) || decide (o = .vecRmax)) = true := by simpa using hr
    rw [if_neg hb] at hdst
    rw [vecOuts, if_neg hr, Nat.mul_comm (veSize _), vecTypeOut]
    split
    case isTrue hcvt => rwa [if_pos hcvt] at hdst
    case isFalse hcvt => rwa [if_neg hcvt] at hdst

/-- The addresses that the elements of a result that is no reduction come from (07 R199). -/
theorem mem_vecReads {o : Op} {w i : Nat} (hr : ¬o.reduces) {x : Nat × Nat} :
    x ∈ vecReads o w i ↔ x = (veA w, i) ∨ (o.readsB = true ∧ x = (veB w, if veBcast w then 0 else i)) ∨ (o = .vecFma ∧ x = (veC w, i)) := by
  rw [vecReads, if_neg hr]
  cases o.readsB <;> by_cases hf : o = .vecFma <;> simp [hf]

/-- The elements of a whole group (07 R200). -/
theorem mem_vecReads_reduce {o : Op} {w i : Nat} (hr : o.reduces) {x : Nat × Nat} : x ∈ vecReads o w i ↔ ∃ j < 2 ^ veRlog w, (veA w, i * 2 ^ veRlog w + j) = x := by
  rw [vecReads, if_pos hr]
  simp

theorem vecPlaced_of_reduces {o : Op} (hc : o.uclass = 2) {w : Nat} (hfit : ∀ x ∈ bobbinRanges o w, x.1 + x.2 ≤ 2 ^ 19) (hr : o.reduces)
    (hwhole : veCount w % 2 ^ veRlog w = 0)
    (hclear : 64 * veA w + veSize (veType w) * veCount w ≤ 64 * veDst w ∨ 64 * veDst w + veSize (vecTypeOut o w) * vecOuts o w ≤ 64 * veA w) : VecPlaced o w := by
  obtain ⟨ha, -, -, hdst⟩ := forall_mem_bobbinRanges hc (fun _ => hwhole) hfit
  have hcount : ∀ i < vecOuts o w, ∀ j < 2 ^ veRlog w, i * 2 ^ veRlog w + j < veCount w := fun i hi j hj => by
    have := mul_add_self_le_mul (m := 2 ^ veRlog w) hi
    rw [← (vecOuts_of_whole hr hwhole).1, Nat.mul_comm i]
    omega
  refine ⟨hdst, fun i hi x hx => ?_, fun i hi x hx => ?_, fun i hi x hx => ?_⟩
  all_goals obtain ⟨j, hj, rfl⟩ := (mem_vecReads_reduce hr).1 hx
  · have := mul_add_self_le_mul (m := veSize (veType w)) (hcount i hi j hj)
    rw [Nat.mul_comm (veCount w)] at ha
    dsimp only
    omega
  · exact hcount i hi j hj
  · exact .inl hclear

theorem vecPlaced_of_not_reduces {o : Op} (hc : o.uclass = 2) {w : Nat} (hfit : ∀ x ∈ bobbinRanges o w, x.1 + x.2 ≤ 2 ^ 19) (hr : ¬o.reduces)
    (hsrc : ∀ a ∈ [veA w] ++ (if o.readsB = true then [veB w] else []) ++ (if o = .vecFma then [veC w] else []),
      (64 * a + veSize (veType w) * veCount w ≤ 64 * veDst w ∨ 64 * veDst w + veSize (vecTypeOut o w) * vecOuts o w ≤ 64 * a) ∨
        (a = veDst w ∧ veSize (vecTypeOut o w) = veSize (veType w) ∧ veBcast w = false)) : VecPlaced o w := by
  obtain ⟨ha, hb, hf, hdst⟩ := forall_mem_bobbinRanges hc (fun h => absurd h hr) hfit
  have houts : vecOuts o w = veCount w := if_neg hr
  have hin : ∀ i < veCount w, ∀ a, 64 * a + veCount w * veSize (veType w) ≤ 2 ^ 19 → 64 * a + veSize (veType w) * i + veSize (veType w) ≤ 2 ^ 19 := fun i hi a h => by
    have := mul_add_self_le_mul (m := veSize (veType w)) hi
    rw [Nat.mul_comm (veCount w)] at h
    omega
  have hbcast : ∀ i < veCount w, (if veBcast w then 0 else i) < veCount w := fun i hi => by split <;> omega
  refine ⟨hdst, fun i hi x hx => ?_, fun i hi x hx => ?_, fun i hi x hx => ?_⟩
  all_goals rw [houts] at hi
  · rcases (mem_vecReads hr).1 hx with rfl | ⟨h, rfl⟩ | ⟨h, rfl⟩
    · exact hin i hi _ ha
    · have hb := hb h
      dsimp only
      split at hb
      case isTrue hcast => rwa [if_pos hcast]
      case isFalse hcast =>
        rw [if_neg hcast]
        exact hin i hi _ hb
    · exact hin i hi _ (hf h)
  · rcases (mem_vecReads hr).1 hx with rfl | ⟨-, rfl⟩ | ⟨-, rfl⟩
    · exact hi
    · exact hbcast i hi
    · exact hi
  · rcases (mem_vecReads hr).1 hx with rfl | ⟨h, rfl⟩ | ⟨h, rfl⟩
    · exact (hsrc (veA w) (by simp)).imp id fun ⟨h1, h2, _⟩ => ⟨h1, h2, rfl⟩
    · exact (hsrc (veB w) (by simp [h])).imp id fun ⟨h1, h2, h3⟩ => ⟨h1, h2, if_neg (h3 ▸ Bool.false_ne_true)⟩
    · exact (hsrc (veC w) (by simp [h])).imp id fun ⟨h1, h2, _⟩ => ⟨h1, h2, rfl⟩

-- One Bobbin after another.

/-- The elements a VEC.* word writes on a Bobbin. -/
def State.vecWrites (s : State) (o : Op) (w u : Nat) : List (Nat × Nat × Bool) := (List.range (vecOuts o w)).map (s.vecWrite o w u)

theorem State.mem_vecWrites {s : State} {o : Op} {w u : Nat} {x : Nat × Nat × Bool} : x ∈ s.vecWrites o w u ↔ ∃ i < vecOuts o w, s.vecWrite o w u i = x := by
  simp [State.vecWrites]

/-- They stand in that Bobbin's store. -/
theorem VecPlaced.written_in {o : Op} {w : Nat} (h : VecPlaced o w) {s : State} {u : Nat} {x : Nat × Nat × Bool} (hx : x ∈ s.vecWrites o w u) :
    u * 2 ^ 19 ≤ x.1 ∧ x.1 + veSize (vecTypeOut o w) ≤ (u + 1) * 2 ^ 19 := by
  obtain ⟨i, hi, rfl⟩ := State.mem_vecWrites.1 hx
  have := mul_add_self_le_mul (m := veSize (vecTypeOut o w)) hi
  have := h.written
  dsimp only [State.vecWrite, lsKey]
  rw [if_pos rfl]
  omega

/-- What one Bobbin's part writes is no source of another's (07 R199). -/
theorem VecPlaced.vecWrites_other {s t : State} {d : Nat} {o : Op} {w u v : Nat} (h : VecPlaced o w) (hw : s.Writes t d (veSize (vecTypeOut o w)) (s.vecWrites o w u)) (hne : v ≠ u) :
    t.vecWrites o w v = s.vecWrites o w v := by
  refine List.map_congr_left fun i hi => ?_
  rw [State.vecWrite, State.vecWrite, State.vecResult_congr fun x hx => congrArg ofLe (hw.bytes fun y hy => ?_)]
  have := h.written_in hy
  have := h.read i (List.mem_range.1 hi) x hx
  dsimp only [lsKey]
  rw [if_pos rfl]
  omega

theorem VecPlaced.readable_other {s t : State} {d : Nat} {o : Op} {w u v : Nat} (h : VecPlaced o w) (hfit : ∀ x ∈ bobbinRanges o w, x.1 + x.2 ≤ 2 ^ 19)
    (hw : s.Writes t d (veSize (vecTypeOut o w)) (s.vecWrites o w u)) (hne : v ≠ u) {x : Nat × Nat} (hx : x ∈ (bobbinRanges o w).dropLast)
    (hr : s.lsReadable true v x.1 x.2) : t.lsReadable true v x.1 x.2 := by
  refine (Memory.check_eq_none_iff ..).2 (hw.sound _ _ (fun y hy => ?_) ((Memory.check_eq_none_iff ..).1 hr))
  have := h.written_in hy
  have := hfit x (List.mem_of_mem_dropLast hx)
  dsimp only [lsKey]
  rw [if_pos rfl]
  omega

/-- One Bobbin's part, after the reads of its sources. -/
theorem State.writes_vecUnit (s : State) (d : Nat) {o : Op} {w : Nat} (h : VecPlaced o w) (u : Nat) {m : Memory} (hm : s.mem.Alike m) :
    s.Writes ((List.range (vecOuts o w)).foldl (fun t i => t.putElement d (veSize (vecTypeOut o w)) (t.vecWrite o w u i)) { s with mem := m }) d (veSize (vecTypeOut o w))
      (s.vecWrites o w u) := by
  have hreads := s.writes_alike d (veSize (vecTypeOut o w)) hm
  have hsame : ({ s with mem := m } : State).vecWrite o w u = s.vecWrite o w u := funext fun i => by
    rw [State.vecWrite, State.vecWrite, State.vecResult_congr fun x _ => congrArg ofLe (hreads.bytes fun _ hy => absurd hy List.not_mem_nil)]
  have hsteps := ({ s with mem := m } : State).writes_vecSteps d h u _ le_rfl
  rw [hsame] at hsteps
  exact hreads.append hsteps fun _ hx => absurd hx List.not_mem_nil

/-- The Bobbins of a VEC.* word one after another: each has its elements of the store as it stood at first (07 R199). -/
theorem State.writes_eachUnit_vec {d : Nat} {o : Op} {w : Nat} (h : VecPlaced o w) (hfit : ∀ x ∈ bobbinRanges o w, x.1 + x.2 ≤ 2 ^ 19)
    (hwhole : o.reduces → veCount w % 2 ^ veRlog w = 0) {us : List Nat} (hn : us.Nodup) {s : State}
    (hread : ∀ u ∈ us, ∀ x ∈ (bobbinRanges o w).dropLast, s.lsReadable true u x.1 x.2) :
    ∃ t, eachUnit us (vecUnit d o w) s = (t, none) ∧ s.Writes t d (veSize (vecTypeOut o w)) (us.flatMap (s.vecWrites o w)) := by
  induction us generalizing s with
  | nil => exact ⟨s, rfl, s.writes_alike d _ (.refl _)⟩
  | cons u us ih =>
    obtain ⟨hu, hn⟩ := List.nodup_cons.1 hn
    obtain ⟨m, hm, hunit⟩ := vecUnit_of_readable (d := d) (hread u List.mem_cons_self) hwhole
    generalize hy : (List.range (vecOuts o w)).foldl _ ({ s with mem := m } : State) = y at hunit
    have hone : s.Writes y d (veSize (vecTypeOut o w)) (s.vecWrites o w u) := hy ▸ s.writes_vecUnit d h u hm
    have hne : ∀ v ∈ us, v ≠ u := fun v hv h => hu (h ▸ hv)
    obtain ⟨t, ht, hrest⟩ := ih hn (s := y) fun v hv x hx => h.readable_other hfit hone (hne v hv) hx (hread v (List.mem_cons_of_mem _ hv) x hx)
    have hsame : us.flatMap (y.vecWrites o w) = us.flatMap (s.vecWrites o w) := List.flatMap_congr fun v hv => h.vecWrites_other hone (hne v hv)
    refine ⟨t, ?_, ?_⟩
    · rw [eachUnit, List.foldl_cons, hunit]
      exact ht
    · rw [List.flatMap_cons, ← hsame]
      refine hone.append hrest fun x hx z hz => ?_
      obtain ⟨v, hv, hz⟩ := List.mem_flatMap.1 hz
      have := h.written_in hx
      have := h.written_in hz
      have := hne v hv
      omega

-- The word.

theorem exec_of_vecWord {c : Instr} {d : Nat} {o : Op} (hc : wordCommand c = some (d, o)) (ho : o.uclass = 2) (s : State) : exec c s = .next (s.word d o (effVec d o)) := by
  unfold wordCommand at hc
  split at hc <;> cases hc <;> cases ho <;> rfl

theorem State.vecResult_fst (s : State) (o : Op) (w u i : Nat) : (s.vecResult o w u i).1 =
    if o.reduces then vecReduce o (veType w) (veRlog w) ((List.range (2 ^ veRlog w)).map fun j => s.vecAt u (veA w) (veSize (veType w)) (i * 2 ^ veRlog w + j))
    else (vecOp o (veType w) (vecTypeOut o w) (s.vecAt u (veA w) (veSize (veType w)) i) (s.vecAt u (veB w) (veSize (veType w)) (if veBcast w then 0 else i))
      (s.vecAt u (veC w) (veSize (veType w)) i)).1 := by
  unfold State.vecResult
  dsimp only
  split <;> rfl

/-- No reduction sets INT_OVERFLOW (07 R200). -/
theorem State.vecResult_snd (s : State) (o : Op) (w u i : Nat) : (s.vecResult o w u i).2 = true ↔
    ¬o.reduces ∧ (vecOp o (veType w) (vecTypeOut o w) (s.vecAt u (veA w) (veSize (veType w)) i) (s.vecAt u (veB w) (veSize (veType w)) (if veBcast w then 0 else i))
      (s.vecAt u (veC w) (veSize (veType w)) i)).2 = true := by
  unfold State.vecResult
  dsimp only
  split
  case isTrue hr => simp [hr]
  case isFalse hr => simp [hr]

theorem State.vecWrites_congr {s t : State} (h : t.mem = s.mem) (o : Op) (w : Nat) : t.vecWrites o w = s.vecWrites o w := by
  refine funext fun u => List.map_congr_left fun i _ => ?_
  rw [State.vecWrite, State.vecResult_congr (s := s) fun x _ => congrArg ofLe (State.bytes_of_cells (by rw [h]) ..)]
  rfl

/-- A VEC.* word whose sources can be read has run, and has written its elements. -/
theorem State.vecWord_ran {s s0 : State} {d k w : Nat} {o : Op} {r : Run} (h : s.atUnits d o = some (s0, r, k, w)) (hc : o.uclass = 2) (hp : VecPlaced o w)
    (hfit : ∀ x ∈ bobbinRanges o w, x.1 + x.2 ≤ 2 ^ 19) (hwhole : o.reduces → veCount w % 2 ^ veRlog w = 0)
    (hread : ∀ u ∈ bobbinsOf o w, ∀ x ∈ (bobbinRanges o w).dropLast, s.lsReadable true u x.1 x.2) :
    ∃ t q, t = s.word d o (effVec d o) ∧ t.ranWith d k none ∧ t = { s with mem := t.mem, distaffs := t.distaffs } ∧ t.run d = some q ∧
      (∀ u ∈ bobbinsOf o w, ∀ x ∈ s.vecWrites o w u, t.bytes 4 x.1 (veSize (vecTypeOut o w)) = le (veSize (vecTypeOut o w)) x.2.1) ∧
      (q.intOverflow = true ↔ r.intOverflow = true ∨ ∃ u ∈ bobbinsOf o w, ∃ x ∈ s.vecWrites o w u, x.2.2 = true) ∧
      ∀ p a, (p ≠ 4 ∨ ∀ u ∈ bobbinsOf o w, ∀ x ∈ s.vecWrites o w u, a < x.1 ∨ x.1 + veSize (vecTypeOut o w) ≤ a) → p ≤ 5 → t.byteAt p a = s.byteAt p a := by
  have hs := State.handed_of_atUnits h
  have hread0 : ∀ u ∈ bobbinsOf o w, ∀ x ∈ (bobbinRanges o w).dropLast, s0.lsReadable true u x.1 x.2 := fun u hu x hx => by
    rw [State.lsReadable, hs.mem]
    exact hread u hu x hx
  obtain ⟨t, ht, hw⟩ := State.writes_eachUnit_vec (d := d) hp hfit hwhole (nodup_bobbinsOf_vec hc w) hread0
  rw [State.vecWrites_congr hs.mem] at hw
  obtain ⟨y, hy, hissued, hover⟩ := hw.run r hs.run
  have heff : effVec d o r k w s0 = .done t none := by rw [effVec, ht]
  have hran := State.word_done h heff hy hissued
  obtain ⟨q, hq, hsame⟩ := State.word_done_run h heff hy
  refine ⟨_, q, rfl, hran.ran, ?_, hq, fun u hu x hx => ?_, ?_, fun p a hp h5 => ?_⟩
  · rw [hran.frame, hw.frame, hs.frame]
  · rw [State.bytes_of_cells (s := t) (by rw [hran.mem])]
    exact hw.written x (List.mem_flatMap.2 ⟨u, hu, hx⟩)
  · rw [hsame]
    refine hover.trans (or_congr_right ⟨fun ⟨x, hx, h2⟩ => ?_, fun ⟨u, hu, x, hx, h2⟩ => ⟨x, List.mem_flatMap.2 ⟨u, hu, hx⟩, h2⟩⟩)
    obtain ⟨u, hu, hx⟩ := List.mem_flatMap.1 hx
    exact ⟨u, hu, x, hx, h2⟩
  · rw [hran.byteAt, hw.others p a (hp.imp id fun hp x hx => ?_) h5, State.byteAt, hs.mem]
    · rfl
    · obtain ⟨u, hu, hx⟩ := List.mem_flatMap.1 hx
      exact hp u hu x hx

-- INT32.

theorem signed_toNat (a : BitVec 32) : signed 32 a.toNat = a.toInt := by
  rw [signed, BitVec.toInt_eq_toNat_cond, Nat.mod_eq_of_lt a.isLt]
  split <;> split <;> omega

/-- The word of 32 bits that a result taken modulo 2^32 is. -/
theorem wrap_of_toInt {v : BitVec 32} {z : Int} (h : v.toInt = z.bmod (2 ^ 32)) : wrap 32 z = v.toNat := by
  rw [show v = BitVec.ofInt 32 z from BitVec.eq_of_toInt_eq (h.trans (BitVec.toInt_ofInt z).symm), wrap, BitVec.toNat_ofInt]
  rfl

theorem wrap_toInt (a : BitVec 32) : wrap 32 a.toInt = a.toNat := wrap_of_toInt (by rw [← BitVec.toInt_ofInt, BitVec.ofInt_toInt])

/-- On INT32 elements the operations are those of words of 32 bits (07 R200). -/
theorem vecOp_int32 (a b c : BitVec 32) :
    vecOp .vecAdd 2 2 a.toNat b.toNat c.toNat = ((a + b).toNat, false) ∧ vecOp .vecSub 2 2 a.toNat b.toNat c.toNat = ((a - b).toNat, false) ∧
    vecOp .vecMul 2 2 a.toNat b.toNat c.toNat = ((a * b).toNat, false) ∧ vecOp .vecFma 2 2 a.toNat b.toNat c.toNat = ((a * b + c).toNat, false) ∧
    vecOp .vecDiv 2 2 a.toNat b.toNat c.toNat = (if b = 0 then (0, true) else ((a.sdiv b).toNat, false)) ∧
    vecOp .vecMax 2 2 a.toNat b.toNat c.toNat = ((if b.toInt ≤ a.toInt then a else b).toNat, false) ∧
    vecOp .vecMin 2 2 a.toNat b.toNat c.toNat = ((if a.toInt ≤ b.toInt then a else b).toNat, false) := by
  refine ⟨?_, ?_, ?_, ?_, ?_, ?_, ?_⟩
  all_goals
    unfold vecOp
    dsimp only
    rw [if_pos rfl]
    simp only [signed_toNat]
  · rw [wrap_of_toInt (BitVec.toInt_add a b)]
  · rw [wrap_of_toInt BitVec.toInt_sub]
  · rw [wrap_of_toInt (BitVec.toInt_mul a b)]
  · rw [wrap_of_toInt (v := a * b + c) (by rw [BitVec.toInt_add, BitVec.toInt_mul, Int.bmod_add_bmod])]
  · have hzero : b.toInt = 0 ↔ b = 0 := BitVec.toInt_inj (x := b) (y := 0)
    by_cases hb : b = 0
    · rw [if_pos (hzero.2 hb), if_pos hb]
    · rw [if_neg (hzero.not.2 hb), if_neg hb, wrap_of_toInt (BitVec.toInt_sdiv a b)]
  · split
    case isTrue h => rw [max_eq_left h, wrap_toInt]
    case isFalse h => rw [max_eq_right (le_of_not_ge h), wrap_toInt]
  · split
    case isTrue h => rw [min_eq_left h, wrap_toInt]
    case isFalse h => rw [min_eq_right (le_of_not_ge h), wrap_toInt]

/-- Settles O27: the Bobbins one after another, each element read as the store stands; none is overwritten before it is read. -/
theorem vectorWordsWorkElementByElement : Obligations.VectorWordsWorkElementByElement := by
  unfold Obligations.VectorWordsWorkElementByElement
  refine ⟨?_, vecOp_int32⟩
  intro s s0 c d o r k w hc ho h hfit hread size tout m red per outs dst res clear hred hsrc
  have hwhole : o.reduces → veCount w % 2 ^ veRlog w = 0 := fun hr => (hred hr).1
  have hp : VecPlaced o w := by
    by_cases hr : o.reduces
    · exact vecPlaced_of_reduces ho hfit hr (hwhole hr) (hred hr).2
    · exact vecPlaced_of_not_reduces ho hfit hr (hsrc hr)
  obtain ⟨t, q, rfl, hran, hframe, hq, hwritten, hover, hothers⟩ := State.vecWord_ran h ho hp hfit hwhole hread
  refine ⟨_, q, exec_of_vecWord hc ho s, hran, hframe, hq, fun u hu i hi => ?_, hover.trans (or_congr_right ?_), fun p a hpa => hothers p a (hpa.imp id fun hpa u hu x hx => ?_)⟩
  · have := hwritten u hu _ (State.mem_vecWrites.2 ⟨i, hi, rfl⟩)
    rwa [State.vecWrite, State.vecResult_fst] at this
  · constructor
    · rintro ⟨u, hu, x, hx, h2⟩
      obtain ⟨i, hi, rfl⟩ := State.mem_vecWrites.1 hx
      obtain ⟨hr, hset⟩ := (State.vecResult_snd ..).1 h2
      exact ⟨hr, u, hu, i, by rwa [vecOuts, if_neg hr] at hi, hset⟩
    · rintro ⟨hr, u, hu, i, hi, h2⟩
      exact ⟨u, hu, _, State.mem_vecWrites.2 ⟨i, by rwa [vecOuts, if_neg hr], rfl⟩, (State.vecResult_snd ..).2 ⟨hr, h2⟩⟩
  · obtain ⟨i, hi, rfl⟩ := State.mem_vecWrites.1 hx
    have hin := mul_add_self_le_mul (m := veSize (vecTypeOut o w)) hi
    have : a < lsKey true u (64 * veDst w) ∨ lsKey true u (64 * veDst w) + veSize (vecTypeOut o w) * vecOuts o w ≤ a := hpa u hu
    dsimp only [State.vecWrite]
    omega

end Sys2Proof.Machine
end

section
/-!
PROOF. A drain of one Spindle (O30): what it writes, folds and counts, the split it ends and the read-outs it begins.
-/
namespace Sys2Proof.Machine

-- What a drain computes.

/-- The parts that carry a slot of a Spindle: those of its split, or itself alone (06 R158). -/
def Run.partsOf (r : Run) (u k : Nat) : List Nat :=
  match r.split u k with
  | some q => (List.range q.parts).map fun p => q.base + p
  | none => [u]

/-- Cell c of a drain with its bias (05 R132, R133). -/
def State.drainY (s : State) (r : Run) (u w c : Nat) : CellY := s.withBias r u w c (s.cellY r u (wAcc w) c)

/-- Its element in the output format (05 R133). -/
def State.drainCell (s : State) (r : Run) (u w c : Nat) : Nat × Bool := outOf (drOut w) (s.drainY r u w c).1 (drScale w)

/-- The tile of a drain (05 R134, R136). -/
def State.drainTile (s : State) (r : Run) (u w : Nat) : Bytes :=
  let parts := r.partsOf u (wAcc w)
  if drOut w = 4 then
    rawBytes (s.spindle u) ((s.spindle u).isInt (wAcc w)) (fun c => (parts.map fun p => (s.spindle p).skein c).sum)
      (fun c => parts.foldl (fun f p => f ||| (s.spindle p).flag c) 0) (parts.map fun p => (s.spindle p).pcount).sum
  else (List.range 1024).flatMap fun c => le (outSize (drOut w)) (s.drainCell r u w c).1

/-- The stream register after a drain, and whether POS_LIMIT refused the tile (05 R138, R139). -/
def State.drainFold (s : State) (r : Run) (o : Op) (u w : Nat) : Stream × Bool :=
  let st := vget (s.spindle u).streams Stream.unset (drStream w)
  if o.isFold then st.fold o w fun c => (s.drainCell r u w c).1 else (st, false)

/-- The bytes a drain writes (07 R197). -/
def State.drainData (s : State) (r : Run) (o : Op) (u w : Nat) : Bytes :=
  (if drNoWrite w then [] else s.drainTile r u w) ++ (if o.isFold && drLast w then (s.drainFold r o u w).1.bytes else [])

/-- A cell has left the INT32 range (05 R124). -/
def State.drainOver (s : State) (r : Run) (u w : Nat) : Bool := (List.range 1024).any fun c => (s.drainY r u w c).2

/-- A cell or an element of a tile that is not raw has left its range (05 R133). -/
def State.drainBad (s : State) (r : Run) (u w : Nat) : Bool :=
  drOut w ≠ 4 && (List.range 1024).any fun c => (s.drainY r u w c).2 || (s.drainCell r u w c).2

/-- What a drain counts, and INT_OVERFLOW (05 R133, R139). -/
def State.drainCounts (s : State) (d : Nat) (overrun bad : Bool) : State :=
  let t := if overrun then s.modDict fun x => { x with streamOverruns := sat32 x.streamOverruns } else s
  if bad then (t.modDict fun x => { x with intOverflows := sat32 x.intOverflows }).setIntOverflow d else t

/-- What a drain leaves on its Spindle: the stream register, the overflow of a lane, and a pair's mark (05 R124, R126, R138). -/
def State.drainMarks (s : State) (o : Op) (w u lane : Nat) (st : Stream) (left : Bool) : State :=
  s.modSpindle u fun x =>
    { x with streams := if o.isFold then vset x.streams (drStream w) st else x.streams,
             overflow := if left then vset x.overflow lane true else x.overflow,
             pair := if wAcc w = 0 then x.pair.map fun p => (p.1, true) else x.pair }

/-- The split a drain ends and the read-outs it begins (05 R135; 06 R159). -/
def State.drainEnd (s : State) (d k w u lane : Nat) (parts : List Nat) : State :=
  let t := s.modRun d fun r => { r with splits := r.splits.filter fun q => !(q.slot = wAcc w && q.base = u) }
  { t with units := { t.units with drains := t.units.drains ++ parts.map fun p => { distaff := d, word := k, spindle := p, slot := lane, clear := drClr w } } }

theorem any_range_congr {n : Nat} {f g : Nat → Bool} (h : ∀ c < n, f c = g c) : (List.range n).any f = (List.range n).any g := by
  rw [Bool.eq_iff_iff, List.any_eq_true, List.any_eq_true]
  exact exists_congr fun c => and_congr_right fun hc => by rw [h c (List.mem_range.1 hc)]

/-- The row that a fold makes of the columns it includes (05 R138, R140). -/
def Stream.rowOf (o : Op) (w : Nat) (st : Stream) (val : Nat → Nat) (i : Nat) : Int × Int × Int :=
  let cols := (List.range (drNcol w)).filter fun j => !drCausal w || decide (drKpos w + j ≤ drQpos w + i)
  st.foldRow o i (cols.map fun j => if drOut w = 1 then bf16.val (val (32 * i + j)) else fp32.val (val (32 * i + j)))
    (cols.map fun j => signed (if drOut w = 2 then 8 else 32) (val (32 * i + j)))

theorem Stream.rowOf_congr (o : Op) (w : Nat) (st : Stream) {f g : Nat → Nat} (h : ∀ c < 1024, f c = g c) {i : Nat} (hi : i < 32) : st.rowOf o w f i = st.rowOf o w g i := by
  have hcol : drNcol w ≤ 32 := Nat.mod_lt _ (by decide)
  have hcell : ∀ j ∈ (List.range (drNcol w)).filter (fun j => !drCausal w || decide (drKpos w + j ≤ drQpos w + i)), f (32 * i + j) = g (32 * i + j) := fun j hj => by
    have := List.mem_range.1 (List.mem_of_mem_filter hj)
    exact h _ (by omega)
  unfold Stream.rowOf
  dsimp only
  rw [List.map_congr_left fun j hj => congrArg (fun b => if drOut w = 1 then bf16.val b else fp32.val b) (hcell j hj),
    List.map_congr_left fun j hj => congrArg (signed (if drOut w = 2 then 8 else 32)) (hcell j hj)]

/-- A fold looks at the cells of the tile alone (05 R138). -/
theorem Stream.fold_congr (o : Op) (w : Nat) (st : Stream) {f g : Nat → Nat} (h : ∀ c < 1024, f c = g c) : st.fold o w f = st.fold o w g := by
  have hrows : ∀ x : Stream, (List.range 32).map (x.rowOf o w f) = (List.range 32).map (x.rowOf o w g) := fun x =>
    List.map_congr_left fun i hi => x.rowOf_congr o w h (List.mem_range.1 hi)
  unfold Stream.rowOf at hrows
  unfold Stream.fold
  dsimp only at hrows ⊢
  rw [hrows]

/-- A drain step by step: the hosts of its split, the write, the counts, the marks, and its end (05 R133 to R142; 06 R159). -/
theorem drainUnit_eq (d : Nat) (r : Run) (o : Op) (k w u : Nat) (s : State) :
    let lane := if r.header.mode = 1 then 0 else (s.spindle u).drainLane (wAcc w)
    drainUnit d r o k w u s = (((((s.settleHosts r u (wAcc w)).writeDest r w u (if drOut w = 4 then 36864 else 4096) (s.drainData r o u w)).drainCounts d
      (s.drainFold r o u w).2 (s.drainBad r u w)).drainMarks o w u lane (s.drainFold r o u w).1 (s.drainOver r u w)).drainEnd d k w u lane (r.partsOf u (wAcc w))) := by
  have hy : ∀ c < 1024, ((List.range 1024).map fun c => s.withBias r u w c (s.cellY r u (wAcc w) c)).toArray.getD c (.nan, false) = s.drainY r u w c :=
    fun c hc => getD_map_range _ hc _
  unfold drainUnit
  dsimp only
  generalize ((List.range 1024).map fun c => s.withBias r u w c (s.cellY r u (wAcc w) c)).toArray = ys at hy ⊢
  have hout : ∀ c < 1024, ((List.range 1024).map fun c => outOf (drOut w) (ys.getD c (.nan, false)).1 (drScale w)).toArray.getD c (0, false) = s.drainCell r u w c :=
    fun c hc => by rw [getD_map_range _ hc, hy c hc, State.drainCell]
  generalize ((List.range 1024).map fun c => outOf (drOut w) (ys.getD c (.nan, false)).1 (drScale w)).toArray = outs at hout ⊢
  have hleft : ((List.range 1024).any fun c => (ys.getD c (.nan, false)).2) = s.drainOver r u w := any_range_congr fun c hc => by rw [hy c hc]
  have hbad : ((List.range 1024).any fun c => (ys.getD c (.nan, false)).2 || (outs.getD c (0, false)).2) =
      (List.range 1024).any fun c => (s.drainY r u w c).2 || (s.drainCell r u w c).2 := any_range_congr fun c hc => by rw [hy c hc, hout c hc]
  have htile : ((List.range 1024).flatMap fun c => le (outSize (drOut w)) (outs.getD c (0, false)).1) =
      (List.range 1024).flatMap fun c => le (outSize (drOut w)) (s.drainCell r u w c).1 := List.flatMap_congr fun c hc => by rw [hout c (List.mem_range.1 hc)]
  have hfold : ∀ st : Stream, (st.fold o w fun c => (outs.getD c (0, false)).1) = st.fold o w fun c => (s.drainCell r u w c).1 := fun st =>
    st.fold_congr o w fun c hc => by rw [hout c hc]
  rw [hleft, hbad, htile, hfold]
  rfl

-- The split a drain ends.

/-- What the end of a split may change: the Spindles of its parts, except their stream registers, and the count of free values (06 R161). -/
structure State.Settled (s t : State) (us : List Nat) : Prop where
  frame : t = { s with units := t.units, out := t.out }
  drains : t.units.drains = s.units.drains
  streams : ∀ v, (t.spindle v).streams = (s.spindle v).streams
  others : ∀ v, v ∉ us → t.spindle v = s.spindle v

theorem State.Settled.refl (s : State) (us : List Nat) : s.Settled s us := ⟨rfl, rfl, fun _ => rfl, fun _ _ => rfl⟩

theorem State.Settled.trans {s t u : State} {us : List Nat} (h : s.Settled t us) (g : t.Settled u us) : s.Settled u us := by
  refine ⟨?_, g.drains.trans h.drains, fun v => (g.streams v).trans (h.streams v), fun v hv => (g.others v hv).trans (h.others v hv)⟩
  rw [g.frame, h.frame]

theorem State.settled_modSpindle (s : State) {us : List Nat} {u : Nat} (hu : u ∈ us) {f : Spindle → Spindle} (hf : (f (s.spindle u)).streams = (s.spindle u).streams) :
    s.Settled (s.modSpindle u f) us := by
  refine ⟨rfl, rfl, fun v => ?_, fun v hv => ?_⟩
  · rw [State.spindle_modSpindle]
    split
    case isTrue h => exact h.1 ▸ hf
    case isFalse => rfl
  · rw [State.spindle_modSpindle, if_neg]
    rintro ⟨rfl, -⟩
    exact hv hu

theorem State.settled_spoilLanes (s : State) {us : List Nat} {u : Nat} (hu : u ∈ us) (ls : List Nat) : s.Settled (s.spoilLanes u ls) us := by
  have hfree : s.Settled { s with out := { s.out with free := s.out.free + 8192 } } us := ⟨rfl, rfl, fun _ => rfl, fun _ _ => rfl⟩
  exact hfree.trans (State.settled_modSpindle _ hu rfl)

theorem State.streams_hostSlot (s : State) (r : Run) (lead k : Nat) : (s.hostSlot r lead k).streams = (s.spindle lead).streams := by
  unfold State.hostSlot
  dsimp only
  split
  · rfl
  · split
    · rfl
    · split <;> rfl

theorem State.settled_foldl {s t : State} {us vs : List Nat} {f : State → Nat → State} (h : s.Settled t us)
    (hf : ∀ x, s.Settled x us → ∀ v ∈ vs, s.Settled (f x v) us) : s.Settled (vs.foldl f t) us := by
  induction vs generalizing t with
  | nil => exact h
  | cons v vs ih => exact ih (hf t h v List.mem_cons_self) fun x hx y hy => hf x hx y (List.mem_cons_of_mem _ hy)

theorem State.settled_settleHosts (s : State) (r : Run) (u k : Nat) : s.Settled (s.settleHosts r u k) (r.partsOf u k) := by
  unfold State.settleHosts Run.partsOf
  cases r.split u k with
  | none => exact .refl s _
  | some q =>
    refine State.settled_foldl (State.settled_foldl (.refl s _) fun x hx p hp => hx.trans (x.settled_modSpindle (List.mem_of_mem_filter hp) ?_)) fun x hx p hp =>
      hx.trans (x.settled_spoilLanes (List.mem_of_mem_filter hp) _)
    rw [State.streams_hostSlot, hx.streams]

/-- Outside a split nothing has to be settled. -/
theorem State.settleHosts_of_no_split (s : State) {r : Run} {u k : Nat} (h : r.split u k = none) : s.settleHosts r u k = s := by
  unfold State.settleHosts
  rw [h]

-- Where a drain writes.

/-- The space and address of a drain's tile: its Spindle's local store, or a place in a buffer (07 R197). -/
structure Run.DrainsTo (r : Run) (w u sp dst : Nat) : Prop where
  store : drSel w = false → sp = 3 ∧ dst = lsKey false u (64 * drAddr w)
  buffer : drSel w = true → ∃ b, r.buf (drBuf w) = some b ∧ b.space = sp ∧ sp ≤ 2 ∧ (sp = 2 → r.noHost = false) ∧
    dst = if sp = 2 then hostKey r.owner (b.base + 4096 * drOff w) else b.base + 4096 * drOff w

theorem State.writeDest_eq_put {r : Run} {w u sp dst : Nat} (h : r.DrainsTo w u sp dst) (hall : wAll w = false) (s : State) (stride : Nat) (bs : Bytes) :
    sp ≤ 5 ∧ s.writeDest r w u stride bs = s.put sp dst bs := by
  unfold State.writeDest
  cases hsel : drSel w with
  | false =>
    obtain ⟨rfl, rfl⟩ := h.store hsel
    exact ⟨by decide, if_neg Bool.false_ne_true⟩
  | true =>
    obtain ⟨b, hb, hspace, hle, hhost, rfl⟩ := h.buffer hsel
    refine ⟨by omega, ?_⟩
    rw [if_pos rfl, hall, State.writeIdx, hb]
    dsimp only
    rw [if_neg Bool.false_ne_true, Nat.add_zero, State.writeBuf, hspace]
    split
    case isTrue h2 => rw [hhost h2, if_neg Bool.false_ne_true, h2]
    case isFalse => rfl

-- The steps after the write.

theorem State.drainCounts_frame (s : State) (d : Nat) (overrun bad : Bool) :
    s.drainCounts d overrun bad = { s with dict := (s.drainCounts d overrun bad).dict, distaffs := (s.drainCounts d overrun bad).distaffs } ∧
      (s.drainCounts d overrun bad).dict.streamOverruns = if overrun then min (s.dict.streamOverruns + 1) 0xFFFFFFFF else s.dict.streamOverruns := by
  unfold State.drainCounts
  cases overrun <;> cases bad <;> exact ⟨rfl, rfl⟩

theorem State.run_drainCounts {s : State} {d : Nat} {r : Run} (h : s.run d = some r) (overrun bad : Bool) :
    (s.drainCounts d overrun bad).run d = some { r with intOverflow := r.intOverflow || bad } := by
  have hover : (if overrun then s.modDict fun x => { x with streamOverruns := sat32 x.streamOverruns } else s).run d = some r := by cases overrun <;> exact h
  unfold State.drainCounts
  dsimp only
  cases bad with
  | false =>
    rw [Bool.or_false]
    exact hover
  | true =>
    rw [Bool.or_true]
    exact State.run_modRun_self _ d _ r hover

/-- A drain's stream register: that of a fold, else as it was (05 R138). -/
theorem State.streams_drainMarks (s : State) (o : Op) (w : Nat) {u : Nat} (hu : u < 128) (lane : Nat) (st : Stream) (left : Bool) :
    (((s.drainMarks o w u lane st left).spindle u).streams = if o.isFold then vset (s.spindle u).streams (drStream w) st else (s.spindle u).streams) ∧
      ((s.drainMarks o w u lane st left).spindle u).lanes = (s.spindle u).lanes := by
  rw [State.drainMarks, State.spindle_modSpindle_self s _ hu]
  exact ⟨rfl, rfl⟩

theorem State.frame_drainEnd (s : State) (d k : Nat) (o : Op) (w u lane : Nat) (st : Stream) (left : Bool) (parts : List Nat) :
    let t := (s.drainMarks o w u lane st left).drainEnd d k w u lane parts
    t = { s with units := t.units, distaffs := t.distaffs } := rfl

/-- What the steps after the write leave (05 R124, R126, R133, R135, R138; 06 R159). -/
structure State.DrainCounted (s t : State) (d k w u lane : Nat) (o : Op) (r : Run) (f : Stream × Bool) (bad : Bool) (parts : List Nat) : Prop where
  frame : t = { s with units := t.units, dict := t.dict, distaffs := t.distaffs }
  run : ∃ q, t.run d = some q ∧ q.issued = r.issued ∧ q.intOverflow = (r.intOverflow || bad)
  drains : t.units.drains = s.units.drains ++ parts.map fun p => { distaff := d, word := k, spindle := p, slot := lane, clear := drClr w }
  lanes : (t.spindle u).lanes = (s.spindle u).lanes
  streams : (t.spindle u).streams = if o.isFold then vset (s.spindle u).streams (drStream w) f.1 else (s.spindle u).streams
  overruns : t.dict.streamOverruns = if f.2 then min (s.dict.streamOverruns + 1) 0xFFFFFFFF else s.dict.streamOverruns
  others : ∀ v, v ≠ u → t.spindle v = s.spindle v

theorem State.drainCounted {s : State} {d : Nat} {r : Run} (hrun : s.run d = some r) (k w : Nat) {u : Nat} (hu : u < 128) (lane : Nat) (o : Op) (f : Stream × Bool)
    (bad left : Bool) (parts : List Nat) :
    s.DrainCounted (((s.drainCounts d f.2 bad).drainMarks o w u lane f.1 left).drainEnd d k w u lane parts) d k w u lane o r f bad parts := by
  obtain ⟨hframe, hdict⟩ := s.drainCounts_frame d f.2 bad
  have hcounts := State.run_drainCounts hrun f.2 bad
  have hspindle : ∀ v, (s.drainCounts d f.2 bad).spindle v = s.spindle v := fun v => by rw [hframe]; rfl
  have hdrains : (s.drainCounts d f.2 bad).units.drains = s.units.drains := by rw [hframe]
  obtain ⟨hstreams, hlanes⟩ := (s.drainCounts d f.2 bad).streams_drainMarks o w hu lane f.1 left
  have hothers := ((s.drainCounts d f.2 bad).within_modSpindle u _ : (s.drainCounts d f.2 bad).Within ((s.drainCounts d f.2 bad).drainMarks o w u lane f.1 left) [u])
  rw [hspindle] at hstreams hlanes
  refine ⟨?_, ⟨_, State.run_modRun_self _ d _ _ hcounts, rfl, rfl⟩, congrArg (· ++ _) hdrains, hlanes, hstreams, hdict,
    fun v hv => (hothers.spindle v (by simpa using hv)).trans (hspindle v)⟩
  have hafter := (s.drainCounts d f.2 bad).frame_drainEnd d k o w u lane f.1 left parts
  generalize ((s.drainCounts d f.2 bad).drainMarks o w u lane f.1 left).drainEnd d k w u lane parts = t, s.drainCounts d f.2 bad = c at hafter hframe ⊢
  rw [hafter, hframe]

/-- What a drain leaves of a state (05 R133 to R142; 06 R159). -/
structure State.Drained (s t : State) (d : Nat) (r : Run) (o : Op) (k w u sp dst : Nat) : Prop where
  frame : t = { s with mem := t.mem, units := t.units, dict := t.dict, distaffs := t.distaffs, out := t.out }
  run : ∃ q, t.run d = some q ∧ q.issued = r.issued ∧ q.intOverflow = (r.intOverflow || s.drainBad r u w)
  bytes : t.bytes sp dst (s.drainData r o u w).length = s.drainData r o u w
  others : ∀ p a, (p ≠ sp ∨ a < dst ∨ dst + (s.drainData r o u w).length ≤ a) → p ≤ 5 → t.byteAt p a = s.byteAt p a
  drains : t.units.drains = s.units.drains ++ (r.partsOf u (wAcc w)).map fun p =>
    { distaff := d, word := k, spindle := p, slot := if r.header.mode = 1 then 0 else (s.spindle u).drainLane (wAcc w), clear := drClr w }
  alone : r.split u (wAcc w) = none → (t.spindle u).lanes = (s.spindle u).lanes ∧ t.out = s.out
  streams : (t.spindle u).streams = if o.isFold then vset (s.spindle u).streams (drStream w) (s.drainFold r o u w).1 else (s.spindle u).streams
  overruns : t.dict.streamOverruns = if (s.drainFold r o u w).2 then min (s.dict.streamOverruns + 1) 0xFFFFFFFF else s.dict.streamOverruns
  spindles : ∀ v, v ∉ r.partsOf u (wAcc w) → v ≠ u → t.spindle v = s.spindle v

theorem State.drained_drainUnit {s : State} {d : Nat} {r : Run} (hrun : s.run d = some r) (o : Op) (k : Nat) {w u sp dst : Nat} (hu : u < 128)
    (hdest : r.DrainsTo w u sp dst) (hall : wAll w = false) : s.Drained (drainUnit d r o k w u s) d r o k w u sp dst := by
  have hdrain := drainUnit_eq d r o k w u s
  dsimp only at hdrain
  rw [hdrain]
  have hsettled := s.settled_settleHosts r u (wAcc w)
  have halone := s.settleHosts_of_no_split (r := r) (u := u) (k := wAcc w)
  generalize s.settleHosts r u (wAcc w) = a at *
  generalize hdata : s.drainData r o u w = data
  obtain ⟨hsp, hput⟩ := a.writeDest_eq_put hdest hall (if drOut w = 4 then 36864 else 4096) data
  rw [hput]
  have hback := a.bytes_put sp dst data hsp
  have hbytes := fun p c => a.byteAt_put sp dst data p c hsp
  obtain ⟨m, hm⟩ : ∃ m, a.put sp dst data = { a with mem := m } := ⟨_, rfl⟩
  rw [hm] at hback hbytes ⊢
  have hrun' : ({ a with mem := m } : State).run d = some r := (State.run_congr (by rw [hsettled.frame]) d).trans hrun
  have hcounted := State.drainCounted hrun' k w hu (if r.header.mode = 1 then 0 else (s.spindle u).drainLane (wAcc w)) o (s.drainFold r o u w) (s.drainBad r u w)
    (s.drainOver r u w) (r.partsOf u (wAcc w))
  have hspindle : ∀ v, ({ a with mem := m } : State).spindle v = a.spindle v := fun _ => rfl
  generalize (((({ a with mem := m } : State).drainCounts d _ _).drainMarks o w u _ _ _).drainEnd d k w u _ _) = t at hcounted ⊢
  have hmem : t.mem = m := by rw [hcounted.frame]
  refine ⟨?_, hcounted.run, ?_, fun p c hp h5 => ?_, ?_, fun h => ⟨?_, ?_⟩, ?_, ?_, fun v hv hne => ?_⟩
  · rw [hcounted.frame, hsettled.frame]
  · rw [hdata, State.bytes_of_cells (s := { a with mem := m }) (by rw [hmem])]
    exact hback
  · rw [hdata] at hp
    have hsame : t.byteAt p c = ({ a with mem := m } : State).byteAt p c := by rw [State.byteAt, hmem, State.byteAt]
    rw [hsame, hbytes p c h5, if_neg (by omega), hsettled.frame]
    rfl
  · rw [hcounted.drains]
    exact congrArg (· ++ _) hsettled.drains
  · rw [hcounted.lanes, hspindle, halone h]
  · have hout : a.out = s.out := by rw [halone h]
    rw [hcounted.frame]
    exact hout
  · rw [hcounted.streams, hspindle, hsettled.streams]
  · rw [hcounted.overruns, hsettled.frame]
  · rw [hcounted.others v hne, hspindle, hsettled.others v hv]

-- The word.

theorem exec_of_drain {c : Instr} {d : Nat} {o : Op} (hc : wordCommand c = some (d, o)) (ho : o.isDrain = true) (s : State) : exec c s = .next (s.word d o (effDrain d o)) := by
  unfold wordCommand at hc
  split at hc <;> cases hc <;> cases ho <;> rfl

theorem Op.isDrain_class {o : Op} (ho : o.isDrain = true) : o.uclass = 1 ∧ o ≠ .splitK := by
  simp only [Op.isDrain, Bool.or_eq_true, decide_eq_true_eq] at ho
  rcases ho with ((rfl | rfl) | rfl) | rfl <;> exact ⟨rfl, by decide⟩

/-- A drain of one Spindle whose drain paths are free (05 R135). -/
theorem effDrain_of_free {d : Nat} {o : Op} (ho : o.isDrain = true) {r : Run} {k w : Nat} (hall : wAll w = false) {s : State}
    (hfree : ∀ p ∈ r.partsOf (wUnit w) (wAcc w), s.pathBusy p = false) : effDrain d o r k w s = .done (drainUnit d r o k w (wUnit w) s) none := by
  obtain ⟨hclass, hsplit⟩ := Op.isDrain_class ho
  have hany : (r.partsOf (wUnit w) (wAcc w)).any s.pathBusy = false := List.any_eq_false.2 fun p hp => by rw [hfree p hp]; decide
  unfold effDrain
  dsimp only
  rw [spindlesOf_one hclass hsplit hall, List.any_cons, List.any_nil, Bool.or_false]
  exact if_neg (ne_true_of_eq_false hany)

/-- What a drain reads is as the units were handed over. -/
theorem State.Handed.drain {s s0 : State} {d k : Nat} {r : Run} (h : s.Handed s0 d r k) (o : Op) (u w : Nat) :
    s0.drainData r o u w = s.drainData r o u w ∧ s0.drainFold r o u w = s.drainFold r o u w ∧ s0.drainBad r u w = s.drainBad r u w := by
  rw [h.frame]
  exact ⟨rfl, rfl, rfl⟩

theorem State.drainBad_iff {s : State} {r : Run} {u w : Nat} :
    s.drainBad r u w = true ↔ drOut w ≠ 4 ∧ ∃ c < 1024, (s.drainY r u w c).2 = true ∨ (s.drainCell r u w c).2 = true := by
  simp only [State.drainBad, Bool.and_eq_true, decide_eq_true_eq, List.any_eq_true, List.mem_range, Bool.or_eq_true]

/-- Settles O30: the drain step by step, the split settled first, then the one write, the counts, the marks, and the read-outs begun. -/
theorem drainWritesTheTile : Obligations.DrainWritesTheTile := by
  intro s s0 c d o r k w hc ho h hall u x fmt split parts y out lane tile fold data hfree sp dst hstore hbuffer
  have hs := State.handed_of_atUnits h
  have hfold : o.isFold = true → s.drainFold r o u w = fold := fun hf => if_pos hf
  have hdata : s.drainData r o u w = data := by
    refine congrArg ((if drNoWrite w then [] else s.drainTile r u w) ++ ·) ?_
    by_cases hlast : o.isFold = true ∧ drLast w = true
    · rw [if_pos hlast, if_pos (Bool.and_eq_true_iff.2 hlast), hfold hlast.1]
    · rw [if_neg hlast, if_neg (hlast ∘ Bool.and_eq_true_iff.1)]
  have hoverrun : (s.drainFold r o u w).2 = true ↔ o.isFold = true ∧ fold.2 = true := by
    cases hf : o.isFold with
    | true => rw [hfold hf]; simp
    | false => rw [State.drainFold, hf]; simp
  have heff := effDrain_of_free (d := d) ho (k := k) hall (s := s0) (r := r) fun p hp => by
    rw [State.pathBusy, hs.units]
    exact hfree p hp
  have hdrained := State.drained_drainUnit hs.run o k (wUnit_lt w) ⟨hstore, hbuffer⟩ hall
  obtain ⟨hdata0, hfold0, hbad0⟩ := hs.drain o u w
  obtain ⟨y, hy, hissued, hover⟩ := hdrained.run
  have hran := State.word_done h heff hy hissued
  obtain ⟨q, hq, hsame⟩ := State.word_done_run h heff hy
  generalize drainUnit d r o k w (wUnit w) s0 = t at *
  have hbytes : s0.byteAt = s.byteAt := by rw [hs.frame]; rfl
  have hspindle : ∀ v, s0.spindle v = s.spindle v := hs.spindle
  refine ⟨_, q, exec_of_drain hc ho s, hran.ran, ?_, hq, ?_, fun p a hp h5 => ?_, ?_, fun hsplit => ⟨?_, ?_⟩, ?_,
    fun hf => ?_, fun hf => ⟨?_, fun j hj => ?_⟩, ?_, fun v hv hne hu => ?_⟩
  · rw [hran.frame, hdrained.frame, hs.frame]
  · have hback := hdrained.bytes
    rw [hdata0, hdata] at hback
    rw [State.bytes_of_cells (s := t) (by rw [hran.mem])]
    exact hback
  · have hothers := hdrained.others p a
    rw [hdata0, hdata, hbytes] at hothers
    exact (hran.byteAt p a).trans (hothers hp h5)
  · rw [hran.units, hdrained.drains, hs.units, hspindle]
    rfl
  · rw [hran.spindle, (hdrained.alone hsplit).1, hspindle]
  · rw [hran.out, (hdrained.alone hsplit).2, hs.frame]
  · rw [hsame, hover, hbad0, Bool.or_eq_true, State.drainBad_iff]
    rfl
  · rw [hran.spindle, hdrained.streams, hf, if_neg Bool.false_ne_true, hspindle]
  · rw [hran.spindle, hdrained.streams, if_pos hf, hfold0, hfold hf, vget_vset, if_pos ⟨rfl, Nat.mod_lt _ (by decide)⟩]
  · rw [hran.spindle, hdrained.streams, if_pos hf, vget_vset, if_neg fun h => hj h.1.symm, hspindle]
  · have hcount := hdrained.overruns
    have hdict : s0.dict = s.dict := by rw [hs.frame]
    rw [hfold0, hdict] at hcount
    rw [hran.frame]
    simp only [hcount, hoverrun]
  · rw [hran.spindle, hdrained.spindles v hne hu, hspindle]

end Sys2Proof.Machine
end

section
/-!
PROOF. The issue of a word that needs permits, the order of a unit's queue, and WORD_COMPLETE (O22).
-/
namespace Sys2Proof.Machine

/-- Every command that hands over a word of a hank does so by the one rule of issue, with an effect of its own (07 R184, R186). -/
theorem exec_of_wordCommand {c : Instr} {d : Nat} {o : Op} (hc : wordCommand c = some (d, o)) : ∃ eff, ∀ s, exec c s = .next (s.word d o eff) := by
  unfold wordCommand at hc
  split at hc <;> cases hc <;> exact ⟨_, fun _ => rfl⟩

/-- A word command on a ready device with no granted word of its instruction is the issue of the next word (07 R184). -/
theorem State.word_of_none_granted {s : State} {d : Nat} {o : Op} {r : Run} (hp : s.board.phase = .ready) (hr : s.run d = some r) (hk : r.keyPending = false)
    (hg : r.granted o = none) (eff : WordEffect) : s.word d o eff = s.issueNext d o eff := by
  rw [State.word, if_neg (by simp [hp]), State.drawHeaderKey_of_not_pending s d r hr hk]
  dsimp only
  rw [hr]
  dsimp only
  rw [hg]

-- The hanks that wait for permits.

/-- A hank whose permit request waits (11 R299). -/
def Run.waits (r : Run) : Run := { r with waitedPermit := true, budgetLimited := true }

/-- Where the Distaffs change in the marks of waiting hanks alone, a hank is as it was or marked. -/
theorem State.run_of_onlyWaits {s t : State} (h : s.onlyWaits t) {d : Nat} {r : Run} (hr : s.run d = some r) : t.run d = some r ∨ t.run d = some r.waits := by
  have hd := s.lt_of_run d r hr
  rw [State.run, vget_eq _ _ _ hd] at hr ⊢
  rcases h ⟨d, hd⟩ with he | he
  · exact .inl ((congrArg Distaff.run he).trans hr)
  · refine .inr ((congrArg Distaff.run he).trans ?_)
    exact (congrArg (Option.map Run.waits) hr)

/-- A walk over a queue of requests marks the hank of each one that waits, and marks no hank back. -/
theorem State.budgetLimited_of_waits {waits : Permit × Nat → Bool} {d : Nat} (l : List (Permit × Nat)) {t : State} {r : Run} (hr : t.run d = some r)
    (h : r.budgetLimited = true ∨ ∃ p ∈ l, p.1.distaff = d ∧ waits p = true) :
    ∃ q, (l.foldl (fun t p => if waits p then t.modRun p.1.distaff Run.waits else t) t).run d = some q ∧ q.budgetLimited = true := by
  induction l generalizing t r with
  | nil =>
    obtain h | ⟨p, hp, -⟩ := h
    · exact ⟨r, hr, h⟩
    · cases hp
  | cons p l ih =>
    rw [List.foldl_cons]
    by_cases hw : waits p = true
    · rw [if_pos hw]
      by_cases hd : p.1.distaff = d
      · subst hd
        exact ih (State.run_modRun_self t _ Run.waits r hr) (.inl rfl)
      · refine ih ((State.run_modRun_of_ne _ _ _ _ (Ne.symm hd)).trans hr) (h.imp_right ?_)
        rintro ⟨x, hx, hxd, hxw⟩
        obtain rfl | hx := List.mem_cons.1 hx
        · exact absurd hxd hd
        · exact ⟨x, hx, hxd, hxw⟩
    · rw [if_neg hw]
      refine ih hr (h.imp_right ?_)
      rintro ⟨x, hx, hxd, hxw⟩
      obtain rfl | hx := List.mem_cons.1 hx
      · exact absurd hxw hw
      · exact ⟨x, hx, hxd, hxw⟩

/-- A request that joins the queue behind others waits (11 R299). -/
theorem State.markWaits_behind {s : State} {d : Nat} {r : Run} (hr : s.run d = some r) {queue : List Permit} {p : Permit} (hq : s.steward.queue = queue ++ [p])
    (hne : queue ≠ []) (hd : p.distaff = d) : ∃ q, s.markWaits.run d = some q ∧ q.budgetLimited = true := by
  have hwalk : s.markWaits = s.steward.queue.zipIdx.foldl
      (fun t p => if !(decide (p.2 = 0) && s.grantable p.1.draw) then t.modRun p.1.distaff Run.waits else t) s := by
    unfold State.markWaits
    refine congrArg (fun f => List.foldl f s _) (funext fun t => funext fun p => ?_)
    cases decide (p.2 = 0) && s.grantable p.1.draw <;> rfl
  have hmem : (p, queue.length) ∈ s.steward.queue.zipIdx := by
    rw [hq, List.zipIdx_append]
    simp
  rw [hwalk]
  refine State.budgetLimited_of_waits _ hr (.inr ⟨_, hmem, hd, ?_⟩)
  have hpos : ¬ queue.length = 0 := fun h => hne (List.length_eq_zero_iff.1 h)
  simp [hpos]

/-- A word that needs permits, as it is issued: neither granted nor run. -/
def Issued.asked (k : Nat) : Issued := { index := k, granted := false, ran := false, noiseWait := false, noiseHeld := false, failure := none }

/-- A hank after the issue of its next word, which needs permits. -/
def Run.asks (r : Run) : Run := { r with next := r.next + 1, issued := r.issued ++ [Issued.asked r.next] }

theorem State.issueNext_asks {s : State} {d : Nat} {o : Op} {r : Run} {w : Nat} (hr : s.run d = some r) (hn : r.nextWord = some (o, w))
    (hc : s.canIssue r o w = true) (hd : requestDraw o w ≠ 0) (eff : WordEffect) :
    s.issueNext d o eff = (s.setRun d (some r.asks)).requestPermit d r.next (requestDraw o w) := by
  simp only [State.issueNext, hr, hn, hc, hd, decide_true, Bool.and_self, if_true, if_false, decide_false, State.modRun_eq_setRun s d _ r hr]
  rfl

/-- The word's request joins the end of the steward's queue; on the Distaffs the word is issued and those that wait are marked (07 R186; 11 R295, R299). -/
theorem State.requestPermit_marks (s : State) (d k draw : Nat) :
    (s.modSteward fun x => { x with queue := x.queue ++ [{ distaff := d, word := k, draw := draw }] }).marks (s.requestPermit d k draw) := State.markWaits_marks _

-- The order of a unit's queue.

/-- No word of an instruction is handed over while each granted one stands behind an earlier word that has not run (07 R184; 05 R135; 06 R159). -/
theorem Run.granted_eq_none {r : Run} {o : Op} (h : ∀ i ∈ r.issued, i.granted = true → i.ran = false → ∀ w, r.wordAt i.index = some (o, w) →
    ∃ j ∈ r.issued, j.index < i.index ∧ j.ran = false ∧ ∃ c, r.wordAt j.index = some c ∧ r.behind o w c = true) : r.granted o = none := by
  rw [Run.granted, List.find?_eq_none.2, Option.bind_none]
  intro i hi hp
  simp only [Bool.and_eq_true, Bool.not_eq_true'] at hp
  obtain ⟨⟨hg, hran⟩, hw⟩ := hp
  split at hw
  · rename_i c hc
    obtain ⟨rfl, hq⟩ : c.1 = o ∧ r.queueReady i.index o c.2 = true := by simpa using hw
    obtain ⟨j, hj, hlt, hjran, x, hx, hb⟩ := h i hi hg hran c.2 hc
    have := List.all_eq_true.1 hq j hj
    simp [hlt, hjran, hx, hb] at this
  · cases hw

theorem Run.behind_of_spindle (r : Run) {o p : Op} {w x u : Nat} (ho : u ∈ spindlesOf o w) (hp : u ∈ spindlesOf p x) : r.behind o w (p, x) = true := by
  have : ((spindlesOf o w).any fun u => (spindlesOf p x).contains u) = true := List.any_eq_true.2 ⟨u, ho, List.contains_iff_mem.2 hp⟩
  rw [Run.behind, this]
  rfl

/-- A drain of a split reduction stands behind a MAC.* of any of its parts (05 R135; 06 R159). -/
theorem Run.behind_of_part {r : Run} {o p : Op} {w x m : Nat} {q : Split} (ho : o.isDrain = true) (hp : p.isMac = true) (hacc : wAcc w = wAcc x) (hq : q ∈ r.splits)
    (hslot : q.slot = wAcc w) (hbase : q.base ∈ spindlesOf o w) (hm : m < q.parts) (hu : q.base + m ∈ spindlesOf p x) : r.behind o w (p, x) = true := by
  have hmine : q.base + m ∈ r.slotSpindles o w := by
    rw [Run.slotSpindles, if_pos ho]
    refine List.mem_append_right _ (List.mem_flatMap.2 ⟨q, List.mem_filter.2 ⟨hq, ?_⟩, List.mem_map.2 ⟨m, List.mem_range.2 hm, rfl⟩⟩)
    simp [hslot, hbase]
  have hshared : ((r.slotSpindles o w).any fun u => (r.slotSpindles p x).contains u) = true :=
    List.any_eq_true.2 ⟨_, hmine, List.contains_iff_mem.2 (List.mem_append_left _ hu)⟩
  rw [Run.behind, hshared]
  simp [Op.onSlot, ho, hp, hacc]

-- WORD_COMPLETE.

/-- The failure a hank has once a word of it is complete, and the uncorrectable read that decides a stopped one (07 R185; 13 R362). -/
def Run.completedEcc (r : Run) (w : Nat) (i : Issued) : Option (Nat × Failure) :=
  earlierFail ((i.failure.map fun f => (w, f)).filter fun f => f.2.status = stEcc) r.eccMet

/-- A hank whose word `w` is complete. -/
def Run.completes (r : Run) (w : Nat) (i : Issued) : Run :=
  { r with
    issued := r.issued.filter fun j => j.index ≠ w
    failure := if r.faultMet && (r.completedEcc w i).isSome then r.completedEcc w i else earlierFail (i.failure.map fun f => (w, f)) r.failure
    faulted := r.faulted && (r.completedEcc w i).isNone
    eccMet := r.completedEcc w i }

/-- The trees of the Spindles without the groups of a completed word. -/
def State.emptyTree (s : State) (d w : Nat) : State := { s with units := { s.units with tree := s.units.tree.filter fun e => !(e.distaff = d && e.word = w) } }

/-- The state with a completed word's hank, tree and permits, before the pick reservation is looked at again. -/
def State.completed (s : State) (d w : Nat) (r : Run) (i : Issued) : State := ((s.emptyTree d w).setRun d (some (r.completes w i))).returnPermit d w

theorem exec_wordComplete {s : State} {d : Fin 8} {w : Nat} {r : Run} {i : Issued} (hp : s.board.phase = .ready) (hr : s.run d = some r)
    (hi : r.issued.find? (fun j => j.index = w && j.ran) = some i) (hdrains : (s.units.drains.any fun x => x.distaff = d.val && x.word = w) = false) :
    exec (.wordComplete d w) s = .next (s.completed d w r i).refreshReservation := by
  change execWordComplete d w s = _
  unfold execWordComplete
  rw [hp, hr]
  dsimp only
  rw [hi]
  dsimp only
  rw [hdrains, if_neg Bool.false_ne_true]
  exact congrArg (fun t : State => Host.Outcome.next (t.returnPermit d w).refreshReservation) (State.modRun_eq_setRun (s.emptyTree d w) d _ r hr)

/-- The pick reservation may change, and the hanks that then wait are marked (11 R299 to R301). -/
theorem State.refreshReservation_marks (s : State) : ∃ c, ({ s with steward := { s.steward with reservation := c } } : State).marks s.refreshReservation := by
  have hset : ∀ c, ({ s with steward := { s.steward with reservation := c } } : State).marks { s with steward := { s.steward with reservation := c } } :=
    fun _ => ⟨rfl, fun _ => .inl rfl⟩
  unfold State.refreshReservation
  dsimp only
  split
  · split
    · exact ⟨none, hset _⟩
    · split
      · exact ⟨some _, State.markWaits_marks _⟩
      · exact ⟨_, hset s.steward.reservation⟩
  · exact ⟨none, hset _⟩
  · split
    · exact ⟨some _, State.markWaits_marks _⟩
    · exact ⟨_, hset s.steward.reservation⟩
  · exact ⟨_, hset s.steward.reservation⟩

theorem State.distaffs_setRun_of_ne (s : State) {d : Nat} (r : Option Run) (e : Fin 8) (h : e.val ≠ d) : (s.setRun d r).distaffs[e] = s.distaffs[e] := by
  have hget := vget_vmod s.distaffs s.distaffs[e] d e fun x => { x with run := r }
  rw [vget_eq _ _ _ e.isLt, vget_eq _ _ _ e.isLt, if_neg fun hd => h hd.1.symm] at hget
  exact hget

/-- The failure a hank has once a word has completed, with no unit fault met: the earlier of the two in the list (07 R185). -/
theorem Run.failure_completes {r : Run} (h : r.faultMet = false) (w : Nat) (i : Issued) :
    (i.failure = none → (r.completes w i).failure = r.failure) ∧ (∀ f, i.failure = some f → r.failure = none → (r.completes w i).failure = some (w, f)) ∧
      ∀ f v g, i.failure = some f → r.failure = some (v, g) → (r.completes w i).failure = if w < v then some (w, f) else some (v, g) := by
  have hfail : (r.completes w i).failure = earlierFail (i.failure.map fun f => (w, f)) r.failure := by simp [Run.completes, h]
  refine ⟨fun hi => ?_, fun f hi hr => ?_, fun f v g hi hr => ?_⟩ <;> rw [hfail, hi]
  · rfl
  · rw [hr]
    rfl
  · rw [hr]
    rfl

/-- The first uncorrectable read of a hank decides it alone once a unit fault has stopped it (13 R362). -/
theorem Run.ecc_completes {r : Run} {i : Issued} {f : Failure} (hi : i.failure = some f) (hf : f.status = 0x50) (hr : r.eccMet = none) (w : Nat) :
    (r.completes w i).faulted = false ∧ (r.faultMet = true → (r.completes w i).failure = some (w, f)) := by
  have hecc : r.completedEcc w i = some (w, f) := by
    rw [Run.completedEcc, hi, hr, Option.map_some, Option.filter_some_pos (by simp [hf, stEcc])]
    rfl
  exact ⟨by simp [Run.completes, hecc], fun hmet => by simp [Run.completes, hecc, hmet]⟩

/-- Settles O22: the issue joins the word and its request, the order of the queues is `Run.behind`, and a completion is `Run.completes`. -/
theorem wordsRequestAndReturnPermits : Obligations.WordsRequestAndReturnPermits := by
  refine ⟨fun s c d o r w hc hp hr hk hg hn hcan hdraw => ?_, fun s c d o r hc hp hr hk hbehind hn => ?_, fun s d w r i hp hr hi hdrains => ?_⟩
  · obtain ⟨eff, hexec⟩ := exec_of_wordCommand hc
    have hasks : (s.setRun d (some r.asks)).run d = some r.asks := State.run_setRun_self _ _ _ (s.lt_of_run d r hr)
    obtain ⟨hframe, hwaits⟩ := (s.setRun d (some r.asks)).requestPermit_marks d r.next (requestDraw o w)
    have hrun := State.run_of_onlyWaits hwaits hasks
    have ht : exec c s = .next ((s.setRun d (some r.asks)).requestPermit d r.next (requestDraw o w)) := by
      rw [hexec, State.word_of_none_granted hp hr hk hg, State.issueNext_asks hr hn hcan hdraw]
    have hlimited : s.steward.queue ≠ [] → ∃ q, ((s.setRun d (some r.asks)).requestPermit d r.next (requestDraw o w)).run d = some q ∧ q.budgetLimited = true :=
      fun hne => State.markWaits_behind (s := (s.setRun d (some r.asks)).modSteward _) hasks rfl hne rfl
    have hnew : ∃ q, ((s.setRun d (some r.asks)).requestPermit d r.next (requestDraw o w)).run d = some q ∧ q.next = r.next + 1 ∧
        q.issued = r.issued ++ [Issued.asked r.next] := by
      rcases hrun with h | h
      · exact ⟨_, h, rfl, rfl⟩
      · exact ⟨_, h, rfl, rfl⟩
    obtain ⟨q, hq, hnext, hissued⟩ := hnew
    refine ⟨_, q, ht, ?_, hq, hnext, hissued, ?_, fun e he => ?_, fun hne => ?_⟩
    · rw [hframe]
      rfl
    · rw [hframe]
      rfl
    · rw [← s.distaffs_setRun_of_ne (some r.asks) e he]
      exact hwaits e
    · obtain ⟨p, hp, hlim⟩ := hlimited hne
      cases hq.symm.trans hp
      exact hlim
  · obtain ⟨eff, hexec⟩ := exec_of_wordCommand hc
    have hg : r.granted o = none := by
      refine Run.granted_eq_none fun i hi hgi hran w hw => ?_
      obtain ⟨j, hj, hlt, hjran, p, x, hx, hwait⟩ := hbehind i hi hgi hran w hw
      refine ⟨j, hj, hlt, hjran, (p, x), hx, ?_⟩
      obtain ⟨u, ho, hpx⟩ | ⟨ho, hmac, hacc, q, hq, hslot, hbase, m, hm, hu⟩ := hwait
      · exact r.behind_of_spindle ho hpx
      · exact Run.behind_of_part ho hmac hacc hq hslot hbase hm hu
    rw [hexec, State.word_of_none_granted hp hr hk hg, State.issueNext, hr]
    dsimp only
    rw [hn]
  · have hdone : (s.completed d w r i).run d = some (r.completes w i) := State.run_setRun_self _ _ _ d.isLt
    obtain ⟨c, hframe, hwaits⟩ := (s.completed d w r i).refreshReservation_marks
    have hother : ∀ e : Fin 8, e ≠ d → (s.completed d w r i).distaffs[e] = s.distaffs[e] := fun e he =>
      (s.emptyTree d w).distaffs_setRun_of_ne (some (r.completes w i)) e fun hv => he (Fin.ext hv)
    have hnew : ∃ q, (s.completed d w r i).refreshReservation.run d = some q ∧ q.issued = (r.completes w i).issued ∧ q.failure = (r.completes w i).failure ∧
        q.faulted = (r.completes w i).faulted := by
      rcases State.run_of_onlyWaits hwaits hdone with h | h
      · exact ⟨_, h, rfl, rfl, rfl⟩
      · exact ⟨_, h, rfl, rfl, rfl⟩
    obtain ⟨q, hq, hissued, hfail, hfault⟩ := hnew
    refine ⟨_, q, exec_wordComplete hp hr hi hdrains, ?_, hq, hissued, fun e he => ?_, ?_, ?_, ?_, fun hmet => ?_, fun f hf hecc hnone => ?_⟩
    · rw [hframe]
      rfl
    · rw [← hother e he]
      exact hwaits e
    · rw [hframe]
      rfl
    · rw [hframe]
      rfl
    · rw [hframe]
      rfl
    · rw [hfail]
      exact Run.failure_completes hmet w i
    · rw [hfail, hfault]
      exact Run.ecc_completes hf hecc hnone w

end Sys2Proof.Machine
end

section
/-!
PROOF. ABORT (O14): what it leaves alone, what becomes of the hanks of the ring's list, and what becomes of the hanks in execution.
-/
namespace Sys2Proof.Machine

-- What an ABORT leaves alone.

/-- The state but for what an ABORT may write: the rings, the steward, the output, the Distaffs, the memories and the anneal run. -/
def State.besideAbort (s : State) : State :=
  { s with rings := State.reset.rings, steward := State.reset.steward, out := State.reset.out, distaffs := State.reset.distaffs, mem := State.reset.mem,
           anneal := State.reset.anneal }

theorem State.eq_of_besideAbort {s t : State} (h : t.besideAbort = s.besideAbort) :
    t = { s with rings := t.rings, steward := t.steward, out := t.out, distaffs := t.distaffs, mem := t.mem, anneal := t.anneal } :=
  congrArg (fun b : State => { b with rings := t.rings, steward := t.steward, out := t.out, distaffs := t.distaffs, mem := t.mem, anneal := t.anneal }) h

theorem State.besideAbort_cutSave (s : State) (d : Nat) (q : Run) : (s.cutSave d q).besideAbort = s.besideAbort := by
  unfold State.cutSave
  split
  · rw [State.writeBuf_eq]
    rfl
  · rfl

theorem State.besideAbort_stopSave (s : State) (d : Nat) (q : Run) : (s.stopSave d q).besideAbort = s.besideAbort := s.besideAbort_cutSave d q

theorem State.besideAbort_stopSaves (s : State) (r seq : Nat) : (s.stopSaves r seq).besideAbort = s.besideAbort := by
  refine foldl_keeps State.besideAbort _ (fun t d => ?_) _ s
  split
  · split
    · exact t.besideAbort_stopSave d _
    · rfl
  · rfl

theorem State.rings_stopSaves (s : State) (r seq : Nat) : (s.stopSaves r seq).rings = s.rings := by
  refine foldl_keeps State.rings _ (fun t d => ?_) _ s
  split
  · split
    · unfold State.stopSave State.cutSave
      dsimp only
      split
      · rw [State.writeBuf_eq]
        rfl
      · rfl
    · rfl
  · rfl

-- A hank in execution.

/-- The hank that a stop of ring `r` and sequence number `seq` leaves on a Distaff before its waits are looked at (09 R262). -/
def Run.stopAt (q : Run) (r seq : Nat) : Run := if q.ring = r && q.seq = seq then q.abort cHost else q

/-- A stopped hank's waits without limit end. -/
def Run.endWaits (q : Run) : Run := if q.aborted.isNone then q else { q with issued := q.issued.filter fun i => !q.endless i }

/-- A stopped hank's saves end at once (12 R338). -/
def Run.endSaves (q : Run) (r seq : Nat) : Run :=
  if q.ring = r && q.seq = seq && q.aborted.isSome then
    { q with saving := false, issued := q.issued.map fun i => if q.saves i then { i with ran := true } else i }
  else q

/-- What the abort of one hank in execution makes of the hank on a Distaff. -/
def Run.stopped (r seq : Nat) (q : Run) : Run := ((q.stopAt r seq).endWaits).endSaves r seq

/-- A Distaff by number. -/
def State.seat (s : State) (d : Nat) : Distaff := vget s.distaffs { inService := false, run := none } d

/-- A Distaff whose hank is changed. -/
def Distaff.onRun (f : Run → Run) (x : Distaff) : Distaff := { x with run := x.run.map f }

theorem State.seat_modRun (s : State) (d e : Nat) (f : Run → Run) : (s.modRun d f).seat e = if d = e ∧ d < 8 then (s.seat e).onRun f else s.seat e :=
  vget_vmod _ _ _ _ _

/-- A walk over the Distaffs that changes the hank of each in turn changes the hank of every one. -/
theorem State.seat_walk {g : State → Nat → State} {f : Run → Run} (hg : ∀ s d e, d < 8 → (g s d).seat e = if d = e then (s.seat e).onRun f else s.seat e)
    (s : State) {e : Nat} (he : e < 8) : ((List.range 8).foldl g s).seat e = (s.seat e).onRun f := by
  have hwalk : ∀ (l : List Nat) (t : State), l.Nodup → (∀ d ∈ l, d < 8) → (l.foldl g t).seat e = if e ∈ l then (t.seat e).onRun f else t.seat e := by
    intro l
    induction l with
    | nil => exact fun t _ _ => rfl
    | cons d l ih =>
      intro t hn hl
      obtain ⟨hd, hn⟩ := List.nodup_cons.1 hn
      rw [List.foldl_cons, ih _ hn fun x hx => hl x (List.mem_cons_of_mem _ hx), hg t d e (hl d List.mem_cons_self)]
      by_cases h : d = e
      · subst h
        simp [hd]
      · simp [h, Ne.symm h]
  rw [hwalk _ s List.nodup_range fun d hd => List.mem_range.1 hd, if_pos (List.mem_range.2 he)]

theorem State.seat_endWaits (s : State) {e : Nat} (he : e < 8) : ((List.range 8).foldl (fun s d => State.endWaits s d) s).seat e = (s.seat e).onRun Run.endWaits :=
  State.seat_walk (fun s d e hd => (s.seat_modRun d e Run.endWaits).trans (by simp [hd])) s he

theorem State.seat_stopSave (s : State) (d : Nat) (q : Run) (e : Nat) :
    (s.stopSave d q).seat e = (s.modRun d fun p => { p with saving := false, issued := p.issued.map fun i => if q.saves i then { i with ran := true } else i }).seat e := by
  unfold State.stopSave State.cutSave
  dsimp only
  split
  · rw [State.writeBuf_eq]
    rfl
  · rfl

theorem State.seat_stopSaves (s : State) (r seq : Nat) {e : Nat} (he : e < 8) : (s.stopSaves r seq).seat e = (s.seat e).onRun fun q => q.endSaves r seq := by
  refine State.seat_walk (fun s d e hd => ?_) s he
  have hrun : s.run d = (s.seat d).run := rfl
  rw [hrun]
  split
  · rename_i q hq
    split
    · rename_i hc
      rw [State.seat_stopSave, State.seat_modRun]
      by_cases h : d = e
      · subst h
        simp only [hd, and_self, if_true, Distaff.onRun, hq, Option.map_some, Run.endSaves, hc]
        rfl
      · simp [h]
    · rename_i hc
      by_cases h : d = e
      · subst h
        simp only [if_true, Distaff.onRun, hq, Option.map_some, Run.endSaves, hc, Bool.false_eq_true, if_false]
        rw [← hq]
      · simp [h]
  · rename_i hq
    by_cases h : d = e
    · subst h
      simp only [if_true, Distaff.onRun, hq, Option.map_none]
      rw [← hq]
    · simp [h]

/-- The abort of one hank as the hank on a Distaff meets it. -/
def Distaff.abort (r : Nat) (x : Distaff) (h : Hank) : Distaff := if h.stage = .running then x.onRun (Run.stopped r h.seq) else x

theorem State.seat_abortHank (s : State) (r : Nat) (h : Hank) {e : Nat} (he : e < 8) : (s.abortHank r cHost h).seat e = Distaff.abort r (s.seat e) h := by
  unfold State.abortHank Distaff.abort
  cases h.stage with
  | running =>
    have hstop : ({ s with distaffs := s.distaffs.map fun (d : Distaff) => { d with run := d.run.map fun q => if q.ring = r && q.seq = h.seq then q.abort cHost else q } } :
        State).seat e = (s.seat e).onRun fun q => q.stopAt r h.seq := by
      simp only [State.seat, vget_eq _ _ _ he, Vector.getElem_map]
      rfl
    simp only [if_true]
    have hf : ¬ (cHost = cFlr) := by decide
    simp only [hf, if_false]
    rw [State.seat_stopSaves _ _ _ he, State.seat_endWaits _ he, hstop]
    simp only [Distaff.onRun, Option.map_map]
    rfl
  | accepted => rfl
  | waiting => rfl
  | picked => rfl
  | finished => rfl

theorem State.seat_abortHanks (r : Nat) (hs : List Hank) (s : State) {e : Nat} (he : e < 8) :
    (hs.foldl (fun s h => s.abortHank r cHost h) s).seat e = hs.foldl (Distaff.abort r) (s.seat e) := by
  induction hs generalizing s with
  | nil => rfl
  | cons h hs ih => rw [List.foldl_cons, List.foldl_cons, ih, State.seat_abortHank s r h he]

theorem Run.stopped_of_ne {r seq : Nat} {q : Run} (h : ¬(q.ring = r ∧ q.seq = seq)) : Run.stopped r seq q = q.endWaits := by
  have hstop : q.stopAt r seq = q := if_neg (by simpa using h)
  have hkey : q.endWaits.ring = q.ring ∧ q.endWaits.seq = q.seq := by
    unfold Run.endWaits
    split <;> exact ⟨rfl, rfl⟩
  rw [Run.stopped, hstop, Run.endSaves, if_neg]
  rw [hkey.1, hkey.2]
  simpa using fun hr hq => absurd ⟨hr, hq⟩ h

/-- An abort of another hank leaves a Distaff whose hank is not stopped. -/
theorem Distaff.abort_of_other {r : Nat} {x : Distaff} (hs : List Hank) (h : ∀ q, x.run = some q → q.aborted = none ∧ ∀ g ∈ hs, ¬(q.ring = r ∧ q.seq = g.seq)) :
    hs.foldl (Distaff.abort r) x = x := by
  induction hs with
  | nil => rfl
  | cons g hs ih =>
    have hone : Distaff.abort r x g = x := by
      unfold Distaff.abort
      split
      · cases hx : x.run with
        | none => rw [Distaff.onRun, hx, Option.map_none, ← hx]
        | some q =>
          obtain ⟨ha, hg⟩ := h q hx
          rw [Distaff.onRun, hx, Option.map_some, Run.stopped_of_ne (hg g List.mem_cons_self), Run.endWaits, ha, Option.isNone_none, if_pos rfl, ← hx]
      · rfl
    rw [List.foldl_cons, hone]
    exact ih fun q hq => ⟨(h q hq).1, fun g hg => (h q hq).2 g (List.mem_cons_of_mem _ hg)⟩

/-- The words that an abort leaves issued, by index and grant: all but those that wait without limit (log 19). -/
def Run.leftIssued (q : Run) : List (Nat × Bool) := (q.issued.filter fun i => !q.endless i).map fun i => (i.index, i.granted)

/-- The hank `p` is what an ABORT leaves of the hank `q` in execution (09 R262). -/
structure Run.HaltsTo (q p : Run) : Prop where
  ring : p.ring = q.ring
  seq : p.seq = q.seq
  next : p.next = q.next
  words : p.words = q.words
  failure : p.failure = q.failure
  noHost : p.noHost = q.noHost
  finished : q.ended = true ∧ q.aborted = none → p.aborted = none ∧ p.issued = q.issued
  stopped : ¬(q.ended = true ∧ q.aborted = none) → p.aborted = some (q.aborted.getD 0x01) ∧ p.issued.map (fun i => (i.index, i.granted)) = q.leftIssued ∧
    ∀ i ∈ p.issued, p.endless i = false

theorem Run.endless_congr {p q : Run} (h : p.words = q.words) (i : Issued) : p.endless i = q.endless i := by rw [Run.endless, Run.wordAt, h]; rfl

/-- Ending the waits of a hank that has been halted changes nothing more. -/
theorem Run.HaltsTo.endWaits {q p : Run} (h : q.HaltsTo p) : q.HaltsTo p.endWaits := by
  unfold Run.endWaits
  split
  · exact h
  · rename_i ha
    have hkeep : ¬(q.ended = true ∧ q.aborted = none) := fun hc => ha (by rw [(h.finished hc).1]; rfl)
    have hsame : p.issued.filter (fun i => !p.endless i) = p.issued := List.filter_eq_self.2 fun i hi => by rw [(h.stopped hkeep).2.2 i hi]; rfl
    rw [hsame]
    exact h

/-- A hank whose waits have been ended halts as the hank it was. -/
theorem Run.HaltsTo.of_endWaits {q p : Run} (h : q.endWaits.HaltsTo p) : q.HaltsTo p := by
  unfold Run.endWaits at h
  split at h
  · exact h
  · rename_i ha
    have hnot : ¬(q.ended = true ∧ q.aborted = none) := fun hc => ha (by rw [hc.2]; rfl)
    obtain ⟨haborted, hissued, hends⟩ := h.stopped fun hc => ha (by rw [hc.2]; rfl)
    refine ⟨h.ring, h.seq, h.next, h.words, h.failure, h.noHost, fun hc => absurd hc hnot, fun _ => ⟨haborted, ?_, hends⟩⟩
    rw [hissued]
    simp only [Run.leftIssued, List.filter_filter]
    refine congrArg _ (List.filter_congr fun i _ => ?_)
    rw [Run.endless_congr (p := { q with issued := q.issued.filter fun i => !q.endless i }) (q := q) rfl, Bool.and_self]

theorem Run.endless_ran (q : Run) (i : Issued) : q.endless { i with ran := true } = false := rfl

/-- The abort of a hank in execution halts it. -/
theorem Run.haltsTo_stopped (q : Run) : q.HaltsTo (Run.stopped q.ring q.seq q) := by
  by_cases hc : q.ended = true ∧ q.aborted = none
  · have hstop : q.stopAt q.ring q.seq = q := by simp [Run.stopAt, Run.abort, cHost, cFlr, hc.1]
    have hends : q.endWaits = q := if_pos (by rw [hc.2]; rfl)
    have hsame : Run.stopped q.ring q.seq q = q := by
      rw [Run.stopped, hstop, hends, Run.endSaves, if_neg (by simp [hc.2])]
    rw [hsame]
    exact ⟨rfl, rfl, rfl, rfl, rfl, rfl, fun _ => ⟨hc.2, rfl⟩, fun h => absurd hc h⟩
  · have hstop : ∃ f, q.stopAt q.ring q.seq = { q with aborted := some (q.aborted.getD 0x01), faulted := f } := by
      rw [Run.stopAt, if_pos (by simp), Run.abort, if_neg (by decide)]
      cases ha : q.aborted with
      | some c => exact ⟨q.faulted, by rw [if_pos (by simp), Option.getD_some, ← ha]⟩
      | none => exact ⟨false, if_neg (by simpa [ha] using hc)⟩
    obtain ⟨f, hstop⟩ := hstop
    have hends : Run.stopped q.ring q.seq q = { q with
        aborted := some (q.aborted.getD 0x01), faulted := f, saving := false,
        issued := (q.issued.filter fun i => !q.endless i).map fun i => if q.saves i then { i with ran := true } else i } := by
      rw [Run.stopped, hstop, Run.endWaits, if_neg (by simp), Run.endSaves, if_pos (by simp)]
      rfl
    rw [hends]
    refine ⟨rfl, rfl, rfl, rfl, rfl, rfl, fun h => absurd h hc, fun _ => ⟨rfl, ?_, fun i hi => ?_⟩⟩
    · rw [List.map_map]
      refine List.map_congr_left fun i _ => ?_
      rw [Function.comp_apply]
      split <;> rfl
    · obtain ⟨y, hy, rfl⟩ := List.mem_map.1 hi
      refine (Run.endless_congr (q := q) rfl _).trans ?_
      split
      · exact q.endless_ran y
      · simpa using (List.mem_filter.1 hy).2

/-- A mark on a hank that waits for permits is no part of how it was halted. -/
theorem Run.HaltsTo.waits {q p : Run} (h : q.HaltsTo p) : q.HaltsTo p.waits :=
  ⟨h.ring, h.seq, h.next, h.words, h.failure, h.noHost, h.finished, h.stopped⟩

theorem Run.HaltsTo.left {q p : Run} (h : q.HaltsTo p) : p.next = q.next ∧ p.words = q.words ∧ p.failure = q.failure ∧ p.noHost = q.noHost ∧
    if q.ended = true ∧ q.aborted = none then p.aborted = none ∧ p.issued = q.issued
    else p.aborted = some (q.aborted.getD 0x01) ∧ p.issued.map (fun i => (i.index, i.granted)) = q.leftIssued := by
  refine ⟨h.next, h.words, h.failure, h.noHost, ?_⟩
  split
  · rename_i hc
    exact h.finished hc
  · rename_i hc
    exact ⟨(h.stopped hc).1, (h.stopped hc).2.1⟩

-- The hanks of the ring's list.

/-- What an ABORT makes of a hank of the ring's list that it reaches (09 R262). -/
structure Hank.AbortsTo (h g : Hank) : Prop where
  accepted : h.stage = .accepted → g = { h with abortWith := some 0x01 }
  waiting : h.stage = .waiting → g.seq = h.seq ∧ g.stage = .finished ∧
    (g.ending.map fun e => (e.status, e.cause, e.evRef, e.distaff, e.silent)) = some (0xF0, 0x01, 0, 0xFF, false)
  picked : h.stage = .picked → g = { h with abortWith := some (h.abortWith.getD 0x01) }
  kept : h.stage = .running ∨ h.stage = .finished → g = h

theorem vmod_of_lt {α : Type} {n : Nat} (v : Vector α n) {i : Nat} (h : i < n) (f : α → α) : vmod v i f = v.set i (f v[i]) h := by
  simp [vmod, h, Vector.setIfInBounds, Vector.set, Array.setIfInBounds]

theorem vmod_id {α : Type} {n : Nat} (v : Vector α n) (i : Nat) : vmod v i id = v := by
  by_cases h : i < n
  · rw [vmod_of_lt v h, id, Vector.set_getElem_self]
  · simp [vmod, h]

theorem vmod_vmod {α : Type} {n : Nat} (v : Vector α n) (i : Nat) (f g : α → α) : vmod (vmod v i f) i g = vmod v i (g ∘ f) := by
  by_cases h : i < n
  · rw [vmod_of_lt v h, vmod_of_lt _ h, vmod_of_lt v h, Vector.getElem_set_self, Vector.set_set, Function.comp_apply]
  · simp [vmod, h]

theorem getElem_vmod_of_ne {α : Type} {n : Nat} (v : Vector α n) {i j : Nat} (f : α → α) (hj : j < n) (h : i ≠ j) : (vmod v i f)[j] = v[j] := by
  have hget := vget_vmod v v[j] i j f
  rwa [vget_eq _ _ _ hj, vget_eq _ _ _ hj, if_neg fun hd => h hd.1] at hget

/-- A ring whose hanks are changed. -/
def Ring.onHanks (f : Hank → Hank) (x : Ring) : Ring := { x with hanks := x.hanks.map f }

theorem Ring.onHanks_id : Ring.onHanks id = id := funext fun x => by rw [Ring.onHanks, List.map_id, id]

theorem Ring.onHanks_comp (f g : Hank → Hank) : Ring.onHanks g ∘ Ring.onHanks f = Ring.onHanks (g ∘ f) :=
  funext fun x => by rw [Function.comp_apply, Ring.onHanks, Ring.onHanks, List.map_map, Ring.onHanks]

/-- A change of the hanks of one sequence number. -/
def Hank.only (seq : Nat) (f : Hank → Hank) (y : Hank) : Hank := if y.seq = seq then f y else y

theorem Hank.only_id (seq : Nat) : Hank.only seq id = id := funext fun _ => ite_self _

/-- The abort of one hank beside the Distaffs: the ring's hanks of its sequence number change as the rule says, and no other ring does. -/
theorem State.abortHank_rings (s : State) (r : Nat) (h : Hank) : ∃ f : Hank → Hank, (∀ y, (f y).seq = y.seq) ∧ h.AbortsTo (f h) ∧
    (s.abortHank r cHost h).rings = vmod s.rings r (Ring.onHanks (Hank.only h.seq f)) := by
  have hself : s.rings = vmod s.rings r (Ring.onHanks (Hank.only h.seq id)) := by rw [Hank.only_id, Ring.onHanks_id, vmod_id]
  obtain ⟨seq, stage, entry, ceiling, noIrq, wasPicked, signalled, abortWith, ending⟩ := h
  cases stage with
  | accepted => exact ⟨fun y => { y with abortWith := some 0x01 }, fun _ => rfl, ⟨fun _ => rfl, nofun, nofun, by simp⟩, rfl⟩
  | waiting => exact ⟨fun y => { y with stage := .finished, ending := some _ }, fun _ => rfl, ⟨nofun, fun _ => ⟨rfl, rfl, rfl⟩, nofun, by simp⟩, rfl⟩
  | picked => exact ⟨fun y => { y with abortWith := some (y.abortWith.getD 0x01) }, fun _ => rfl, ⟨nofun, nofun, fun _ => rfl, by simp⟩, rfl⟩
  | running =>
    refine ⟨id, fun _ => rfl, ⟨nofun, nofun, nofun, fun _ => rfl⟩, Eq.trans ?_ hself⟩
    unfold State.abortHank
    dsimp only
    rw [if_neg (by decide), State.rings_stopSaves]
    exact foldl_keeps State.rings (fun s d => State.endWaits s d) (fun _ _ => rfl) _ _
  | finished => exact ⟨id, fun _ => rfl, ⟨nofun, nofun, nofun, fun _ => rfl⟩, hself⟩

/-- The ABORT of a set of hanks, each named once, beside the Distaffs: every one of them changes as the rule says, and no other hank or ring does. -/
theorem State.abortHanks_rings (r : Nat) (hs : List Hank) (hn : (hs.map fun h => h.seq).Nodup) (s : State) : ∃ f : Hank → Hank,
    (∀ y, (f y).seq = y.seq) ∧ (∀ h ∈ hs, h.AbortsTo (f h)) ∧ (∀ y, (∀ h ∈ hs, y.seq ≠ h.seq) → f y = y) ∧
    (hs.foldl (fun s h => s.abortHank r cHost h) s).rings = vmod s.rings r (Ring.onHanks f) := by
  induction hs generalizing s with
  | nil => exact ⟨id, fun _ => rfl, fun _ h => (List.not_mem_nil h).elim, fun _ _ => rfl, by rw [Ring.onHanks_id, vmod_id]; rfl⟩
  | cons h hs ih =>
    rw [List.map_cons, List.nodup_cons] at hn
    obtain ⟨hnew, hn⟩ := hn
    obtain ⟨f, hseq, hto, hrings⟩ := s.abortHank_rings r h
    obtain ⟨g, gseq, gto, gid, grings⟩ := ih hn (s.abortHank r cHost h)
    have hdone : ∀ y : Hank, y.seq = h.seq → g y = y := fun y hy => gid y fun x hx he => hnew (List.mem_map.2 ⟨x, hx, (he.symm.trans hy)⟩)
    have hmine : ∀ y : Hank, y.seq = h.seq → g (Hank.only h.seq f y) = f y := fun y hy => by
      rw [Hank.only, if_pos hy, hdone _ ((hseq y).trans hy)]
    have hother : ∀ y : Hank, y.seq ≠ h.seq → g (Hank.only h.seq f y) = g y := fun y hy => by rw [Hank.only, if_neg hy]
    refine ⟨g ∘ Hank.only h.seq f, fun y => ?_, fun x hx => ?_, fun y hy => ?_, ?_⟩
    · by_cases hy : y.seq = h.seq
      · exact (congrArg Hank.seq (hmine y hy)).trans (hseq y)
      · exact (congrArg Hank.seq (hother y hy)).trans (gseq y)
    · obtain rfl | hx := List.mem_cons.1 hx
      · rw [Function.comp_apply, hmine x rfl]
        exact hto
      · rw [Function.comp_apply, hother x fun he => hnew (List.mem_map.2 ⟨x, hx, he⟩)]
        exact gto x hx
    · exact (hother y (hy h List.mem_cons_self)).trans (gid y fun x hx => hy x (List.mem_cons_of_mem _ hx))
    · rw [List.foldl_cons, grings, hrings, vmod_vmod, Ring.onHanks_comp]

-- ABORT.

theorem State.besideAbort_abortHank (s : State) (r : Nat) (h : Hank) : (s.abortHank r cHost h).besideAbort = s.besideAbort := by
  obtain ⟨seq, stage, entry, ceiling, noIrq, wasPicked, signalled, abortWith, ending⟩ := h
  cases stage with
  | running =>
    unfold State.abortHank
    dsimp only
    rw [if_neg (by decide), State.besideAbort_stopSaves]
    exact foldl_keeps State.besideAbort (fun s d => State.endWaits s d) (fun _ _ => rfl) _ _
  | _ => rfl

/-- The hanks of a ring's list that a write of ABORT names. -/
def Ring.named (x : Ring) (v : Nat) : List Hank := x.hanks.filter fun h => h.seq = v % 2 ^ 48 || (bit v 63 && decide (v % 2 ^ 48 < h.seq))

theorem Ring.mem_named {x : Ring} {v : Nat} (hv : v < 2 ^ 64) {h : Hank} : h ∈ x.named v ↔ h ∈ x.hanks ∧ (h.seq = v % 2 ^ 48 ∨ (2 ^ 63 ≤ v ∧ v % 2 ^ 48 < h.seq)) := by
  have hbit : bit v 63 = true ↔ 2 ^ 63 ≤ v := by
    rw [bit, decide_eq_true_eq, bits]
    omega
  simp only [Ring.named, List.mem_filter, Bool.or_eq_true, Bool.and_eq_true, decide_eq_true_eq, hbit]

theorem Run.endWaits_key (q : Run) : q.endWaits.ring = q.ring ∧ q.endWaits.seq = q.seq := by
  unfold Run.endWaits
  split <;> exact ⟨rfl, rfl⟩

/-- The abort of another hank of the ring at most ends the waits of the hank on a Distaff, which an abort would have ended. -/
theorem Distaff.abort_other {r : Nat} {x : Distaff} {q : Run} (hx : x.run = some q) {g : Hank} (hg : q.seq ≠ g.seq) :
    (Distaff.abort r x g).run = some q ∨ (Distaff.abort r x g).run = some q.endWaits := by
  unfold Distaff.abort
  split
  · rw [Distaff.onRun, hx, Option.map_some, Run.stopped_of_ne fun h => hg h.2]
    exact .inr rfl
  · exact .inl hx

/-- A halted hank stays halted by the aborts of others. -/
theorem Distaff.aborts_halted {r : Nat} {q : Run} (hs : List Hank) {x : Distaff} {p : Run} (hx : x.run = some p) (hp : q.HaltsTo p) (hout : ∀ g ∈ hs, q.seq ≠ g.seq) :
    ∃ p, (hs.foldl (Distaff.abort r) x).run = some p ∧ q.HaltsTo p := by
  induction hs generalizing x p with
  | nil => exact ⟨p, hx, hp⟩
  | cons g hs ih =>
    have hrest := fun y hy => hout y (List.mem_cons_of_mem g hy)
    rcases Distaff.abort_other (r := r) hx (hp.seq ▸ hout g List.mem_cons_self) with h | h
    · exact ih h hp hrest
    · exact ih h hp.endWaits hrest

/-- The hank on a Distaff that an ABORT reaches is halted, whatever hanks it reaches before and after. -/
theorem Distaff.aborts_halt {r : Nat} (hs : List Hank) (hn : (hs.map fun h => h.seq).Nodup) {h : Hank} (hmem : h ∈ hs) (hstage : h.stage = .running) {x : Distaff}
    {q : Run} (hx : x.run = some q) (hring : q.ring = r) (hseq : q.seq = h.seq) : ∃ p, (hs.foldl (Distaff.abort r) x).run = some p ∧ q.HaltsTo p := by
  induction hs generalizing x q with
  | nil => cases hmem
  | cons g hs ih =>
    rw [List.map_cons, List.nodup_cons] at hn
    obtain ⟨hnew, hn⟩ := hn
    rw [List.foldl_cons]
    obtain rfl | hmem := List.mem_cons.1 hmem
    · have hstop : (Distaff.abort r x h).run = some (Run.stopped q.ring q.seq q) := by
        rw [Distaff.abort, if_pos hstage, Distaff.onRun, hx, Option.map_some, hring, hseq]
      exact Distaff.aborts_halted hs hstop q.haltsTo_stopped fun y hy he => hnew (List.mem_map.2 ⟨y, hy, he.symm.trans hseq⟩)
    · have hne : q.seq ≠ g.seq := fun he => hnew (List.mem_map.2 ⟨h, hmem, hseq.symm.trans he⟩)
      rcases Distaff.abort_other (r := r) hx hne with hg | hg
      · exact ih hn hmem hg hring hseq
      · obtain ⟨p, hp, hto⟩ := ih hn hmem hg (q.endWaits_key.1.trans hring) (q.endWaits_key.2.trans hseq)
        exact ⟨p, hp, hto.of_endWaits⟩

/-- Settles O14: a hank of the ring's list is aborted by its stage, one in execution is halted, and the rest of the device stays. -/
theorem abortFinishesAWaitingHank : Obligations.AbortFinishesAWaitingHank := by
  intro s fn r v hreach x seq hit
  have hexec : ∀ wide, exec (.abort fn r wide v) s = .next (if wide then s.abort fn r v.toNat else s) := fun _ => rfl
  refine ⟨hexec false, fun hp => ?_, fun hp hout => ?_, fun hp hlo hhi hn => ?_⟩
  · rw [hexec, if_pos rfl, State.abort, if_pos (by simp [hp])]
  · rw [hexec, if_pos rfl, State.abort, if_pos (by simpa [or_assoc] using .inr (.inr hout))]
  · have habort : exec (.abort fn r true v) s = .next (((x.named v.toNat).foldl (fun s h => s.abortHank r cHost h) s).refreshReservation) := by
      rw [hexec, if_pos rfl, State.abort, if_neg]
      · rfl
      · rw [hreach, hp]
        simpa using ⟨hlo, hhi⟩
    have hnamed : ((x.named v.toNat).map fun h => h.seq).Nodup := hn.sublist (List.filter_sublist.map _)
    have hmem : ∀ h, h ∈ x.named v.toNat ↔ h ∈ x.hanks ∧ hit h := fun h => Ring.mem_named v.isLt
    obtain ⟨f, fseq, fto, fid, hrings⟩ := State.abortHanks_rings r (x.named v.toNat) hnamed s
    have hbeside : ((x.named v.toNat).foldl (fun s h => s.abortHank r cHost h) s).besideAbort = s.besideAbort :=
      foldl_keeps State.besideAbort _ (fun s h => s.besideAbort_abortHank r h) _ _
    have hseat := fun (d : Fin 8) => State.seat_abortHanks r (x.named v.toNat) s d.isLt
    have hrun := fun (d : Nat) (q : Run) (hq : s.run d = some q) =>
      congrArg Distaff.run (State.seat_abortHanks r (x.named v.toNat) s (s.lt_of_run d q hq))
    generalize (x.named v.toNat).foldl (fun s h => s.abortHank r cHost h) s = u at *
    obtain ⟨c, hframe, hwaits⟩ := u.refreshReservation_marks
    have hr : u.refreshReservation.rings = vmod s.rings r (Ring.onHanks f) := by
      rw [hframe]
      exact hrings
    have hring : u.refreshReservation.ring r = x.onHanks f := by
      rw [State.ring, hr, vget_vmod, if_pos ⟨rfl, r.isLt⟩]
      rfl
    have hin : ∀ h ∈ x.hanks, f h ∈ (u.refreshReservation.ring r).hanks := fun h hh => by
      rw [hring]
      exact List.mem_map_of_mem hh
    refine ⟨_, habort, State.eq_of_besideAbort (by rw [hframe]; exact hbeside), fun k hk => ?_, ?_, ?_, fun h hh => ⟨fun hkeep => ?_, fun ht hst => ?_, fun ht hst => ?_,
      fun ht hst => ?_, fun ht hst d q hq hqr hqs => ?_⟩, fun d hd => ?_⟩
    · simp only [Fin.getElem_fin, hr]
      exact getElem_vmod_of_ne _ (Ring.onHanks f) k.isLt fun h => hk (Fin.ext h.symm)
    · rw [hring]
      rfl
    · rw [hring, Ring.onHanks, List.map_map]
      exact List.map_congr_left fun y _ => fseq y
    · have hsame : f h = h := by
        by_cases ht : hit h
        · exact (fto h ((hmem h).2 ⟨hh, ht⟩)).kept (hkeep.resolve_left (not_not_intro ht))
        · refine fid h fun g hg he => ht ?_
          have := ((hmem g).1 hg).2
          simp only [hit, ← he] at this
          exact this
      exact hsame ▸ hin h hh
    · exact ⟨f h, hin h hh, (fto h ((hmem h).2 ⟨hh, ht⟩)).waiting hst⟩
    · rw [← (fto h ((hmem h).2 ⟨hh, ht⟩)).accepted hst]
      exact hin h hh
    · rw [← (fto h ((hmem h).2 ⟨hh, ht⟩)).picked hst]
      exact hin h hh
    · obtain ⟨p, hp, hto⟩ := Distaff.aborts_halt (x.named v.toNat) hnamed ((hmem h).2 ⟨hh, ht⟩) hst (x := s.seat d) hq hqr hqs
      rcases State.run_of_onlyWaits hwaits ((hrun d q hq).trans hp) with hend | hend
      · exact ⟨_, hend, hto.left⟩
      · exact ⟨_, hend, hto.waits.left⟩
    · have hsame : u.distaffs[d] = s.distaffs[d] := by
        have hstay : u.seat d = s.seat d := (hseat d).trans (Distaff.abort_of_other _ fun q hq => ⟨(hd q hq).1, fun g hg => (hd q hq).2 g ((hmem g).1 hg).1 ((hmem g).1 hg).2⟩)
        simp only [State.seat, vget_eq _ _ _ d.isLt] at hstay
        exact hstay
      rw [← hsame]
      exact hwaits d

end Sys2Proof.Machine
end

section
/-!
PROOF. WAIT.SEQ and its timeout (O25): the word's effect by what the awaited hank has done, and the count of the hank that the timeout rejects.
-/
namespace Sys2Proof.Machine

/-- Words are handed to their units on a ready device alone. -/
theorem State.atUnits_ready {s s0 : State} {d : Nat} {o : Op} {r : Run} {k w : Nat} (h : s.atUnits d o = some (s0, r, k, w)) : s.board.phase = .ready := by
  unfold State.atUnits at h
  split at h
  · assumption
  · cases h

/-- What a hank has signalled does not depend on the Distaffs. -/
theorem State.Handed.awaited {s s0 : State} {d k : Nat} {r : Run} (h : s.Handed s0 d r k) (ring seq stage : Nat) : s0.awaited ring seq stage = s.awaited ring seq stage := by
  rw [State.awaited, State.ring, h.frame]
  rfl

/-- A word that ends in ABORTED stops its hank with one record and its count; memory, units and rings stay. -/
theorem State.failWord_frame (s : State) (ring seq k status cause : Nat) : (s.failWord ring seq k status cause).1 =
    { s with distaffs := (s.failWord ring seq k status cause).1.distaffs, dict := (s.failWord ring seq k status cause).1.dict,
             recorder := (s.failWord ring seq k status cause).1.recorder } := by
  rw [State.failWord_eq]
  dsimp only
  rw [State.countRejected_recorder]
  exact State.countRejected_eq (s.emit _) _ _

/-- The hank on a Distaff after a failing word of a hank: as it was, but for its count. -/
theorem State.run_failWord {d : Nat} {y : Run} (s : State) (h : s.run d = some y) (ring seq k status cause : Nat) :
    ∃ m, (s.failWord ring seq k status cause).1.run d = some { y with rejected := m } := by
  rw [State.failWord_eq]
  exact State.run_countRejected_some _ _ _ _ _ h

/-- A hank counts in HANKS_REJECTED unless it has been counted (07 R210). -/
theorem State.hanksRejected_countRejected (s : State) (ring seq : Nat) :
    ((∀ e q, s.run e = some q → q.ring = ring → q.seq = seq → q.rejected = false) →
      (s.countRejected ring seq).dict.hanksRejected = min (s.dict.hanksRejected + 1) 0xFFFFFFFF) ∧
    ((∃ e q, s.run e = some q ∧ q.ring = ring ∧ q.seq = seq ∧ q.rejected = true) → (s.countRejected ring seq).dict.hanksRejected = s.dict.hanksRejected) := by
  have hany : (s.distaffs.toList.any fun d => d.run.any fun r => (decide (r.ring = ring) && decide (r.seq = seq)) && r.rejected) = true ↔
      ∃ e q, s.run e = some q ∧ q.ring = ring ∧ q.seq = seq ∧ q.rejected = true := by
    simp only [List.any_eq_true, Option.any_eq_true, Bool.and_eq_true, decide_eq_true_eq, and_assoc]
    constructor
    · rintro ⟨d, hd, q, hq, h⟩
      obtain ⟨e, he, rfl⟩ := Vector.mem_iff_getElem.1 (Vector.mem_toList_iff.1 hd)
      exact ⟨e, q, by rwa [State.run, vget_eq _ _ _ he], h⟩
    · rintro ⟨e, q, hq, h⟩
      have he := s.lt_of_run e q hq
      rw [State.run, vget_eq _ _ _ he] at hq
      exact ⟨_, Vector.mem_toList_iff.2 (Vector.getElem_mem he), q, hq, h⟩
  constructor
  · intro h
    rw [State.countRejected, if_neg]
    · rfl
    · rw [hany]
      rintro ⟨e, q, hq, hr, hs, hx⟩
      rw [h e q hq hr hs] at hx
      cases hx
  · intro h
    rw [State.countRejected, if_pos (hany.2 h)]

/-- A hank that completed with a status that REQUIRE_OK does not accept (07 R189). -/
def badEnd (w : Nat) (st : Option Nat) : Prop := bit w 24 = true ∧ ∃ v, st = some v ∧ v ≠ 0x00 ∧ v ≠ 0x01

theorem effWaitSeq_awaited (r : Run) (k : Nat) {w : Nat} {s : State} {st : Option Nat} (h : s.awaited (bits w 94 89) (bits w 88 41) (bits w 40 25) = some st) :
    (badEnd w st → effWaitSeq r k w s = .done (s.failWord r.ring r.seq k stAborted cDependency).1 (some (s.failWord r.ring r.seq k stAborted cDependency).2)) ∧
    (¬badEnd w st → effWaitSeq r k w s = .done s none) := by
  rw [effWaitSeq, h]
  cases st with
  | none => exact ⟨fun ⟨_, v, hv, _⟩ => (nomatch hv), fun _ => if_neg (by simp)⟩
  | some v =>
    have hbad : badEnd w (some v) ↔ (bit w 24 && (decide (v ≠ stOk) && decide (v ≠ stOkVariant))) = true := by
      simp only [badEnd, Bool.and_eq_true, decide_eq_true_iff, Option.some.injEq, exists_eq_left']
      rfl
    exact ⟨fun hb => if_pos (hbad.1 hb), fun hb => if_neg (hb ∘ hbad.2)⟩

theorem effWaitSeq_waits (r : Run) (k : Nat) {w : Nat} {s : State} (h : s.awaited (bits w 94 89) (bits w 88 41) (bits w 40 25) = none) :
    effWaitSeq r k w s = .wait s := by
  rw [effWaitSeq, h]

/-- The timeout of a hank's granted WAIT.SEQ: nothing without a limit or once the awaited hank has come so far, else the hank ends (07 R189). -/
theorem exec_waitSeqTimeout {s : State} {d : Fin 8} {r : Run} {k w : Nat} (hp : s.board.phase = .ready) (hr : s.run d = some r) (hg : r.granted .waitSeq = some (k, w)) :
    exec (.waitSeqTimeout d) s = .next (if bits w 23 4 = 0 ∨ s.awaited (bits w 94 89) (bits w 88 41) (bits w 40 25) ≠ none then s
      else (s.failWord r.ring r.seq k stAborted cWait).1.modIssued d k fun i =>
        { i with ran := true, failure := some (s.failWord r.ring r.seq k stAborted cWait).2 }) := by
  change execWaitSeqTimeout d s = _
  unfold execWaitSeqTimeout
  rw [hp, hr]
  dsimp only
  rw [hg]
  simp only [Bool.or_eq_true, decide_eq_true_eq, Option.isSome_iff_ne_none]
  split <;> rfl

/-- Settles O25: the word's effect by what the awaited hank has done, and the timeout by its limit. -/
theorem waitSeqEndsByItsHankOrTimeout : Obligations.WaitSeqEndsByItsHankOrTimeout := by
  intro s s0 d r k w h
  have hs := State.handed_of_atUnits h
  have hp := State.atUnits_ready h
  have hawaited := hs.awaited (bits w 94 89) (bits w 88 41) (bits w 40 25)
  have hexec : exec (.waitSeq d) s = .next (s.word d .waitSeq effWaitSeq) := rfl
  refine ⟨fun st hst => ?_, fun hst => ?_, fun hg he hst => ?_, fun hg he hlim hst => ?_⟩
  · obtain ⟨hbad, hgood⟩ := effWaitSeq_awaited r k (hawaited.trans hst)
    by_cases hb : badEnd w st
    · obtain ⟨m, hm⟩ := s0.run_failWord hs.run r.ring r.seq k stAborted cDependency
      have hran := State.word_done h (hbad hb) hm rfl
      refine ⟨_, _, hexec, hran.ran, ?_, ?_, ?_, ?_⟩
      · rw [hran.frame, State.failWord_frame, hs.frame]
      · rw [hran.frame, State.failWord_frame, hs.frame]
      · rw [hran.frame, State.failWord_frame, hs.frame]
      · refine Eq.trans ?_ (if_pos hb).symm
        rw [State.failWord_eq]
        rfl
    · have hran := State.word_done h (hgood hb) hs.run rfl
      refine ⟨_, none, hexec, hran.ran, ?_, ?_, ?_, (if_neg hb).symm⟩ <;> rw [hran.frame, hs.frame]
  · rw [hexec, (s.word_of_atUnits s0 d .waitSeq effWaitSeq r k w h).1, effWaitSeq_waits r k (hawaited.trans hst)]
    rfl
  · subst he
    rw [exec_waitSeqTimeout hp hs.run hg, if_pos (.inr hst)]
  · subst he
    obtain ⟨m, hm⟩ := s0.run_failWord hs.run r.ring r.seq k stAborted cWait
    obtain ⟨i, hi, hk⟩ := hs.issued
    have ht := exec_waitSeqTimeout hp hs.run hg
    rw [if_neg (not_or.2 ⟨hlim, not_not_intro hst⟩)] at ht
    refine ⟨_, _, ht, ⟨_, _, State.run_modRun_self _ _ _ _ hm, List.mem_map.2 ⟨i, hi, if_pos hk⟩, hk, rfl, rfl⟩, ?_, ?_, ?_, ?_, fun hfresh => ?_, fun hcounted => ?_⟩
    · rw [State.failWord_eq]
      rfl
    · rw [State.failWord_eq]
      rfl
    · rw [State.modIssued_mem, State.failWord_frame]
    · rw [State.modIssued_units, State.failWord_frame]
    · rw [State.modIssued_dict, State.failWord_eq]
      exact (State.hanksRejected_countRejected _ _ _).1 hfresh
    · rw [State.modIssued_dict, State.failWord_eq]
      exact (State.hanksRejected_countRejected _ _ _).2 ⟨d, r, hs.run, rfl, rfl, hcounted⟩

end Sys2Proof.Machine
end

section
/-!
SUPPORT. The bytes of a buffer: where they lie, what a word reads of them when the range is readable, and what it writes there (08 R214, R217; 09 R264).
-/
namespace Sys2Proof.Machine

/-- Where a byte of a hank's buffer lies in its memory. -/
def Run.place (r : Run) (b : Buffer) (off : Nat) : Nat := if b.space = 2 then hostKey r.owner (b.base + off) else b.base + off

theorem State.readMem_of_sound {s : State} {sp a n : Nat} (r : Run) (k : Nat) (h : (s.mem.check sp a n).2 = none) :
    s.readMem r k sp a n = ⟨s.bytes sp a n, { s with mem := (s.mem.check sp a n).1 }, none⟩ := by
  unfold State.readMem
  dsimp only
  rw [h]
  exact congrArg (fun bs => (⟨bs, _, none⟩ : Got)) (State.bytes_of_cells (Memory.check_space _ _ _ _ _) a n)

/-- A readable range is read as it stands, and the read changes no byte and no uncorrectable word. -/
theorem State.readBuf_of_readable {s : State} {r : Run} {b : Buffer} {off n : Nat} (k : Nat) (h : s.readable r b off n) :
    ∃ m, s.mem.Alike m ∧ s.readBuf r k b off n = ⟨s.bytes b.space (r.place b off) n, { s with mem := m }, none⟩ := by
  unfold State.readable at h
  unfold State.readBuf Run.place
  split at h
  · rename_i hsp
    rw [if_pos hsp, if_pos hsp, State.readHost, h.1, if_neg Bool.false_ne_true, h.2, hsp]
    exact ⟨s.mem, .refl _, rfl⟩
  · rename_i hsp
    rw [if_neg hsp, if_neg hsp, State.readMem_of_sound r k h]
    exact ⟨_, Memory.check_alike _ _ _ _ h, rfl⟩

theorem State.readIdx_of_readable {s : State} {r : Run} {i : Nat} {b : Buffer} {off n : Nat} (k : Nat) (hb : r.buf i = some b) (h : s.readable r b off n) :
    ∃ m, s.mem.Alike m ∧ s.readIdx r k i off n = ⟨s.bytes b.space (r.place b off) n, { s with mem := m }, none⟩ := by
  rw [State.readIdx, hb]
  exact State.readBuf_of_readable k h

/-- What is readable does not depend on which corrected errors have been met. -/
theorem Memory.Alike.readable {s t : State} (hm : s.mem.Alike t.mem) {r : Run} {b : Buffer} {off n : Nat} (h : s.readable r b off n) : t.readable r b off n := by
  unfold State.readable at *
  split at h
  · rename_i hsp
    rwa [if_pos hsp]
  · rename_i hsp
    rw [if_neg hsp]
    exact hm.check h

/-- A write into a buffer that the hank still reaches writes exactly there. -/
theorem State.writeIdx_eq_put_place (s : State) {r : Run} {i : Nat} {b : Buffer} (hb : r.buf i = some b) (hhost : b.space = 2 → r.noHost = false) (off : Nat) (bs : Bytes) :
    s.writeIdx r i off bs = s.put b.space (r.place b off) bs := by
  rw [State.writeIdx, hb]
  simp only [State.writeBuf, Run.place]
  split
  · rename_i hsp
    rw [hhost hsp, if_neg Bool.false_ne_true, hsp]
  · rfl

theorem State.length_bytes (s : State) (sp a n : Nat) : (s.bytes sp a n).length = n := by rw [State.bytes, Mem.bytes, List.length_map, List.length_range]

theorem State.getD_bytes (s : State) (sp a : Nat) {n j : Nat} (h : j < n) (d : Byte) : (s.bytes sp a n).getD j d = s.byteAt sp (a + j) := by
  rw [State.bytes, Mem.bytes, List.getD_eq_getElem?_getD, List.getElem?_map, List.getElem?_range h]
  rfl

end Sys2Proof.Machine
end

section
/-!
PROOF. The control words BARRIER, SIGNAL, LEDGER.MARK and DEBUG.TRIGGER (O24).
-/
namespace Sys2Proof.Machine

-- BARRIER.

/-- The units of a hank's set that a later word of its list names (07 R187). -/
def Run.keeps (r : Run) (set : Op → Nat → List Nat) (us : List Nat) : List Nat :=
  us.filter fun u => ((r.words.drop r.next).filterMap fun x => (wordOp x.toNat).map fun o => (o, x.toNat)).any fun c => (set c.1 c.2).contains u

theorem Run.mem_keeps {r : Run} {set : Op → Nat → List Nat} {us : List Nat} {u : Nat} : u ∈ r.keeps set us ↔
    u ∈ us ∧ ∃ x ∈ r.words.drop r.next, ∃ o, wordOp x.toNat = some o ∧ u ∈ set o x.toNat := by
  simp only [Run.keeps, List.mem_filter, List.any_eq_true, List.mem_filterMap, Option.map_eq_some_iff, List.contains_iff_mem]
  refine and_congr_right fun _ => ⟨?_, ?_⟩
  · rintro ⟨c, ⟨x, hx, o, ho, rfl⟩, hu⟩
    exact ⟨x, hx, o, ho, hu⟩
  · rintro ⟨x, hx, o, ho, hu⟩
    exact ⟨_, ⟨x, hx, o, ho, rfl⟩, hu⟩

/-- The units after a BARRIER with RELEASE: those of the hank that no later word names are free. -/
def State.released (s : State) (r : Run) : State :=
  let me := some (r.ring, r.seq)
  { s with units := { s.units with
      spindles := s.units.spindles.mapIdx (fun (u : Nat) (x : Spindle) => if x.holder = me && !(r.keeps spindlesOf r.spindles).contains u then { x with holder := none } else x)
      bobbins := s.units.bobbins.mapIdx (fun (b : Nat) (x : Bobbin) => if x.holder = me && !(r.keeps bobbinsOf r.bobbins).contains b then { x with holder := none } else x) } }

theorem effBarrier_keeps {d : Nat} {r : Run} {k w : Nat} {s : State} (h : bit w 94 = false) : effBarrier d r k w s = .done s none := by
  rw [effBarrier, h]
  rfl

theorem effBarrier_releases {d : Nat} {r : Run} {k w : Nat} {s : State} (h : bit w 94 = true) : effBarrier d r k w s =
    .done ((s.released r).modRun d fun y => { y with spindles := r.keeps spindlesOf r.spindles, bobbins := r.keeps bobbinsOf r.bobbins }) none := by
  rw [effBarrier, h]
  rfl

theorem State.spindle_released (s : State) (r : Run) {u : Nat} (hu : u < 128) : (s.released r).spindle u =
    if (s.spindle u).holder = some (r.ring, r.seq) ∧ u ∉ r.keeps spindlesOf r.spindles then { s.spindle u with holder := none } else s.spindle u := by
  refine (vget_mapIdx _ _ _ u hu).trans ?_
  simp only [Bool.and_eq_true, decide_eq_true_eq, Bool.not_eq_true', ← Bool.not_eq_true, List.contains_iff_mem]
  rfl

theorem State.bobbin_released (s : State) (r : Run) {b : Nat} (hb : b < 32) : (s.released r).bobbin b =
    if (s.bobbin b).holder = some (r.ring, r.seq) ∧ b ∉ r.keeps bobbinsOf r.bobbins then { s.bobbin b with holder := none } else s.bobbin b := by
  refine (vget_mapIdx _ _ _ b hb).trans ?_
  simp only [Bool.and_eq_true, decide_eq_true_eq, Bool.not_eq_true', ← Bool.not_eq_true, List.contains_iff_mem]
  rfl

-- SIGNAL.

theorem find?_map_key {α : Type} {p : α → Bool} {f : α → α} (hf : ∀ x, p (f x) = p x) (l : List α) : (l.map f).find? p = (l.find? p).map f := by
  rw [List.find?_map]
  exact congrArg (fun q => (l.find? q).map f) (funext hf)

/-- The ring after a SIGNAL of its hank `seq` (07 R188). -/
def Ring.signalled (x : Ring) (seq v : Nat) : Ring :=
  { x with progSeq := seq, progVal := v, hanks := x.hanks.map (Hank.only seq fun h => { h with signalled := max h.signalled v }) }

theorem Ring.find?_signalled {x : Ring} {seq : Nat} {h : Hank} (v : Nat) (hh : x.hanks.find? (fun h => h.seq = seq) = some h) :
    (x.signalled seq v).hanks.find? (fun h => h.seq = seq) = some { h with signalled := max h.signalled v } := by
  have hseq : h.seq = seq := by simpa using List.find?_some hh
  rw [Ring.signalled, find?_map_key, hh, Option.map_some, Hank.only, if_pos hseq]
  intro y
  unfold Hank.only
  split <;> rfl

/-- The state before a SIGNAL's interrupt: its ring's progress and its hank's stage stand. -/
def State.signal (s : State) (r : Run) (v : Nat) : State := { s with rings := vmod s.rings r.ring fun x => x.signalled r.seq v }

theorem effSignal_eq {r : Run} {k w : Nat} {s : State} (hr : r.ring < 64) {h : Hank} (hh : (s.ring r.ring).hanks.find? (fun h => h.seq = r.seq) = some h) :
    effSignal r k w s = .done (if bit w 78 then (s.signal r (bits w 94 79)).raise r.owner (32 * r.ring + h.entry.irqSel) else s.signal r (bits w 94 79)) none := by
  have hset : (s.modRing r.ring fun x => { x with progSeq := r.seq, progVal := bits w 94 79 }).modHank r.ring r.seq
      (fun h => { h with signalled := max h.signalled (bits w 94 79) }) = s.signal r (bits w 94 79) := by
    rw [State.modHank, State.modRing, State.modRing, State.signal, vmod_vmod]
    rfl
  have hring : (s.signal r (bits w 94 79)).ring r.ring = (s.ring r.ring).signalled r.seq (bits w 94 79) := by
    rw [State.ring, State.signal, vget_vmod, if_pos ⟨rfl, hr⟩]
    rfl
  unfold effSignal
  dsimp only
  rw [hset, hring, Ring.find?_signalled _ hh]
  rfl

/-- A message raised is sent, or held while its entry is masked, or nothing while MSI-X is disabled (09 R249). -/
theorem State.raise_effect {s : State} {fn e : Nat} {f : Function} (hf : s.functions[fn]? = some f) :
    s.raise fn e = { s with functions := (s.raise fn e).functions, out := (s.raise fn e).out } ∧
    (s.raise fn e).out.msix = s.out.msix ++ (if f.msixEnabled = true ∧ f.unmasked.contains e = true then [(fn, e)] else []) ∧
    (f.msixEnabled = true → f.unmasked.contains e = false → ∃ g, (s.raise fn e).functions[fn]? = some g ∧ g.pending.contains e = true) := by
  unfold State.raise
  rw [hf]
  dsimp only
  cases hen : f.msixEnabled with
  | false => exact ⟨rfl, by simp, nofun⟩
  | true =>
    cases hmask : f.unmasked.contains e with
    | true => exact ⟨rfl, rfl, nofun⟩
    | false =>
      obtain ⟨hlt, -⟩ := Vector.getElem?_eq_some_iff.1 hf
      refine ⟨rfl, by simp, fun _ _ => ⟨_, Vector.getElem?_setIfInBounds_self_of_lt hlt, ?_⟩⟩
      dsimp only
      split
      · assumption
      · exact List.contains_iff_mem.2 (List.mem_append_right _ (List.mem_singleton_self e))

-- LEDGER.MARK.

theorem effLedgerMark_reads {d : Nat} {r : Run} {k w : Nat} {s : State} {g : Got} (hg : s.readIdx r k (lmBuf w) (lmOff w) (lmLen w) = g) (hf : g.fail = none) :
    effLedgerMark d r k w s = .done (g.st.modRun d fun r => { r with marks := r.marks ++ [(lmMark w, k, digest g.bytes)] }) none := by
  unfold effLedgerMark
  rw [hg]
  dsimp only
  rw [hf]

theorem effLedgerMark_fails {d : Nat} {r : Run} {k w : Nat} {s : State} {g : Got} (hg : s.readIdx r k (lmBuf w) (lmOff w) (lmLen w) = g) {f : Failure}
    (hf : g.fail = some f) : effLedgerMark d r k w s = .done g.st (some f) := by
  unfold effLedgerMark
  rw [hg]
  dsimp only
  rw [hf]

/-- A read of device memory that meets an uncorrectable word: its record, and the failure that names it (08 R217). -/
theorem State.readMem_of_unsound {s : State} {r : Run} {k sp a n : Nat} (h : (s.mem.check sp a n).2 ≠ none) : ∃ f note m, f.status = 0x50 ∧
    note.type = (if sp = 0 then 0x0502 else 0x0503) ∧ (∀ j, m.space j = s.mem.space j) ∧ (s.readMem r k sp a n).fail = some f ∧
    (s.readMem r k sp a n).st = ({ s with mem := m } : State).emit note := by
  obtain ⟨b, hb⟩ := Option.ne_none_iff_exists'.1 h
  unfold State.readMem
  dsimp only
  rw [hb]
  exact ⟨_, _, _, rfl, rfl, fun j => Memory.check_space _ _ _ _ j, rfl, rfl⟩

-- DEBUG.TRIGGER.

/-- A trigger's capture touches the recorder and the count of free values alone; what it leaves of the recorder (14 R375). -/
theorem State.capture_effect (s : State) {j : Nat} (hj : j < 16) (cause : Nat) (hank : Option (Nat × Nat)) (rseq : Nat) :
    s.capture j cause hank rseq = { s with recorder := (s.capture j cause hank rseq).recorder, out := (s.capture j cause hank rseq).out } ∧
    (s.debug = false → (s.capture j cause hank rseq).recorder = s.recorder) ∧
    (s.debug = true → (vget s.recorder.captures none j = none →
        (∃ c, vget (s.capture j cause hank rseq).recorder.captures none j = some c ∧ c.cause = cause ∧ c.hank = hank ∧ c.rseq = rseq ∧
          c.set_ = vget s.dict.triggers [] j) ∧
        ∀ i, i ≠ j → vget (s.capture j cause hank rseq).recorder.captures none i = vget s.recorder.captures none i) ∧
      (vget s.recorder.captures none j ≠ none → (s.capture j cause hank rseq).recorder = { s.recorder with tMissed := min (s.recorder.tMissed + 1) 0xFFFFFFFF })) := by
  unfold State.capture
  cases s.debug with
  | false => exact ⟨rfl, fun _ => rfl, nofun⟩
  | true =>
    cases hc : vget s.recorder.captures none j with
    | some c => exact ⟨rfl, nofun, fun _ => ⟨nofun, fun _ => rfl⟩⟩
    | none =>
      refine ⟨rfl, nofun, fun _ => ⟨fun _ => ⟨⟨_, (vget_vset _ _ _ _ _).trans (if_pos ⟨rfl, hj⟩), rfl, rfl, rfl, rfl⟩, fun i hi => ?_⟩, fun h => absurd rfl h⟩⟩
      exact (vget_vset _ _ _ _ _).trans (if_neg fun h => hi h.1.symm)

-- The words.

theorem State.barrier_effect {s s0 : State} {d : Fin 8} {r : Run} {k w : Nat} (h : s.atUnits d .barrier = some (s0, r, k, w)) :
    ∃ t, exec (.barrier d) s = .next t ∧ t.ranWith d k none ∧ t = { s with units := t.units, distaffs := t.distaffs } ∧
      t.units = if bit w 94 = true then (s.released r).units else s.units := by
  have hs := State.handed_of_atUnits h
  refine ⟨s.word d .barrier (effBarrier d), rfl, ?_⟩
  cases hb : bit w 94 with
  | false =>
    have hran := State.word_done h (effBarrier_keeps (d := d) hb) hs.run rfl
    exact ⟨hran.ran, by rw [hran.frame, hs.frame], hran.units.trans hs.units⟩
  | true =>
    have hran := State.word_done h (effBarrier_releases (d := d) hb) (State.run_modRun_self _ _ _ _ hs.run) rfl
    refine ⟨hran.ran, by rw [hran.frame, hs.frame]; rfl, hran.units.trans ?_⟩
    rw [hs.frame]
    rfl

theorem State.signal_effect {s s0 : State} {d : Fin 8} {r : Run} {k w : Nat} (h : s.atUnits d .signal = some (s0, r, k, w)) (hr : r.ring < 64) {y : Hank}
    (hy : (s.ring r.ring).hanks.find? (fun h => h.seq = r.seq) = some y) {f : Function} (hf : s.functions[r.owner]? = some f) :
    let e := 32 * r.ring + y.entry.irqSel
    ∃ t, exec (.signal d) s = .next t ∧ t.ranWith d k none ∧ t = { s with rings := t.rings, functions := t.functions, out := t.out, distaffs := t.distaffs } ∧
      t.rings = (s.signal r (bits w 94 79)).rings ∧
      t.out.msix = s.out.msix ++ (if bit w 78 = true ∧ f.msixEnabled = true ∧ f.unmasked.contains e = true then [(r.owner, e)] else []) ∧
      (bit w 78 = true → f.msixEnabled = true → f.unmasked.contains e = false → ∃ g, t.functions[r.owner]? = some g ∧ g.pending.contains e = true) := by
  have hs := State.handed_of_atUnits h
  refine ⟨s.word d .signal effSignal, rfl, ?_⟩
  have heff := effSignal_eq (k := k) (w := w) (s := s0) hr (by rw [State.ring, hs.frame]; exact hy)
  have hset : (s0.signal r (bits w 94 79)) = { s.signal r (bits w 94 79) with distaffs := s0.distaffs } := by
    rw [hs.frame]
    rfl
  cases hb : bit w 78 with
  | false =>
    rw [hb, if_neg Bool.false_ne_true] at heff
    have hran := State.word_done h heff hs.run rfl
    rw [hset] at hran
    refine ⟨hran.ran, by rw [hran.frame]; rfl, by rw [hran.frame], ?_, nofun⟩
    rw [hran.frame]
    simp [State.signal]
  | true =>
    rw [hb, if_pos rfl] at heff
    obtain ⟨hframe, hmsix, hpend⟩ := State.raise_effect (s := s0.signal r (bits w 94 79)) (fn := r.owner) (e := 32 * r.ring + y.entry.irqSel) (f := f) (by rw [hset]; exact hf)
    have hran := State.word_done h heff (by rw [State.run, hframe]; exact hs.run) rfl
    rw [hset] at hframe hmsix hpend hran
    refine ⟨hran.ran, ?_, ?_, ?_, fun _ => ?_⟩
    · rw [hran.frame, hframe]
      rfl
    · rw [hran.frame, hframe]
    · rw [hran.frame, hmsix]
      simp [State.signal]
    · rw [hran.frame]
      exact hpend

/-- Settles O24: each control word by its effect. -/
theorem controlWordsDoTheirWork : Obligations.ControlWordsDoTheirWork := by
  refine ⟨?_, ?_, ?_, ?_⟩
  · intro s s0 d r k w h named frees freesB
    obtain ⟨t, ht, hran, hframe, hunits⟩ := State.barrier_effect h
    refine ⟨t, ht, hran, hframe, fun hb => ?_, fun hb => ?_⟩
    · rw [hunits, hb, if_neg Bool.false_ne_true]
    · rw [hb, if_pos rfl] at hunits
      refine ⟨by rw [hunits]; rfl, fun u hu => ?_, fun b hb => ?_⟩
      · have hspindle : t.spindle u = (s.released r).spindle u := by rw [State.spindle, hunits]; rfl
        have hfrees : frees u ↔ (s.spindle u).holder = some (r.ring, r.seq) ∧ u ∉ r.keeps spindlesOf r.spindles := by rw [Run.mem_keeps]
        rw [hspindle, State.spindle_released s r hu, hfrees]
        exact ⟨fun hfree => if_pos hfree, fun hfree => if_neg hfree⟩
      · have hbobbin : t.bobbin b = (s.released r).bobbin b := by rw [State.bobbin, hunits]; rfl
        have hfrees : freesB b ↔ (s.bobbin b).holder = some (r.ring, r.seq) ∧ b ∉ r.keeps bobbinsOf r.bobbins := by rw [Run.mem_keeps]
        rw [hbobbin, State.bobbin_released s r hb, hfrees]
        exact ⟨fun hfree => if_pos hfree, fun hfree => if_neg hfree⟩
  · intro s s0 d r k w y f h hr hy hf e
    obtain ⟨t, ht, hran, hframe, hrings, hmsix, hpend⟩ := State.signal_effect h hr hy hf
    have hring : ∀ j, t.ring j = if r.ring = j ∧ r.ring < 64 then (s.ring j).signalled r.seq (bits w 94 79) else s.ring j := fun j => by
      rw [State.ring, hrings]
      exact vget_vmod _ _ _ _ _
    have hmine := (hring r.ring).trans (if_pos ⟨rfl, hr⟩)
    refine ⟨t, ht, hran, hframe, ?_, ?_, ?_, fun j hj => (hring j).trans (if_neg fun h => hj h.1.symm), hmsix, hpend⟩
    · rw [hmine]
      rfl
    · rw [hmine]
      rfl
    · rw [hmine, Ring.find?_signalled _ hy]
  · intro s s0 d r k w b h hb
    have hs := State.handed_of_atUnits h
    refine ⟨fun hread => ?_, fun hsp hbad => ?_⟩
    · obtain ⟨m, hm, hg⟩ := State.readIdx_of_readable (s := s0) k hb (hs.alike.readable hread)
      have heff := effLedgerMark_reads (d := d) hg rfl
      dsimp only at heff
      generalize hsum : digest (s0.bytes b.space (r.place b (lmOff w)) (lmLen w)) = sum at heff
      have hy := State.run_modRun_self { s0 with mem := m } d (fun r => { r with marks := r.marks ++ [(lmMark w, k, sum)] }) r hs.run
      have hran := State.word_done h heff hy rfl
      obtain ⟨q, hq, hsame⟩ := State.word_done_run h heff hy
      refine ⟨s.word d .ledgerMark (effLedgerMark d), q, rfl, hran.ran, ?_, fun sp a => ?_, hq, ?_⟩
      · rw [hran.frame, hs.frame]
        rfl
      · exact (hran.byteAt sp a).trans ((congrArg (fun m : Mem => m.byte a) (hm.cells sp)).trans (hs.byteAt sp a))
      · rw [hsame, ← hsum, hs.bytes]
        rfl
    · rw [← hs.mem] at hbad
      obtain ⟨f, n, m, hf, hn, hcells, hfail, hst⟩ := State.readMem_of_unsound (r := r) (k := k) hbad
      have heff : effLedgerMark d r k w s0 = .done (({ s0 with mem := m } : State).emit n) (some f) := by
        rw [← hst]
        refine effLedgerMark_fails ?_ hfail
        rw [State.readIdx, hb]
        exact if_neg hsp
      have hran := State.word_done h heff hs.run rfl
      obtain ⟨q, hq, hsame⟩ := State.word_done_run h heff hs.run
      refine ⟨s.word d .ledgerMark (effLedgerMark d), q, f, n, rfl, hran.ran, hf, hq, by rw [hsame], fun sp a => ?_, ?_, hn, ?_, ?_⟩
      · exact (hran.byteAt sp a).trans ((congrArg (fun m : Mem => m.byte a) (hcells sp)).trans (hs.byteAt sp a))
      all_goals
        rw [hran.frame, hs.frame]
        rfl
  · intro s s0 d r k w h j
    have hs := State.handed_of_atUnits h
    obtain ⟨hframe, hoff, hon⟩ := s0.capture_effect (j := j) (Nat.mod_lt _ (by decide)) 0 (some (r.ring, r.seq)) 0
    have hran := State.word_done (eff := effDebugTrigger) h rfl (by rw [State.run, hframe]; exact hs.run) rfl
    have hrec : (s.word d .debugTrigger effDebugTrigger).recorder = (s0.capture j 0 (some (r.ring, r.seq)) 0).recorder := by rw [hran.frame]
    have hdebug : s0.debug = s.debug ∧ s0.recorder = s.recorder ∧ s0.dict = s.dict := by
      rw [hs.frame]
      exact ⟨rfl, rfl, rfl⟩
    obtain ⟨hd, hr, hx⟩ := hdebug
    rw [hd, hr] at hoff hon
    rw [hx] at hon
    refine ⟨_, rfl, hran.ran, ?_, ?_⟩
    · rw [hran.frame, hframe, hs.frame]
    · rw [hrec]
      exact ⟨hoff, hon⟩

end Sys2Proof.Machine
end

section
/-!
PROOF. HOST_READ_FAULT (O18): what a faulting read of an entry, a header, a hank region, a LOAD's buffer or a transfer leaves.
-/
namespace Sys2Proof.Machine

theorem exec_hostReadFault {s : State} (h : s.board.phase = .ready) (what : HostRead) (kind : Fin 4) (address : BitVec 64) (length : BitVec 32) :
    exec (.hostReadFault what kind address length) s = .next (match what with
      | .entry r => s.faultEntry r false kind address.toNat length.toNat
      | .header r => s.faultEntry r true kind address.toNat length.toNat
      | .region => s.faultRegion kind address.toNat length.toNat
      | .buffer d w => s.faultBuffer d w kind address.toNat length.toNat
      | .transfer k => s.faultTransfer k kind address.toNat length.toNat) := by
  change execHostReadFault what kind address length s = _
  unfold execHostReadFault
  rw [if_neg (not_not_intro h)]
  cases what <;> rfl

/-- A later state has the record of a host fault, and counts it once (09 R264). -/
structure State.HostFaulted (s t : State) (payload : Bytes) : Prop where
  mem : t.mem = s.mem
  count : t.dict.hostErrors = min (s.dict.hostErrors + 1) 0xFFFFFFFF
  record : ∃ n ∈ t.recorder.inbox, n.type = 0x0902 ∧ n.payload = payload

theorem State.hostFaulted_hostFault (s : State) {n : Bytes → Notice} (hn : ∀ p, (n p).type = 0x0902 ∧ (n p).payload = p) (kind address word length : Nat) :
    s.HostFaulted (s.hostFault n kind address word length) (faultPayload address 2 kind word length) :=
  ⟨rfl, rfl, _, List.mem_append_right _ (List.mem_singleton_self _), hn _⟩

/-- What changes neither memory, nor the fault's count, nor takes a record back keeps a host fault. -/
theorem State.HostFaulted.step {s t u : State} {payload : Bytes} (h : s.HostFaulted t payload) (hm : u.mem = t.mem) (hc : u.dict.hostErrors = t.dict.hostErrors)
    (hr : t.recorder.inbox ⊆ u.recorder.inbox) : s.HostFaulted u payload := by
  obtain ⟨n, hn, hx⟩ := h.record
  exact ⟨hm.trans h.mem, hc.trans h.count, n, hr hn, hx⟩

theorem State.refreshReservation_frame (s : State) :
    s.refreshReservation = { s with steward := s.refreshReservation.steward, distaffs := s.refreshReservation.distaffs } := by
  obtain ⟨c, hframe, -⟩ := s.refreshReservation_marks
  rw [hframe]

-- The entry and the header.

/-- The state in which a fault of a hank's entry or header is recorded. -/
def State.faultedAt (s : State) (r : Nat) (h : Hank) (header : Bool) (kind address length : Nat) : State :=
  (if header then s.modHank r h.seq fun y => { y with entry := entryFields (s.entryBytes r h) } else s.modRing r fun x => { x with fault := true }).hostFault
    (hankNotice 0x0902 error r h.seq) kind address 0xFFFE length

theorem State.faultEntry_eq {s : State} {r : Nat} {h : Hank} (hu : (s.ring r).unread = some h) (ha : h.abortWith = none) (header : Bool)
    (hok : header = true → (entryFields (s.entryBytes r h)).hankAddr % 64 = 0 ∧ (entryFields (s.entryBytes r h)).hankAddr + 256 ≤ 2 ^ 64) (kind address length : Nat) :
    ∃ bit, s.faultEntry r header kind address length = ((s.faultedAt r h header kind address length).entryFault r h.seq bit
      (some (s.faultedAt r h header kind address length).lastRef)).refreshReservation := by
  unfold State.faultEntry
  rw [hu]
  dsimp only
  rw [if_neg]
  · rw [ha]
    exact ⟨_, rfl⟩
  · cases header with
    | false => simp
    | true =>
      obtain ⟨h1, h2⟩ := hok rfl
      simp only [h1, ne_eq, not_true_eq_false, decide_false, Bool.false_or, Bool.true_and, decide_eq_true_eq]
      omega

/-- A hank of a ring after a change of the hanks of its sequence number. -/
theorem State.ring_modHank (s : State) {r : Nat} (hr : r < 64) (seq : Nat) (f : Hank → Hank) : (s.modHank r seq f).ring r = (s.ring r).onHanks (Hank.only seq f) :=
  (State.ring_modRing _ _ _ _).trans (if_pos ⟨rfl, hr⟩)

theorem Hank.only_self (h : Hank) (f : Hank → Hank) : Hank.only h.seq f h = f h := if_pos rfl

/-- An entry fault ends its hank with ABORTED, HEADER, adds a record, and leaves the rest of its ring, the memories and the count of host faults (09 R252). -/
theorem State.entryFault_ends (s : State) {r : Nat} (hr : r < 64) {h : Hank} (hh : h ∈ (s.ring r).hanks) (bit : Nat) (evRef : Option Nat) :
    let t := (s.entryFault r h.seq bit evRef).refreshReservation
    t.mem = s.mem ∧ t.dict.hostErrors = s.dict.hostErrors ∧ s.recorder.inbox ⊆ t.recorder.inbox ∧ (t.ring r).fault = (s.ring r).fault ∧
      ∃ g ∈ (t.ring r).hanks, g.seq = h.seq ∧ g.entry = h.entry ∧ g.stage = .finished ∧ (g.ending.map fun e => (e.status, e.cause)) = some (0xF0, 0x10) := by
  have hframe := (s.entryFault r h.seq bit evRef).refreshReservation_frame
  generalize (s.entryFault r h.seq bit evRef).refreshReservation = t at hframe
  have hring : ∃ f : Hank → Hank, t.ring r = (s.ring r).onHanks (Hank.only h.seq f) ∧ (f h).seq = h.seq ∧ (f h).entry = h.entry ∧ (f h).stage = .finished ∧
      ((f h).ending.map fun e => (e.status, e.cause)) = some (0xF0, 0x10) := by
    rw [hframe]
    exact ⟨fun y => { y with stage := .finished, ending := some _ }, State.ring_modHank _ hr _ _, rfl, rfl, rfl, rfl⟩
  obtain ⟨f, hring, hf⟩ := hring
  refine ⟨by rw [hframe]; rfl, by rw [hframe]; rfl, ?_, by rw [hring]; rfl, f h, ?_, hf⟩
  · rw [hframe]
    exact fun _ hn => List.mem_append_left _ hn
  · rw [hring, ← h.only_self f]
    exact List.mem_map_of_mem hh

theorem Ring.mem_of_unread {x : Ring} {h : Hank} (hu : x.unread = some h) : h ∈ x.hanks := List.mem_of_find?_eq_some hu

/-- What a fault of a hank's entry or header leaves. -/
theorem State.faultEntry_effect {s : State} {r : Nat} (hr : r < 64) {h : Hank} (hu : (s.ring r).unread = some h) (ha : h.abortWith = none) (header : Bool)
    (hok : header = true → (entryFields (s.entryBytes r h)).hankAddr % 64 = 0 ∧ (entryFields (s.entryBytes r h)).hankAddr + 256 ≤ 2 ^ 64) (kind address length : Nat) :
    let t := s.faultEntry r header kind address length
    s.HostFaulted t (faultPayload address 2 kind 0xFFFE length) ∧ (t.ring r).fault = ((s.ring r).fault || !header) ∧
      ∃ g ∈ (t.ring r).hanks, g.seq = h.seq ∧ (header = true → g.entry = entryFields (s.entryBytes r h)) ∧ g.stage = .finished ∧
        (g.ending.map fun e => (e.status, e.cause)) = some (0xF0, 0x10) := by
  obtain ⟨bit, ht⟩ := State.faultEntry_eq hu ha header hok kind address length
  have hfault : s.HostFaulted (s.faultedAt r h header kind address length) (faultPayload address 2 kind 0xFFFE length) := by
    cases header <;> exact ⟨rfl, rfl, _, List.mem_append_right _ (List.mem_singleton_self _), rfl, rfl⟩
  have hmem := Ring.mem_of_unread hu
  have hread : ∃ y ∈ ((s.faultedAt r h header kind address length).ring r).hanks, y.seq = h.seq ∧ (header = true → y.entry = entryFields (s.entryBytes r h)) := by
    cases header with
    | false =>
      refine ⟨h, ?_, rfl, nofun⟩
      have hring : (s.faultedAt r h false kind address length).ring r = { s.ring r with fault := true } := (State.ring_modRing _ _ _ _).trans (if_pos ⟨rfl, hr⟩)
      rw [hring]
      exact hmem
    | true =>
      refine ⟨{ h with entry := entryFields (s.entryBytes r h) }, ?_, rfl, fun _ => rfl⟩
      have hring : (s.faultedAt r h true kind address length).ring r = (s.ring r).onHanks (Hank.only h.seq fun y => { y with entry := entryFields (s.entryBytes r h) }) :=
        s.ring_modHank hr _ _
      rw [hring, ← h.only_self fun y => { y with entry := entryFields (s.entryBytes r h) }]
      exact List.mem_map_of_mem hmem
  have hflag : ((s.faultedAt r h header kind address length).ring r).fault = ((s.ring r).fault || !header) := by
    cases header with
    | false =>
      rw [Bool.not_false, Bool.or_true]
      exact congrArg Ring.fault ((State.ring_modRing _ _ _ _).trans (if_pos ⟨rfl, hr⟩))
    | true =>
      rw [Bool.not_true, Bool.or_false]
      exact (congrArg Ring.fault (s.ring_modHank hr h.seq fun y => { y with entry := entryFields (s.entryBytes r h) })).trans rfl
  obtain ⟨y, hy, hseq, hentry⟩ := hread
  obtain ⟨hm, hc, hrec, hf, g, hg, hgseq, hgentry, hgend⟩ := State.entryFault_ends _ hr hy bit (some (s.faultedAt r h header kind address length).lastRef)
  rw [hseq, ← ht] at hm hc hrec hf hg
  exact ⟨hfault.step hm hc hrec, hf.trans hflag, g, hg, hgseq.trans hseq, fun hh => hgentry.trans (hentry hh), hgend⟩

-- The hank region.

/-- A hank whose region could not be read, as it stands on its Distaff. -/
def Run.regionLost (q : Run) (h : Hank) (evRef : Nat) : Run :=
  { q with
    hankDigest := zero32, header := { q.header with flags := if h.noIrq then 1 else 0 }, atRead := true, words := []
    failure := some (0xFFFF, { status := stAborted, cause := cHeader, evRef := evRef }) }

/-- The device with the fault of the picked hank's region recorded and the hank rejected, before it stands on its Distaff. -/
def State.regionLost (s : State) (ring : Nat) (h : Hank) (kind address length : Nat) : State :=
  (((s.unpick.hostFault (hankNotice 0x0902 error ring h.seq) kind address 0xFFFF length).modHank ring h.seq fun h => { h with stage := .running }).emit
    (hankNotice 0x0701 error ring h.seq (rejectPayload cHeader 1 stAborted 0xFFFF 0xFFFF))).modDict fun x => { x with hanksRejected := sat32 x.hanksRejected }

theorem State.faultRegion_eq {s : State} {ring : Nat} {h : Hank} {d : Nat} (hpick : s.pickedHank = some (ring, h)) (hfree : s.freeDistaff = some d)
    (ha : h.abortWith = none) (kind address length : Nat) : ∃ q : Run, q.ring = ring ∧ q.seq = h.seq ∧
    s.faultRegion kind address length = (s.regionLost ring h kind address length).setRun d (some (q.regionLost h (s.recorder.made + 1))) := by
  refine ⟨Run.start (s.unpick.hostFault (hankNotice 0x0902 error ring h.seq) kind address 0xFFFF length) h ring [], rfl, rfl, ?_⟩
  unfold State.faultRegion
  rw [hpick, hfree]
  dsimp only
  rw [ha]
  rfl

theorem State.hostFaulted_regionLost (s : State) (ring : Nat) (h : Hank) (kind address length : Nat) :
    s.HostFaulted (s.regionLost ring h kind address length) (faultPayload address 2 kind 0xFFFF length) :=
  ⟨rfl, rfl, _, List.mem_append_left _ (List.mem_append_right _ (List.mem_singleton_self _)), rfl, rfl⟩

-- A buffer of a LOAD.

/-- The hank as the faulting read of a word's buffer finds it. -/
def Run.meeting (r : Run) (w kind address length : Nat) : Run := { r with bad := some { word := w, kind := kind, address := address, length := length } }

/-- A word that fails changes neither memory nor the count of host faults, and takes no record back. -/
theorem State.failWord_counts (s : State) (ring seq k status cause : Nat) : (s.failWord ring seq k status cause).1.mem = s.mem ∧
    (s.failWord ring seq k status cause).1.dict.hostErrors = s.dict.hostErrors ∧ s.recorder.inbox ⊆ (s.failWord ring seq k status cause).1.recorder.inbox := by
  rw [State.failWord_eq]
  dsimp only
  rw [State.countRejected_mem, State.countRejected_recorder]
  refine ⟨rfl, ?_, fun _ hn => List.mem_append_left _ hn⟩
  unfold State.countRejected
  dsimp only
  split <;> rfl

/-- The faulting read ends its word: with ECC_UNCORRECTED when the data was poisoned, RANGE otherwise (09 R264). -/
theorem State.readHost_meeting {s : State} {d : Nat} {y : Run} (hy : s.run d = some y) {r : Run} {w kind address length a n : Nat} (hhost : r.noHost = false)
    (hmeets : meets address length a n = true) : ∃ f, (s.readHost (r.meeting w kind address length) w a n).fail = some f ∧
    f.status = (if kind = 3 then 0x50 else 0xF0) ∧ (kind ≠ 3 → f.cause = cRange) ∧
    s.HostFaulted (s.readHost (r.meeting w kind address length) w a n).st (faultPayload address 2 kind w length) ∧
    ∃ m, (s.readHost (r.meeting w kind address length) w a n).st.run d = some { y with rejected := m } := by
  unfold State.readHost Run.meeting
  rw [hhost, if_neg Bool.false_ne_true]
  dsimp only
  rw [decide_eq_true rfl, hmeets, Bool.and_self, if_pos rfl]
  have hfault := s.hostFaulted_hostFault (n := hankNotice 0x0902 error r.ring r.seq) (fun _ => ⟨rfl, rfl⟩) kind address w length
  by_cases hk : kind = 3
  · rw [if_pos hk, if_pos hk]
    exact ⟨_, rfl, rfl, fun h => absurd hk h, hfault, y.rejected, hy⟩
  · rw [if_neg hk, if_neg hk]
    obtain ⟨m, hm⟩ := State.run_failWord (s.hostFault (hankNotice 0x0902 error r.ring r.seq) kind address w length) hy r.ring r.seq w stAborted cRange
    obtain ⟨hmem, hcount, hrec⟩ := State.failWord_counts (s.hostFault (hankNotice 0x0902 error r.ring r.seq) kind address w length) r.ring r.seq w stAborted cRange
    exact ⟨_, rfl, rfl, fun _ => rfl, hfault.step hmem hcount hrec, m, hm⟩

/-- A faulting read of the buffer that a LOAD into one Spindle reads ends that word (07 R185, 09 R264). -/
theorem State.faultBuffer_effect {s : State} {d : Nat} {w bits : Nat} {r : Run} {b : Buffer} (hrun : s.run d = some r)
    (hissued : ∃ i ∈ r.issued, i.index = w ∧ i.granted = true ∧ i.ran = false) (hword : r.wordAt w = some (.load, bits))
    (hqueue : r.queueReady w .load bits = true) (hanneal : ∀ a, s.anneal = some a → ¬(a.distaff = d ∧ a.word = w)) (hbuf : r.buf (ldBuf bits) = some b)
    (hsp : b.space = 2) (hhost : r.noHost = false) (hbobbin : ldBobbin bits = false) (hall : wAll bits = false) {kind address length : Nat}
    (hmeets : meets address length (b.base + ldOff bits) (ldLen bits) = true) :
    ∃ f, (s.faultBuffer d w kind address length).ranWith d w (some f) ∧ f.status = (if kind = 3 then 0x50 else 0xF0) ∧ (kind ≠ 3 → f.cause = cRange) ∧
      (s.faultBuffer d w kind address length).dict.hostErrors = min (s.dict.hostErrors + 1) 0xFFFFFFFF ∧
      ∃ n ∈ (s.faultBuffer d w kind address length).recorder.inbox, n.type = 0x0902 ∧ n.payload = faultPayload address 2 kind w length := by
  obtain ⟨i, hi, hw, hgranted, hran⟩ := hissued
  obtain ⟨f, hfail, hstatus, hcause, hfault, m, hm⟩ := State.readHost_meeting hrun (w := w) hhost hmeets (kind := kind)
  have hread : s.readIdx (r.meeting w kind address length) w (ldBuf bits) (moverOffset bits (wUnit bits)) (ldLen bits) =
      s.readHost (r.meeting w kind address length) w (b.base + ldOff bits) (ldLen bits) := by
    have hb : (r.meeting w kind address length).buf (ldBuf bits) = some b := hbuf
    simp only [State.readIdx, hb, State.readBuf, hsp, if_true, moverOffset, hall, Bool.false_and, Bool.false_eq_true, if_false, Nat.add_zero]
  have hload : effLoad (r.meeting w kind address length) w bits s =
      .done ((s.readHost (r.meeting w kind address length) w (b.base + ldOff bits) (ldLen bits)).st.spoil 3 (lsKey false (wUnit bits) (ldLs bits)) (ldLen bits)) (some f) := by
    have hunits : moverUnits bits = [wUnit bits] := by simp only [moverUnits, hbobbin, hall, Bool.false_eq_true, if_false]
    unfold effLoad
    dsimp only
    rw [hunits, eachUnit_singleton, hread, hfail, hbobbin]
    rfl
  have hstands : (r.issued.any fun i => decide (i.index = w) && i.granted && !i.ran) = true :=
    List.any_eq_true.2 ⟨i, hi, by rw [decide_eq_true hw, hgranted, hran]; rfl⟩
  have hother : (s.anneal.any fun a => decide (a.distaff = d) && decide (a.word = w)) = false := by
    rw [← Bool.not_eq_true, Option.any_eq_true]
    rintro ⟨a, ha, hsame⟩
    obtain ⟨h1, h2⟩ := Bool.and_eq_true_iff.1 hsame
    exact hanneal a ha ⟨of_decide_eq_true h1, of_decide_eq_true h2⟩
  have heq : s.faultBuffer d w kind address length = (Effect.done ((s.readHost (r.meeting w kind address length) w (b.base + ldOff bits) (ldLen bits)).st.spoil 3
      (lsKey false (wUnit bits) (ldLs bits)) (ldLen bits)) (some f)).left d w := by
    unfold State.faultBuffer
    rw [hrun]
    dsimp only
    rw [hword]
    dsimp only [Option.bind_some, hostReader, Option.map_some]
    rw [hstands, hother, Bool.not_false, Bool.and_self, if_pos rfl, State.offer_eq _ _ _ _ _ _ _ hrun hqueue]
    exact congrArg (fun e : Effect => e.left d w) hload
  have hleft := Effect.left_done (f := some f) (show (State.spoil _ 3 (lsKey false (wUnit bits) (ldLs bits)) (ldLen bits)).run d = some _ from hm) ⟨i, hi, hw⟩
  rw [heq]
  refine ⟨f, hleft.ran, hstatus, hcause, ?_, ?_⟩
  · rw [hleft.frame]
    exact hfault.count
  · rw [hleft.frame]
    exact hfault.record

-- A transfer.

/-- A faulting read of a dictionary transfer ends it with BAD_REQUEST (10 R279). -/
theorem State.faultTransfer_effect {s : State} {k n : Nat} (hk : k < 16) (hbusy : (s.slot k).busy = some (.inr (true, n))) (kind address length : Nat) :
    let t := s.faultTransfer k kind address length
    (t.slot k).busy = none ∧ (t.slot k).code = 0x09 ∧ t.mem = s.mem ∧ t.dict.bar0.contains k = false ∧ t.dict.hostErrors = min (s.dict.hostErrors + 1) 0xFFFFFFFF := by
  unfold State.faultTransfer
  rw [hbusy]
  dsimp only
  have hslot := ((State.slot_modSlot (s.hostFault (devNotice 0x0902 error 258) kind address 0xFFFF length) k k fun x => { x with busy := none, code := 0x09 }).trans
    (if_pos ⟨rfl, hk⟩))
  refine ⟨congrArg Slot.busy hslot, congrArg Slot.code hslot, rfl, ?_, rfl⟩
  rw [← Bool.not_eq_true, List.contains_iff_mem]
  intro h
  have hne := List.of_mem_filter (p := fun x : Nat => decide (x ≠ k)) (l := s.dict.bar0) h
  exact of_decide_eq_true hne rfl

/-- Settles O18: each purpose of a host read by the lemma on what its fault leaves. -/
theorem hostReadFaultsAreReported : Obligations.HostReadFaultsAreReported := by
  intro s kind address length hready
  have hexec := exec_hostReadFault hready
  refine ⟨fun r h hu ha => ?_, ?_, fun ring h d hpick hfree ha => ?_, ?_, fun k n hbusy => ?_⟩
  · obtain ⟨hfault, hf, g, hg, hseq, -, hend⟩ := State.faultEntry_effect r.isLt hu ha false nofun kind address.toNat length.toNat
    exact ⟨_, hexec (.entry r) kind address length, hf.trans (Bool.or_true _), hfault.mem, hfault.count, hfault.record, g, hg, hseq, hend⟩
  · intro r h hu ha e h1 h2
    obtain ⟨hfault, hf, g, hg, hseq, hentry, hend⟩ := State.faultEntry_effect r.isLt hu ha true (fun _ => ⟨h1, h2⟩) kind address.toNat length.toNat
    exact ⟨_, hexec (.header r) kind address length, hf.trans (Bool.or_false _), hfault.mem, hfault.count, hfault.record, g, hg, hseq, hentry rfl, hend⟩
  · obtain ⟨q, hring, hseq, heq⟩ := State.faultRegion_eq hpick hfree ha kind address.toNat length.toNat
    have hfault := s.hostFaulted_regionLost ring h kind address.toNat length.toNat
    refine ⟨_, q.regionLost h (s.recorder.made + 1), (hexec .region kind address length).trans (congrArg _ heq), rfl, hfault.mem,
      State.run_setRun_self _ _ _ (State.freeDistaff_lt hfree), hring, hseq, rfl, rfl, rfl, hfault.count, hfault.record⟩
  · intro d w bits r b hrun hissued hword hqueue hanneal hbuf hsp hhost hbobbin hall hmeets
    obtain ⟨f, hf⟩ := State.faultBuffer_effect hrun hissued hword hqueue hanneal hbuf hsp hhost hbobbin hall hmeets
    exact ⟨_, f, hexec (.buffer d w) kind address length, hf⟩
  · exact ⟨_, hexec (.transfer k) kind address length, State.faultTransfer_effect k.isLt hbusy kind address.toNat length.toNat⟩

end Sys2Proof.Machine
end

section
/-!
SUPPORT. Parts of a word that write one range each: what the parts of a list of units leave, when every part finds what it reads as it stood at first (07 R185).
-/
namespace Sys2Proof.Machine

-- A write spares what can be read.

/-- A word is poisoned by a read only where an uncorrectable error stands (08 R214). -/
theorem Memory.meet_poison (m : Memory) (sp w : Nat) (c : Nat × Nat) (hc : c ∈ (m.meet sp w).poison) :
    c ∈ m.poison ∨ (c = (sp, w) ∧ ∃ x ∈ m.upsets, x.1 = sp ∧ x.2.1 = w ∧ x.2.2 = true) := by
  rcases (m.meet_marks sp w).2 c hc with h | rfl
  · exact .inl h
  · unfold Memory.meet at hc
    split at hc
    · exact .inl hc
    · rename_i x hx
      have hat := List.find?_some hx
      simp only [Bool.and_eq_true, decide_eq_true_eq] at hat
      cases hbad : x.2.2 with
      | true => exact .inr ⟨rfl, x, List.mem_of_find?_eq_some hx, hat.1, hat.2, hbad⟩
      | false =>
        rw [hbad, if_neg Bool.false_ne_true] at hc
        split at hc <;> exact .inl hc

/-- A write leaves a sound range sound: it meets words that hold no uncorrectable error there, or words outside it (08 R214). -/
theorem Memory.SoundIn.spared {m : Memory} {p a n : Nat} (h : m.SoundIn p a n) (sp base len : Nat) (f : Nat → Byte) : (m.write sp base len f).SoundIn p a n := by
  have hmet : ((partialWords sp base len).foldl (fun m w => m.meet sp w) m).SoundIn p a n := by
    generalize partialWords sp base len = ws
    induction ws generalizing m with
    | nil => exact h
    | cons w ws ih =>
      refine ih ?_
      obtain ⟨hu, -⟩ := m.meet_marks sp w
      refine ⟨fun c hc => h.upsets c (hu c hc), fun c hc hsp hlo => ?_⟩
      rcases m.meet_poison sp w c hc with hc | ⟨rfl, x, hx, hxs, hxw, hbad⟩
      · exact h.poison c hc hsp hlo
      · by_contra hhi
        exact absurd (hbad.symm.trans (h.upsets x hx (hxs.trans hsp) (hxw ▸ hlo) (by rw [hxw]; exact Nat.lt_of_not_le hhi))) nofun
  unfold Memory.write
  generalize (partialWords sp base len).foldl (fun m w => m.meet sp w) m = x at hmet
  dsimp only
  split
  case h_3 => exact ⟨hmet.upsets, hmet.poison⟩
  all_goals exact ⟨fun c hc => hmet.upsets c (List.mem_filter.1 hc).1, fun c hc => hmet.poison c (List.mem_filter.1 hc).1⟩

-- What writes inside a region leave.

/-- A later state of a word's parts, which have written in a region of one memory: other bytes stand, sound ranges are sound, and the hank on the Distaff stays. -/
structure State.WroteIn (s t : State) (d sp : Nat) (D : Nat → Prop) : Prop where
  bytes : ∀ p a, p ≤ 5 → (p = sp → ¬D a) → t.byteAt p a = s.byteAt p a
  sound : ∀ p a n, s.mem.SoundIn p a n → t.mem.SoundIn p a n
  run : ∀ y, s.run d = some y → ∃ m, t.run d = some { y with rejected := m }

theorem State.WroteIn.refl (s : State) (d sp : Nat) (D : Nat → Prop) : s.WroteIn s d sp D := ⟨fun _ _ _ _ => rfl, fun _ _ _ h => h, fun y hy => ⟨y.rejected, hy⟩⟩

theorem State.WroteIn.trans {s t u : State} {d sp : Nat} {D : Nat → Prop} (h : s.WroteIn t d sp D) (g : t.WroteIn u d sp D) : s.WroteIn u d sp D := by
  refine ⟨fun p a hp ha => (g.bytes p a hp ha).trans (h.bytes p a hp ha), fun p a n hs => g.sound p a n (h.sound p a n hs), fun y hy => ?_⟩
  obtain ⟨m, hm⟩ := h.run y hy
  obtain ⟨m', hm'⟩ := g.run _ hm
  exact ⟨m', hm'⟩

theorem State.WroteIn.mono {s t : State} {d sp : Nat} {D E : Nat → Prop} (h : s.WroteIn t d sp D) (hDE : ∀ a, D a → E a) : s.WroteIn t d sp E :=
  ⟨fun p a hp ha => h.bytes p a hp fun hsp hD => ha hsp (hDE a hD), h.sound, h.run⟩

/-- The bytes of a range that the region leaves alone. -/
theorem State.WroteIn.range {s t : State} {d sp : Nat} {D : Nat → Prop} (h : s.WroteIn t d sp D) {p a n : Nat} (hp : p ≤ 5) (ha : p = sp → ∀ j < n, ¬D (a + j)) :
    t.bytes p a n = s.bytes p a n :=
  List.map_congr_left fun j hj => h.bytes p (a + j) hp fun hsp => ha hsp j (List.mem_range.1 hj)

theorem State.WroteIn.lsReadable {s t : State} {d sp : Nat} {D : Nat → Prop} (h : s.WroteIn t d sp D) {bobbin : Bool} {u a n : Nat} (hr : s.lsReadable bobbin u a n) :
    t.lsReadable bobbin u a n :=
  (Memory.check_eq_none_iff ..).2 (h.sound _ _ _ ((Memory.check_eq_none_iff ..).1 hr))

theorem State.WroteIn.readable {s t : State} {d sp : Nat} {D : Nat → Prop} (h : s.WroteIn t d sp D) {r : Run} {b : Buffer} {a n : Nat} (hr : s.readable r b a n) :
    t.readable r b a n := by
  unfold State.readable at *
  split at hr
  · rename_i hsp
    rwa [if_pos hsp]
  · rename_i hsp
    rw [if_neg hsp]
    exact (Memory.check_eq_none_iff ..).2 (h.sound _ _ _ ((Memory.check_eq_none_iff ..).1 hr))

/-- A read that meets no uncorrectable error, as a step of a part. -/
theorem State.wroteIn_alike (s : State) (d sp : Nat) (D : Nat → Prop) {m : Memory} (h : s.mem.Alike m) : s.WroteIn { s with mem := m } d sp D :=
  ⟨fun p a _ _ => congrArg (fun x : Mem => x.byte a) (h.cells p), fun _ _ _ hs => h.soundIn hs, fun y hy => ⟨y.rejected, hy⟩⟩

theorem State.wroteIn_put (s : State) (d : Nat) {sp : Nat} (hsp : sp ≤ 5) (a : Nat) (bs : Bytes) :
    s.WroteIn (s.put sp a bs) d sp fun x => a ≤ x ∧ x < a + bs.length := by
  refine ⟨fun p x hp hx => ?_, fun p x n hs => hs.spared _ _ _ _, fun y hy => ⟨y.rejected, hy⟩⟩
  rw [State.byteAt_put s sp a bs p x hsp hp, if_neg fun h => hx h.1 h.2]

-- The parts.

/-- The failure of 07 R185: ABORTED, RANGE. -/
def OutOfRange (x : Done) : Prop := (x.2.map fun g => (g.status, g.cause)) = some (0xF0, 0x31)

/-- One part of a word: it writes in one range, whose bytes it gives, or it ends with RANGE. -/
structure IsPart (t : State) (x : Done) (d sp a n : Nat) (ok : Prop) (val : Nat → Byte) : Prop where
  wroteIn : t.WroteIn x.1 d sp fun c => a ≤ c ∧ c < a + n
  moved : ok → x = ({ t with mem := x.1.mem }, none) ∧ ∀ j < n, x.1.byteAt sp (a + j) = val j
  failed : ¬ok → OutOfRange x

/-- The parts of a list of units after those of another. -/
theorem eachUnit_append (us vs : List Nat) (f : Nat → State → Done) (s : State) :
    eachUnit (us ++ vs) f s = ((eachUnit vs f (eachUnit us f s).1).1, firstFail (eachUnit us f s).2 (eachUnit vs f (eachUnit us f s).1).2) := by
  have hfrom : ∀ (vs : List Nat) (t : State) (e : Option Failure), vs.foldl (fun acc u => let r := f u acc.1; (r.1, firstFail acc.2 r.2)) (t, e) =
      ((eachUnit vs f t).1, firstFail e (eachUnit vs f t).2) := by
    intro vs
    induction vs with
    | nil => exact fun t e => by cases e <;> rfl
    | cons v vs ih =>
      intro t e
      rw [List.foldl_cons, eachUnit, List.foldl_cons, ih, ih]
      cases e <;> rfl
  rw [eachUnit, List.foldl_append]
  exact hfrom vs _ _

theorem eachUnit_snoc (us : List Nat) (u : Nat) (f : Nat → State → Done) (s : State) :
    eachUnit (us ++ [u]) f s = ((f u (eachUnit us f s).1).1, firstFail (eachUnit us f s).2 (f u (eachUnit us f s).1).2) := by
  rw [eachUnit_append, eachUnit_singleton]

section
variable {s : State} {d sp n : Nat} {us : List Nat} {dst : Nat → Nat} {ok : Nat → Prop} {val : Nat → Nat → Byte} {f : Nat → State → Done}

/-- The bytes that the parts of some units write. -/
def PartsOf (us : List Nat) (dst : Nat → Nat) (n a : Nat) : Prop := ∃ u ∈ us, dst u ≤ a ∧ a < dst u + n

/-- Every part is as its description says, whatever the other parts have written. -/
def PartsAs (s : State) (d sp n : Nat) (us : List Nat) (dst : Nat → Nat) (ok : Nat → Prop) (val : Nat → Nat → Byte) (f : Nat → State → Done) : Prop :=
  ∀ u ∈ us, ∀ t, s.WroteIn t d sp (PartsOf us dst n) → IsPart t (f u t) d sp (dst u) n (ok u) (val u)

/-- The parts of some of the units, after parts of the word: they write in their ranges. -/
theorem PartsAs.wroteIn (h : PartsAs s d sp n us dst ok val f) {vs : List Nat} (hvs : ∀ v ∈ vs, v ∈ us) {t : State} (ht : s.WroteIn t d sp (PartsOf us dst n)) :
    t.WroteIn (eachUnit vs f t).1 d sp (PartsOf vs dst n) := by
  induction vs using List.reverseRecOn with
  | nil => exact .refl ..
  | append_singleton vs v ih =>
    have hbefore := ih fun x hx => hvs x (List.mem_append_left _ hx)
    have hv := hvs v (List.mem_append_right _ (List.mem_singleton_self v))
    have hall : s.WroteIn (eachUnit vs f t).1 d sp (PartsOf us dst n) :=
      ht.trans (hbefore.mono fun a ⟨x, hx, ha⟩ => ⟨x, hvs x (List.mem_append_left _ hx), ha⟩)
    rw [eachUnit_snoc]
    exact (hbefore.mono fun a ⟨x, hx, ha⟩ => ⟨x, List.mem_append_left _ hx, ha⟩).trans
      ((h v hv _ hall).wroteIn.mono fun a ha => ⟨v, List.mem_append_right _ (List.mem_singleton_self v), ha⟩)

/-- The bytes of a unit's range after all parts, where no later unit's range meets it. -/
theorem PartsAs.byteAt (h : PartsAs s d sp n us dst ok val f) (hsp : sp ≤ 5) {u : Nat} {before after : List Nat} (hus : us = before ++ u :: after) (hok : ok u)
    (hafter : ∀ v ∈ after, dst v + n ≤ dst u ∨ dst u + n ≤ dst v) {j : Nat} (hj : j < n) : (eachUnit us f s).1.byteAt sp (dst u + j) = val u j := by
  have hin : ∀ v ∈ before ++ [u], v ∈ us := fun v hv => by
    rw [hus]
    rcases List.mem_append.1 hv with hv | hv
    · exact List.mem_append_left _ hv
    · exact List.mem_append_right _ (List.mem_singleton.1 hv ▸ List.mem_cons_self)
  have hu : u ∈ us := hin u (List.mem_append_right _ (List.mem_singleton_self u))
  have hbefore : s.WroteIn (eachUnit before f s).1 d sp (PartsOf us dst n) :=
    (h.wroteIn (fun v hv => hin v (List.mem_append_left _ hv)) (.refl ..)).mono fun a ⟨x, hx, ha⟩ => ⟨x, hin x (List.mem_append_left _ hx), ha⟩
  have hthere := ((h u hu _ hbefore).moved hok).2 j hj
  have hthrough : s.WroteIn (eachUnit (before ++ [u]) f s).1 d sp (PartsOf us dst n) := (h.wroteIn hin (.refl ..)).mono fun a ⟨x, hx, ha⟩ => ⟨x, hin x hx, ha⟩
  have hrest := h.wroteIn (vs := after) (fun v hv => hus ▸ List.mem_append_right _ (List.mem_cons_of_mem _ hv)) hthrough
  have hsplit : us = (before ++ [u]) ++ after := by rw [hus, List.append_assoc]; rfl
  rw [hsplit, eachUnit_append, hrest.bytes sp (dst u + j) hsp fun _ ⟨v, hv, ha⟩ => by have := hafter v hv; omega, eachUnit_snoc]
  exact hthere

/-- The bytes of each unit's range, where no two ranges meet. -/
theorem PartsAs.byteAt_of_disjoint (h : PartsAs s d sp n us dst ok val f) (hsp : sp ≤ 5) (hnodup : us.Nodup)
    (hdisj : ∀ u ∈ us, ∀ v ∈ us, u ≠ v → dst v + n ≤ dst u ∨ dst u + n ≤ dst v) {u : Nat} (hu : u ∈ us) (hok : ok u) {j : Nat} (hj : j < n) :
    (eachUnit us f s).1.byteAt sp (dst u + j) = val u j := by
  obtain ⟨before, after, hus⟩ := List.append_of_mem hu
  refine h.byteAt hsp hus hok (fun v hv => hdisj u hu v (hus ▸ List.mem_append_right _ (List.mem_cons_of_mem _ hv)) ?_) hj
  rintro rfl
  rw [hus] at hnodup
  exact (List.nodup_cons.1 (List.nodup_append.1 hnodup).2.1).1 hv

/-- Parts that all move their bytes leave the rest of the state. -/
theorem PartsAs.moved (h : PartsAs s d sp n us dst ok val f) (hok : ∀ u ∈ us, ok u) : eachUnit us f s = ({ s with mem := (eachUnit us f s).1.mem }, none) := by
  suffices hsome : ∀ vs, (∀ v ∈ vs, v ∈ us) → eachUnit vs f s = ({ s with mem := (eachUnit vs f s).1.mem }, none) from hsome us fun _ hv => hv
  intro vs hvs
  induction vs using List.reverseRecOn with
  | nil => rfl
  | append_singleton vs v ih =>
    have hin : ∀ x ∈ vs, x ∈ us := fun x hx => hvs x (List.mem_append_left _ hx)
    have hbefore := ih hin
    have hv := hvs v (List.mem_append_right _ (List.mem_singleton_self v))
    have hpart := ((h v hv _ ((h.wroteIn hin (.refl ..)).mono fun a ⟨x, hx, ha⟩ => ⟨x, hin x hx, ha⟩)).moved (hok v hv)).1
    rw [eachUnit_snoc, hpart, hbefore]
    rfl

/-- A part that ends with RANGE is the word's failure, when no part fails otherwise. -/
theorem PartsAs.failed (h : PartsAs s d sp n us dst ok val f) {u : Nat} (hu : u ∈ us) (hok : ¬ok u) : OutOfRange (eachUnit us f s) := by
  suffices hsome : ∀ vs, (∀ v ∈ vs, v ∈ us) → u ∈ vs ∨ (eachUnit vs f s).2 ≠ none → OutOfRange (eachUnit vs f s) from hsome us (fun _ hv => hv) (.inl hu)
  intro vs hvs
  induction vs using List.reverseRecOn with
  | nil => rintro (h | h) <;> exact absurd h (by simp [eachUnit])
  | append_singleton vs v ih =>
    intro hcase
    have hin : ∀ x ∈ vs, x ∈ us := fun x hx => hvs x (List.mem_append_left _ hx)
    have hv := hvs v (List.mem_append_right _ (List.mem_singleton_self v))
    have hpart := h v hv _ ((h.wroteIn hin (.refl ..)).mono fun a ⟨x, hx, ha⟩ => ⟨x, hin x hx, ha⟩)
    rw [eachUnit_snoc] at hcase ⊢
    cases hbefore : (eachUnit vs f s).2 with
    | some e =>
      have hrange := ih hin (.inr (by rw [hbefore]; nofun))
      rw [OutOfRange, hbefore] at hrange
      exact hrange
    | none =>
      refine hpart.failed fun hok' => ?_
      rw [hbefore, (hpart.moved hok').1] at hcase
      rcases hcase with hmem | hfail
      · rcases List.mem_append.1 hmem with hmem | hmem
        · have hrange := ih hin (.inl hmem)
          rw [OutOfRange, hbefore] at hrange
          exact nomatch hrange
        · exact hok (List.mem_singleton.1 hmem ▸ hok')
      · exact hfail rfl

end

end Sys2Proof.Machine
end

section
/-!
PROOF. LOAD, STORE, COPY and GATHER (O26): each part of a word reads what stood there at first, and writes its own range.
-/
namespace Sys2Proof.Machine

theorem State.wroteIn_put_of_length (s : State) (d : Nat) {sp : Nat} (hsp : sp ≤ 5) (a : Nat) {bs : Bytes} {n : Nat} (hn : bs.length = n) :
    s.WroteIn (s.put sp a bs) d sp fun x => a ≤ x ∧ x < a + n := hn ▸ s.wroteIn_put d hsp a bs

/-- A part that reads soundly and writes what it has read. -/
theorem isPart_of_put {s : State} {d sp a n : Nat} (hsp : sp ≤ 5) {m : Memory} (hm : s.mem.Alike m) {bs : Bytes} (hn : bs.length = n) (ok : Prop) (hok : ok) {val : Nat → Byte}
    (hval : ∀ j < n, bs.getD j 0 = val j) : IsPart s ((({ s with mem := m } : State).put sp a bs), none) d sp a n ok val := by
  refine ⟨(s.wroteIn_alike d sp _ hm).trans (State.wroteIn_put_of_length _ d hsp a hn), fun _ => ⟨rfl, fun j hj => ?_⟩, fun h => absurd hok h⟩
  rw [State.byteAt_put _ sp a bs sp (a + j) hsp hsp, if_pos ⟨rfl, by omega, by omega⟩, Nat.add_sub_cancel_left]
  exact hval j hj

theorem mem_moverUnits_lt {w u : Nat} (h : u ∈ moverUnits w) : u = wUnit w ∨ wAll w = true := by
  unfold moverUnits at h
  cases hall : wAll w with
  | true => exact .inr rfl
  | false =>
    refine .inl ?_
    rw [hall] at h
    split at h <;> exact List.mem_singleton.1 h

theorem nodup_moverUnits (w : Nat) : (moverUnits w).Nodup := by
  unfold moverUnits
  split <;> split
  · exact List.nodup_range
  · exact List.nodup_singleton _
  · exact List.nodup_range
  · exact List.nodup_singleton _

theorem lsSpace_le (bobbin : Bool) : lsSpace bobbin ≤ 5 := by cases bobbin <;> decide

theorem lsSpace_ne {sp : Nat} (h : sp ≤ 2) (bobbin : Bool) : sp ≠ lsSpace bobbin := by
  cases bobbin <;> (rintro rfl; exact absurd h (by decide))

/-- What a word leaves whose parts are as described: its bytes, and its failure. -/
structure State.MovedParts (s t : State) (d k sp n : Nat) (us : List Nat) (dst : Nat → Nat) (ok : Nat → Prop) (f : Option Failure) : Prop where
  ran : t.ranWith d k f
  others : ∀ p a, (p ≠ sp ∨ ∀ u ∈ us, a < dst u ∨ dst u + n ≤ a) → p ≤ 5 → t.byteAt p a = s.byteAt p a
  moved : (∀ u ∈ us, ok u) → f = none ∧ t = { s with mem := t.mem, distaffs := t.distaffs }
  failed : (∃ u ∈ us, ¬ok u) → (f.map fun g => (g.status, g.cause)) = some (0xF0, 0x31)

theorem State.word_parts {s s0 : State} {d : Nat} {o : Op} {r : Run} {k w : Nat} (h : s.atUnits d o = some (s0, r, k, w)) {eff : WordEffect} {sp n : Nat} {us : List Nat}
    {dst : Nat → Nat} {ok : Nat → Prop} {val : Nat → Nat → Byte} {f : Nat → State → Done} (heff : eff r k w s0 = .done (eachUnit us f s0).1 (eachUnit us f s0).2)
    (hp : PartsAs s0 d sp n us dst ok val f) :
    s.MovedParts (s.word d o eff) d k sp n us dst ok (eachUnit us f s0).2 ∧ ∀ p a, (s.word d o eff).byteAt p a = (eachUnit us f s0).1.byteAt p a := by
  have hh := State.handed_of_atUnits h
  have hwrote := hp.wroteIn (fun _ hv => hv) (.refl ..)
  obtain ⟨m, hm⟩ := hwrote.run r hh.run
  have hran := State.word_done h heff hm rfl
  refine ⟨⟨hran.ran, fun p a ha h5 => ?_, fun hok => ?_, fun ⟨u, hu, hok⟩ => hp.failed hu hok⟩, hran.byteAt⟩
  · rw [hran.byteAt, ← hh.byteAt]
    refine hwrote.bytes p a h5 fun hsp => ?_
    rintro ⟨u, hu, hlo, hhi⟩
    rcases ha with ha | ha
    · exact ha hsp
    · have := ha u hu
      omega
  · have hall := hp.moved hok
    rw [hall] at hran ⊢
    refine ⟨rfl, ?_⟩
    rw [hran.frame, hh.frame]

/-- Where a buffer begins in its memory. -/
def Run.origin (r : Run) (b : Buffer) : Nat := if b.space = 2 then r.owner * 2 ^ 64 + b.base else b.base

theorem Run.place_eq (r : Run) {b : Buffer} {off : Nat} (h : b.space = 2 → b.base + off < 2 ^ 64) : r.place b off = r.origin b + off := by
  unfold Run.place Run.origin
  split
  · rename_i hsp
    rw [hostKey, Nat.mod_eq_of_lt (h hsp), Nat.add_assoc]
  · rfl

-- LOAD.

/-- One unit's part of LOAD and of STORE, by their definitions. -/
def loadPart (r : Run) (k w u : Nat) (s : State) : Done :=
  let g := s.readIdx r k (ldBuf w) (moverOffset w u) (ldLen w)
  let a := lsKey (ldBobbin w) u (ldLs w)
  match g.fail with
  | none => (g.st.put (lsSpace (ldBobbin w)) a g.bytes, none)
  | some f => (g.st.spoil (lsSpace (ldBobbin w)) a (ldLen w), some f)

theorem effLoad_eq (r : Run) (k w : Nat) (s : State) :
    effLoad r k w s = .done (eachUnit (moverUnits w) (loadPart r k w) s).1 (eachUnit (moverUnits w) (loadPart r k w) s).2 := rfl

theorem loadPart_of_readable {s : State} {d : Nat} {r : Run} {k w u : Nat} {b : Buffer} (hb : r.buf (ldBuf w) = some b) (h : s.readable r b (moverOffset w u) (ldLen w)) :
    IsPart s (loadPart r k w u s) d (lsSpace (ldBobbin w)) (lsKey (ldBobbin w) u (ldLs w)) (ldLen w) True
      fun j => s.byteAt b.space (r.place b (moverOffset w u) + j) := by
  obtain ⟨m, hm, hread⟩ := State.readIdx_of_readable k hb h
  unfold loadPart
  rw [hread]
  exact isPart_of_put (lsSpace_le _) hm (s.length_bytes ..) _ trivial fun j hj => s.getD_bytes _ _ hj 0

theorem IsPart.congr {t : State} {x : Done} {d sp a n : Nat} {ok ok' : Prop} {val val' : Nat → Byte} (h : IsPart t x d sp a n ok val) (hok : ok ↔ ok')
    (hval : ∀ j < n, val j = val' j) : IsPart t x d sp a n ok' val' :=
  ⟨h.wroteIn, fun g => ⟨(h.moved (hok.2 g)).1, fun j hj => ((h.moved (hok.2 g)).2 j hj).trans (hval j hj)⟩, fun g => h.failed fun g' => g (hok.1 g')⟩

theorem partsAs_load {s : State} {d : Nat} {r : Run} {k w : Nat} {b : Buffer} (hb : r.buf (ldBuf w) = some b) (hsp : b.space ≤ 2)
    (hread : ∀ u ∈ moverUnits w, s.readable r b (moverOffset w u) (ldLen w)) :
    PartsAs s d (lsSpace (ldBobbin w)) (ldLen w) (moverUnits w) (fun u => lsKey (ldBobbin w) u (ldLs w)) (fun _ => True)
      (fun u j => s.byteAt b.space (r.place b (moverOffset w u) + j)) (loadPart r k w) := by
  intro u hu t ht
  exact (loadPart_of_readable hb (ht.readable (hread u hu))).congr .rfl fun j _ => ht.bytes _ _ (by omega) fun h => absurd h (lsSpace_ne hsp _)

theorem lsKey_disjoint {bobbin : Bool} {a n u v : Nat} (h : a + n ≤ if bobbin = true then 2 ^ 19 else 2 ^ 20) (hne : u ≠ v) :
    lsKey bobbin v a + n ≤ lsKey bobbin u a ∨ lsKey bobbin u a + n ≤ lsKey bobbin v a := by
  cases bobbin <;> simp only [lsKey, if_true, Bool.false_eq_true, if_false] at h ⊢ <;> omega

-- STORE.

def storePart (r : Run) (w u : Nat) (s : State) : Done :=
  let g := s.readLs (lsSpace (ldBobbin w)) (lsKey (ldBobbin w) u (ldLs w)) (ldLen w)
  match g.fail with
  | none => (g.st.writeIdx r (ldBuf w) (moverOffset w u) g.bytes, none)
  | some f => (g.st.spoilIdx r (ldBuf w) (moverOffset w u) (ldLen w), some f)

theorem effStore_eq (r : Run) (k w : Nat) (s : State) :
    effStore r k w s = .done (eachUnit (moverUnits w) (storePart r w) s).1 (eachUnit (moverUnits w) (storePart r w) s).2 := rfl

theorem State.readLs_of_readable {s : State} {bobbin : Bool} {u a n : Nat} (h : s.lsReadable bobbin u a n) :
    ∃ m, s.mem.Alike m ∧ s.readLs (lsSpace bobbin) (lsKey bobbin u a) n = ⟨s.bytes (lsSpace bobbin) (lsKey bobbin u a) n, { s with mem := m }, none⟩ := by
  refine ⟨_, s.mem.check_alike _ _ _ h, ?_⟩
  unfold State.readLs
  dsimp only
  rw [h]
  exact congrArg (fun bs => (⟨bs, _, none⟩ : Got)) (State.bytes_of_cells (Memory.check_space _ _ _ _ _) _ _)

theorem storePart_of_readable {s : State} {d : Nat} {r : Run} {w u : Nat} {b : Buffer} (hb : r.buf (ldBuf w) = some b) (hsp : b.space ≤ 2)
    (hhost : b.space = 2 → r.noHost = false) (h : s.lsReadable (ldBobbin w) u (ldLs w) (ldLen w)) :
    IsPart s (storePart r w u s) d b.space (r.place b (moverOffset w u)) (ldLen w) True
      fun j => s.byteAt (lsSpace (ldBobbin w)) (lsKey (ldBobbin w) u (ldLs w) + j) := by
  obtain ⟨m, hm, hread⟩ := State.readLs_of_readable h
  unfold storePart
  rw [hread]
  dsimp only
  rw [State.writeIdx_eq_put_place _ hb hhost]
  exact isPart_of_put (by omega) hm (s.length_bytes ..) _ trivial fun j hj => s.getD_bytes _ _ hj 0

theorem partsAs_store {s : State} {d : Nat} {r : Run} {w : Nat} {b : Buffer} (hb : r.buf (ldBuf w) = some b) (hsp : b.space ≤ 2)
    (hhost : b.space = 2 → r.noHost = false) (hread : ∀ u ∈ moverUnits w, s.lsReadable (ldBobbin w) u (ldLs w) (ldLen w)) :
    PartsAs s d b.space (ldLen w) (moverUnits w) (fun u => r.place b (moverOffset w u)) (fun _ => True)
      (fun u j => s.byteAt (lsSpace (ldBobbin w)) (lsKey (ldBobbin w) u (ldLs w) + j)) (storePart r w) := by
  intro u hu t ht
  exact (storePart_of_readable hb hsp hhost (ht.lsReadable (hread u hu))).congr .rfl fun j _ => ht.bytes _ _ (lsSpace_le _) fun h => absurd h.symm (lsSpace_ne hsp _)

theorem load_moves (s s0 : State) (d : Fin 8) (r : Run) (k w : Nat) (b : Buffer) (h : s.atUnits d .load = some (s0, r, k, w)) (hb : r.buf (ldBuf w) = some b)
    (hsp : b.space ≤ 2) (hread : ∀ u ∈ moverUnits w, s.readable r b (moverOffset w u) (ldLen w)) (hls : ldLs w + ldLen w ≤ (if ldBobbin w = true then 2 ^ 19 else 2 ^ 20)) :
    ∃ t, exec (.load d) s = .next t ∧ t.ranWith d k none ∧ t = { s with mem := t.mem, distaffs := t.distaffs } ∧
      (∀ u ∈ moverUnits w, ∀ j < ldLen w, t.byteAt (lsSpace (ldBobbin w)) (lsKey (ldBobbin w) u (ldLs w) + j) = s.byteAt b.space (r.place b (moverOffset w u) + j)) ∧
      ∀ p a, (p ≠ lsSpace (ldBobbin w) ∨ ∀ u ∈ moverUnits w, ∀ j < ldLen w, a ≠ lsKey (ldBobbin w) u (ldLs w) + j) → p ≤ 5 → t.byteAt p a = s.byteAt p a := by
  have hh := State.handed_of_atUnits h
  have hp : PartsAs s0 d _ _ _ _ _ _ (loadPart r k w) := partsAs_load hb hsp fun u hu => hh.alike.readable (hread u hu)
  obtain ⟨hmoved, hbytes⟩ := State.word_parts h (effLoad_eq r k w s0) hp
  obtain ⟨hnone, hframe⟩ := hmoved.moved fun _ _ => trivial
  refine ⟨s.word d .load effLoad, rfl, hnone ▸ hmoved.ran, hframe, fun u hu j hj => ?_, fun p a ha h5 => hmoved.others p a (ha.imp id fun ha u hu => ?_) h5⟩
  · rw [hbytes, ← hh.byteAt]
    exact hp.byteAt_of_disjoint (lsSpace_le _) (nodup_moverUnits w) (fun _ _ _ _ hne => lsKey_disjoint hls hne) hu trivial hj
  · by_contra hin
    exact ha u hu (a - lsKey (ldBobbin w) u (ldLs w)) (by omega) (by omega)

/-- The parts of a STORE with STEP lie one length apart. -/
theorem place_step_disjoint {r : Run} {w : Nat} {b : Buffer} (hfit : b.space = 2 → ∀ u ∈ moverUnits w, b.base + moverOffset w u + ldLen w ≤ 2 ^ 64)
    (hstep : wAll w = false ∨ ldStep w = true) {u v : Nat} (hu : u ∈ moverUnits w) (hv : v ∈ moverUnits w) (hne : u ≠ v) :
    r.place b (moverOffset w v) + ldLen w ≤ r.place b (moverOffset w u) ∨ r.place b (moverOffset w u) + ldLen w ≤ r.place b (moverOffset w v) := by
  rcases Nat.eq_zero_or_pos (ldLen w) with hzero | hpos
  · omega
  have hall : wAll w = true := by
    rcases mem_moverUnits_lt hu with rfl | hall
    · rcases mem_moverUnits_lt hv with rfl | hall
      · exact absurd rfl hne
      · exact hall
    · exact hall
  have hstep : ldStep w = true := hstep.resolve_left (by rw [hall]; nofun)
  have hoff : ∀ x, moverOffset w x = ldOff w + x * ldLen w := fun x => by rw [moverOffset, hall, hstep]; rfl
  rw [r.place_eq fun h2 => by have := hfit h2 v hv; omega, r.place_eq fun h2 => by have := hfit h2 u hu; omega, hoff, hoff]
  rcases Nat.lt_or_gt_of_ne hne with hlt | hlt
  · have := Nat.mul_le_mul_right (ldLen w) hlt
    rw [Nat.succ_mul] at this
    omega
  · have := Nat.mul_le_mul_right (ldLen w) hlt
    rw [Nat.succ_mul] at this
    omega

theorem store_moves (s s0 : State) (d : Fin 8) (r : Run) (k w : Nat) (b : Buffer) (h : s.atUnits d .store = some (s0, r, k, w)) (hb : r.buf (ldBuf w) = some b)
    (hsp : b.space ≤ 2) (hread : ∀ u ∈ moverUnits w, s.lsReadable (ldBobbin w) u (ldLs w) (ldLen w))
    (hhost : b.space = 2 → r.noHost = false ∧ ∀ u ∈ moverUnits w, b.base + moverOffset w u + ldLen w ≤ 2 ^ 64) :
    ∃ t, exec (.store d) s = .next t ∧ t.ranWith d k none ∧ t = { s with mem := t.mem, distaffs := t.distaffs } ∧
      (∀ u ∈ moverUnits w, wAll w = false ∨ ldStep w = true ∨ (moverUnits w).getLast? = some u →
        ∀ j < ldLen w, t.byteAt b.space (r.place b (moverOffset w u) + j) = s.byteAt (lsSpace (ldBobbin w)) (lsKey (ldBobbin w) u (ldLs w) + j)) ∧
      ∀ p a, (p ≠ b.space ∨ ∀ u ∈ moverUnits w, a < r.place b (moverOffset w u) ∨ r.place b (moverOffset w u) + ldLen w ≤ a) → p ≤ 5 → t.byteAt p a = s.byteAt p a := by
  have hh := State.handed_of_atUnits h
  have hp : PartsAs s0 d _ _ _ _ _ _ (storePart r w) := partsAs_store hb hsp (fun h2 => (hhost h2).1) fun u hu => hh.alike.check (hread u hu)
  obtain ⟨hmoved, hbytes⟩ := State.word_parts h (effStore_eq r k w s0) hp
  obtain ⟨hnone, hframe⟩ := hmoved.moved fun _ _ => trivial
  refine ⟨s.word d .store effStore, rfl, hnone ▸ hmoved.ran, hframe, fun u hu hcase j hj => ?_, hmoved.others⟩
  rw [hbytes, ← hh.byteAt]
  have h5 : b.space ≤ 5 := by omega
  rcases or_assoc.2 hcase with hstep | hlast
  · exact hp.byteAt_of_disjoint h5 (nodup_moverUnits w) (fun _ hx _ hy hne => place_step_disjoint (fun h2 => (hhost h2).2) hstep hx hy hne) hu trivial hj
  · obtain ⟨before, hbefore⟩ := List.getLast?_eq_some_iff.1 hlast
    exact hp.byteAt h5 hbefore trivial (fun _ hv => absurd hv List.not_mem_nil) hj

-- COPY.

theorem State.wroteIn_writeIdx (s : State) (d : Nat) {r : Run} {i : Nat} {b : Buffer} (hb : r.buf i = some b) (hsp : b.space ≤ 2) (hhost : b.space = 2 → r.noHost = false)
    (off : Nat) {bs : Bytes} {n : Nat} (hn : bs.length = n) : s.WroteIn (s.writeIdx r i off bs) d b.space fun x => r.place b off ≤ x ∧ x < r.place b off + n := by
  rw [State.writeIdx_eq_put_place s hb hhost]
  exact State.wroteIn_put_of_length s d (by omega) _ hn

theorem State.wroteIn_spoilIdx (s : State) (d : Nat) {r : Run} {i : Nat} {b : Buffer} (hb : r.buf i = some b) (hsp : b.space ≤ 2) (hhost : b.space = 2 → r.noHost = false)
    (off n : Nat) : s.WroteIn (s.spoilIdx r i off n) d b.space fun x => r.place b off ≤ x ∧ x < r.place b off + n := by
  have hfree : s.WroteIn (s.freeBytes n).2 d b.space fun x => r.place b off ≤ x ∧ x < r.place b off + n := ⟨fun _ _ _ _ => rfl, fun _ _ _ hs => hs, fun y hy => ⟨y.rejected, hy⟩⟩
  exact hfree.trans (State.wroteIn_writeIdx _ d hb hsp hhost off (by rw [State.freeBytes, List.length_map, List.length_range]))

theorem State.spoilIdx_frame (s : State) (r : Run) (i off n : Nat) : s.spoilIdx r i off n = { s with mem := (s.spoilIdx r i off n).mem, out := (s.spoilIdx r i off n).out } := by
  rw [State.spoilIdx, State.writeIdx_eq]
  rfl

/-- COPY whose ranges meet without being the same (log 2). -/
def copyOverlaps (w : Nat) : Prop := cpSrc w = cpDst w ∧ meets (cpSoff w) (cpLen w) (cpDoff w) (cpLen w) = true ∧ cpSoff w ≠ cpDoff w

theorem effCopy_of_readable {s : State} {r : Run} {k w : Nat} {a : Buffer} (ha : r.buf (cpSrc w) = some a) (h : s.readable r a (cpSoff w) (cpLen w)) :
    ∃ m, s.mem.Alike m ∧ (copyOverlaps w → effCopy r k w s = .done (({ s with mem := m } : State).spoilIdx r (cpDst w) (cpDoff w) (cpLen w)) none) ∧
      (¬copyOverlaps w → effCopy r k w s = .done (({ s with mem := m } : State).writeIdx r (cpDst w) (cpDoff w) (s.bytes a.space (r.place a (cpSoff w)) (cpLen w))) none) := by
  obtain ⟨m, hm, hread⟩ := State.readIdx_of_readable k ha h
  refine ⟨m, hm, fun hover => ?_, fun hover => ?_⟩ <;> unfold effCopy <;> rw [hread]
  · rw [if_pos (by simpa [copyOverlaps, and_assoc] using hover)]
  · rw [if_neg (by simpa [copyOverlaps, and_assoc] using hover)]

theorem copy_moves (s s0 : State) (d : Fin 8) (r : Run) (k w : Nat) (a b : Buffer) (h : s.atUnits d .copy = some (s0, r, k, w)) (ha : r.buf (cpSrc w) = some a)
    (hb : r.buf (cpDst w) = some b) (hspb : b.space ≤ 2) (hread : s.readable r a (cpSoff w) (cpLen w)) (hhost : b.space = 2 → r.noHost = false) :
    ∃ t, exec (.copy d) s = .next t ∧ t.ranWith d k none ∧ t = { s with mem := t.mem, distaffs := t.distaffs, out := t.out } ∧
      (¬copyOverlaps w → t.out = s.out ∧ ∀ j < cpLen w, t.byteAt b.space (r.place b (cpDoff w) + j) = s.byteAt a.space (r.place a (cpSoff w) + j)) ∧
      ∀ p c, (p ≠ b.space ∨ c < r.place b (cpDoff w) ∨ r.place b (cpDoff w) + cpLen w ≤ c) → p ≤ 5 → t.byteAt p c = s.byteAt p c := by
  have hh := State.handed_of_atUnits h
  obtain ⟨m, hm, hover, hclear⟩ := effCopy_of_readable (k := k) ha (hh.alike.readable hread)
  have hexec : exec (.copy d) s = .next (s.word d .copy effCopy) := rfl
  have hmet := s0.wroteIn_alike d b.space (fun x => r.place b (cpDoff w) ≤ x ∧ x < r.place b (cpDoff w) + cpLen w) hm
  have hothers : ∀ {t : State}, s0.WroteIn t d b.space (fun x => r.place b (cpDoff w) ≤ x ∧ x < r.place b (cpDoff w) + cpLen w) →
      ∀ p c, (p ≠ b.space ∨ c < r.place b (cpDoff w) ∨ r.place b (cpDoff w) + cpLen w ≤ c) → p ≤ 5 → t.byteAt p c = s.byteAt p c := by
    intro t hwrote p c hc h5
    rw [← hh.byteAt]
    exact hwrote.bytes p c h5 fun hsp hin => by omega
  by_cases ho : copyOverlaps w
  case pos =>
    have hwrote := hmet.trans (State.wroteIn_spoilIdx { s0 with mem := m } d hb hspb hhost (cpDoff w) (cpLen w))
    obtain ⟨n, hn⟩ := hwrote.run r hh.run
    have hran := State.word_done h (hover ho) hn rfl
    refine ⟨_, hexec, hran.ran, ?_, fun hno => absurd ho hno, fun p c hc h5 => (hran.byteAt p c).trans (hothers hwrote p c hc h5)⟩
    rw [hran.frame, State.spoilIdx_frame, hh.frame]
  case neg =>
    have hwrote := hmet.trans (State.wroteIn_writeIdx { s0 with mem := m } d hb hspb hhost (cpDoff w) (s0.length_bytes a.space (r.place a (cpSoff w)) (cpLen w)))
    obtain ⟨n, hn⟩ := hwrote.run r hh.run
    have hran := State.word_done h (hclear ho) hn rfl
    refine ⟨_, hexec, hran.ran, ?_, fun _ => ⟨?_, fun j hj => ?_⟩, fun p c hc h5 => (hran.byteAt p c).trans (hothers hwrote p c hc h5)⟩
    · rw [hran.frame, State.writeIdx_eq, hh.frame]
    · rw [hran.out, State.writeIdx_eq, hh.out]
    · have h5 : b.space ≤ 5 := by omega
      rw [hran.byteAt, State.writeIdx_eq_put_place _ hb hhost, State.byteAt_put _ _ _ _ _ _ h5 h5, State.length_bytes, if_pos ⟨rfl, by omega, by omega⟩,
        Nat.add_sub_cancel_left, State.getD_bytes _ _ _ hj, hh.byteAt]

-- GATHER.

def gatherPart (r : Run) (k w j : Nat) (s : State) : Done :=
  let n := gaRow w
  let len := (r.buf (gaSrc w)).elim 0 fun b => b.length
  let i := s.readIdx r k (gaIdx w) (4 * j) 4
  let row := ofLe i.bytes
  match i.fail with
  | some f => (i.st.spoilIdx r (gaDst w) (j * n) n, some f)
  | none =>
    if len < (row + 1) * n then let f := i.st.failRange r k; (f.1.spoilIdx r (gaDst w) (j * n) n, some f.2)
    else
      let g := i.st.readIdx r k (gaSrc w) (row * n) n
      match g.fail with
      | none => (g.st.writeIdx r (gaDst w) (j * n) g.bytes, none)
      | some f => (g.st.spoilIdx r (gaDst w) (j * n) n, some f)

theorem effGather_eq (r : Run) (k w : Nat) (s : State) :
    effGather r k w s = .done (eachUnit (List.range (gaCount w)) (gatherPart r k w) s).1 (eachUnit (List.range (gaCount w)) (gatherPart r k w) s).2 := rfl

/-- Index j of a GATHER. -/
def State.gatherIdx (s : State) (r : Run) (y : Buffer) (j : Nat) : Nat := ofLe (s.bytes y.space (r.place y (4 * j)) 4)

theorem State.wroteIn_failRange (s : State) (d sp : Nat) (D : Nat → Prop) (r : Run) (k : Nat) : s.WroteIn (s.failRange r k).1 d sp D := by
  obtain ⟨hmem, -, -⟩ := s.failWord_counts r.ring r.seq k stAborted cRange
  refine ⟨fun p a _ _ => ?_, fun _ _ _ hs => ?_, fun y hy => s.run_failWord hy ..⟩
  · exact congrArg (fun m : Memory => (m.space p).byte a) hmem
  · exact hmem.symm ▸ hs

section
variable {s : State} {d : Nat} {r : Run} {k w j : Nat} {x y z : Buffer}

/-- A row of a GATHER whose index and source can be read: it moves, or its index is past SRC (07 R193). -/
theorem gatherPart_isPart (hx : r.buf (gaSrc w) = some x) (hy : r.buf (gaIdx w) = some y) (hz : r.buf (gaDst w) = some z) (hsp : z.space ≤ 2)
    (hhost : z.space = 2 → r.noHost = false) (hidx : s.readable r y (4 * j) 4)
    (hsrc : (s.gatherIdx r y j + 1) * gaRow w ≤ x.length → s.readable r x (s.gatherIdx r y j * gaRow w) (gaRow w)) :
    IsPart s (gatherPart r k w j s) d z.space (r.place z (j * gaRow w)) (gaRow w) ((s.gatherIdx r y j + 1) * gaRow w ≤ x.length)
      fun c => s.byteAt x.space (r.place x (s.gatherIdx r y j * gaRow w) + c) := by
  obtain ⟨m, hm, hread⟩ := State.readIdx_of_readable k hy hidx
  have hrow : ofLe (s.bytes y.space (r.place y (4 * j)) 4) = s.gatherIdx r y j := rfl
  have hlen : ((r.buf (gaSrc w)).elim 0 fun b => b.length) = x.length := by rw [hx]; rfl
  unfold gatherPart
  dsimp only
  rw [hread]
  dsimp only
  rw [hrow, hlen]
  by_cases hfits : (s.gatherIdx r y j + 1) * gaRow w ≤ x.length
  case pos =>
    obtain ⟨m', hm', hread'⟩ := State.readIdx_of_readable (s := { s with mem := m }) k hx (Memory.Alike.readable (s := s) hm (hsrc hfits))
    rw [if_neg (Nat.not_lt.2 hfits), hread']
    dsimp only
    rw [State.writeIdx_eq_put_place _ hz hhost]
    refine isPart_of_put (by omega) (hm.trans hm') (State.length_bytes ..) _ hfits fun c hc => ?_
    rw [State.getD_bytes _ _ _ hc]
    exact congrArg (fun q : Mem => q.byte _) (hm.cells _)
  case neg =>
    rw [if_pos (Nat.lt_of_not_le hfits)]
    refine ⟨?_, fun h => absurd h hfits, fun _ => ?_⟩
    · exact ((s.wroteIn_alike d _ _ hm).trans (State.wroteIn_failRange _ _ _ _ _ _)).trans (State.wroteIn_spoilIdx _ d hz hsp hhost _ _)
    · rw [OutOfRange, State.failRange, State.failWord_eq]
      rfl

/-- What a GATHER is given: buffers that it reaches, rows clear of its source and its indices, and indices and rows that it can read (07 R193). -/
structure GatherReady (s : State) (r : Run) (w : Nat) (x y z : Buffer) : Prop where
  src : r.buf (gaSrc w) = some x
  idx : r.buf (gaIdx w) = some y
  dst : r.buf (gaDst w) = some z
  spaces : x.space ≤ 2 ∧ y.space ≤ 2 ∧ z.space ≤ 2
  host : ∀ b ∈ [x, y, z], b.space = 2 → r.noHost = false ∧ b.base + max b.length (max (4 * gaCount w) (gaCount w * gaRow w)) ≤ 2 ^ 64
  clearSrc : z.space ≠ x.space ∨ r.origin z + gaCount w * gaRow w ≤ r.origin x ∨ r.origin x + x.length ≤ r.origin z
  clearIdx : z.space ≠ y.space ∨ r.origin z + gaCount w * gaRow w ≤ r.origin y ∨ r.origin y + 4 * gaCount w ≤ r.origin z
  readIdx : ∀ j < gaCount w, s.readable r y (4 * j) 4
  readSrc : ∀ j < gaCount w, (s.gatherIdx r y j + 1) * gaRow w ≤ x.length → s.readable r x (s.gatherIdx r y j * gaRow w) (gaRow w)

theorem succ_mul_le {j m n : Nat} (h : j < m) : j * n + n ≤ m * n := by
  have := Nat.mul_le_mul_right n (Nat.succ_le_of_lt h)
  rwa [Nat.succ_mul] at this

theorem GatherReady.idxPlace (h : GatherReady s r w x y z) (hj : j < gaCount w) : r.place y (4 * j) = r.origin y + 4 * j :=
  r.place_eq fun h2 => by have := (h.host y (by simp) h2).2; omega

theorem GatherReady.srcPlace (h : GatherReady s r w x y z) {i : Nat} (hn : 0 < gaRow w) (hi : (i + 1) * gaRow w ≤ x.length) : r.place x (i * gaRow w) = r.origin x + i * gaRow w :=
  r.place_eq fun h2 => by
    have := (h.host x (by simp) h2).2
    rw [Nat.succ_mul] at hi
    omega

theorem GatherReady.dstPlace (h : GatherReady s r w x y z) (hn : 0 < gaRow w) (hj : j < gaCount w) : r.place z (j * gaRow w) = r.origin z + j * gaRow w :=
  r.place_eq fun h2 => by
    have := (h.host z (by simp) h2).2
    have := succ_mul_le (n := gaRow w) hj
    omega

/-- The rows lie in the destination. -/
theorem GatherReady.dst_of_partsOf (h : GatherReady s r w x y z) {a : Nat} (ha : PartsOf (List.range (gaCount w)) (fun j => r.place z (j * gaRow w)) (gaRow w) a) :
    r.origin z ≤ a ∧ a < r.origin z + gaCount w * gaRow w := by
  obtain ⟨j, hj, hlo, hhi⟩ := ha
  have hj := List.mem_range.1 hj
  have := succ_mul_le (n := gaRow w) hj
  dsimp only at hlo hhi
  have hat := h.dstPlace (by omega) hj
  omega

/-- Each row finds its index and its source as they stood at first. -/
theorem GatherReady.partsAs (h : GatherReady s r w x y z) (k : Nat) : PartsAs s d z.space (gaRow w) (List.range (gaCount w)) (fun j => r.place z (j * gaRow w))
    (fun j => (s.gatherIdx r y j + 1) * gaRow w ≤ x.length) (fun j c => s.byteAt x.space (r.place x (s.gatherIdx r y j * gaRow w) + c)) (gatherPart r k w) := by
  intro j hj t ht
  have hj := List.mem_range.1 hj
  obtain ⟨hspx, hspy, hspz⟩ := h.spaces
  have hidx : t.gatherIdx r y j = s.gatherIdx r y j := by
    refine congrArg ofLe (ht.range (by omega) fun hsp c hc hin => ?_)
    have := h.dst_of_partsOf hin
    have := h.clearIdx.resolve_left (not_not_intro hsp.symm)
    have := h.idxPlace hj
    omega
  have hpart := gatherPart_isPart (s := t) (d := d) (k := k) h.src h.idx h.dst hspz (fun h2 => (h.host z (by simp) h2).1) (ht.readable (h.readIdx j hj)) fun hfits => by
    rw [hidx] at hfits ⊢
    exact ht.readable (h.readSrc j hj hfits)
  rw [hidx] at hpart
  refine ⟨hpart.wroteIn, fun hfits => ⟨(hpart.moved hfits).1, fun c hc => ((hpart.moved hfits).2 c hc).trans ?_⟩, hpart.failed⟩
  refine ht.bytes _ _ (by omega) fun hsp hin => ?_
  have := h.dst_of_partsOf hin
  have := h.clearSrc.resolve_left (not_not_intro hsp.symm)
  have := h.srcPlace (by omega) hfits
  have hlast : s.gatherIdx r y j * gaRow w + gaRow w ≤ x.length := Nat.succ_mul .. ▸ hfits
  omega

end

theorem gather_moves (s s0 : State) (d : Fin 8) (r : Run) (k w : Nat) (x y z : Buffer) (h : s.atUnits d .gather = some (s0, r, k, w)) (hg : GatherReady s r w x y z) :
    ∃ t f, exec (.gather d) s = .next t ∧ t.ranWith d k f ∧
      (∀ j < gaCount w, (s.gatherIdx r y j + 1) * gaRow w ≤ x.length → ∀ c < gaRow w,
        t.byteAt z.space (r.origin z + j * gaRow w + c) = s.byteAt x.space (r.origin x + s.gatherIdx r y j * gaRow w + c)) ∧
      (∀ p a, (p ≠ z.space ∨ a < r.origin z ∨ r.origin z + gaCount w * gaRow w ≤ a) → p ≤ 5 → t.byteAt p a = s.byteAt p a) ∧
      ((∀ j < gaCount w, (s.gatherIdx r y j + 1) * gaRow w ≤ x.length) → f = none ∧ t = { s with mem := t.mem, distaffs := t.distaffs }) ∧
      ((∃ j < gaCount w, ¬(s.gatherIdx r y j + 1) * gaRow w ≤ x.length) → (f.map fun g => (g.status, g.cause)) = some (0xF0, 0x31)) := by
  have hh := State.handed_of_atUnits h
  have hidx : ∀ j, s0.gatherIdx r y j = s.gatherIdx r y j := fun j => congrArg ofLe (hh.bytes ..)
  have hg0 : GatherReady s0 r w x y z := { hg with
    readIdx := fun j hj => hh.alike.readable (hg.readIdx j hj)
    readSrc := fun j hj => by rw [hidx]; exact fun hfits => hh.alike.readable (hg.readSrc j hj hfits) }
  have hp := hg0.partsAs (d := d) k
  obtain ⟨hmoved, hbytes⟩ := State.word_parts h (effGather_eq r k w s0) hp
  simp only [hidx] at hmoved hp
  have hspz : z.space ≤ 5 := Nat.le_trans hg.spaces.2.2 (by decide)
  refine ⟨s.word d .gather effGather, _, rfl, hmoved.ran, fun j hj hfits c hc => ?_, fun p a ha h5 => hmoved.others p a (ha.imp id fun ha j hj => ?_) h5,
    fun hall => hmoved.moved fun j hj => hall j (List.mem_range.1 hj), fun ⟨j, hj, hno⟩ => hmoved.failed ⟨j, List.mem_range.2 hj, hno⟩⟩
  · have hn : 0 < gaRow w := by omega
    have hrow := hp.byteAt_of_disjoint hspz List.nodup_range (fun u hu v hv hne => ?_) (List.mem_range.2 hj) hfits hc
    · rw [hbytes, ← hg.dstPlace hn hj, hrow, hg.srcPlace hn hfits, hh.byteAt]
    · have hu := List.mem_range.1 hu
      have hv := List.mem_range.1 hv
      rw [hg.dstPlace hn hu, hg.dstPlace hn hv]
      rcases Nat.lt_or_gt_of_ne hne with hlt | hlt
      · have := succ_mul_le (n := gaRow w) hlt
        omega
      · have := succ_mul_le (n := gaRow w) hlt
        omega
  · by_contra hin
    obtain ⟨hlo, hhi⟩ := not_or.1 hin
    have := hg.dst_of_partsOf ⟨j, hj, Nat.le_of_not_lt hlo, Nat.lt_of_not_le hhi⟩
    omega

/-- Settles O26: the four words of data movement, each by the lemma on its parts. -/
theorem moversMoveBytes : Obligations.MoversMoveBytes := by
  refine ⟨load_moves, ?_, ?_, ?_⟩
  · intro s s0 d r k w b h hb hsp hread hhost to_
    exact store_moves s s0 d r k w b h hb hsp hread hhost
  · intro s s0 d r k w a b h ha hb _ hspb hread hhost from_ to_ overlap
    exact copy_moves s s0 d r k w a b h ha hb hspb hread hhost
  · intro s s0 d r k w x y z h hx hy hz hspx hspy hspz key idx n fits hhost hsrc hidx hread
    have hplace : ∀ j < gaCount w, s.gatherIdx r y j = idx j := fun j hj => by
      have hp : r.place y (4 * j) = key y + 4 * j := r.place_eq fun h2 => by have := (hhost y (by simp) h2).2; omega
      exact congrArg (fun a => ofLe (s.bytes y.space a 4)) hp
    have hg : GatherReady s r w x y z :=
      ⟨hx, hy, hz, ⟨hspx, hspy, hspz⟩, hhost, hsrc, hidx, fun j hj => (hread j hj).1, fun j hj => by rw [hplace j hj]; exact (hread j hj).2⟩
    obtain ⟨t, f, hexec, hran, hrows, hothers, hall, hsome⟩ := gather_moves s s0 d r k w x y z h hg
    refine ⟨t, f, hexec, hran, fun j hj => ?_, hothers, fun hfits => hall fun j hj => ?_, fun ⟨j, hj, hno⟩ => hsome ⟨j, hj, ?_⟩⟩
    · have hrow := hrows j hj
      rwa [hplace j hj] at hrow
    · rw [hplace j hj]
      exact hfits j hj
    · rwa [hplace j hj]

end Sys2Proof.Machine
end

section
/-!
PROOF. STATE.SAVE (O32): what it reads is sound, what it writes lies in the checkpoint area, and the head of the area is written last (12 R335 to R338).
-/
namespace Sys2Proof.Machine

-- A memory without errors.

/-- No word of any memory holds an error. -/
def Memory.Clean (m : Memory) : Prop := m.poison = [] ∧ m.upsets = []

theorem Memory.Clean.check {m : Memory} (h : m.Clean) (sp a n : Nat) : m.check sp a n = (m, none) := m.check_clean sp a n h.2 h.1

theorem Memory.Clean.write {m : Memory} (h : m.Clean) (sp base len : Nat) (f : Nat → Byte) : (m.write sp base len f).Clean := by
  have hmet : ∀ ws : List Nat, ws.foldl (fun m w => m.meet sp w) m = m := fun ws => by
    induction ws with
    | nil => rfl
    | cons w ws ih =>
      have hw : m.meet sp w = m := by rw [Memory.meet, h.2]; rfl
      rw [List.foldl_cons, hw, ih]
  obtain ⟨hp, hu⟩ := h
  unfold Memory.write
  rw [hmet]
  dsimp only
  split
  case h_3 => exact ⟨hp, hu⟩
  all_goals exact ⟨by rw [hp]; rfl, by rw [hu]; rfl⟩

/-- Parts of a word that leave the state as it is. -/
theorem eachUnit_idle {us : List Nat} {f : Nat → State → Done} {s : State} (h : ∀ u ∈ us, f u s = (s, none)) : eachUnit us f s = (s, none) := by
  induction us with
  | nil => rfl
  | cons u us ih =>
    obtain ⟨hu, hus⟩ := List.forall_mem_cons.1 h
    rw [eachUnit_cons _ _ _ _ (by rw [hu]), hu, ih hus]

theorem mem_savedBuffers {bufs : List Buffer} {i : Nat} (h : i ∈ savedBuffers bufs) : ∃ b, bufs[i]? = some b ∧ b.space = 0 := by
  have hi := (List.mem_filter.1 h).2
  split at hi
  · rename_i b hb
    exact ⟨b, hb, of_decide_eq_true (Bool.and_eq_true_iff.1 hi).1⟩
  · exact nomatch hi

theorem State.readLs_of_clean {s : State} (h : s.mem.Clean) (sp a n : Nat) : (s.readLs sp a n).st = s ∧ (s.readLs sp a n).fail = none := by
  unfold State.readLs
  rw [h.check]
  exact ⟨rfl, rfl⟩

/-- Every byte of a checkpoint can be read where no word holds an error (12 R338). -/
theorem State.readSaved_of_clean {s : State} (h : s.mem.Clean) (r : Run) (k : Nat) : s.readSaved r k = (s, none) := by
  unfold State.readSaved
  dsimp only
  have hls : ∀ (us : List Nat) (sp : Nat) (a : Nat → Nat) (n : Nat), eachUnit us (fun u s => ((s.readLs sp (a u) n).st, (s.readLs sp (a u) n).fail)) s = (s, none) := fun us sp a n =>
    eachUnit_idle fun u _ => Prod.ext (State.readLs_of_clean h ..).1 (State.readLs_of_clean h ..).2
  rw [hls, hls, eachUnit_idle]
  · rfl
  · intro i hi
    obtain ⟨b, hb, hsp⟩ := mem_savedBuffers hi
    have hbuf : r.buf i = some b := hb
    rw [hbuf]
    dsimp only
    rw [State.readBuf, hsp, if_neg (by decide), State.readMem, h.check]

-- The area.

/-- What writes into the checkpoint area leave: a memory without errors, and every byte outside the area. -/
structure State.InArea (s t : State) (r : Run) : Prop where
  frame : t = { s with mem := t.mem }
  clean : s.mem.Clean → t.mem.Clean
  others : ∀ p a, (p ≠ 1 ∨ a < r.header.ckptBase ∨ r.header.ckptBase + r.header.ckptLength ≤ a) → p ≤ 5 → t.byteAt p a = s.byteAt p a

theorem State.InArea.refl (s : State) (r : Run) : s.InArea s r := ⟨rfl, id, fun _ _ _ _ => rfl⟩

theorem State.InArea.trans {s t u : State} {r : Run} (h : s.InArea t r) (g : t.InArea u r) : s.InArea u r :=
  ⟨by rw [g.frame, h.frame], fun hs => g.clean (h.clean hs), fun p a ha hp => (g.others p a ha hp).trans (h.others p a ha hp)⟩

/-- The sections of a checkpoint written one after another (12 R337). -/
def State.writeSections (s : State) (r : Run) (body : Section → Bytes) (xs : List Section) : State := xs.foldl (fun s x => s.writeBuf r r.area x.off (body x)) s

section
variable {r : Run} (hsp : r.header.ckptSpace = 1)
include hsp

theorem State.writeBuf_area (s : State) (off : Nat) (bs : Bytes) : s.writeBuf r r.area off bs = s.put 1 (r.header.ckptBase + off) bs := by
  have hspace : r.area.space = 1 := hsp
  rw [State.writeBuf, hspace, if_neg (by decide)]
  rfl

theorem State.inArea_writeBuf (s : State) {off : Nat} {bs : Bytes} (h : off + bs.length ≤ r.header.ckptLength) : s.InArea (s.writeBuf r r.area off bs) r := by
  rw [State.writeBuf_area hsp]
  refine ⟨rfl, fun hs => hs.write .., fun p a ha hp => ?_⟩
  rw [State.byteAt_put _ _ _ _ _ _ (by decide) hp, if_neg (by omega)]

theorem State.inArea_writes {xs : List Section} {body : Section → Bytes} (h : ∀ x ∈ xs, x.off + (body x).length ≤ r.header.ckptLength) (s : State) :
    s.InArea (s.writeSections r body xs) r := by
  induction xs generalizing s with
  | nil => exact .refl s r
  | cons x xs ih =>
    obtain ⟨hx, hxs⟩ := List.forall_mem_cons.1 h
    exact (State.inArea_writeBuf hsp s hx).trans (ih hxs _)

end

-- The sections.

theorem le_roundUp_page (n : Nat) : n ≤ roundUp n 4096 := by
  unfold roundUp
  omega

/-- Each section ends within the content (12 R334). -/
theorem section_end_le {xs : List Section} {x : Section} (hx : x ∈ xs) : x.off + x.len ≤ 4096 + contentLength xs := by
  have hfold : ∀ (xs : List Section) (m : Nat), m ≤ xs.foldl (fun m x => max m (roundUp (x.off + x.len) 4096)) m ∧
      ∀ x ∈ xs, x.off + x.len ≤ xs.foldl (fun m x => max m (roundUp (x.off + x.len) 4096)) m := by
    intro xs
    induction xs with
    | nil => exact fun m => ⟨le_rfl, fun _ hx => absurd hx List.not_mem_nil⟩
    | cons y ys ih =>
      intro m
      obtain ⟨hm, hin⟩ := ih (max m (roundUp (y.off + y.len) 4096))
      refine ⟨le_trans (le_max_left ..) hm, fun x hx => ?_⟩
      rcases List.mem_cons.1 hx with rfl | hx
      · exact le_trans (le_trans (le_roundUp_page _) (le_max_right ..)) hm
      · exact hin x hx
  have := (hfold xs 4096).2 x hx
  unfold contentLength
  omega

theorem length_layOut (o : Nat) (xs : List (Nat × Nat × Nat)) : (layOut o xs).length = xs.length := by
  induction xs generalizing o with
  | nil => rfl
  | cons x xs ih => exact congrArg Nat.succ (ih _)

theorem length_digest_le (m : Bytes) : (digest m).length ≤ 32 := List.length_take_le ..

theorem length_headerBytes_le {flags gen word seq ring level : Nat} {secs : List Section} {hankDigest contentDigest : Bytes} (hs : secs.length = 6)
    (hh : hankDigest.length = 32) (hc : contentDigest.length ≤ 32) : (headerBytes flags gen word seq ring level secs hankDigest contentDigest).length ≤ 4064 := by
  have hrows : (secs.flatMap fun x => le 2 x.type ++ zeros 2 ++ le 4 x.count ++ le 8 x.off ++ le 8 x.len ++ zeros 8).length = 192 := by
    rw [List.length_flatMap]
    simp only [List.length_append, length_le, zeros, List.length_replicate, List.map_const', List.sum_replicate, hs]
    rfl
  have hserial : serial.length = 16 := by simp [serial]
  unfold headerBytes
  simp only [List.length_append, hrows, length_le, zeros, List.length_replicate, hserial, hh] at hrows ⊢
  omega

/-- A checkpoint's head with this generation begins with its magic number, its version and its generation (12 R335). -/
def HeadOf (gen : Nat) (head : Bytes) : Prop := ∃ flags rest, head = le 4 0x4B434C4F ++ (le 2 1 ++ (le 2 flags ++ (le 8 gen ++ rest)))

theorem headOf_headerBytes (flags gen word seq ring level : Nat) (secs : List Section) (hankDigest contentDigest more : Bytes) :
    HeadOf gen (headerBytes flags gen word seq ring level secs hankDigest contentDigest ++ more) := by
  simp only [headerBytes, List.append_assoc]
  exact ⟨flags, _, rfl⟩

/-- The saved buffers' bytes fill their section (12 R334). -/
theorem length_savedBytes (s : State) (bufs : List Buffer) (is : List Nat) :
    ((is.filterMap fun i => (bufs[i]?).map fun b => (i, s.bytes 0 b.base b.length)).flatMap fun c => c.2).length =
      (is.map fun i => (bufs[i]?.map fun b => b.length).getD 0).sum := by
  induction is with
  | nil => rfl
  | cons i is ih =>
    rw [List.map_cons, List.sum_cons, ← ih]
    cases hb : bufs[i]? with
    | none => rw [List.filterMap_cons_none (by rw [hb]; rfl)]; exact (Nat.zero_add _).symm
    | some b =>
      rw [List.filterMap_cons_some (by rw [hb]; rfl), List.flatMap_cons, List.length_append, State.length_bytes]
      rfl

theorem length_bobbinBytes (s : State) (us : List Nat) : (us.flatMap fun b => s.bytes 4 (lsKey true b 0) (2 ^ 19)).length = us.length * 524288 := by
  simp only [List.length_flatMap, State.length_bytes, List.map_const', List.sum_replicate, smul_eq_mul]
  rfl

theorem length_slice (bs : Bytes) (o n : Nat) : (slice bs o n).length = n := by rw [slice, List.length_map, List.length_range]

/-- CKPT_GEN after a save (12 R337). -/
def State.nextGen (s : State) : Nat := (s.keep.genMax + 1) % 2 ^ 64

/-- A save at its start: the head of the area is cleared (12 R337 step 2). -/
def State.saveCleared (s : State) (d : Nat) (r : Run) : State := (s.modRun d fun r => { r with saving := false }).writeBuf r r.area 0 (zeros 4096)

/-- A save before its reads: it is counted (12 R337 step 3). -/
def State.saveBegun (s : State) (d : Nat) (r : Run) : State :=
  let t := s.saveCleared d r
  { t with keep := { t.keep with genMax := t.nextGen } }

theorem State.saveCleared_frame (s : State) (d : Nat) (r : Run) :
    s.saveCleared d r = { s.modRun d (fun r => { r with saving := false }) with mem := (s.saveCleared d r).mem } := State.writeBuf_eq ..

theorem State.nextGen_saveCleared (s : State) (d : Nat) (r : Run) : (s.saveCleared d r).nextGen = s.nextGen := by
  rw [State.saveCleared_frame]
  rfl

/-- A save after its writes: the sections, and the head of the area last (12 R337 steps 5 and 6). -/
def State.saveWritten (s : State) (d : Nat) (r : Run) (body : Section → Bytes) (secs : List Section) (head : Bytes) : State :=
  ((s.saveBegun d r).writeSections r body secs).writeBuf r r.area 0 head

/-- A save at its end: the hank has its generation (12 R337 step 7). -/
def State.saveEnded (s : State) (d gen : Nat) (o : Outputs) : State := ({ s with out := o } : State).modRun d fun r => { r with ckptGen := gen }

/-- The bytes that a save writes are those of its sections, and a head that begins as 12 R335 says. -/
theorem State.saveCheckpoint_of_clean {s : State} {d : Nat} {r : Run} {problems : Vector (Option Problem) 4} (hclean : s.mem.Clean) (hsp : r.header.ckptSpace = 1) (k : Nat)
    (hhank : r.hankDigest.length = 32) :
    let secs := sectionsOf (problems.toList.filterMap id) r.unitSet.1.length r.unitSet.2.length r.bufs
    4096 + contentLength secs ≤ r.header.ckptLength →
    ∃ (body : Section → Bytes) (head : Bytes) (o : Outputs),
      s.saveCheckpoint d r k false problems = ((s.saveWritten d r body secs head).saveEnded d s.nextGen o, none) ∧
      (∀ x ∈ secs, (body x).length ≤ x.len) ∧ head.length ≤ 4096 ∧ HeadOf s.nextGen head := by
  intro secs hbig
  rw [← s.nextGen_saveCleared d r]
  unfold State.saveCheckpoint
  extract_lets us secs' marked f zeroed gen' keep kept content
  have hbegun : kept = s.saveBegun d r := rfl
  have hkept : kept.mem.Clean := ((State.inArea_writeBuf hsp marked (off := 0) (bs := zeros 4096) (by
    rw [zeros, List.length_replicate]; omega)).clean hclean)
  rw [if_neg (Nat.not_lt.2 hbig)]
  have hread := State.readSaved_of_clean hkept r k
  split
  case h_1 z f h => exact nomatch h.symm.trans hread
  case h_2 z h =>
    obtain rfl : z = kept := congrArg Prod.fst (h.symm.trans hread)
    extract_lets n free sram body cd own flags sk head cipher sealed sections head' written v settled t' snap out' ended
    have hw : written = s.saveWritten d r (fun x => if x.type = 6 then sealed else body x) secs head' := rfl
    have hsecs : secs.length = 6 := length_layOut ..
    have hhead : head.length ≤ 4064 := length_headerBytes_le hsecs hhank (length_digest_le _)
    refine ⟨fun x => if x.type = 6 then sealed else body x, head', ended.out, ?_, fun x hx => ?_, ?_, ?_⟩
    · rw [← hw]
      rfl
    · simp only [secs, sectionsOf, layOut, List.mem_cons, List.not_mem_nil, or_false] at hx
      rcases hx with rfl | rfl | rfl | rfl | rfl | rfl
      · exact (List.length_map _).le.trans List.length_range.le
      · exact (List.length_map _).le.trans List.length_range.le
      · exact (List.length_map _).le.trans List.length_range.le
      · exact (length_bobbinBytes ..).le
      · exact (length_savedBytes ..).le
      · exact (length_slice ..).le
    · have := length_digest_le head
      rw [List.length_append]
      omega
    · exact headOf_headerBytes ..

-- The word.

theorem effSave_eq (d : Nat) (r : Run) (k : Nat) {w : Nat} (hw : svPause w = false) (s : State) :
    effSave d r k w s = .done (s.saveCheckpoint d r k false r.problems).1 (s.saveCheckpoint d r k false r.problems).2 := by
  unfold effSave
  dsimp only
  rw [hw]

/-- An area that is too small: nothing is written (07 R209). -/
theorem State.saveCheckpoint_of_small {s : State} {d : Nat} {r y : Run} {k : Nat} {problems : Vector (Option Problem) 4} (hy : s.run d = some y)
    (hsmall : r.header.ckptLength < 4096 + contentLength (sectionsOf (problems.toList.filterMap id) r.unitSet.1.length r.unitSet.2.length r.bufs)) :
    ∃ f m, (s.saveCheckpoint d r k false problems).2 = some f ∧ f.status = 0xF0 ∧ f.cause = 0x31 ∧ (s.saveCheckpoint d r k false problems).1.mem = s.mem ∧
      (s.saveCheckpoint d r k false problems).1.keep = s.keep ∧
      (s.saveCheckpoint d r k false problems).1.run d = some { y with saving := false, rejected := m } := by
  have hmark : (s.modRun d fun r => { r with saving := false }).run d = some { y with saving := false } := State.run_modRun_self s d _ y hy
  have hsave : s.saveCheckpoint d r k false problems =
      (((s.modRun d fun r => { r with saving := false }).failRange r k).1, some ((s.modRun d fun r => { r with saving := false }).failRange r k).2) := by
    unfold State.saveCheckpoint
    extract_lets
    rw [if_pos hsmall]
  obtain ⟨m, hm⟩ := State.run_failWord _ hmark r.ring r.seq k stAborted cRange
  obtain ⟨hmem, -, -⟩ := (s.modRun d fun r => { r with saving := false }).failWord_counts r.ring r.seq k stAborted cRange
  rw [hsave]
  refine ⟨_, m, rfl, rfl, rfl, hmem, ?_, hm⟩
  dsimp only
  rw [State.failRange, State.failWord_eq, State.countRejected_eq]
  rfl

/-- The fields that a save writes first in its area, read back (12 R335). -/
theorem State.bytes_head {s : State} {base gen : Nat} {head : Bytes} (h : HeadOf gen head) : (s.put 1 base head).bytes 1 base 4 = le 4 0x4B434C4F ∧
    (s.put 1 base head).bytes 1 (base + 4) 2 = le 2 1 ∧ (s.put 1 base head).bytes 1 (base + 8) 8 = le 8 gen := by
  obtain ⟨flags, rest, rfl⟩ := h
  refine ⟨(s.bytes_put_part 1 base _ 0 4 (by decide) ?_).trans ?_, (s.bytes_put_part 1 base _ 4 2 (by decide) ?_).trans ?_,
    (s.bytes_put_part 1 base _ 8 8 (by decide) ?_).trans ?_⟩
  · simp [length_le]
  · simp [length_le]
  · simp only [List.length_append, length_le]
    omega
  · simp [length_le]
  · simp only [List.length_append, length_le]
    omega
  · simp [length_le, List.drop_append, List.drop_of_length_le]

theorem State.Handed.keep {s s0 : State} {d k : Nat} {r : Run} (h : s.Handed s0 d r k) : s0.keep = s.keep := by rw [h.frame]
theorem State.Ran.keep {t u : State} {d k : Nat} {f : Option Failure} (h : t.Ran u d k f) : u.keep = t.keep := by rw [h.frame]

theorem State.saveWritten_frame (s : State) (d : Nat) {r : Run} {body : Section → Bytes} {secs : List Section} {head : Bytes} (hsp : r.header.ckptSpace = 1)
    (hbody : ∀ x ∈ secs, x.off + (body x).length ≤ r.header.ckptLength) (hhead : head.length ≤ r.header.ckptLength) (hzero : 4096 ≤ r.header.ckptLength) :
    ({ s.modRun d (fun r => { r with saving := false }) with keep := { s.keep with genMax := s.nextGen } } : State).InArea (s.saveWritten d r body secs head) r := by
  have hcleared := State.inArea_writeBuf hsp (s.modRun d fun r => { r with saving := false }) (off := 0) (bs := zeros 4096) (by rw [zeros, List.length_replicate]; omega)
  have hbegun : ({ s.modRun d (fun r => { r with saving := false }) with keep := { s.keep with genMax := s.nextGen } } : State).InArea (s.saveBegun d r) r := by
    refine ⟨?_, hcleared.clean, hcleared.others⟩
    rw [State.saveBegun, State.nextGen_saveCleared, State.saveCleared_frame]
    rfl
  exact (hbegun.trans (State.inArea_writes hsp hbody _)).trans (State.inArea_writeBuf hsp _ (by omega))

/-- Settles O32: a checkpoint is written within its area, its head last; with an area too small nothing is. -/
theorem saveWritesACheckpoint : Obligations.SaveWritesACheckpoint := by
  intro s s0 d r k w h hw _ hsp need base gen
  have hh := State.handed_of_atUnits h
  have heff := effSave_eq d r k hw s0
  have hexec : exec (.stateSave d) s = .next (s.word d .stateSave (effSave d)) := rfl
  refine ⟨fun hsmall => ?_, fun hbig hhank hp hu => ?_⟩
  · obtain ⟨f, m, hfail, hstatus, hcause, hmem, hkeep, hrun⟩ := State.saveCheckpoint_of_small (k := k) hh.run hsmall
    rw [hfail] at heff
    have hran := State.word_done h heff hrun rfl
    refine ⟨_, f, hexec, hran.ran, hstatus, hcause, hran.mem.trans (hmem.trans hh.mem), hran.keep.trans (hkeep.trans hh.keep)⟩
  · have hclean : s0.mem.Clean := by
      rw [hh.mem]
      exact ⟨hp, hu⟩
    have hgen : s0.nextGen = gen := congrArg (fun x : Keep => (x.genMax + 1) % 2 ^ 64) hh.keep
    obtain ⟨body, head, o, hsave, hbody, hlen, hhead⟩ := State.saveCheckpoint_of_clean (d := d) (problems := r.problems) hclean hsp k hhank hbig
    rw [hsave] at heff
    rw [hgen] at hhead
    have harea := s0.saveWritten_frame d hsp (body := body) (head := head)
      (fun x hx => le_trans (Nat.add_le_add_left (hbody x hx) _) ((section_end_le hx).trans hbig)) (by omega) (by omega)
    have hlast : s0.saveWritten d r body (sectionsOf (r.problems.toList.filterMap id) r.unitSet.1.length r.unitSet.2.length r.bufs) head =
        ((s0.saveBegun d r).writeSections r body _).put 1 base head := State.writeBuf_area hsp _ 0 head
    generalize s0.saveWritten d r body (sectionsOf (r.problems.toList.filterMap id) r.unitSet.1.length r.unitSet.2.length r.bufs) head = v at heff harea hlast
    have hrun : v.run d = some { r with saving := false } := by
      rw [harea.frame]
      exact State.run_modRun_self s0 d _ r hh.run
    have hended : (v.saveEnded d s0.nextGen o).run d = some { r with saving := false, ckptGen := s0.nextGen } := State.run_modRun_self { v with out := o } d _ _ hrun
    have hran := State.word_done h heff hended rfl
    obtain ⟨q, hq, hqrun⟩ := State.word_done_run h heff hended
    have hbytes : ∀ a n, (s.word d .stateSave (effSave d)).bytes 1 a n = v.bytes 1 a n := fun a n => List.map_congr_left fun j _ => hran.byteAt 1 (a + j)
    obtain ⟨hmagic, hversion, hcount⟩ := State.bytes_head (s := (s0.saveBegun d r).writeSections r body _) (base := base) hhead
    rw [← hlast] at hmagic hversion hcount
    refine ⟨_, q, hexec, hran.ran, hq, by rw [hqrun, ← hgen], ?_, ?_, (hbytes _ _).trans hmagic, (hbytes _ _).trans hversion, (hbytes _ _).trans hcount, fun p a ha h5 => ?_⟩
    · have hv : v.keep = { s0.keep with genMax := s0.nextGen } := by rw [harea.frame]
      refine hran.keep.trans (hv.trans ?_)
      rw [hgen, hh.keep]
    · have hv : v.units = s0.units := by
        rw [harea.frame]
        rfl
      exact hran.units.trans (hv.trans hh.units)
    · refine (hran.byteAt p a).trans ((harea.others p a ha h5).trans ?_)
      exact hh.byteAt p a

end Sys2Proof.Machine
end

section
/-!
SUPPORT. What the work of a word leaves aside: the board, the steward, the dispatcher, the images, the start's report, the signing queue, and which words each hank
has issued (07 R184 to R186).
-/
namespace Sys2Proof.Machine

/-- The parts of the device that no word of a hank works on. -/
structure Desk where
  board : Board
  steward : Steward
  dispatcher : Dispatcher
  image : Image
  start : Start
  ident : Identity
  vfEnable : Bool
  ari : Bool
  numVfs : Nat

def State.desk (s : State) : Desk := ⟨s.board, s.steward, s.dispatcher, s.image, s.start, s.ident, s.vfEnable, s.ari, s.numVfs⟩

/-- The list indices of a hank's issued words. -/
def Run.issuedAt (r : Run) : List Nat := r.issued.map fun i => i.index

/-- What the work of a word leaves aside. -/
def State.aside (s : State) : Desk × (Nat → Option (List Nat)) :=
  (s.desk, fun d => (s.run d).map Run.issuedAt)

theorem State.aside_of_eq {s t : State} (hdesk : t.desk = s.desk) (hruns : ∀ d, (t.run d).map Run.issuedAt = (s.run d).map Run.issuedAt) : t.aside = s.aside :=
  Prod.ext hdesk (funext hruns)

-- Hanks and records.

theorem State.modRun_aside (s : State) (d : Nat) {f : Run → Run} (hf : ∀ y, (f y).issuedAt = y.issuedAt) : (s.modRun d f).aside = s.aside := by
  refine State.aside_of_eq rfl fun e => ?_
  rw [State.run_modRun]
  split
  · cases s.run e with
    | none => rfl
    | some y => exact congrArg some (hf y)
  · rfl

theorem State.aside_of_modRun {s t : State} (h : t.aside = s.aside) {d : Nat} {f : Run → Run} (hf : ∀ y, (f y).issuedAt = y.issuedAt) : (t.modRun d f).aside = s.aside :=
  (t.modRun_aside d hf).trans h

theorem State.modIssued_aside (s : State) (d k : Nat) {f : Issued → Issued} (hf : ∀ i, (f i).index = i.index) : (s.modIssued d k f).aside = s.aside := by
  refine s.modRun_aside d fun y => ?_
  rw [Run.issuedAt, List.map_map]
  refine List.map_congr_left fun i _ => ?_
  rw [Function.comp_apply]
  split
  · exact hf i
  · rfl

theorem State.aside_of_modIssued {s t : State} (h : t.aside = s.aside) {d k : Nat} {f : Issued → Issued} (hf : ∀ i, (f i).index = i.index) :
    (t.modIssued d k f).aside = s.aside := (t.modIssued_aside d k hf).trans h

@[simp] theorem State.countRejected_aside (s : State) (ring seq : Nat) : (s.countRejected ring seq).aside = s.aside := by
  refine State.aside_of_eq (by rw [State.countRejected_eq]; rfl) fun e => ?_
  cases hr : s.run e with
  | none =>
    rcases s.run_countRejected ring seq e with h | h <;> rw [h, hr]
    rfl
  | some y =>
    obtain ⟨m, hm⟩ := s.run_countRejected_some ring seq e y hr
    rw [hm]
    rfl

@[simp] theorem State.failWord_aside (s : State) (ring seq k status cause : Nat) : (s.failWord ring seq k status cause).1.aside = s.aside := by
  rw [State.failWord_eq]
  exact State.countRejected_aside _ _ _

@[simp] theorem State.failRange_aside (s : State) (r : Run) (k : Nat) : (s.failRange r k).1.aside = s.aside := s.failWord_aside ..
@[simp] theorem State.failInput_aside (s : State) (r : Run) (k : Nat) : (s.failInput r k).1.aside = s.aside := s.failWord_aside ..
@[simp] theorem State.setProblem_aside (s : State) (d p : Nat) (q : Problem) : (s.setProblem d p q).aside = s.aside := s.modRun_aside d fun _ => rfl
@[simp] theorem State.setIntOverflow_aside (s : State) (d : Nat) : (s.setIntOverflow d).aside = s.aside := s.modRun_aside d fun _ => rfl

-- Reads.

@[simp] theorem State.readLs_aside (s : State) (sp a n : Nat) : (s.readLs sp a n).st.aside = s.aside := rfl

@[simp] theorem State.readMem_aside (s : State) (r : Run) (k sp a n : Nat) : (s.readMem r k sp a n).st.aside = s.aside := by
  unfold State.readMem
  dsimp only
  split <;> rfl

@[simp] theorem State.readHost_aside (s : State) (r : Run) (k a n : Nat) : (s.readHost r k a n).st.aside = s.aside := by
  unfold State.readHost
  dsimp only
  split
  case isTrue => rfl
  case isFalse =>
    split
    case h_1 => rfl
    case h_2 =>
      split
      case isTrue =>
        dsimp only
        split
        · rfl
        · exact State.failRange_aside _ r k
      case isFalse => rfl

@[simp] theorem State.readBuf_aside (s : State) (r : Run) (k : Nat) (b : Buffer) (off n : Nat) : (s.readBuf r k b off n).st.aside = s.aside := by
  unfold State.readBuf
  split
  · exact s.readHost_aside r k _ n
  · exact s.readMem_aside r k _ _ n

@[simp] theorem State.readIdx_aside (s : State) (r : Run) (k i off n : Nat) : (s.readIdx r k i off n).st.aside = s.aside := by
  unfold State.readIdx
  split
  · exact s.readBuf_aside r k _ off n
  · rfl

theorem eachUnit_aside {f : Nat → State → Done} (hf : ∀ u s, (f u s).1.aside = s.aside) (us : List Nat) (s : State) : (eachUnit us f s).1.aside = s.aside :=
  foldl_keeps (fun x : Done => x.1.aside) (fun acc u => ((f u acc.1).1, firstFail acc.2 (f u acc.1).2)) (fun x u => hf u x.1) us (s, none)

theorem State.foldl_aside {α : Type} {f : State → α → State} (hf : ∀ s x, (f s x).aside = s.aside) (l : List α) (s : State) : (l.foldl f s).aside = s.aside :=
  foldl_keeps State.aside f hf l s

-- Writes.

@[simp] theorem State.writeBuf_aside (s : State) (r : Run) (b : Buffer) (off : Nat) (bs : Bytes) : (s.writeBuf r b off bs).aside = s.aside := by
  rw [State.writeBuf_eq]
  rfl

@[simp] theorem State.writeIdx_aside (s : State) (r : Run) (i off : Nat) (bs : Bytes) : (s.writeIdx r i off bs).aside = s.aside := by
  rw [State.writeIdx_eq]
  rfl

@[simp] theorem State.spoilIdx_aside (s : State) (r : Run) (i off n : Nat) : (s.spoilIdx r i off n).aside = s.aside := by
  rw [State.spoilIdx_frame]
  rfl

-- An effect that ends.

/-- A word's effect runs it to its end, and leaves aside what no word works on. -/
def Effect.Ends (s : State) (e : Effect) : Prop := ∃ t f, e = .done t f ∧ t.aside = s.aside

theorem Effect.ends_done {s t : State} (f : Option Failure) (h : t.aside = s.aside) : Effect.Ends s (.done t f) := ⟨t, f, rfl, h⟩

theorem Effect.ends_ite {s : State} {c : Prop} [Decidable c] {e e' : Effect} (h : c → e.Ends s) (h' : ¬c → e'.Ends s) : (if c then e else e').Ends s := by
  split
  · exact h ‹_›
  · exact h' ‹_›

theorem Effect.ends_of_aside {s t : State} {e : Effect} (hst : t.aside = s.aside) (h : e.Ends t) : e.Ends s := by
  obtain ⟨u, f, he, hu⟩ := h
  exact ⟨u, f, he, hu.trans hst⟩

-- The Spindles.

@[simp] theorem State.modSpindle_aside (s : State) (u : Nat) (f : Spindle → Spindle) : (s.modSpindle u f).aside = s.aside := rfl
@[simp] theorem State.modDict_aside (s : State) (f : Dictionary → Dictionary) : (s.modDict f).aside = s.aside := rfl
@[simp] theorem State.put_aside (s : State) (sp a : Nat) (bs : Bytes) : (s.put sp a bs).aside = s.aside := rfl
@[simp] theorem State.spoil_aside (s : State) (sp a n : Nat) : (s.spoil sp a n).aside = s.aside := rfl
@[simp] theorem State.spoilLanes_aside (s : State) (u : Nat) (ls : List Nat) : (s.spoilLanes u ls).aside = s.aside := rfl
@[simp] theorem State.leaveTree_aside (s : State) (u : Nat) (ls : List Nat) : (s.leaveTree u ls).aside = s.aside := rfl
@[simp] theorem State.enterTree_aside (s : State) (e : InTree) : (s.enterTree e).aside = s.aside := rfl
@[simp] theorem State.windowFault_aside (s : State) : s.windowFault.1.aside = s.aside := rfl

@[simp] theorem State.clearMark_aside (s : State) (r : Run) (u l : Nat) : (s.clearMark r u l).aside = s.aside := by
  unfold State.clearMark
  split
  · split <;> rfl
  · rfl

@[simp] theorem State.swapPair_aside (s : State) (u : Nat) : (s.swapPair u).aside = s.aside := by
  unfold State.swapPair
  dsimp only
  split <;> simp

@[simp] theorem State.logTerms_aside (s : State) (d slot u : Nat) (mx : Bool) (sub : Nat) (ta tb : Tile) : (s.logTerms d slot u mx sub ta tb).aside = s.aside :=
  s.modRun_aside d fun _ => rfl

theorem State.tile_aside (s : State) (u a f k w cbk : Nat) (cb : Bytes) : (s.tile u a f k w cbk cb).1.st.aside = s.aside := rfl

theorem macUnit_aside (d : Nat) (r : Run) (k w : Nat) (end_ : Bool) (u : Nat) (s : State) : (macUnit d r k w end_ u s).1.aside = s.aside := by
  unfold macUnit
  extract_lets gw slot mx c ta tb t x cf lane v sub z
  have hc : c.st.aside = s.aside := by
    unfold c
    split
    · exact s.readLs_aside ..
    · rfl
  have ht : t.aside = s.aside := (State.tile_aside ..).trans ((State.tile_aside ..).trans hc)
  have hz : z.aside = s.aside := by
    unfold z v
    split <;> simp [ht]
  clear_value t z
  split
  · simp [ht]
  · split
    · simp [ht]
    · dsimp only
      split <;> simp [hz]

theorem preloadUnit_aside (r : Run) (w u : Nat) (s : State) : (preloadUnit r w u s).1.aside = s.aside := by
  unfold preloadUnit
  extract_lets f g t x cf l bs raw t' y v v'
  have ht : t.aside = s.aside := rfl
  have ht' : t'.aside = s.aside := by
    unfold t'
    simp [ht]
  clear_value t t'
  split
  · simp [ht]
  · split
    · split <;> split <;> simp [ht, ht']
    · simp [ht']

theorem effMac_ends {d : Nat} {end_ : Bool} {r : Run} {k w : Nat} {s : State} (h : s.wordWaits r (if end_ then .macEnd else .macAcc) k w = false) :
    (effMac d end_ r k w s).Ends s := by
  unfold effMac
  dsimp only
  refine Effect.ends_ite (fun hb => ?_) fun _ => Effect.ends_done _ (eachUnit_aside (macUnit_aside d r k w end_) _ s)
  cases end_ with
  | true => exact absurd (hb.symm.trans h) nofun
  | false =>
    simp only [Bool.false_and, Bool.or_false] at hb
    exact absurd (hb.symm.trans h) nofun

theorem effAccOpen_ends {r : Run} {k w : Nat} {s : State} (h : s.wordWaits r .accOpen k w = false) : (effAccOpen r k w s).Ends s := by
  unfold effAccOpen
  dsimp only
  exact Effect.ends_ite (fun hb => absurd (hb.symm.trans h) nofun) fun _ => Effect.ends_done none (State.foldl_aside (fun t u => by simp) _ s)

theorem effAccClose_ends {r : Run} {k w : Nat} {s : State} (h : s.wordWaits r .accClose k w = false) : (effAccClose r k w s).Ends s := by
  unfold effAccClose
  dsimp only
  exact Effect.ends_ite (fun hb => absurd (hb.symm.trans h) nofun) fun _ =>
    Effect.ends_done none (State.foldl_aside (fun t u => State.foldl_aside (fun v l => by simp) _ t) _ s)

theorem effAccPair_ends {r : Run} {k w : Nat} {s : State} (h : s.wordWaits r .accPair k w = false) : (effAccPair r k w s).Ends s := by
  unfold effAccPair
  dsimp only
  exact Effect.ends_ite (fun hb => absurd (hb.symm.trans h) nofun) fun _ => Effect.ends_done none (State.foldl_aside (fun t u => by simp) _ s)

theorem effSplitK_ends {d : Nat} {r : Run} {k w : Nat} {s : State} (h : s.wordWaits r .splitK k w = false) : (effSplitK d r k w s).Ends s := by
  unfold effSplitK
  dsimp only
  refine Effect.ends_ite (fun hb => ?_) fun _ => Effect.ends_done none ?_
  · rw [List.any_map] at hb
    exact absurd (hb.symm.trans h) nofun
  · exact State.aside_of_modRun (State.foldl_aside (fun t u => by simp) _ s) fun _ => rfl

theorem effAccPreload_ends {r : Run} {k w : Nat} {s : State} (h : s.wordWaits r .accPreload k w = false) : (effAccPreload r k w s).Ends s :=
  Effect.ends_ite (fun hb => absurd (hb.symm.trans h) nofun) fun _ => Effect.ends_done _ (eachUnit_aside (preloadUnit_aside r w) _ s)

end Sys2Proof.Machine
end

section
/-!
SUPPORT. The words of the anneal, of noise, of drains, of checkpoints and of the Bobbins: each that need not wait runs to its end, and leaves aside what no word
works on (07 R192 to R209).
-/
namespace Sys2Proof.Machine

-- The parts of the anneal words.

@[simp] theorem State.checkStore_aside (s : State) (r : Run) (k : Nat) (q : Problem) (off len : Nat) : (s.checkStore r k q off len).1.aside = s.aside := by
  unfold State.checkStore
  split
  · dsimp only
    split <;> rfl
  · rfl

@[simp] theorem State.checkBiases_aside (s : State) (q : Problem) (prob : Nat) (us : List Nat) : (s.checkBiases q prob us).1.aside = s.aside :=
  eachUnit_aside (fun _ _ => rfl) us s

@[simp] theorem State.checkSched_aside (s : State) (r : Run) (k : Nat) (q : Problem) (lo hi : Nat) : (s.checkSched r k q lo hi).1.aside = s.aside := s.readIdx_aside ..

@[simp] theorem State.buildFields_aside (s : State) (r : Run) (q : Problem) (prob u : Nat) : (s.buildFields r q prob u).aside = s.aside := rfl

@[simp] theorem State.putBiases_aside (s : State) (q : Problem) (p : Nat) (b : Nat → Int) : (s.putBiases q p b).aside = s.aside := by
  unfold State.putBiases
  exact State.foldl_aside (fun t u => t.put_aside ..) _ s

@[simp] theorem State.clearMarks_aside (s : State) (p : Nat) : (s.clearMarks p).aside = s.aside := rfl

@[simp] theorem State.rebuild_aside (s : State) (r : Run) (k prob : Nat) (q : Problem) : (s.rebuild r k prob q).1.aside = s.aside := by
  unfold State.rebuild
  dsimp only
  split
  · rfl
  · split
    · simp
    · split
      · simp
      · refine (State.foldl_aside (fun t u => t.buildFields_aside r q prob u) _ _).trans ?_
        simp

theorem State.noise_aside (s : State) (x : Noise) : ({ s with noise := x } : State).aside = s.aside := rfl
@[simp] theorem State.freshStir_aside (s : State) : s.freshStir.aside = s.aside := rfl

@[simp] theorem State.nextExchange_aside (s : State) : s.nextExchange.2.aside = s.aside := by
  unfold State.nextExchange
  dsimp only
  split <;> rfl

theorem exchangeRound_aside {word : Nat → State → Nat × State} (hw : ∀ k s, (word k s).2.aside = s.aside) (bfx : List Nat) (es : List Int) (qs : List Nat) (q : Problem)
    (mask : Nat) (s : State) : (exchangeRound word bfx es qs q mask s).2.2.aside = s.aside := by
  induction qs generalizing q mask s with
  | nil => rfl
  | cons k qs ih => exact (ih _ _ _).trans (hw k s)

@[simp] theorem State.exchangeNow_aside (s : State) (cf : Bool) (key stream index prob : Nat) (q : Problem) (odd : Bool) (bfx : List Nat) :
    (s.exchangeNow cf key stream index prob q odd bfx).2.2.aside = s.aside := by
  refine exchangeRound_aside (fun k t => ?_) _ _ _ _ _ _
  cases cf with
  | true => rfl
  | false => exact t.nextExchange_aside

-- The anneal words but ANNEAL and SAMPLE.

theorem effCoupleLoad_ends (d : Nat) (r : Run) (k w : Nat) (s : State) : (effCoupleLoad d r k w s).Ends s := by
  unfold effCoupleLoad
  extract_lets n size a b c t dstLen x f u f' q v
  have hb : b.st.aside = s.aside := by
    unfold b a
    split <;> simp
  have ht : t.aside = s.aside := by
    unfold t c
    split
    · simp [hb]
    · exact hb
  have hv : v.aside = s.aside := ((State.putBiases_aside _ q (anProb w) x.b).trans ((State.writeIdx_aside _ r (clDst w) 0 x.bytes).trans (State.writeIdx_aside t ..))).trans ht
  clear_value t v q x
  split
  · exact Effect.ends_done _ (by simp [ht])
  · split
    · exact Effect.ends_done _ (by simp [f, ht])
    · split
      · exact Effect.ends_done _ (by simp [f', u, ht])
      · exact Effect.ends_done _ (((State.setProblem_aside _ d (anProb w) q).trans (v.clearMarks_aside (anProb w))).trans hv)

theorem effStateInit_ends (d : Nat) (r : Run) (k w : Nat) (s : State) : (effStateInit d r k w s).Ends s := by
  unfold effStateInit
  split
  · exact Effect.ends_done _ rfl
  · rename_i q _
    extract_lets prob short limit a b s' t c e f g z bs given bad f' st up spins q' v y built stats
    have hb : t.aside = s.aside := by
      unfold t b a
      split <;> simp
    have he : e.1.aside = s.aside := by
      unfold e c
      split <;> simp [hb]
    have hz : z.aside = s.aside := he
    have hbuilt : built.aside = s.aside := by
      refine (State.foldl_aside (fun t u => t.buildFields_aside r q' prob u) _ y).trans ?_
      unfold y
      split <;> simp [hz]
    clear_value e z built stats
    refine Effect.ends_ite (fun _ => Effect.ends_done _ (by simp [f, s'])) fun _ => Effect.ends_ite (fun _ => Effect.ends_done _ (by simp [g, s'])) fun _ =>
      Effect.ends_ite (fun _ => Effect.ends_done _ rfl) fun _ => ?_
    split
    · exact Effect.ends_done _ he
    · exact Effect.ends_ite (fun _ => Effect.ends_done _ (by simp [f', hz])) fun _ => Effect.ends_done _ (by simp [hbuilt])

theorem effSchedLoad_ends (d : Nat) (r : Run) (k w : Nat) (s : State) : (effSchedLoad d r k w s).Ends s := by
  unfold effSchedLoad
  split
  · exact Effect.ends_done _ rfl
  · extract_lets a b mult f q'
    have hb : b.st.aside = s.aside := by
      unfold b a
      split <;> simp
    clear_value b
    split
    · exact Effect.ends_done _ hb
    · split
      · exact Effect.ends_done _ (by simp [f, hb])
      · exact Effect.ends_done _ (by simp [hb])

theorem effEnergy_ends {r : Run} {k w : Nat} {s : State} (h : s.wordWaits r .energy k w = false) : (effEnergy r k w s).Ends s := by
  unfold effEnergy
  split
  · exact Effect.ends_done _ rfl
  · rename_i q hq
    have hidle : s.anneal.isSome = false := by
      have h : ((r.problem (anProb w)).isSome && s.anneal.isSome) = false := h
      rwa [hq, Option.isSome_some, Bool.true_and] at h
    extract_lets prob f f' b c a
    have ha : a.1.aside = s.aside := by simp [a, c, b]
    clear_value a
    rw [hidle, if_neg Bool.false_ne_true]
    refine Effect.ends_ite (fun _ => Effect.ends_done _ (by simp [f])) fun _ => Effect.ends_ite (fun _ => Effect.ends_done _ rfl) fun _ =>
      Effect.ends_ite (fun _ => Effect.ends_done _ (by simp [f'])) fun _ => ?_
    split
    · exact Effect.ends_done _ (by simp [ha])
    · exact Effect.ends_done _ (by simp [ha])

theorem effExchange_ends {d : Nat} {r : Run} {k w : Nat} {s : State} (h : s.wordWaits r .exchange k w = false) : (effExchange d r k w s).Ends s := by
  unfold effExchange
  split
  · exact Effect.ends_done _ rfl
  · rename_i q hq
    have h : (s.anneal.isSome || (decide (exStep w < q.steps) && decide (q.plies ≤ q.ladder.length) && r.header.mode ≠ 1 && s.noise.half.w ≠ 1)) = false := by
      unfold State.wordWaits at h
      dsimp only at h
      rwa [hq] at h
    obtain ⟨hidle, hready⟩ := Bool.or_eq_false_iff.1 h
    extract_lets cf prob stop a c b a' t noise lane u bfx x v rec_
    have ha : a'.1.aside = s.aside := by simp [a', b, c, a]
    have hu : u.aside = s.aside := by
      unfold u
      split
      · exact ha
      · exact (t.noise_aside _).trans (a'.1.freshStir_aside.trans ha)
    have hv : v.aside = s.aside := by
      refine (State.writeIdx_aside ..).trans ((State.setProblem_aside ..).trans ((State.exchangeNow_aside ..).trans hu))
    clear_value a' u v
    rw [hidle, if_neg Bool.false_ne_true]
    refine Effect.ends_ite (fun _ => Effect.ends_done _ (s.failRange_aside r k)) fun h1 => Effect.ends_ite (fun _ => Effect.ends_done _ (s.failInput_aside r k)) fun h2 =>
      Effect.ends_ite (fun _ => Effect.ends_done _ (s.failWord_aside ..)) fun _ => Effect.ends_ite (fun h3 => ?_) fun _ => ?_
    · rw [decide_eq_true (Nat.lt_of_not_le h1), decide_eq_true (Nat.le_of_not_lt h2)] at hready
      simp only [cf, Bool.and_eq_true, Bool.not_eq_true', decide_eq_false_iff_not, decide_eq_true_eq] at h3
      rw [decide_eq_true h3.1, decide_eq_true h3.2] at hready
      exact nomatch hready
    · split
      · exact Effect.ends_done _ ((State.spoilIdx_aside ..).trans ha)
      · refine Effect.ends_done _ ?_
        split
        · exact State.aside_of_modRun hv fun _ => rfl
        · exact hv

theorem effNoiseSeed_ends {d : Nat} {r : Run} {k w : Nat} {s : State} (h : s.wordWaits r .noiseSeed k w = false) : (effNoiseSeed d r k w s).Ends s := by
  have h : (nsDevice w && r.reuse[r.keys.length]?.isNone && !s.rotServes) = false := h
  unfold effNoiseSeed
  refine Effect.ends_ite (fun hdevice => ?_) fun _ => ?_
  · rw [hdevice, Bool.true_and] at h
    split
    · exact Effect.ends_done _ (State.aside_of_modRun rfl fun _ => rfl)
    · rename_i hreuse
      rw [hreuse, Option.isNone_none, Bool.true_and, Bool.not_eq_false'] at h
      rw [State.rotOutput, h]
      exact Effect.ends_done _ (State.aside_of_modRun rfl fun _ => rfl)
  · extract_lets g
    have hg : g.st.aside = s.aside := s.readIdx_aside ..
    clear_value g
    split
    · exact Effect.ends_done _ hg
    · exact Effect.ends_done _ (State.aside_of_modRun hg fun _ => rfl)

theorem effNoiseRaw_ends {d : Nat} {raw : RawBits} {r : Run} {k w : Nat} {s : State} (h : s.wordWaits r .noiseRaw k w = false)
    (hraw : 8 * nrLen w ≤ (if nrRaw w = true then rawBits raw else s.conditioned (nrGroup w) raw).length) : (effNoiseRaw d raw r k w s).Ends s := by
  have h : (!nrRaw w && (s.group (nrGroup w)).state ≠ 1) = false := h
  unfold effNoiseRaw
  rw [h, if_neg Bool.false_ne_true, if_neg (Nat.not_lt.2 hraw)]
  exact Effect.ends_done _ (s.writeIdx_aside ..)

-- Drains.

theorem State.settleHosts_aside (s : State) (r : Run) (u k : Nat) : (s.settleHosts r u k).aside = s.aside := by
  unfold State.settleHosts
  split
  · rfl
  · exact (State.foldl_aside (fun t p => t.spoilLanes_aside ..) _ _).trans (State.foldl_aside (fun t p => t.modSpindle_aside ..) _ s)

theorem State.writeDest_aside (s : State) (r : Run) (w u stride : Nat) (bs : Bytes) : (s.writeDest r w u stride bs).aside = s.aside := by
  unfold State.writeDest
  split
  · exact s.writeIdx_aside ..
  · rfl

theorem drainUnit_aside (d : Nat) (r : Run) (o : Op) (k w u : Nat) (s : State) : (drainUnit d r o k w u s).aside = s.aside := by
  unfold drainUnit
  extract_lets slot x cf fmt parts ys outs val bad tile st f data a b c e lane g y begin_
  have hb : b.aside = s.aside := (State.writeDest_aside ..).trans (s.settleHosts_aside r u slot)
  have hc : c.aside = s.aside := by
    unfold c
    split <;> simp [hb]
  have he : e.aside = s.aside := by
    unfold e
    split <;> simp [hc]
  have hy : y.aside = s.aside := State.aside_of_modRun ((State.modSpindle_aside ..).trans he) fun _ => rfl
  clear_value y
  exact hy

theorem effDrain_ends {d : Nat} {o : Op} (ho : o.isDrain = true) {r : Run} {k w : Nat} {s : State} (h : s.wordWaits r o k w = false) : (effDrain d o r k w s).Ends s := by
  unfold effDrain
  dsimp only
  refine Effect.ends_ite (fun hb => ?_) fun _ => Effect.ends_done _ (State.foldl_aside (fun t u => drainUnit_aside d r o k w u t) _ s)
  cases o
  case drainPlain | drainMax | drainExpsum | drainSum => exact absurd (hb.symm.trans h) nofun
  all_goals cases ho

theorem effPeek_ends (r : Run) (k w : Nat) (s : State) : (effPeek r k w s).Ends s := by
  refine Effect.ends_done _ ((State.writeDest_aside ..).trans ?_)
  unfold State.peekRows
  dsimp only
  split <;> rfl

-- Bobbins and buffers.

theorem vecUnit_aside (d : Nat) (o : Op) (w u : Nat) (s : State) : (vecUnit d o w u s).1.aside = s.aside := by
  unfold vecUnit
  extract_lets t n tout m dst srcs red per outs check one
  have hc : check.1.aside = s.aside := by
    unfold check
    refine foldl_keeps (fun x : Done => x.1.aside) _ ?_ srcs (s, none)
    exact fun a x => a.1.readLs_aside 4 (lsKey true u x.1) x.2
  clear_value check
  obtain ⟨v, f⟩ := check
  cases f with
  | some f => exact (v.spoil_aside ..).trans hc
  | none =>
    dsimp only
    refine (State.foldl_aside (fun x i => ?_) _ v).trans hc
    unfold one
    split
    · dsimp only
      split
      · exact x.spoil_aside ..
      · exact x.put_aside ..
    · extract_lets y z
      have hz : z.aside = x.aside := x.put_aside 4 (dst + m * i) (le m y.1)
      clear_value z
      split
      · exact (z.setIntOverflow_aside d).trans hz
      · exact hz

theorem effVec_ends (d : Nat) (o : Op) (r : Run) (k w : Nat) (s : State) : (effVec d o r k w s).Ends s := Effect.ends_done _ (eachUnit_aside (vecUnit_aside d o w) _ s)

theorem loadPart_aside (r : Run) (k w u : Nat) (s : State) : (loadPart r k w u s).1.aside = s.aside := by
  unfold loadPart
  dsimp only
  split <;> simp

theorem storePart_aside (r : Run) (w u : Nat) (s : State) : (storePart r w u s).1.aside = s.aside := by
  unfold storePart
  dsimp only
  split <;> simp

theorem gatherPart_aside (r : Run) (k w j : Nat) (s : State) : (gatherPart r k w j s).1.aside = s.aside := by
  unfold gatherPart
  dsimp only
  split
  · simp
  · split
    · simp
    · split <;> simp

theorem effLoad_ends (r : Run) (k w : Nat) (s : State) : (effLoad r k w s).Ends s := Effect.ends_done _ (eachUnit_aside (loadPart_aside r k w) _ s)
theorem effStore_ends (r : Run) (k w : Nat) (s : State) : (effStore r k w s).Ends s := Effect.ends_done _ (eachUnit_aside (storePart_aside r w) _ s)
theorem effGather_ends (r : Run) (k w : Nat) (s : State) : (effGather r k w s).Ends s := Effect.ends_done _ (eachUnit_aside (gatherPart_aside r k w) _ s)

theorem effCopy_ends (r : Run) (k w : Nat) (s : State) : (effCopy r k w s).Ends s := by
  unfold effCopy
  exact Effect.ends_ite (fun _ => Effect.ends_done _ (by simp)) fun _ => Effect.ends_done _ (by simp)

-- Words of control.

theorem effBarrier_ends (d : Nat) (r : Run) (k w : Nat) (s : State) : (effBarrier d r k w s).Ends s :=
  Effect.ends_ite (fun _ => Effect.ends_done _ rfl) fun _ => Effect.ends_done _ (State.aside_of_modRun rfl fun _ => rfl)

theorem effWaitSeq_ends {r : Run} {k w : Nat} {s : State} (h : s.wordWaits r .waitSeq k w = false) : (effWaitSeq r k w s).Ends s := by
  have h : (s.awaited (bits w 94 89) (bits w 88 41) (bits w 40 25)).isNone = false := h
  unfold effWaitSeq
  split
  · rename_i hnone
    rw [hnone] at h
    exact nomatch h
  · exact Effect.ends_ite (fun _ => Effect.ends_done _ (s.failWord_aside ..)) fun _ => Effect.ends_done _ rfl

theorem State.raise_aside (s : State) (fn e : Nat) : (s.raise fn e).aside = s.aside := by
  unfold State.raise
  split
  · rfl
  · split
    · rfl
    · split <;> rfl

theorem effSignal_ends (r : Run) (k w : Nat) (s : State) : (effSignal r k w s).Ends s := by
  refine Effect.ends_done _ ?_
  split
  · exact (State.raise_aside ..).trans rfl
  · rfl

theorem effLedgerMark_ends (d : Nat) (r : Run) (k w : Nat) (s : State) : (effLedgerMark d r k w s).Ends s := by
  unfold effLedgerMark
  dsimp only
  split
  · exact Effect.ends_done _ (s.readIdx_aside ..)
  · exact Effect.ends_done _ (State.aside_of_modRun (s.readIdx_aside ..) fun _ => rfl)

theorem effDebugTrigger_ends (r : Run) (k w : Nat) (s : State) : (effDebugTrigger r k w s).Ends s := by
  refine Effect.ends_done _ ?_
  unfold State.capture
  split
  · rfl
  · split <;> rfl

end Sys2Proof.Machine
end

section
/-!
SUPPORT. Checkpoints and the start of an ANNEAL or SAMPLE: each leaves aside what no word works on (07 R204, R205, R209).
-/
namespace Sys2Proof.Machine

-- STATE.SAVE.

theorem State.readSaved_aside (s : State) (r : Run) (k : Nat) : (s.readSaved r k).1.aside = s.aside := by
  unfold State.readSaved
  dsimp only
  refine (eachUnit_aside (fun i t => ?_) _ _).trans ((eachUnit_aside (fun u t => t.readLs_aside ..) _ _).trans (eachUnit_aside (fun u t => t.readLs_aside ..) _ s))
  split
  · exact t.readBuf_aside ..
  · rfl

theorem State.saveCheckpoint_aside (s : State) (d : Nat) (r : Run) (word : Nat) (partialPass : Bool) (problems : Vector (Option Problem) 4) :
    (s.saveCheckpoint d r word partialPass problems).1.aside = s.aside := by
  unfold State.saveCheckpoint
  extract_lets us secs marked f cleared gen keep begun content
  have hmarked : marked.aside = s.aside := s.modRun_aside d fun _ => rfl
  have hbegun : begun.aside = s.aside := (marked.writeBuf_aside ..).trans hmarked
  split
  · exact (marked.failRange_aside r word).trans hmarked
  · have hread := (begun.readSaved_aside r word).trans hbegun
    clear_value begun secs
    split
    · rename_i h
      rw [h] at hread
      exact hread
    · rename_i z h
      rw [h] at hread
      extract_lets n free sram body cd own flags sk head cipher sealed sections head' written v settled t' snap out' ended
      have hsections : sections.aside = s.aside := (State.foldl_aside (fun t x => t.writeBuf_aside ..) _ z).trans hread
      have hwritten : written.aside = s.aside := (State.writeBuf_aside ..).trans hsections
      exact State.aside_of_modRun hwritten fun _ => rfl

theorem effSave_ends {d : Nat} {r : Run} {k w : Nat} {s : State} (h : s.wordWaits r .stateSave k w = false) : (effSave d r k w s).Ends s := by
  unfold effSave
  dsimp only
  split
  · rename_i i hpause hbusy
    have hany := List.any_eq_true.2 ⟨i, List.mem_of_find?_eq_some hbusy, List.find?_some hbusy⟩
    have h : (svPause w && r.issued.any fun i => decide (i.index < k) && !i.ran && (match r.wordAt i.index with
        | some c => (c.1 = .anneal || c.1 = .sample) && anProb c.2 = svProb w
        | none => false)) = false := h
    rw [hpause, Bool.true_and] at h
    exact absurd (hany.symm.trans h) nofun
  · exact Effect.ends_done _ (s.saveCheckpoint_aside ..)

-- STATE.RESTORE.

theorem State.failRestore_aside (s : State) (r : Run) (order status : Nat) : (s.failRestore r order status).1.aside = s.aside := rfl

theorem State.spoilUnit_aside (s : State) (u : Nat) : (s.spoilUnit u).aside = s.aside := rfl

theorem State.modMem_aside (s : State) (f : Memory → Memory) : (s.modMem f).aside = s.aside := rfl

theorem State.restoreSnapshot_aside (s : State) (d : Nat) (r : Run) (w : Nat) (x : Snapshot) (key : Option Bytes) : (s.restoreSnapshot d r w x key).aside = s.aside := by
  unfold State.restoreSnapshot
  extract_lets paste a b c others kinds e f
  have ha : a.aside = s.aside := State.foldl_aside (fun t c => (State.modSpindle_aside ..).trans (t.modMem_aside _)) _ s
  have hb : b.aside = s.aside := (State.foldl_aside (fun t c => t.modMem_aside _) _ a).trans ha
  have hc : c.aside = s.aside := by
    refine (State.foldl_aside (fun t c => ?_) _ b).trans hb
    split
    · exact t.modMem_aside _
    · rfl
  have he : e.aside = s.aside := (State.foldl_aside (fun t u => t.modSpindle_aside ..) _ c).trans hc
  exact State.aside_of_modRun he fun _ => rfl

theorem State.spoilRestore_aside (s : State) (r : Run) (x : Snapshot) : (s.spoilRestore r x).aside = s.aside := by
  unfold State.spoilRestore
  extract_lets a b c
  have ha : a.aside = s.aside := State.foldl_aside (fun t c => (State.spoil_aside ..).trans (t.spoilUnit_aside _)) _ s
  have hb : b.aside = s.aside := (State.foldl_aside (fun t c => t.spoil_aside ..) _ a).trans ha
  have hc : c.aside = s.aside := by
    refine (State.foldl_aside (fun t c => ?_) _ b).trans hb
    split
    · exact t.spoilIdx_aside ..
    · rfl
  clear_value c
  exact hc

theorem effRestore_ends (d : Nat) (r : Run) (k w : Nat) (s : State) : (effRestore d r k w s).Ends s := by
  unfold effRestore
  extract_lets g h stop t secs body inside read
  have hg : g.st.aside = s.aside := s.readBuf_aside ..
  have hread : read.1.aside = s.aside := by
    refine Eq.trans ?_ hg
    unfold read
    refine foldl_keeps (fun y : Done => y.1.aside) _ ?_ secs (t, none)
    exact fun a c => a.1.readBuf_aside r k r.area c.off c.len
  have hstop : ∀ order status, (stop (t.failRestore r order status)).Ends s := fun order status => Effect.ends_done _ ((t.failRestore_aside ..).trans hg)
  clear_value g read stop
  split
  · exact Effect.ends_done _ hg
  · refine Effect.ends_ite (fun _ => hstop _ _) fun _ => Effect.ends_ite (fun _ => hstop _ _) fun _ => Effect.ends_ite (fun _ => hstop _ _) fun _ => ?_
    split
    · exact hstop _ _
    · rename_i x _
      refine Effect.ends_ite (fun _ => hstop _ _) fun _ => ?_
      obtain ⟨v, f⟩ := read
      cases f with
      | some f => exact Effect.ends_done _ ((v.spoilRestore_aside r x).trans hread)
      | none =>
        dsimp only
        exact Effect.ends_ite (fun _ => Effect.ends_done _ ((State.spoilRestore_aside _ r x).trans hread)) fun _ =>
          Effect.ends_done _ ((v.restoreSnapshot_aside ..).trans hread)

-- The outputs and the end of an ANNEAL or SAMPLE.

@[simp] theorem State.finishMoments_aside (s : State) (r : Run) (k b count ns : Nat) (fp : Bool) : (s.finishMoments r k b count ns fp).1.aside = s.aside := by
  unfold State.finishMoments
  split
  · rfl
  · exact (State.writeIdx_aside ..).trans (s.readIdx_aside ..)

theorem State.writeOutputs_aside (s : State) (d : Nat) (r : Run) (q : Problem) (a : AnnealRun) : (s.writeOutputs d r q a).1.aside = s.aside := by
  unfold State.writeOutputs
  extract_lets bias t es sum finals ns u m1 m2 v z
  have ht : t.aside = s.aside := s.checkBiases_aside ..
  have hu : u.aside = s.aside := by simp [u, ht]
  have hm1 : m1.1.aside = s.aside := by
    unfold m1
    split <;> simp [hu]
  have hm2 : m2.1.aside = s.aside := by
    unfold m2
    split <;> simp [hm1]
  have hv : v.aside = s.aside := by simp [v, ht]
  have hz : z.aside = s.aside := by
    unfold z
    split <;> simp [hv]
  clear_value m2 z
  split
  · dsimp only
    split <;> simp [hm2]
  · exact hz

theorem State.seamLag_aside (s : State) (crossed : Bool) : (s.seamLag crossed).2.aside = s.aside := by
  cases crossed <;> rfl

theorem State.endAnneal_aside (s : State) (a : AnnealRun) (last : Option Nat) (fail : Option Failure) : (s.endAnneal a last fail).aside = s.aside := by
  unfold State.endAnneal
  extract_lets we ew t cls plies recs u v w z
  have ht : t.aside = s.aside := (State.seamLag_aside ..).trans (s.seamLag_aside _)
  have hu : u.aside = s.aside := State.aside_of_modRun ht fun _ => rfl
  have hv : v.aside = s.aside := by
    unfold v
    split
    · exact hu
    · exact (u.modDict_aside _).trans hu
  clear_value v
  have hz : z.aside = s.aside := hv
  clear_value z
  exact State.aside_of_modIssued hz fun _ => rfl

-- The word at its start.

/-- A hank has issued the word with this list index. -/
def State.HasIssued (s : State) (d k : Nat) : Prop := ∃ y, s.run d = some y ∧ ∃ i ∈ y.issued, i.index = k

theorem State.HasIssued.of_aside {s t : State} {d k : Nat} (hs : s.HasIssued d k) (h : t.aside = s.aside) : t.HasIssued d k := by
  obtain ⟨y, hy, i, hi, hk⟩ := hs
  have hat : (t.run d).map Run.issuedAt = some y.issuedAt := (congrFun (congrArg Prod.snd h) d).trans (congrArg (Option.map Run.issuedAt) hy)
  obtain ⟨z, hz, hissued⟩ := Option.map_eq_some_iff.1 hat
  have hmem : k ∈ z.issuedAt := hissued ▸ List.mem_map.2 ⟨i, hi, hk⟩
  exact ⟨z, hz, List.mem_map.1 hmem⟩

/-- A word of an ANNEAL or SAMPLE after its start: it runs, or has run to its end, and has left aside what no word works on. -/
structure State.AnnealBegun (s t : State) (d k : Nat) : Prop where
  aside : t.aside = s.aside
  runs : (∃ f, t.ranWith d k f) ∨ ∃ a, t.anneal = some a ∧ a.distaff = d ∧ a.word = k

theorem State.AnnealBegun.of_aside {s t u : State} {d k : Nat} (hst : t.aside = s.aside) (h : t.AnnealBegun u d k) : s.AnnealBegun u d k := ⟨h.aside.trans hst, h.runs⟩

section
variable {s : State} {a : AnnealRun} {d k : Nat} (hd : a.distaff = d) (hk : a.word = k) (hs : s.HasIssued d k)
include hd hk

theorem State.annealBegun_setAnneal (s : State) : s.AnnealBegun (s.setAnneal a) d k := ⟨rfl, .inr ⟨a, rfl, hd, hk⟩⟩

include hs

theorem State.annealBegun_endAnneal (last : Option Nat) (f : Option Failure) : s.AnnealBegun (s.endAnneal a last f) d k := by
  subst hd hk
  obtain ⟨y, hy, hi⟩ := hs
  exact ⟨s.endAnneal_aside a last f, .inl ⟨f, (State.endAnneal_ran last f hy hi).2.1⟩⟩

theorem State.annealBegun_finishAnneal (r : Run) (q : Problem) (last : Option Nat) : s.AnnealBegun (s.finishAnneal r q a last) d k := by
  have hset : ((s.writeOutputs a.distaff r q a).1.setProblem a.distaff a.problem q).aside = s.aside := (State.setProblem_aside ..).trans (s.writeOutputs_aside ..)
  exact (State.annealBegun_endAnneal hd hk (hs.of_aside hset) last _).of_aside hset

theorem State.annealBegun_spoilAnneal (r : Run) (last : Option Nat) (f : Failure) : s.AnnealBegun (s.spoilAnneal r a last f) d k := by
  unfold State.spoilAnneal
  extract_lets t
  have ht : t.aside = s.aside := by
    refine State.foldl_aside (fun v b => ?_) _ s
    split
    · split
      · rfl
      · exact v.spoilIdx_aside ..
    · rfl
  clear_value t
  exact (State.annealBegun_endAnneal hd hk (hs.of_aside ht) last _).of_aside ht

theorem State.annealBegun_enterStep (r : Run) (q : Problem) (passes : Halves Nat) (done lo : Nat) : s.AnnealBegun (s.enterStep r q a passes done lo) d k := by
  unfold State.enterStep
  split
  · exact s.annealBegun_setAnneal (a := s.beginStep r q a passes done) hd hk
  · extract_lets c
    have hc : c.1.aside = s.aside := s.checkSched_aside ..
    clear_value c
    split
    · exact (State.annealBegun_spoilAnneal hd hk (hs.of_aside hc) r _ _).of_aside hc
    · exact (c.1.annealBegun_setAnneal (a := c.1.beginStep r q a passes done) hd hk).of_aside hc

theorem State.annealBegun_beginAnneal (r : Run) (q : Problem) : s.AnnealBegun (s.beginAnneal r q a) d k := by
  unfold State.beginAnneal
  extract_lets t b
  have ht : t.aside = s.aside := by
    unfold t
    split
    · rfl
    · exact (State.noise_aside _ _).trans s.freshStir_aside
  have hdb : b.distaff = d := hd
  have hkb : b.word = k := hk
  clear_value t b
  refine iteInduction (motive := fun u => s.AnnealBegun u d k) (fun _ => ?_) fun _ => ?_
  · exact (State.annealBegun_finishAnneal hdb hkb (hs.of_aside ht) r q none).of_aside ht
  · exact (State.annealBegun_enterStep hdb hkb (hs.of_aside ht) r q _ _ 0).of_aside ht

omit hs in
theorem State.annealBegun_beginWait (s : State) (q : Problem) : s.AnnealBegun (s.beginWait q a) d k := by
  refine ⟨?_, ?_⟩
  · exact State.aside_of_modRun ((State.setProblem_aside ..).trans rfl) fun _ => rfl
  · obtain ⟨held, heq⟩ := s.beginWait_eq q a
    rw [heq]
    exact .inr ⟨_, rfl, hd, hk⟩

end

theorem State.zeroSums_aside (s : State) (r : Run) (q : Problem) (a : AnnealRun) : (s.zeroSums r q a).aside = s.aside := by
  rw [State.zeroSums_eq]
  rfl

/-- An effect of ANNEAL or SAMPLE at its start: it ends, or its run has begun. -/
def Effect.Starts (s : State) (d k : Nat) (e : Effect) : Prop := e.Ends s ∨ ∃ t, e = .started t ∧ s.AnnealBegun t d k

theorem Effect.starts_ite {s : State} {d k : Nat} {c : Prop} [Decidable c] {e e' : Effect} (h : c → e.Starts s d k) (h' : ¬c → e'.Starts s d k) :
    (if c then e else e').Starts s d k := iteInduction (motive := fun e : Effect => e.Starts s d k) h h'

/-- ANNEAL and SAMPLE at their start (07 R204, R205). -/
theorem effAnneal_begins {d : Nat} {sample : Bool} {r : Run} {k w : Nat} {s : State} (h : ((r.problem (anProb w)).isSome && s.anneal.isSome) = false)
    (hs : s.HasIssued d k) : (effAnneal d sample r k w s).Starts s d k := by
  unfold effAnneal
  split
  · exact .inl (Effect.ends_done _ rfl)
  · rename_i q hq
    have hidle : s.anneal.isSome = false := by rwa [hq, Option.isSome_some, Bool.true_and] at h
    extract_lets stop g b t guard x a moments c v
    have ht : t.aside = s.aside := s.readIdx_aside ..
    have hc : c.1.aside = s.aside := (t.rebuild_aside ..).trans ht
    have hv : v.aside = s.aside := (State.zeroSums_aside ..).trans (State.aside_of_modIssued hc fun _ => rfl)
    have had : a.distaff = d ∧ a.word = k := by
      unfold a
      split <;> exact ⟨rfl, rfl⟩
    have hstop : ∀ f : State × Failure, f.1.aside = s.aside → (stop f).Starts s d k := fun f hf => .inl (Effect.ends_done _ hf)
    clear_value stop t c v a
    rw [hidle, if_neg Bool.false_ne_true]
    refine Effect.starts_ite (fun _ => hstop _ (s.failRange_aside r k)) fun _ => ?_
    split
    · exact .inl (Effect.ends_done _ ht)
    · refine Effect.starts_ite (fun _ => hstop _ ((t.failInput_aside r k).trans ht)) fun _ => Effect.starts_ite (fun _ => .inl (Effect.ends_done _ ht)) fun _ =>
        Effect.starts_ite (fun _ => hstop _ ((t.failWord_aside ..).trans ht)) fun _ => ?_
      split
      · exact .inr ⟨_, rfl, (State.annealBegun_spoilAnneal had.1 had.2 (hs.of_aside hc) r _ _).of_aside hc⟩
      · refine .inr ⟨_, rfl, ?_⟩
        split
        · exact (v.annealBegun_beginWait had.1 had.2 q).of_aside hv
        · exact (State.annealBegun_beginAnneal had.1 had.2 (hs.of_aside hv) r q).of_aside hv

end Sys2Proof.Machine
end

section
/-!
PROOF. Every word at its units that need not wait runs to its end (O34): the effect of each instruction ends, or begins an ANNEAL or SAMPLE.
-/
namespace Sys2Proof.Machine

/-- The effect of a word command that need not wait. -/
theorem ends_of_wordCommand {c : Instr} {d : Nat} {o : Op} {r : Run} {k w : Nat} {s : State} (hc : wordCommand c = some (d, o)) (hw : s.wordWaits r o k w = false)
    (hanneal : ¬(o = .anneal ∨ o = .sample))
    (hraw : ∀ e raw, c = .noiseRaw e raw → 8 * nrLen w ≤ (if nrRaw w = true then rawBits raw else s.conditioned (nrGroup w) raw).length) :
    ∃ eff : WordEffect, (∀ u, exec c u = .next (u.word d o eff)) ∧ (eff r k w s).Ends s := by
  cases c
  case barrier => cases hc; exact ⟨_, fun _ => rfl, effBarrier_ends ..⟩
  case waitSeq => cases hc; exact ⟨_, fun _ => rfl, effWaitSeq_ends hw⟩
  case signal => cases hc; exact ⟨_, fun _ => rfl, effSignal_ends ..⟩
  case ledgerMark => cases hc; exact ⟨_, fun _ => rfl, effLedgerMark_ends ..⟩
  case debugTrigger => cases hc; exact ⟨_, fun _ => rfl, effDebugTrigger_ends ..⟩
  case load => cases hc; exact ⟨_, fun _ => rfl, effLoad_ends ..⟩
  case store => cases hc; exact ⟨_, fun _ => rfl, effStore_ends ..⟩
  case copy => cases hc; exact ⟨_, fun _ => rfl, effCopy_ends ..⟩
  case gather => cases hc; exact ⟨_, fun _ => rfl, effGather_ends ..⟩
  case stateSave => cases hc; exact ⟨_, fun _ => rfl, effSave_ends hw⟩
  case stateRestore => cases hc; exact ⟨_, fun _ => rfl, effRestore_ends ..⟩
  case macAcc => cases hc; exact ⟨_, fun _ => rfl, effMac_ends hw⟩
  case macEnd => cases hc; exact ⟨_, fun _ => rfl, effMac_ends hw⟩
  case splitK => cases hc; exact ⟨_, fun _ => rfl, effSplitK_ends hw⟩
  case accOpen => cases hc; exact ⟨_, fun _ => rfl, effAccOpen_ends hw⟩
  case accClose => cases hc; exact ⟨_, fun _ => rfl, effAccClose_ends hw⟩
  case accPreload => cases hc; exact ⟨_, fun _ => rfl, effAccPreload_ends hw⟩
  case accPair => cases hc; exact ⟨_, fun _ => rfl, effAccPair_ends hw⟩
  case drainPlain | drainMax | drainExpsum | drainSum => cases hc; exact ⟨_, fun _ => rfl, effDrain_ends rfl hw⟩
  case debugPeek => cases hc; exact ⟨_, fun _ => rfl, effPeek_ends ..⟩
  case vecAdd | vecSub | vecMul | vecFma | vecDiv | vecSqrt | vecMax | vecMin | vecExp | vecCvt | vecRsum | vecRmax =>
    cases hc; exact ⟨_, fun _ => rfl, effVec_ends ..⟩
  case coupleLoad => cases hc; exact ⟨_, fun _ => rfl, effCoupleLoad_ends ..⟩
  case stateInit => cases hc; exact ⟨_, fun _ => rfl, effStateInit_ends ..⟩
  case schedLoad => cases hc; exact ⟨_, fun _ => rfl, effSchedLoad_ends ..⟩
  case anneal | sample => cases hc; exact absurd (by decide) hanneal
  case exchange => cases hc; exact ⟨_, fun _ => rfl, effExchange_ends hw⟩
  case energy => cases hc; exact ⟨_, fun _ => rfl, effEnergy_ends hw⟩
  case noiseSeed => cases hc; exact ⟨_, fun _ => rfl, effNoiseSeed_ends hw⟩
  case noiseRaw e raw => cases hc; exact ⟨_, fun _ => rfl, effNoiseRaw_ends hw (hraw e raw rfl)⟩
  all_goals cases hc

theorem State.markHeld_ranWith {t : State} {d k : Nat} {f : Option Failure} (h : t.ranWith d k f) : t.markHeld.ranWith d k f := by
  obtain ⟨r, i, hr, hi, hik⟩ := h
  refine ⟨_, i, (State.run_markHeld t d).trans (congrArg _ hr), ?_, hik⟩
  dsimp only
  split <;> exact hi

/-- What is handed over differs from the state of the command in its hank's record alone. -/
theorem State.Handed.desk {s s0 : State} {d k : Nat} {r : Run} (h : s.Handed s0 d r k) : s0.desk = s.desk := by
  rw [h.frame]
  rfl

theorem State.Handed.hasIssued {s s0 : State} {d k : Nat} {r : Run} (h : s.Handed s0 d r k) : s0.HasIssued d k := ⟨r, h.run, h.issued⟩

theorem State.Handed.wordWaits {s s0 : State} {d k : Nat} {r : Run} (h : s.Handed s0 d r k) (o : Op) (w : Nat) : s0.wordWaits r o k w = s.wordWaits r o k w := by
  rw [h.frame]
  rfl

theorem State.Handed.conditioned {s s0 : State} {d k : Nat} {r : Run} (h : s.Handed s0 d r k) (g : Nat) (raw : RawBits) :
    s0.conditioned g raw = s.conditioned g raw := by
  rw [h.frame]
  rfl

/-- A word whose effect ends has run, and the desk stands. -/
theorem State.word_ends {s s0 : State} {d k w : Nat} {o : Op} {r : Run} {eff : WordEffect} (h : s.atUnits d o = some (s0, r, k, w)) (he : (eff r k w s0).Ends s0) :
    (∃ f, (s.word d o eff).ranWith d k f) ∧ (s.word d o eff).desk = s.desk := by
  have hh := State.handed_of_atUnits h
  obtain ⟨t, f, hdone, ht⟩ := he
  obtain ⟨y, hy, hi⟩ := hh.hasIssued.of_aside ht
  have hran := Effect.left_done (f := f) hy hi
  rw [(s.word_of_atUnits s0 d o eff r k w h).1, hdone]
  refine ⟨⟨f, hran.ran⟩, ?_⟩
  rw [hran.frame]
  exact (congrArg Prod.fst ht).trans hh.desk

theorem State.word_begins {s s0 t : State} {d k w : Nat} {o : Op} {r : Run} {eff : WordEffect} (h : s.atUnits d o = some (s0, r, k, w))
    (he : eff r k w s0 = .started t) (hb : s0.AnnealBegun t d k) :
    ((∃ f, (s.word d o eff).ranWith d k f) ∨ ∃ a, (s.word d o eff).anneal = some a ∧ a.distaff = d ∧ a.word = k) ∧ (s.word d o eff).desk = s.desk := by
  rw [(s.word_of_atUnits s0 d o eff r k w h).1, he]
  refine ⟨hb.runs.imp (fun ⟨f, hf⟩ => ⟨f, State.markHeld_ranWith hf⟩) fun h => h, ?_⟩
  exact (congrArg Prod.fst hb.aside).trans (State.handed_of_atUnits h).desk

/-- Settles O34: each instruction's effect ends, and ANNEAL and SAMPLE end or begin their run. -/
theorem wordsRunToTheirEnd : Obligations.WordsRunToTheirEnd := by
  intro s s0 c d o r k w hc h hw hraw
  have hh := State.handed_of_atUnits h
  have hdesk : ∀ {t : State}, t.desk = s.desk → t.board = s.board ∧ t.steward = s.steward ∧ t.dispatcher = s.dispatcher ∧ t.image = s.image ∧ t.start = s.start ∧
      t.ident = s.ident ∧ t.vfEnable = s.vfEnable ∧ t.ari = s.ari ∧ t.numVfs = s.numVfs := fun ht => by
    simpa only [State.desk, Desk.mk.injEq] using ht
  by_cases ho : o = .anneal ∨ o = .sample
  case pos =>
    have hidle : ((r.problem (anProb w)).isSome && s0.anneal.isSome) = false := by
      rw [hh.anneal]
      rcases ho with rfl | rfl <;> exact hw
    rcases effAnneal_begins (sample := decide (o = .sample)) hidle hh.hasIssued with he | ⟨t, he, hb⟩
    · obtain ⟨hran, ht⟩ := State.word_ends h he
      exact ⟨_, exec_of_annealWord hc ho s, .inl hran, hdesk ht⟩
    · obtain ⟨hruns, ht⟩ := State.word_begins h he hb
      exact ⟨_, exec_of_annealWord hc ho s, hruns.imp id fun ha => ⟨ho, ha⟩, hdesk ht⟩
  case neg =>
    obtain ⟨eff, hexec, he⟩ := ends_of_wordCommand hc ((hh.wordWaits o w).trans hw) ho fun e raw heq => by
      rw [hh.conditioned]
      exact hraw e raw heq
    obtain ⟨hran, ht⟩ := State.word_ends h he
    exact ⟨_, hexec s, .inl hran, hdesk ht⟩

end Sys2Proof.Machine
end

section
/-!
SUPPORT. Every memory in its canonical form (log 4), and what keeps it so: a write, a read, a mark, a fold of steps that keep it; what touches no memory keeps it too.
Each lemma bears the name of the operation that it is about.
-/
namespace Sys2Proof.Machine

/-- Every memory of the device and of the host is in its canonical form (log 4). -/
def State.Canonical (s : State) : Prop := s.mem.wf = true

variable {s t : State} {r : Run} {d k u w sp a n seq : Nat}

theorem State.Canonical.of_mem (h : s.Canonical) (hm : t.mem = s.mem) : t.Canonical := (congrArg Memory.wf hm).trans h

theorem State.Canonical.ite {c : Prop} [Decidable c] (hs : s.Canonical) (ht : t.Canonical) : (if c then s else t).Canonical := by
  split
  · exact hs
  · exact ht

/-- A fold of steps that keep a property of an accumulator. -/
theorem foldl_invariant {α β : Type} {P : α → Prop} {f : α → β → α} (hf : ∀ a b, P a → P (f a b)) (l : List β) {a : α} (h : P a) : P (l.foldl f a) := by
  induction l generalizing a with
  | nil => exact h
  | cons b l ih => exact ih (hf a b h)

theorem State.Canonical.foldl {α : Type} {f : State → α → State} {l : List α} (h : s.Canonical) (hf : ∀ t x, t.Canonical → (f t x).Canonical) :
    (l.foldl f s).Canonical := foldl_invariant hf l h

/-- A fold of parts that may fail. -/
theorem State.Canonical.foldlFail {α : Type} {f : Done → α → Done} {l : List α} {o : Option Failure} (h : s.Canonical)
    (hf : ∀ t x, t.1.Canonical → (f t x).1.Canonical) : (l.foldl f (s, o)).1.Canonical := foldl_invariant (P := fun x : Done => x.1.Canonical) hf l h

theorem State.Canonical.eachUnit {us : List Nat} {f : Nat → State → Done} (h : s.Canonical) (hf : ∀ u t, t.Canonical → (f u t).1.Canonical) :
    (eachUnit us f s).1.Canonical := h.foldlFail fun x u hx => hf u x.1 hx

-- Memory.

theorem State.Canonical.write {base len : Nat} {f : Nat → Byte} (h : s.Canonical) : (s.modMem fun m => m.write sp base len f).Canonical :=
  Memory.write_wf _ _ _ _ _ h

theorem State.Canonical.meet (h : s.Canonical) : (s.modMem fun m => m.meet sp w).Canonical := Memory.meet_wf _ _ _ h

theorem State.Canonical.strike {bad : Bool} (h : s.Canonical) : (s.modMem fun m => m.strike sp w bad).Canonical := Memory.strike_wf _ _ _ _ h

theorem State.Canonical.check (h : s.Canonical) : ({ s with mem := (s.mem.check sp a n).1 } : State).Canonical := Memory.check_wf _ _ _ _ h

theorem State.Canonical.put {bs : Bytes} (h : s.Canonical) : (s.put sp a bs).Canonical := State.put_wf _ _ _ _ h

theorem State.Canonical.spoil (h : s.Canonical) : (s.spoil sp a n).Canonical :=
  State.Canonical.put (s := (s.freeBytes n).2) h

theorem State.Canonical.readLs (h : s.Canonical) : (s.readLs sp a n).st.Canonical := State.readLs_wf _ _ _ _ h

theorem State.Canonical.readBuf {b : Buffer} (h : s.Canonical) : (s.readBuf r k b a n).st.Canonical := State.readBuf_wf _ _ _ _ _ _ h

theorem State.Canonical.readIdx {i : Nat} (h : s.Canonical) : (s.readIdx r k i a n).st.Canonical := State.readIdx_wf _ _ _ _ _ _ h

theorem State.Canonical.writeBuf {b : Buffer} {bs : Bytes} (h : s.Canonical) : (s.writeBuf r b a bs).Canonical := State.writeBuf_wf _ _ _ _ _ h

theorem State.Canonical.writeIdx {i : Nat} {bs : Bytes} (h : s.Canonical) : (s.writeIdx r i a bs).Canonical := State.writeIdx_wf _ _ _ _ _ h

theorem State.Canonical.spoilIdx {i : Nat} (h : s.Canonical) : (s.spoilIdx r i a n).Canonical := State.Canonical.writeIdx (s := (s.freeBytes n).2) h

theorem State.Canonical.zeroStore (h : s.Canonical) : (s.zeroStore sp a n).Canonical := h.write (f := fun _ => 0)

-- What touches no memory: hanks, rings, units, records, the steward and the dictionary.

theorem State.Canonical.modRing {f : Ring → Ring} (h : s.Canonical) : (s.modRing k f).Canonical := h
theorem State.Canonical.modHank {f : Hank → Hank} (h : s.Canonical) : (s.modHank k seq f).Canonical := h
theorem State.Canonical.setRun {o : Option Run} (h : s.Canonical) : (s.setRun d o).Canonical := h
theorem State.Canonical.modRun {f : Run → Run} (h : s.Canonical) : (s.modRun d f).Canonical := h
theorem State.Canonical.modIssued {f : Issued → Issued} (h : s.Canonical) : (s.modIssued d k f).Canonical := h
theorem State.Canonical.setProblem {q : Problem} (h : s.Canonical) : (s.setProblem d k q).Canonical := h
theorem State.Canonical.modSpindle {f : Spindle → Spindle} (h : s.Canonical) : (s.modSpindle u f).Canonical := h
theorem State.Canonical.modBobbin {f : Bobbin → Bobbin} (h : s.Canonical) : (s.modBobbin u f).Canonical := h
theorem State.Canonical.modSlot {f : Slot → Slot} (h : s.Canonical) : (s.modSlot k f).Canonical := h
theorem State.Canonical.modDict {f : Dictionary → Dictionary} (h : s.Canonical) : (s.modDict f).Canonical := h
theorem State.Canonical.modRecorder {f : Recorder → Recorder} (h : s.Canonical) : (s.modRecorder f).Canonical := h
theorem State.Canonical.modSteward {f : Steward → Steward} (h : s.Canonical) : (s.modSteward f).Canonical := h
theorem State.Canonical.setAnneal {x : AnnealRun} (h : s.Canonical) : (s.setAnneal x).Canonical := h
theorem State.Canonical.emit {x : Notice} (h : s.Canonical) : (s.emit x).Canonical := h
theorem State.Canonical.useFree (h : s.Canonical) : s.useFree.Canonical := h
theorem State.Canonical.freeBytes (h : s.Canonical) : (s.freeBytes n).2.Canonical := h
theorem State.Canonical.reply (h : s.Canonical) : (s.reply n).Canonical := h
theorem State.Canonical.releaseUnits (h : s.Canonical) : (s.releaseUnits k seq).Canonical := h
theorem State.Canonical.finishUnpicked {st c ev : Nat} {q m : Bool} (h : s.Canonical) : (s.finishUnpicked k seq st c ev q m).Canonical := h
theorem State.Canonical.markHeld (h : s.Canonical) : s.markHeld.Canonical := h

-- The stores cleared, the records of a failure, the permits.

theorem State.Canonical.clearSpindle (h : s.Canonical) : (s.clearSpindle u).Canonical := by
  rw [State.clearSpindle_eq]
  exact State.Canonical.modSpindle h.zeroStore

theorem State.Canonical.clearBobbin (h : s.Canonical) : (s.clearBobbin u).Canonical := by
  have hb : s.clearBobbin u = s.zeroStore 4 (u * 2 ^ 19) (2 ^ 19) := rfl
  rw [hb]
  exact h.zeroStore

theorem State.Canonical.raise (h : s.Canonical) : (s.raise k n).Canonical := by
  unfold State.raise
  split
  · exact h
  · exact .ite h (.ite h h)

theorem State.Canonical.countRejected (h : s.Canonical) : (s.countRejected k seq).Canonical := h.of_mem (State.countRejected_mem _ _ _)

theorem State.Canonical.failWord {st c : Nat} (h : s.Canonical) : (s.failWord n seq k st c).1.Canonical := h.of_mem (State.failWord_mem _ _ _ _ _ _)

theorem State.Canonical.failInput (h : s.Canonical) : (s.failInput r k).1.Canonical := h.failWord
theorem State.Canonical.failRange (h : s.Canonical) : (s.failRange r k).1.Canonical := h.failWord
theorem State.Canonical.hostFault {f : Bytes → Notice} {x y z v : Nat} (h : s.Canonical) : (s.hostFault f x y z v).Canonical := h

theorem State.Canonical.markWaits (h : s.Canonical) : s.markWaits.Canonical := h.foldl fun _ _ ht => .ite ht ht

theorem State.Canonical.requestPermit (h : s.Canonical) : (s.requestPermit d k n).Canonical := State.Canonical.markWaits h.modSteward

theorem State.Canonical.refreshReservation (h : s.Canonical) : s.refreshReservation.Canonical := by
  unfold State.refreshReservation
  dsimp only
  split
  · exact .ite h (.ite (State.Canonical.markWaits h) h)
  · exact h
  · exact .ite (State.Canonical.markWaits h) h
  · exact h

-- The root-of-trust generator and the noise controller.

theorem State.Canonical.rotOutput {x : Bytes × State} (h : s.Canonical) (hx : s.rotOutput = some x) : x.2.Canonical := by
  unfold State.rotOutput at hx
  split at hx
  · cases hx
  · cases hx
    exact h

theorem State.Canonical.drawHeaderKey (h : s.Canonical) : (s.drawHeaderKey d).Canonical := by
  unfold State.drawHeaderKey
  split
  · refine .ite h ?_
    split
    · rename_i x hx
      split at hx
      · cases hx
        exact h
      · exact State.Canonical.modRun (h.rotOutput hx)
    · exact h
  · exact h

theorem State.HalfMoves.canonical (hm : s.HalfMoves t) (h : s.Canonical) : t.Canonical := h.of_mem (by rw [hm.frame])

theorem State.Canonical.updateGroupHalf {win : Option (BitVec 16 × BitVec 16)} (h : s.Canonical) : (s.updateGroupHalf k win).Canonical :=
  (State.updateGroupHalf_moves s k win).1.canonical h

theorem State.Canonical.endWindow {g : Fin 137} {x y : Nat} (h : s.Canonical) : (s.endWindow g x y).Canonical := by
  obtain ⟨hm, -⟩ := s.endWindow_moves g x y
  exact hm.canonical (s := s.modGroup g _) h

theorem State.Canonical.rewarm (h : s.Canonical) : (s.rewarm k).Canonical := .ite h (.ite h (State.Canonical.updateGroupHalf h))

theorem State.Canonical.retireAll {gs : List Nat} (h : s.Canonical) : (s.retireAll gs).Canonical := by
  refine State.Canonical.foldl (h.foldl fun _ _ ht => ht) fun t x ht => .ite ?_ ht
  exact ((t.newDonors_halfMoves x).trans (State.updateHalf_moves _ x none).1).canonical ht

theorem State.Canonical.freshStir (h : s.Canonical) : s.freshStir.Canonical := h
theorem State.Canonical.loadLanes (h : s.Canonical) : s.loadLanes.Canonical := h

theorem State.Canonical.nextExchange (h : s.Canonical) : s.nextExchange.2.Canonical := State.Canonical.ite h.freshStir h

end Sys2Proof.Machine
end

section
/-!
SUPPORT. The words of a hank keep every memory in its canonical form, the words of the anneal aside (log 4).
-/
namespace Sys2Proof.Machine

variable {s t : State} {r : Run} {d k u w n : Nat}

-- An effect.

/-- The state that an effect leaves has every memory in its canonical form. -/
def Effect.Canonical : Effect → Prop
  | .wait s => s.Canonical
  | .done s _ => s.Canonical
  | .started s => s.Canonical

theorem Effect.Canonical.ite {c : Prop} [Decidable c] {e e' : Effect} (h : e.Canonical) (h' : e'.Canonical) : (if c then e else e').Canonical := by
  split
  · exact h
  · exact h'

theorem Effect.Canonical.wait (h : s.Canonical) : (Effect.wait s).Canonical := h
theorem Effect.Canonical.done {f : Option Failure} (h : s.Canonical) : (Effect.done s f).Canonical := h
theorem Effect.Canonical.started (h : s.Canonical) : (Effect.started s).Canonical := h

-- Spindles.

theorem State.Canonical.leaveTree {ls : List Nat} (h : s.Canonical) : (s.leaveTree u ls).Canonical := h
theorem State.Canonical.windowFault (h : s.Canonical) : s.windowFault.1.Canonical := h
theorem State.Canonical.setIntOverflow (h : s.Canonical) : (s.setIntOverflow d).Canonical := h

theorem State.Canonical.clearMark (h : s.Canonical) : (s.clearMark r u k).Canonical := by
  unfold State.clearMark
  split
  · exact .ite h h
  · exact h

theorem State.Canonical.swapPair (h : s.Canonical) : (s.swapPair u).Canonical := by
  unfold State.swapPair
  dsimp only
  split <;> exact h

theorem macUnit_canonical {end_ : Bool} (h : s.Canonical) : (macUnit d r k w end_ u s).1.Canonical := by
  unfold macUnit
  extract_lets gw slot mx c ta tb t x cf lane v sub z
  have hc : c.st.Canonical := by
    unfold c
    split
    · exact h.readLs
    · exact h
  have ht : t.Canonical := State.Canonical.readLs hc.readLs
  have hz : z.Canonical := .ite ht.clearMark ht.clearMark
  clear_value t z
  split
  · exact ht
  · split
    · exact ht
    · dsimp only
      exact .ite hz.swapPair hz

theorem preloadUnit_canonical (h : s.Canonical) : (preloadUnit r w u s).1.Canonical := by
  unfold preloadUnit
  extract_lets f g t x cf l bs raw t' y v v'
  have ht : t.Canonical := State.Canonical.readLs h
  have ht' : t'.Canonical := State.Canonical.leaveTree ht.clearMark
  clear_value t t'
  split
  · exact ht
  · split
    · split <;> split
      · exact State.Canonical.windowFault ht
      · exact State.Canonical.modSpindle ht'
      · exact State.Canonical.windowFault ht
      · exact State.Canonical.modSpindle ht'
    · exact State.Canonical.modSpindle ht'

theorem effMac_canonical {end_ : Bool} (h : s.Canonical) : (effMac d end_ r k w s).Canonical :=
  .ite (.wait h) (.done (h.eachUnit fun _ _ ht => macUnit_canonical ht))

theorem effAccOpen_canonical (h : s.Canonical) : (effAccOpen r k w s).Canonical :=
  .ite (.wait h) (.done (h.foldl fun _ _ ht => ht.clearMark))

theorem effAccClose_canonical (h : s.Canonical) : (effAccClose r k w s).Canonical :=
  .ite (.wait h) (.done (h.foldl fun _ _ ht => ht.foldl fun _ _ hv => hv.clearMark))

theorem effAccPair_canonical (h : s.Canonical) : (effAccPair r k w s).Canonical :=
  .ite (.wait h) (.done (h.foldl fun _ _ ht => ht.clearMark.clearMark))

theorem effSplitK_canonical (h : s.Canonical) : (effSplitK d r k w s).Canonical :=
  .ite (.wait h) (.done (State.Canonical.modRun (h.foldl fun _ _ ht => ht.clearMark)))

theorem effAccPreload_canonical (h : s.Canonical) : (effAccPreload r k w s).Canonical :=
  .ite (.wait h) (.done (h.eachUnit fun _ _ ht => preloadUnit_canonical ht))

-- Drains.

theorem State.Canonical.settleHosts (h : s.Canonical) : (s.settleHosts r u k).Canonical := by
  unfold State.settleHosts
  split
  · exact h
  · exact State.Canonical.foldl (h.foldl fun _ _ ht => ht) fun _ _ ht => ht

theorem State.Canonical.writeDest {bs : Bytes} (h : s.Canonical) : (s.writeDest r w u n bs).Canonical := .ite h.writeIdx h.put

theorem drainUnit_canonical {o : Op} (h : s.Canonical) : (drainUnit d r o k w u s).Canonical := by
  unfold drainUnit
  extract_lets slot x cf fmt parts ys outs val bad tile st f data s₁ s₂ s₃ s₄
  have h₂ : s₂.Canonical := h.settleHosts.writeDest
  have h₃ : s₃.Canonical := .ite h₂ h₂
  have h₄ : s₄.Canonical := .ite h₃ h₃
  exact h₄

theorem effDrain_canonical {o : Op} (h : s.Canonical) : (effDrain d o r k w s).Canonical := .ite (.wait h) (.done (h.foldl fun _ _ ht => drainUnit_canonical ht))

theorem State.Canonical.peekRows (h : s.Canonical) : (s.peekRows r u k).2.2.Canonical := by
  unfold State.peekRows
  dsimp only
  split <;> exact h

theorem effPeek_canonical (h : s.Canonical) : (effPeek r k w s).Canonical := .done h.peekRows.writeDest

-- Bobbins.

theorem vecUnit_canonical {o : Op} (h : s.Canonical) : (vecUnit d o w u s).1.Canonical := by
  unfold vecUnit
  extract_lets t n tout m dst srcs red per outs check
  have hc : check.1.Canonical := h.foldlFail fun _ _ ht => ht.readLs
  clear_value check
  split
  · exact State.Canonical.spoil hc
  · refine State.Canonical.foldl hc fun v i hv => .ite (.ite hv.spoil hv.put) ?_
    dsimp only
    exact .ite (State.Canonical.setIntOverflow hv.put) hv.put

theorem effVec_canonical {o : Op} (h : s.Canonical) : (effVec d o r k w s).Canonical := .done (h.eachUnit fun _ _ ht => vecUnit_canonical ht)

-- Movers.

theorem effLoad_canonical (h : s.Canonical) : (effLoad r k w s).Canonical := by
  refine .done (h.eachUnit fun u t ht => ?_)
  dsimp only
  split
  · exact State.Canonical.put ht.readIdx
  · exact State.Canonical.spoil ht.readIdx

theorem effStore_canonical (h : s.Canonical) : (effStore r k w s).Canonical := by
  refine .done (h.eachUnit fun u t ht => ?_)
  dsimp only
  split
  · exact State.Canonical.writeIdx ht.readLs
  · exact State.Canonical.spoilIdx ht.readLs

theorem effCopy_canonical (h : s.Canonical) : (effCopy r k w s).Canonical :=
  .ite (.done (State.Canonical.spoilIdx h.readIdx)) (.done (State.Canonical.writeIdx h.readIdx))

theorem effGather_canonical (h : s.Canonical) : (effGather r k w s).Canonical := by
  refine .done (h.eachUnit fun u t ht => ?_)
  dsimp only
  split
  · exact State.Canonical.spoilIdx ht.readIdx
  · split
    · exact State.Canonical.spoilIdx (State.Canonical.failRange ht.readIdx)
    · split
      · exact State.Canonical.writeIdx (State.Canonical.readIdx ht.readIdx)
      · exact State.Canonical.spoilIdx (State.Canonical.readIdx ht.readIdx)

-- Control words.

theorem State.Canonical.capture {x y : Nat} {o : Option (Nat × Nat)} (h : s.Canonical) : (s.capture k x o y).Canonical := by
  refine .ite h ?_
  split <;> exact h

theorem effBarrier_canonical (h : s.Canonical) : (effBarrier d r k w s).Canonical := .ite (.done h) (.done h)

theorem effWaitSeq_canonical (h : s.Canonical) : (effWaitSeq r k w s).Canonical := by
  unfold effWaitSeq
  split
  · exact h
  · exact .ite (.done h.failWord) (.done h)

theorem effSignal_canonical (h : s.Canonical) : (effSignal r k w s).Canonical := State.Canonical.ite (State.Canonical.raise h) h

theorem effLedgerMark_canonical (h : s.Canonical) : (effLedgerMark d r k w s).Canonical := by
  unfold effLedgerMark
  dsimp only
  split <;> exact h.readIdx

theorem effDebugTrigger_canonical (h : s.Canonical) : (effDebugTrigger r k w s).Canonical := .done h.capture

-- Noise.

theorem State.Canonical.startNoiseWait {b : Bool} (h : s.Canonical) : (s.startNoiseWait d k b).Canonical := by
  unfold State.startNoiseWait
  split
  · exact .ite h h
  · exact h

theorem effNoiseSeed_canonical (h : s.Canonical) : (effNoiseSeed d r k w s).Canonical := by
  refine .ite ?_ ?_
  · split
    · exact h
    · split
      · exact h.rotOutput ‹_›
      · exact h.startNoiseWait
  · dsimp only
    split <;> exact h.readIdx

theorem effNoiseRaw_canonical {raw : RawBits} (h : s.Canonical) : (effNoiseRaw d raw r k w s).Canonical :=
  .ite (.wait h.startNoiseWait) (.ite (.wait h) (.done h.writeIdx))

end Sys2Proof.Machine
end

section
/-!
SUPPORT. The problems of a hank, checkpoints and the anneal engine keep every memory in its canonical form (log 4).
-/
namespace Sys2Proof.Machine

variable {s t : State} {r : Run} {q : Problem} {a : AnnealRun} {d k u w n p : Nat}

-- The words of a problem.

theorem State.Canonical.putBiases {b : Nat → Int} (h : s.Canonical) : (s.putBiases q p b).Canonical := h.foldl fun _ _ ht => ht.put

theorem State.Canonical.clearMarks (h : s.Canonical) : (s.clearMarks p).Canonical := h

theorem State.Canonical.buildFields (h : s.Canonical) : (s.buildFields r q p u).Canonical := h

theorem State.Canonical.checkStore {off len : Nat} (h : s.Canonical) : (s.checkStore r k q off len).1.Canonical := by
  unfold State.checkStore
  split
  · dsimp only
    split <;> exact h.check
  · exact h

theorem State.Canonical.checkBiases {us : List Nat} (h : s.Canonical) : (s.checkBiases q p us).1.Canonical := h.eachUnit fun _ _ ht => ht.readLs

theorem State.Canonical.checkSched {lo hi : Nat} (h : s.Canonical) : (s.checkSched r k q lo hi).1.Canonical := h.readIdx

theorem State.Canonical.rebuild (h : s.Canonical) : (s.rebuild r k p q).1.Canonical := by
  unfold State.rebuild
  extract_lets stale c b
  have hc : c.1.Canonical := h.checkStore
  have hb : b.1.Canonical := hc.checkBiases
  clear_value b c
  split
  · exact h
  · split
    · exact hc
    · split
      · exact hb
      · exact hb.foldl fun _ _ ht => ht.buildFields

theorem effCoupleLoad_canonical (h : s.Canonical) : (effCoupleLoad d r k w s).Canonical := by
  unfold effCoupleLoad
  extract_lets n size a b c t len x f t₁ f₁ q t₂
  have ha : a.st.Canonical := h.readIdx
  have hb : b.st.Canonical := by
    unfold b
    split
    · exact ha
    · exact ha.readIdx
  have ht : t.Canonical := by
    unfold t c
    split
    · exact hb.readIdx
    · exact hb
  clear_value t
  split
  · exact State.Canonical.spoilIdx ht.spoilIdx
  · have ht₁ : t₁.Canonical := ht.writeIdx
    have ht₂ : t₂.Canonical := State.Canonical.putBiases ht₁.writeIdx
    exact .ite (.done (State.Canonical.failInput ht.writeIdx)) (.ite (.done ht₁.failInput) (.done (State.Canonical.setProblem ht₂.clearMarks)))

theorem effStateInit_canonical (h : s.Canonical) : (effStateInit d r k w s).Canonical := by
  unfold effStateInit
  split
  · exact h
  · extract_lets prob short limit a b s' t c e f f' bs v given bad f'' st up spins q' v' t₁ t₂ stats
    have ha : a.st.Canonical := h.readIdx
    have ht : t.Canonical := by
      unfold t b
      split
      · exact ha
      · exact ha.readIdx
    have hc : c.1.Canonical := ht.checkStore
    have he : e.1.Canonical := by
      unfold e
      split
      · exact hc.checkBiases
      · exact hc
    clear_value e
    refine .ite (.done h.failWord) (.ite (.done h.failRange) (.ite (.done h) ?_))
    split
    · exact he
    · have h₁ : t₁.Canonical := .ite he he.putBiases
      have h₂ : t₂.Canonical := h₁.foldl fun _ _ ht => ht.buildFields
      exact .ite (.done he.failInput) (.done (State.Canonical.setProblem h₂))

theorem effSchedLoad_canonical (h : s.Canonical) : (effSchedLoad d r k w s).Canonical := by
  unfold effSchedLoad
  split
  · exact h
  · extract_lets a b mult f q
    have ha : a.st.Canonical := by
      unfold a
      split
      · exact h
      · exact h.readIdx
    have hb : b.st.Canonical := ha.readIdx
    clear_value b
    split
    · exact hb
    · exact .ite (.done hb.failInput) (.done (State.Canonical.setProblem hb))

/-- The draws of an exchange round are made one after another. -/
theorem exchangeRound_canonical {word : Nat → State → Nat × State} (hw : ∀ j t, t.Canonical → (word j t).2.Canonical) {bfx : List Nat} {es : List Int}
    (ks : List Nat) {m : Nat} (h : s.Canonical) : (exchangeRound word bfx es ks q m s).2.2.Canonical := by
  induction ks generalizing q m s with
  | nil => exact h
  | cons j ks ih => exact ih (hw j s h)

theorem State.Canonical.exchangeNow {cf odd : Bool} {key stream index : Nat} {bfx : List Nat} (h : s.Canonical) :
    (s.exchangeNow cf key stream index p q odd bfx).2.2.Canonical := by
  refine exchangeRound_canonical (fun j t ht => ?_) _ h
  split
  · exact ht
  · exact ht.nextExchange

theorem effExchange_canonical (h : s.Canonical) : (effExchange d r k w s).Canonical := by
  unfold effExchange
  split
  · exact h
  · extract_lets cf prob stop a c b a' fresh noise blank t bfx x t' drawn
    have ha : a.1.Canonical := h.rebuild
    have hc : c.1.Canonical := ha.checkSched
    have hb : b.1.Canonical := hc.checkBiases
    have ha' : a'.1.Canonical := hb
    clear_value a'
    refine .ite (.wait h) (.ite (.done h.failRange) (.ite (.done h.failInput) (.ite (.done h.failWord) (.ite (.wait h.startNoiseWait) ?_))))
    split
    · exact .done ha'.spoilIdx
    · have ht : t.Canonical := .ite ha' ha'
      have ht' : t'.Canonical := State.Canonical.writeIdx (s := x.2.2.setProblem d prob x.1) ht.exchangeNow
      exact .done (.ite (State.Canonical.modRun ht') ht')

theorem effEnergy_canonical (h : s.Canonical) : (effEnergy r k w s).Canonical := by
  unfold effEnergy
  split
  · exact h
  · extract_lets prob f f' b c a
    have hb : b.1.Canonical := h.rebuild
    have hc : c.1.Canonical := hb.checkBiases
    have ha : a.1.Canonical := hc
    clear_value a
    refine .ite (.wait h) (.ite (.done h.failInput) (.ite (.done h) (.ite (.done h.failRange) ?_)))
    split
    · exact ha.spoilIdx
    · exact ha.writeIdx

-- Checkpoints.

theorem State.Canonical.readSaved (h : s.Canonical) : (s.readSaved r k).1.Canonical := by
  refine State.Canonical.eachUnit ((h.eachUnit fun _ _ ht => ht.readLs).eachUnit fun _ _ ht => ht.readLs) fun i t ht => ?_
  split
  · exact ht.readBuf
  · exact ht

theorem State.Canonical.saveCheckpoint {b : Bool} {ps : Vector (Option Problem) 4} (h : s.Canonical) : (s.saveCheckpoint d r k b ps).1.Canonical := by
  unfold State.saveCheckpoint
  extract_lets us secs s₁ f s₂ gen keep s₃
  have h₃ : s₃.Canonical := State.Canonical.writeBuf h
  split
  · exact State.Canonical.failRange h
  · split
    · rename_i t g hread
      have ht : (s₃.readSaved r k).1.Canonical := h₃.readSaved
      rw [hread] at ht
      exact ht
    · rename_i t hread
      have ht : (s₃.readSaved r k).1.Canonical := h₃.readSaved
      rw [hread] at ht
      exact State.Canonical.writeBuf (State.Canonical.foldl ht fun _ _ hv => hv.writeBuf)

theorem effSave_canonical (h : s.Canonical) : (effSave d r k w s).Canonical := by
  unfold effSave
  dsimp only
  split
  · change State.Canonical _
    split
    · exact .ite h h
    · exact h
  · exact h.saveCheckpoint

theorem State.Canonical.failRestore {x y : Nat} (h : s.Canonical) : (s.failRestore r x y).1.Canonical := h

theorem State.Canonical.restoreSnapshot {x : Snapshot} {key : Option Bytes} (h : s.Canonical) : (s.restoreSnapshot d r w x key).Canonical := by
  unfold State.restoreSnapshot
  extract_lets paste s₁ s₂ s₃ others kinds s₄
  have hp : ∀ (v : State) (sp b len : Nat) (m : Mem), v.Canonical → (paste v sp b len m).Canonical := fun v _ _ _ _ hv => hv.write
  have h₁ : s₁.Canonical := h.foldl fun v c hv => State.Canonical.modSpindle (hp _ _ _ _ _ hv)
  have h₂ : s₂.Canonical := h₁.foldl fun v c hv => hp _ _ _ _ _ hv
  have h₃ : s₃.Canonical := h₂.foldl fun v c hv => by
    split
    · exact hp _ _ _ _ _ hv
    · exact hv
  exact State.Canonical.foldl (l := others) h₃ fun _ _ hv => hv

theorem State.Canonical.spoilUnit (h : s.Canonical) : (s.spoilUnit u).Canonical := h

theorem State.Canonical.spoilRestore {x : Snapshot} (h : s.Canonical) : (s.spoilRestore r x).Canonical := by
  have h₂ := (h.foldl (l := x.spindles) fun v c hv => (hv.spoilUnit (u := c.1)).spoil (sp := 3) (a := lsKey false c.1 0) (n := 2 ^ 20)).foldl
    (l := x.bobbins) fun v c hv => hv.spoil (sp := 4) (a := lsKey true c.1 0) (n := 2 ^ 19)
  refine State.Canonical.foldl (l := x.sram) h₂ fun v c hv => ?_
  split
  · exact hv.spoilIdx
  · exact hv

theorem effRestore_canonical (h : s.Canonical) : (effRestore d r k w s).Canonical := by
  unfold effRestore
  extract_lets g hd stop t secs body inside read
  have ht : t.Canonical := State.Canonical.readBuf h
  split
  · exact ht
  · refine .ite (.done ht.failRestore) (.ite (.done ht.failRestore) (.ite (.done ht.failRestore) ?_))
    split
    · exact ht
    · refine .ite (.done ht.failRestore) ?_
      have hr : read.1.Canonical := State.Canonical.foldlFail ht fun _ _ hv => hv.readBuf
      clear_value read
      split
      · exact State.Canonical.spoilRestore hr
      · exact .ite (.done (State.Canonical.spoilRestore hr)) (.done (State.Canonical.restoreSnapshot hr))

end Sys2Proof.Machine
end

section
/-!
SUPPORT. Rings, aborts, records, halts and resets keep every memory in its canonical form (log 4).
-/
namespace Sys2Proof.Machine

variable {s t : State} {r : Run} {d k n seq : Nat} {h : Hank}

-- Rings and the ledger.

theorem State.Canonical.appendEntry {e : Ending} {b : Bool} (hs : s.Canonical) : (s.appendEntry k h e b).Canonical := by
  unfold State.appendEntry
  extract_lets x i bs base slots t mine v owed
  have ht : t.Canonical := .ite hs.put hs
  exact .ite ht (.ite ht ht)

theorem State.Canonical.complete {e : Ending} (hs : s.Canonical) : (s.complete k h e).Canonical := by
  unfold State.complete
  extract_lets owner t x v z
  have ht : t.Canonical := hs.appendEntry
  have hv : v.Canonical := .ite ht ht.put
  exact .ite hv (State.Canonical.raise hv)

theorem State.Canonical.closeGap (hs : s.Canonical) : (s.closeGap k).Canonical := by
  unfold State.closeGap
  split
  · exact .ite hs hs
  · exact hs

theorem State.Canonical.drainRing (l : List Hank) (hs : s.Canonical) : (s.drainRing k l).Canonical := by
  induction l generalizing s with
  | nil => exact hs
  | cons h l ih =>
    unfold State.drainRing
    split
    · exact .ite (ih (State.Canonical.closeGap hs.complete)) hs
    · exact hs

theorem State.Canonical.entryFault {x : Nat} {o : Option Nat} (hs : s.Canonical) : (s.entryFault k seq x o).Canonical := hs

theorem State.Canonical.ringCtrl {fn v : Nat} (hs : s.Canonical) : (s.ringCtrl fn k v).Canonical :=
  .ite hs (.ite (.ite hs hs) (State.Canonical.refreshReservation hs))

theorem State.Canonical.doorbell {fn : Nat} {v : BitVec 32} (hs : s.Canonical) : (s.doorbell fn k v).Canonical := .ite hs (.ite hs hs)

theorem State.Canonical.cqHead {fn : Nat} {v : BitVec 32} (hs : s.Canonical) : (s.cqHead fn k v).Canonical := .ite hs hs

-- Aborts and resets of a function.

theorem State.Canonical.endWaits (hs : s.Canonical) : (s.endWaits d).Canonical := hs

theorem State.Canonical.cutSave (hs : s.Canonical) : (s.cutSave d r).Canonical := .ite hs.writeBuf hs

theorem State.Canonical.stopSave (hs : s.Canonical) : (s.stopSave d r).Canonical := hs.cutSave

theorem State.Canonical.stopSaves (hs : s.Canonical) : (s.stopSaves k seq).Canonical := by
  refine State.Canonical.foldl hs fun t d ht => ?_
  split
  · exact .ite ht.stopSave ht
  · exact ht

theorem State.Canonical.spoilHost (hs : s.Canonical) : (s.spoilHost k seq).Canonical := by
  refine State.Canonical.foldl hs fun t x ht => ?_
  split
  · refine .ite (State.Canonical.foldl ht fun v i hv => ?_) ht
    split
    · exact .ite hv.spoilIdx hv
    · exact hv
  · exact ht

theorem State.Canonical.abortHank {c : Nat} (hs : s.Canonical) : (s.abortHank k c h).Canonical := by
  unfold State.abortHank
  dsimp only
  split
  · exact .ite hs hs
  · exact hs
  · exact .ite hs hs
  · exact State.Canonical.stopSaves (State.Canonical.foldl (.ite hs.spoilHost hs) fun _ _ ht => ht.endWaits)
  · exact .ite (State.Canonical.modHank (State.Canonical.foldl hs fun _ _ ht => ht.spoil)) hs

theorem State.Canonical.abort {fn v : Nat} (hs : s.Canonical) : (s.abort fn k v).Canonical :=
  .ite hs (State.Canonical.refreshReservation (hs.foldl fun _ _ ht => ht.abortHank))

theorem State.Canonical.resetRing {b : Bool} (hs : s.Canonical) : (s.resetRing b k).Canonical :=
  State.Canonical.drainRing _ (State.Canonical.modRing (hs.foldl fun _ _ ht => ht.abortHank))

theorem State.Canonical.flr {b : Bool} {f : Nat → Bool} (hs : s.Canonical) : (s.flr b f).Canonical := by
  unfold State.flr
  extract_lets t u x fresh
  have ht : t.Canonical := hs.foldl fun _ _ ht => ht.resetRing
  exact State.Canonical.refreshReservation ht

-- Records.

theorem State.Canonical.keepRecord {x : Record} (hs : s.Canonical) : (s.keepRecord x).Canonical := .ite hs hs

theorem State.Canonical.tearMirror (hs : s.Canonical) : s.tearMirror.Canonical := .ite hs hs

theorem State.Canonical.arriveRecord {x : Record} (hs : s.Canonical) : (s.arriveRecord x).Canonical := by
  unfold State.arriveRecord
  extract_lets n room t keep t' u v
  have hu : u.Canonical := State.Canonical.keepRecord hs
  have hv : v.Canonical := .ite hu.raise hu
  exact hv.foldl fun _ _ ht => ht.capture

theorem State.Canonical.arrive {x : Notice} (hs : s.Canonical) : (s.arrive x).Canonical := State.Canonical.arriveRecord hs

theorem State.Canonical.arriveAll (hs : s.Canonical) : s.arriveAll.Canonical := State.Canonical.foldl hs.modRecorder fun _ _ ht => ht.arrive

theorem State.Canonical.arriveNext (hs : s.Canonical) : s.arriveNext.Canonical := by
  unfold State.arriveNext
  split
  · exact State.Canonical.arrive hs
  · exact hs

theorem State.Canonical.freeze {b : Bool} (hs : s.Canonical) : (s.freeze b).Canonical := hs
theorem State.Canonical.thaw {b : Bool} (hs : s.Canonical) : (s.thaw b k).Canonical := hs

theorem State.Canonical.endCapture (hs : s.Canonical) : (s.endCapture k).Canonical := by
  unfold State.endCapture
  split
  · exact hs
  · extract_lets _ t u v
    have hu : u.Canonical := hs
    exact .ite hs (.ite (.ite (.ite hu hu.freeze) (State.Canonical.freeze (.ite hu hu.freeze))) hu)

-- Halts.

theorem State.Canonical.spoilRun (hs : s.Canonical) : (s.spoilRun r).Canonical := by
  refine State.Canonical.foldl hs fun v i hv => ?_
  split
  · exact .ite hv.spoilIdx hv
  · exact hv

theorem State.Canonical.abandonRuns (hs : s.Canonical) : s.abandonRuns.Canonical := by
  refine State.Canonical.foldl hs fun v i hv => ?_
  split
  · exact State.Canonical.spoilRun hv.cutSave
  · exact hv

theorem State.Canonical.haltTo {p : Phase} (hs : s.Canonical) : (s.haltTo p).Canonical := .ite hs hs

theorem State.Canonical.writeSave {v : Save} {b : Bool} (hs : s.Canonical) : (s.writeSave v b).Canonical := hs

theorem State.Canonical.saveNow {b : Bool} {p : Phase} (hs : s.Canonical) : (s.saveNow k b p).Canonical := by
  unfold State.saveNow
  extract_lets x t v t₁ t₂
  have h₁ : t₁.Canonical := .ite (State.Canonical.abandonRuns hs) hs
  have h₂ : t₂.Canonical := State.Canonical.arriveRecord (State.Canonical.modRecorder (State.Canonical.haltTo h₁.writeSave))
  exact .ite h₂ h₂

theorem State.Canonical.saveAndHalt {b : Bool} {p : Phase} (hs : s.Canonical) : (s.saveAndHalt k b p).Canonical := State.Canonical.saveNow hs.arriveAll

theorem State.Canonical.sagAndHalt {b : Bool} (hs : s.Canonical) : (s.sagAndHalt k b).Canonical :=
  State.Canonical.saveNow (State.Canonical.tearMirror hs.arriveAll)

theorem State.Canonical.fatalStop {pay : Bytes} {b : Bool} (hs : s.Canonical) : (s.fatalStop k pay b).Canonical := State.Canonical.saveAndHalt hs.emit

theorem State.Canonical.deviceReadFatal (hs : s.Canonical) : (s.deviceReadFatal k).Canonical := State.Canonical.fatalStop hs.useFree

theorem State.Canonical.avsRecord {x : Half} (hs : s.Canonical) : (s.avsRecord x).Canonical := hs

theorem State.Canonical.avsFatal {x : Half} (hs : s.Canonical) : (s.avsFatal x).Canonical := State.Canonical.saveAndHalt hs.avsRecord

theorem State.Canonical.resetHalt (hs : s.Canonical) : s.resetHalt.Canonical := by
  refine .ite hs ?_
  extract_lets t
  have ht : t.Canonical := State.Canonical.tearMirror (.ite hs.abandonRuns hs)
  exact ht

/-- What a loss of power leaves: the host's memory alone (13 R344). -/
theorem State.Canonical.kept (hs : s.Canonical) : s.kept.Canonical := by
  obtain ⟨-, -, hhost, -, -, -⟩ := (Memory.wf_iff _).1 hs
  exact (Memory.wf_iff _).2 ⟨rfl, rfl, hhost, rfl, rfl, rfl⟩

end Sys2Proof.Machine
end

section
/-!
SUPPORT. The running word of the anneal engine keeps every memory in its canonical form: its outputs, its steps, its tokens and its end (log 4).
-/
namespace Sys2Proof.Machine

variable {s t : State} {r : Run} {q : Problem} {a : AnnealRun} {d k u n p : Nat}

theorem State.Canonical.finishMoments {b c ns : Nat} {fp : Bool} (h : s.Canonical) : (s.finishMoments r k b c ns fp).1.Canonical := by
  unfold State.finishMoments
  split
  · exact h
  · exact State.Canonical.writeIdx (State.Canonical.freeBytes h.readIdx)

theorem State.Canonical.addMoments {b c : Nat} {v : Nat → Int} (h : s.Canonical) : (s.addMoments r k b c v).1.Canonical := by
  unfold State.addMoments
  split
  · exact h
  · exact State.Canonical.writeIdx h.readIdx

theorem State.Canonical.contribute (h : s.Canonical) : (s.contribute r q a p).1.Canonical := by
  unfold State.contribute
  extract_lets up x y
  have hx : x.1.Canonical := h.addMoments
  change y.1.Canonical
  unfold y
  split
  · exact hx.addMoments
  · exact hx

theorem State.Canonical.writeOutputs (h : s.Canonical) : (s.writeOutputs d r q a).1.Canonical := by
  unfold State.writeOutputs
  extract_lets bias v es sum finals ns v' m1 m2 v'' w
  have hv : v.Canonical := h.checkBiases
  have hv' : v'.Canonical := State.Canonical.writeIdx hv.writeIdx
  have h1 : m1.1.Canonical := by
    unfold m1
    split
    · exact hv'
    · exact hv'.finishMoments
  have h2 : m2.1.Canonical := by
    unfold m2
    split
    · exact h1
    · exact h1.finishMoments
  have hv'' : v''.Canonical := State.Canonical.writeIdx (State.Canonical.writeIdx hv.writeIdx)
  clear_value m2 v''
  split
  · exact .ite h2.setIntOverflow h2
  · exact .ite (State.Canonical.writeIdx hv''.writeIdx) hv''

theorem State.Canonical.seamLag {b : Bool} (h : s.Canonical) : (s.seamLag b).2.Canonical := by
  unfold State.seamLag
  split <;> exact h

theorem State.Canonical.endAnneal {o : Option Nat} {f : Option Failure} (h : s.Canonical) : (s.endAnneal a o f).Canonical := by
  unfold State.endAnneal
  extract_lets we ew v cls plies recs v' v''
  have hv : v.Canonical := State.Canonical.seamLag h.seamLag
  have hv'' : v''.Canonical := .ite hv hv
  exact hv''

theorem State.Canonical.finishAnneal {o : Option Nat} (h : s.Canonical) : (s.finishAnneal r q a o).Canonical :=
  State.Canonical.endAnneal (State.Canonical.setProblem h.writeOutputs)

theorem State.Canonical.spoilAnneal {o : Option Nat} {f : Failure} (h : s.Canonical) : (s.spoilAnneal r a o f).Canonical := by
  refine State.Canonical.endAnneal (State.Canonical.foldl h fun v b hv => ?_)
  split
  · exact .ite hv hv.spoilIdx
  · exact hv

theorem State.Canonical.enterStep {x : Halves Nat} {lo : Nat} (h : s.Canonical) : (s.enterStep r q a x n lo).Canonical := by
  unfold State.enterStep
  extract_lets c
  have hc : c.1.Canonical := h.checkSched
  clear_value c
  split
  · exact h
  · split
    · exact hc.spoilAnneal
    · exact hc

theorem State.Canonical.settleSave (h : s.Canonical) : (s.settleSave r q a).1.Canonical := by
  unfold State.settleSave
  split
  · exact h
  · extract_lets v x
    have hx : x.1.Canonical := by
      unfold x
      split
      · exact h
      · exact State.Canonical.saveCheckpoint h
    exact hx

theorem State.Canonical.writeTrace {es : List Int} (h : s.Canonical) : (s.writeTrace r a es).1.Canonical := by
  unfold State.writeTrace
  split
  · split
    · exact h
    · exact h.writeIdx
  · exact h

theorem State.Canonical.stepExchange (h : s.Canonical) : (s.stepExchange r q a).2.2.Canonical := by
  unfold State.stepExchange
  split
  · exact h
  · exact h.exchangeNow

theorem State.Canonical.momentTiles (h : s.Canonical) : (s.momentTiles q).Canonical := h

theorem State.Canonical.stepEnd (h : s.Canonical) : (s.stepEnd r q a).Canonical := by
  unfold State.stepEnd
  extract_lets bias v es point mom q₁ tr ex a₁ q₂ sv v' a₂
  have hv : v.Canonical := h.checkBiases
  have hm : mom.1.Canonical := by
    unfold mom
    split
    · exact State.Canonical.foldlFail (.ite hv.momentTiles hv) fun _ _ hx => hx.contribute
    · exact hv
  have htr : tr.1.Canonical := by
    unfold tr
    split
    · exact hm
    · exact hm.writeTrace
  have hex : ex.2.2.Canonical := htr.stepExchange
  have hv' : v'.Canonical := hex.settleSave
  clear_value v' ex mom
  split
  · exact State.Canonical.spoilAnneal hex.setProblem
  · exact .ite hv'.finishAnneal (State.Canonical.enterStep hv'.setProblem)

theorem State.Canonical.zeroSums (h : s.Canonical) : (s.zeroSums r q a).Canonical := by
  unfold State.zeroSums
  extract_lets zero v
  have hz : ∀ (x : State) (b c : Nat), x.Canonical → (zero x b c).Canonical := fun x b c hx => .ite hx hx.writeIdx
  exact .ite (.ite (hz _ _ _ (hz _ _ _ h)) (hz _ _ _ h)) h

theorem State.Canonical.beginAnneal (h : s.Canonical) : (s.beginAnneal r q a).Canonical := by
  unfold State.beginAnneal
  extract_lets v a'
  have hv : v.Canonical := .ite h h.loadLanes
  exact .ite hv.finishAnneal hv.enterStep

theorem State.Canonical.beginWait (h : s.Canonical) : (s.beginWait q a).Canonical := h

theorem effAnneal_canonical {b : Bool} {w : Nat} (h : s.Canonical) : (effAnneal d b r k w s).Canonical := by
  unfold effAnneal
  split
  · exact h
  · extract_lets stop g bs v guard x a moments c v'
    have hv : v.Canonical := h.readIdx
    have hc : c.1.Canonical := hv.rebuild
    have hv' : v'.Canonical := State.Canonical.zeroSums (State.Canonical.modIssued hc)
    refine .ite (.wait h) (.ite (.done h.failRange) ?_)
    split
    · exact hv
    · refine .ite (.done hv.failInput) (.ite (.done hv) (.ite (.done hv.failWord) ?_))
      split
      · exact .started hc.spoilAnneal
      · exact .started (.ite hv'.beginWait hv'.beginAnneal)

-- Tokens.

theorem State.Canonical.noteToken {x : Half} {l m : List Token} (h : s.Canonical) : (s.noteToken x l m).Canonical := h.of_mem (s.noteToken_mem x l m)

theorem State.Canonical.addFlip {x : Token} (h : s.Canonical) : (s.addFlip r q u x).Canonical := h

theorem State.Canonical.applyToken {x : Token} (h : s.Canonical) : (s.applyToken r q a u x).Canonical := by
  unfold State.applyToken
  extract_lets inBuffer slice c own c' v q'
  have hc : c.1.Canonical := by
    unfold c
    split
    · exact h
    · exact h.checkStore
  have ho : own.1.wf = true := by
    unfold own
    split
    · exact Memory.check_wf _ _ _ _ h
    · exact hc
  have hv : v.Canonical := ho
  split
  · exact hc.spoilAnneal
  · exact hv.deviceReadFatal
  · exact State.Canonical.setAnneal (State.Canonical.setProblem hv.addFlip)

theorem State.Canonical.applyTokens {x : Half} (h : s.Canonical) : (s.applyTokens u x n).Canonical := by
  induction n generalizing s with
  | zero => exact h
  | succ n ih =>
    unfold State.applyTokens
    split
    · split
      · exact ih h.applyToken
      · exact h
    · exact h

theorem State.Canonical.applyAll (h : s.Canonical) : s.applyAll.Canonical :=
  State.Canonical.foldl (h.foldl fun _ _ ht => ht.applyTokens) fun _ _ ht => ht.applyTokens

theorem State.Canonical.drainWindow (h : s.Canonical) : s.drainWindow.Canonical := by
  unfold State.drainWindow
  extract_lets one
  have hone : ∀ (v : State) (x : Half), v.Canonical → (one v x).Canonical := fun v x hv => by
    unfold one
    split
    · exact State.Canonical.noteToken hv
    · exact hv
  exact State.Canonical.applyAll (hone _ _ (hone _ _ h))

theorem State.Canonical.stopAnneal (h : s.Canonical) : (s.stopAnneal k).Canonical := by
  unfold State.stopAnneal
  extract_lets v
  have hv : v.Canonical := .ite h (State.Canonical.drainWindow (State.Canonical.drainWindow h.applyAll))
  split
  · exact hv
  · extract_lets noise q x v₁ v₂
    have h₁ : v₁.Canonical := State.Canonical.setProblem hv.writeOutputs
    have h₂ : v₂.Canonical := .ite h₁ h₁.saveCheckpoint
    exact h₂.endAnneal

theorem State.Canonical.afterSweep (h : s.Canonical) : (s.afterSweep r q a).Canonical :=
  .ite h.stepEnd (.ite (State.Canonical.setAnneal (State.Canonical.setProblem h.settleSave)) h)

-- The waits for noise that end.

theorem State.Canonical.timeoutHalf {x : Half} (h : s.Canonical) : (s.timeoutHalf r x k).Canonical := h
theorem State.Canonical.failWait (h : s.Canonical) : (s.failWait d k).Canonical := h

theorem State.Canonical.timeoutAnneal {x : Half} (h : s.Canonical) : (s.timeoutAnneal x k).Canonical := by
  unfold State.timeoutAnneal
  split
  · exact State.Canonical.stopAnneal h.timeoutHalf
  · exact h

theorem State.Canonical.timeoutStart (h : s.Canonical) : s.timeoutStart.Canonical := by
  unfold State.timeoutStart
  split
  · exact .ite h h.timeoutAnneal
  · exact h

theorem State.Canonical.timeoutHold {x : Half} (h : s.Canonical) : (s.timeoutHold x).Canonical := by
  unfold State.timeoutHold
  split
  · exact .ite h h.timeoutAnneal
  · exact h

theorem State.Canonical.timeoutExchange (h : s.Canonical) : (s.timeoutExchange d).Canonical := by
  unfold State.timeoutExchange
  split
  · refine .ite h ?_
    split
    · exact State.Canonical.failWait h.timeoutHalf
    · exact .ite h.timeoutAnneal h
    · exact h
  · exact h

theorem State.Canonical.timeoutKey (h : s.Canonical) : (s.timeoutKey d).Canonical := by
  unfold State.timeoutKey
  split
  · refine .ite h (.ite h ?_)
    split <;> exact h
  · exact h

theorem State.Canonical.timeoutRaw (h : s.Canonical) : (s.timeoutRaw d).Canonical := by
  unfold State.timeoutRaw
  split
  · split
    · exact .ite h h
    · exact h
  · exact h

theorem State.Canonical.failSigning {x : SignRequest} (h : s.Canonical) : (s.failSigning x).Canonical := by
  unfold State.failSigning
  split <;> exact h

theorem State.Canonical.timeoutRot5 (h : s.Canonical) : s.timeoutRot5.Canonical := by
  refine .ite h ?_
  extract_lets note
  split
  · exact State.Canonical.failSigning h
  · exact .ite h h

end Sys2Proof.Machine
end

section
/-!
SUPPORT. A hank's start, its words at their units and its end, faults and remaps, margins and plans keep every memory in its canonical form (log 4).
-/
namespace Sys2Proof.Machine

variable {s t : State} {r : Run} {d k u w n p seq : Nat}

-- A hank picked, started and finished.

theorem State.Canonical.pickHead (h : s.Canonical) : (s.pickHead k).Canonical := by
  unfold State.pickHead
  split
  · exact .ite h h
  · exact h

theorem State.Canonical.verify (l : List Buffer) (h : s.Canonical) : (s.verify r l).1.Canonical := by
  induction l generalizing s with
  | nil => exact h
  | cons b l ih =>
    unfold State.verify
    split
    · dsimp only
      split
      · exact h.readBuf
      · split
        · exact ih h.readBuf
        · exact State.Canonical.failWord h.readBuf
    · exact ih h

theorem State.Canonical.beginRun {x : Hank} {b : Bytes} (h : s.Canonical) : (s.beginRun d k x b).Canonical := by
  unfold State.beginRun
  extract_lets r v y
  have hv : v.Canonical := h
  split
  · exact hv
  · split
    · exact hv
    · have hy : y.1.Canonical := hv.verify _
      clear_value y
      split
      · exact hy
      · exact State.Canonical.drawHeaderKey hy.setRun

theorem State.Canonical.takeSpindle (h : s.Canonical) : (s.takeSpindle r u).Canonical := by
  rw [State.takeSpindle_eq]
  exact State.Canonical.modSpindle (.ite h.clearSpindle h)

theorem State.Canonical.takeBobbin (h : s.Canonical) : (s.takeBobbin r u).Canonical := by
  rw [State.takeBobbin_eq]
  exact State.Canonical.modBobbin (.ite h.zeroStore h)

theorem State.Canonical.rejectShape {j : Reject} (h : s.Canonical) : (s.rejectShape d r j).Canonical := State.Canonical.modRun (State.Canonical.countRejected h.emit)

theorem State.Canonical.resultDigests (l : List Buffer) (h : s.Canonical) : (s.resultDigests r n l).2.1.Canonical := by
  induction l generalizing n s with
  | nil => exact h
  | cons b l ih =>
    unfold State.resultDigests
    split
    · exact ih h.readBuf
    · exact ih h

theorem State.Canonical.finishRun (h : s.Canonical) : (s.finishRun d r).Canonical := by
  unfold State.finishRun
  extract_lets res v
  have hv : v.Canonical := by
    unfold v res
    split
    · exact h
    · exact h.resultDigests _
  clear_value v
  exact State.Canonical.modHank (State.Canonical.setRun (State.Canonical.releaseUnits hv))

-- A word at its units.

/-- A word's effect that keeps every memory in its canonical form, whatever hank and state it is made for. -/
def WordEffect.Canonical (e : WordEffect) : Prop := ∀ ⦃r k w s⦄, s.Canonical → (e r k w s).Canonical

theorem State.Canonical.offer {o : Op} {e : WordEffect} (he : e.Canonical) (h : s.Canonical) : (s.offer d k w o e).Canonical := by
  unfold State.offer
  split
  · rename_i r _
    refine .ite h ?_
    have hr : (e r k w s).Canonical := he h
    split <;> rename_i heff <;> rw [heff] at hr
    · exact hr
    · exact hr
    · exact hr
  · exact h

theorem State.Canonical.issueNext {o : Op} {e : WordEffect} (he : e.Canonical) (h : s.Canonical) : (s.issueNext d o e).Canonical := by
  unfold State.issueNext
  split
  · split
    · exact .ite (.ite (State.Canonical.offer he h.modRun) (State.Canonical.requestPermit h.modRun)) h
    · exact h
  · exact h

theorem State.Canonical.word {o : Op} {e : WordEffect} (he : e.Canonical) (h : s.Canonical) : (s.word d o e).Canonical := by
  refine .ite h ?_
  extract_lets v
  have hv : v.Canonical := h.drawHeaderKey
  split
  · split
    · exact hv.offer he
    · exact hv.issueNext he
  · exact hv

/-- The words that a faulting read of the host can hit. -/
theorem hostReader_canonical {o : Op} {e : WordEffect} (he : hostReader d o = some e) : e.Canonical := by
  cases o <;> cases he
  case ledgerMark => exact fun _ _ _ _ => effLedgerMark_canonical
  case load => exact fun _ _ _ _ => effLoad_canonical
  case copy => exact fun _ _ _ _ => effCopy_canonical
  case gather => exact fun _ _ _ _ => effGather_canonical
  case stateSave => exact fun _ _ _ _ => effSave_canonical
  case stateRestore => exact fun _ _ _ _ => effRestore_canonical
  case coupleLoad => exact fun _ _ _ _ => effCoupleLoad_canonical
  case stateInit => exact fun _ _ _ _ => effStateInit_canonical
  case schedLoad => exact fun _ _ _ _ => effSchedLoad_canonical
  case anneal => exact fun _ _ _ _ => effAnneal_canonical
  case sample => exact fun _ _ _ _ => effAnneal_canonical
  case noiseSeed => exact fun _ _ _ _ => effNoiseSeed_canonical

theorem State.Canonical.faultBuffer {x y z : Nat} (h : s.Canonical) : (s.faultBuffer d w x y z).Canonical := by
  unfold State.faultBuffer
  split
  · exact h
  · split
    · exact h
    · rename_i r _ _ _ o bits e he
      extract_lets e' stands
      have hc : e'.Canonical := fun r k w v hv => by
        obtain ⟨c, -, hc⟩ := Option.bind_eq_some_iff.1 he
        obtain ⟨e₁, he₁, heq⟩ := Option.map_eq_some_iff.1 hc
        cases heq
        exact hostReader_canonical he₁ hv
      exact .ite (h.offer hc) (.ite (h.issueNext hc) h)

theorem State.Canonical.faultEntry {b : Bool} {x y z : Nat} (h : s.Canonical) : (s.faultEntry k b x y z).Canonical := by
  unfold State.faultEntry
  split
  · refine .ite h ?_
    extract_lets v v'
    have hv : v.Canonical := .ite h h
    have hv' : v'.Canonical := hv.hostFault
    clear_value v'
    split
    · exact State.Canonical.refreshReservation hv'.finishUnpicked
    · exact State.Canonical.refreshReservation hv'.entryFault
  · exact h

theorem State.Canonical.faultRegion {x y z : Nat} (h : s.Canonical) : (s.faultRegion x y z).Canonical := by
  unfold State.faultRegion
  split
  · extract_lets disp v v' ref r₀ hd r₁ v''
    have hv'' : v''.Canonical := h
    clear_value v''
    split <;> exact State.Canonical.setRun hv''
  · exact h

theorem State.Canonical.faultTransfer {x y z : Nat} (h : s.Canonical) : (s.faultTransfer k x y z).Canonical := by
  unfold State.faultTransfer
  split <;> exact h

-- Faults of units, remaps and plans.

theorem State.Canonical.remapped {x : Units} (h : s.Canonical) : (s.remapped x k).Canonical := h

theorem State.Canonical.stopFaulted (h : s.Canonical) : (s.stopFaulted d r).Canonical := State.Canonical.modRun h.stopSave

theorem State.Canonical.retireGroups {l : List Nat} (h : s.Canonical) : (s.retireGroups l).Canonical := h.retireAll

theorem State.Canonical.clearMoved {x : Units} (h : s.Canonical) : (s.clearMoved x).Canonical :=
  State.Canonical.foldl (h.foldl fun _ _ ht => .ite ht ht.clearSpindle) fun _ _ ht => .ite ht ht.clearBobbin

theorem State.Canonical.reExecute (h : s.Canonical) : (s.reExecute d k r).Canonical := by
  unfold State.reExecute
  extract_lets v st v' q y
  have hv' : v'.Canonical := h
  split
  · exact State.Canonical.rejectShape hv'.setRun
  · have hy : y.1.Canonical := hv'.verify _
    clear_value y
    split
    · exact hy
    · exact State.Canonical.drawHeaderKey hy.setRun

theorem State.Canonical.reExecuteAll (h : s.Canonical) : (s.reExecuteAll k).Canonical := by
  refine State.Canonical.foldl h fun v d hv => ?_
  split
  · exact .ite hv.reExecute hv
  · exact hv

theorem State.Canonical.mapFaults {hs : List Half} (h : s.Canonical) : (s.mapFaults hs).Canonical :=
  State.Canonical.reExecuteAll (State.Canonical.clearMoved (State.Canonical.retireGroups (State.Canonical.remapped h)))

theorem State.Canonical.marginSparing {vdom : List (List Nat)} (h : s.Canonical) : (s.marginSparing vdom).Canonical := by
  unfold State.marginSparing
  extract_lets old x test
  split
  · exact h
  · exact State.Canonical.clearMoved h.remapped

theorem State.Canonical.dropUnplanned (h : s.Canonical) : s.dropUnplanned.Canonical := .ite h h

theorem State.Canonical.applyPlan {x : Half} (h : s.Canonical) : (s.applyPlan x).Canonical := .ite h h

theorem State.Canonical.makePlan {vdom : List (List Nat)} (h : s.Canonical) : (s.makePlan vdom).Canonical := by
  unfold State.makePlan
  extract_lets now last old v new v'
  have hv' : v'.Canonical := State.Canonical.modSteward h.marginSparing
  clear_value v'
  refine State.Canonical.dropUnplanned ?_
  exact hv'

-- Power and scrubbing.

theorem State.Canonical.evalThermal {x : Half} (h : s.Canonical) : (s.evalThermal x).Canonical := by
  unfold State.evalThermal
  exact .ite (.ite h h) (.ite (.ite h h) h)

theorem State.Canonical.evalBudget {x : Steward} (h : s.Canonical) : (s.evalBudget x).Canonical := by
  unfold State.evalBudget
  split
  · split <;> exact h
  · split
    · exact .ite h h
    · exact h

theorem State.Canonical.noteMoved {y : Steward} {x : Half} (h : s.Canonical) : (s.noteMoved y x).Canonical := h

theorem State.Canonical.stepRatio {x : Half} (h : s.Canonical) : (s.stepRatio x).Canonical := by
  unfold State.stepRatio
  exact .ite h (.ite (.ite h h) (.ite h h))

theorem State.Canonical.scrubOn {f : Memory → Vector Nat 64} (h : s.Canonical) : (s.modMem fun m => { m with scrub := f m }).Canonical := h

theorem State.Canonical.scrubWord {sp : Nat} (h : s.Canonical) : (s.scrubWord sp d w).Canonical := by
  unfold State.scrubWord
  split
  · exact h
  · exact .ite h.meet h.meet

end Sys2Proof.Machine
end

section
/-!
SUPPORT. The dictionary, its paths and the images keep every memory in its canonical form; of their answers only a transfer to the host writes a byte (log 4).
-/
namespace Sys2Proof.Machine

variable {s t : State} {d k n p v index sub path : Nat} {b ok : Bool}

-- Images and settings.

theorem State.Canonical.startFlush (h : s.Canonical) : s.startFlush.Canonical := h

theorem State.Canonical.finishFlush (h : s.Canonical) : s.finishFlush.Canonical := by
  unfold State.finishFlush
  exact .ite h h

theorem State.Canonical.markRestore (h : s.Canonical) : s.markRestore.Canonical := by
  unfold State.markRestore
  split <;> exact h

theorem State.Canonical.failStage (h : s.Canonical) : (s.failStage n).Canonical := h
theorem State.Canonical.beginStage (h : s.Canonical) : s.beginStage.Canonical := h
theorem State.Canonical.cancelStage (h : s.Canonical) : s.cancelStage.Canonical := h
theorem State.Canonical.armImage (h : s.Canonical) : s.armImage.Canonical := h

theorem State.Canonical.confirmImage (h : s.Canonical) : s.confirmImage.Canonical := by
  unfold State.confirmImage
  split <;> exact h

theorem State.Canonical.disarmImage (h : s.Canonical) : s.disarmImage.Canonical := by
  unfold State.disarmImage
  dsimp only
  split
  · exact h
  · exact .ite h h

theorem State.Canonical.imageCtrl (h : s.Canonical) : (s.imageCtrl v ok).Canonical := by
  refine .ite h.beginStage (.ite h (.ite h.failStage ?_))
  split
  · exact h.cancelStage
  · exact h.armImage
  · exact h.confirmImage
  · exact h.disarmImage
  · exact h

theorem State.Canonical.endErase (h : s.Canonical) : s.endErase.Canonical := State.Canonical.modDict (.ite h.finishFlush h)

theorem State.Canonical.writeBlock {x : Bytes} (h : s.Canonical) : (s.writeBlock path n x ok).1.Canonical := by
  unfold State.writeBlock
  dsimp only
  split
  · exact h
  split
  · exact h
  split
  · exact h
  split
  · exact h
  split
  · split
    · exact State.Canonical.modDict h
    · exact h
  split
  · exact h.failStage
  · refine State.Canonical.modDict ?_
    exact h

-- Entries.

theorem State.Canonical.storeBytes {x : Bytes} (h : s.Canonical) : (s.storeBytes index sub x).Canonical := h

theorem State.Canonical.requestAttest (h : s.Canonical) : s.requestAttest.Canonical := h
theorem State.Canonical.requestSeal (h : s.Canonical) : (s.requestSeal k).Canonical := h
theorem State.Canonical.requestTest (h : s.Canonical) : s.requestTest.Canonical := h
theorem State.Canonical.markDebug (h : s.Canonical) : s.markDebug.Canonical := h
theorem State.Canonical.startReplan (h : s.Canonical) : s.startReplan.Canonical := h

theorem State.Canonical.entryAct (h : s.Canonical) : (s.entryAct index sub v ok).Canonical := by
  unfold State.entryAct
  split
  · exact h.startFlush
  · exact h.markRestore
  · exact h.imageCtrl
  · exact h.rewarm
  · exact h.markWaits
  · exact h.startReplan
  · exact h.requestAttest
  · exact h.requestSeal
  · exact .ite h.freeze h.thaw
  · exact .ite h.freeze h.thaw
  · exact h
  · exact State.Canonical.requestTest (.ite h.markDebug h)
  · exact h.requestTest
  · exact h

theorem State.Canonical.applyScalar {r : Row} (h : s.Canonical) : (s.applyScalar path r sub v ok).Canonical := by
  unfold State.applyScalar
  exact .ite (State.Canonical.entryAct (State.Canonical.useFree h.modDict)) (State.Canonical.entryAct h.modDict)

theorem State.Canonical.putScalar (h : s.Canonical) : (s.putScalar path index sub v ok).1.Canonical := by
  unfold State.putScalar
  split
  · exact h
  split
  · exact h
  split
  · exact h
  split
  · exact h
  split
  · exact h
  split
  · exact h
  split
  · exact h
  exact h.applyScalar

theorem State.Canonical.putBytes {x : Bytes} (h : s.Canonical) : (s.putBytes path index sub n x ok).1.Canonical := by
  unfold State.putBytes
  split
  · exact h
  split
  · exact h
  split
  · exact h
  split
  · exact h
  split
  · exact h.writeBlock
  split
  · exact h
  dsimp only
  split
  · exact h
  split
  · exact h
  exact State.Canonical.storeBytes h.modDict

-- Paths.

theorem State.Canonical.serveSlot {x : Slot} (h : s.Canonical) : (s.serveSlot x ok).1.Canonical := by
  unfold State.serveSlot
  split
  · exact h
  · exact h.putScalar
  · split
    · exact h.put
    · exact h
  · exact h.putBytes

theorem State.Canonical.serveBar0 (h : s.Canonical) : (s.serveBar0 ok).Canonical := by
  unfold State.serveBar0
  split
  · exact h
  · exact State.Canonical.modSlot (State.Canonical.serveSlot h.modDict)

theorem State.Canonical.serveAllBar0 (h : s.Canonical) : (s.serveAllBar0 ok).Canonical := h.foldl fun _ _ ht => ht.serveBar0

theorem State.Canonical.serveUntil (l : List Nat) (h : s.Canonical) : (s.serveUntil k ok l).Canonical := by
  induction l generalizing s with
  | nil => exact h
  | cons x l ih => exact .ite h (ih h.serveBar0)

theorem State.Canonical.modEnd {m : Mctp} {f : MctpEnd → MctpEnd} (h : s.Canonical) : (s.modEnd m f).Canonical := h

theorem State.Canonical.respond {m : Mctp} {q : Request} {x : Bytes} (h : s.Canonical) : (s.respond m k q v x).Canonical := h

theorem State.Canonical.mctpArrive {m : Mctp} {q : Request} (h : s.Canonical) : (s.mctpArrive m k q).Canonical := .ite h (.ite h.respond h.modEnd)

theorem State.Canonical.mctpWrite {m : Mctp} {q : Request} (h : s.Canonical) : (s.mctpWrite m q ok).1.Canonical := by
  unfold State.mctpWrite
  split
  · split
    · exact h
    · exact h.putScalar
  · exact h.putScalar

theorem State.Canonical.serveRequest {m : Mctp} {q : Request} (h : s.Canonical) : (s.serveRequest m k q ok).1.Canonical := by
  unfold State.serveRequest
  dsimp only
  split
  · exact h
  split
  · split <;> exact h
  split
  · exact h.mctpWrite
  split
  · split <;> exact h
  split
  · exact h
  split
  · split <;> exact h
  exact h.putBytes

theorem State.Canonical.serveMctp {m : Mctp} (h : s.Canonical) : (s.serveMctp m ok).Canonical := by
  unfold State.serveMctp
  split
  · exact h
  · exact State.Canonical.respond (State.Canonical.serveRequest h.modEnd)

theorem State.Canonical.servePath (x : Path) (h : s.Canonical) : (s.servePath x).Canonical := by
  cases x with
  | bar0 => exact h.serveAllBar0
  | i3c => exact h.foldl fun _ _ ht => ht.serveMctp
  | vdm => exact h.foldl fun _ _ ht => ht.serveMctp
  | device => exact h

theorem State.Canonical.pathWrite {x : Path} (h : s.Canonical) : (s.pathWrite x index sub v ok).Canonical :=
  .ite h (.ite h.reply (State.Canonical.reply (State.Canonical.putScalar (h.servePath x))))

theorem State.Canonical.pathBytes {x : Path} {y : Bytes} (h : s.Canonical) : (s.pathBytes x index sub n y ok).Canonical := by
  refine .ite h (.ite h.reply ?_)
  extract_lets u
  have hu : u.Canonical := h.servePath x
  exact .ite hu.reply (State.Canonical.reply hu.putBytes)

theorem State.Canonical.control {m : Mctp} {x : Bytes} (h : s.Canonical) : (s.control m k x).Canonical := .ite h h.modEnd

-- Registers.

theorem State.Canonical.selectWrite (h : s.Canonical) : (s.selectWrite k v).Canonical := .ite h h

theorem State.Canonical.queueSlot {q : Sum (BitVec 64) (Bool × Nat)} (h : s.Canonical) : (s.queueSlot k q).Canonical := .ite h h

theorem State.Canonical.valueWrite {x : BitVec 64} (h : s.Canonical) : (s.valueWrite k x).Canonical := .ite h h.queueSlot

theorem State.Canonical.xferWrite (h : s.Canonical) : (s.xferWrite k b n).Canonical := .ite h (.ite h (.ite h h.queueSlot))

theorem State.Canonical.ringWrite (h : s.Canonical) : (s.ringWrite d k n v).Canonical := by
  unfold State.ringWrite
  extract_lets base
  have hb : ∀ f, (base f).Canonical := fun f => .ite h h
  split
  · exact h.doorbell
  · exact hb _
  · exact hb _
  · exact hb _
  · exact hb _
  · exact h.ringCtrl
  · exact h.cqHead
  · exact h

theorem State.Canonical.slotWrite (h : s.Canonical) : (s.slotWrite k n v).Canonical := by
  unfold State.slotWrite
  dsimp only
  split
  · exact h.selectWrite
  · exact h.valueWrite
  · exact h
  · exact h
  · exact .ite h.xferWrite h
  · exact h
  · exact h

theorem State.Canonical.bar0Write (h : s.Canonical) : (s.bar0Write d n v).Canonical := .ite h.ringWrite (.ite h.slotWrite h)

-- Signatures.

theorem State.Canonical.publishSeal {q : SignRequest} (h : s.Canonical) : (s.publishSeal q).Canonical := h
theorem State.Canonical.publishReport {q : SignRequest} (h : s.Canonical) : (s.publishReport q).Canonical := h

theorem State.Canonical.rotUnblocks (h : s.Canonical) : s.rotUnblocks.Canonical :=
  State.Canonical.foldl (h.foldl fun _ _ ht => .ite ht ht) fun _ _ ht => ht.drawHeaderKey

end Sys2Proof.Machine
end

section
/-!
SUPPORT. A start of the device keeps every memory in its canonical form (13 R344 to R356; log 4).
-/
namespace Sys2Proof.Machine

variable {s t : State} {k n : Nat} {b x : Bool} {i : StartInputs}

theorem State.Canonical.fallBack (h : s.Canonical) : (s.fallBack b k n).Canonical := h
theorem State.Canonical.limit (h : s.Canonical) : (s.limit k b).Canonical := .ite h h

theorem State.Canonical.bootConfirmed (h : s.Canonical) : (s.bootConfirmed b).Canonical := by
  unfold State.bootConfirmed
  exact .ite h (.ite h h.limit)

theorem State.Canonical.selectImage (h : s.Canonical) : (s.selectImage b x).Canonical := by
  unfold State.selectImage
  dsimp only
  split
  · exact h.bootConfirmed
  · exact .ite h.bootConfirmed (.ite (State.Canonical.bootConfirmed h.fallBack) (.ite (State.Canonical.bootConfirmed h.fallBack)
      (.ite h (State.Canonical.bootConfirmed (State.Canonical.fallBack (State.Canonical.limit h))))))

theorem State.Canonical.restoreArea (h : s.Canonical) : (s.restoreArea b).Canonical := h

theorem State.Canonical.migrate (h : s.Canonical) : s.migrate.Canonical := by
  unfold State.migrate
  split
  · exact .ite h h
  · exact h

theorem State.Canonical.loadSettings (h : s.Canonical) : s.loadSettings.Canonical := by
  unfold State.loadSettings
  split <;> exact h

theorem State.Canonical.replayJournal {l : List JournalRec} (h : s.Canonical) : (s.replayJournal l).Canonical := h

theorem State.Canonical.emitAll {l : List Notice} (h : s.Canonical) : (s.emitAll l).Canonical := h.foldl fun _ _ ht => ht.emit

theorem State.Canonical.testSram (h : s.Canonical) : (s.testSram i).Canonical := State.Canonical.emitAll (State.Canonical.limit h)

theorem State.Canonical.shapeRecord {o : Halves Nat} (h : s.Canonical) : (s.shapeRecord o k).Canonical := h

theorem State.Canonical.testUnits (h : s.Canonical) : (s.testUnits i).Canonical := by
  unfold State.testUnits
  extract_lets serve t fails t'
  have ht' : t'.Canonical := State.Canonical.emitAll h
  exact State.Canonical.retireAll ht'.shapeRecord

theorem State.Canonical.trainLp (h : s.Canonical) : (s.trainLp i b).Canonical := by
  unfold State.trainLp
  extract_lets u t n w o v
  have hv : v.Canonical := .ite h h
  exact State.Canonical.limit hv

theorem State.Canonical.reloadPlan (h : s.Canonical) : s.reloadPlan.Canonical := by
  unfold State.reloadPlan
  split
  · exact State.Canonical.dropUnplanned (State.Canonical.modSteward h.marginSparing)
  · exact h

theorem State.Canonical.startPlan (h : s.Canonical) : (s.startPlan b i).Canonical := .ite h.makePlan h.reloadPlan

theorem State.Canonical.setPlan (h : s.Canonical) : s.setPlan.Canonical := State.Canonical.applyPlan h.applyPlan

theorem State.Canonical.readKeep (h : s.Canonical) : (s.readKeep b).Canonical := State.Canonical.limit h

theorem State.Canonical.reportLost (h : s.Canonical) : s.reportLost.Canonical := by
  unfold State.reportLost
  split
  · exact State.Canonical.emitAll h
  · exact h

theorem State.Canonical.startChains (h : s.Canonical) : s.startChains.Canonical := h

theorem State.Canonical.limitUnits (h : s.Canonical) : s.limitUnits.Canonical :=
  State.Canonical.limit (State.Canonical.limit (State.Canonical.limit h.limit))

theorem State.Canonical.ready (h : s.Canonical) : (s.ready k).Canonical := by
  unfold State.ready
  extract_lets t u st bd v v'
  have hv' : v'.Canonical := h
  exact State.Canonical.arriveAll (.ite hv'.emit hv')

theorem State.Canonical.keptWarm (h : s.Canonical) : s.keptWarm.Canonical := by
  obtain ⟨-, hlp, hhost, -, -, -⟩ := (Memory.wf_iff _).1 h
  exact (Memory.wf_iff _).2 ⟨rfl, hlp, hhost, rfl, rfl, rfl⟩

theorem State.Canonical.timeZero (h : s.Canonical) : (s.timeZero i k).Canonical := State.Canonical.ite h.kept h.keptWarm

theorem State.Canonical.serveEarly {q : Request} (h : s.Canonical) : (s.serveEarly k q).Canonical :=
  .ite h (.ite (State.Canonical.respond h.serveRequest) h.respond)

theorem State.Canonical.serveStep (h : s.Canonical) : (s.serveStep i k).Canonical := State.Canonical.foldl h.arriveAll fun _ _ ht => ht.serveEarly

theorem State.Canonical.startTests (h : s.Canonical) : (s.startTests i k).Canonical :=
  State.Canonical.serveStep (State.Canonical.startPlan (State.Canonical.serveStep (State.Canonical.serveStep (State.Canonical.trainLp
    (State.Canonical.serveStep (State.Canonical.testUnits (State.Canonical.serveStep h.testSram)))))))

theorem State.Canonical.startKeep {l : List JournalRec} (h : s.Canonical) : (s.startKeep i l).Canonical := by
  unfold State.startKeep
  extract_lets u v
  have hu : u.Canonical := h.setPlan
  have hv : v.Canonical := .ite (State.Canonical.limit hu.emit) hu
  exact State.Canonical.limitUnits (State.Canonical.serveStep (State.Canonical.startChains (State.Canonical.reportLost
    (State.Canonical.replayJournal hv.readKeep))))

theorem State.Canonical.startImage (h : s.Canonical) : (s.startImage i k).Canonical := by
  unfold State.startImage
  extract_lets u v w
  have hv : v.Canonical := State.Canonical.selectImage (State.Canonical.limit h.timeZero)
  have hw : w.Canonical := .ite (State.Canonical.restoreArea hv.restoreArea) hv
  exact State.Canonical.arriveAll (State.Canonical.loadSettings hw.migrate)

theorem State.Canonical.startAvsFatal {x : Half} (h : s.Canonical) : (s.startAvsFatal x).Canonical := by
  unfold State.startAvsFatal
  extract_lets bd u st v
  have hu : u.Canonical := State.Canonical.limit h
  have hv : v.Canonical := hu
  exact State.Canonical.saveAndHalt hv.emit

theorem State.Canonical.startUp (h : s.Canonical) : (s.startUp i k).Canonical := by
  unfold State.startUp
  extract_lets kept u w v v'
  have hu : u.Canonical := h.startImage
  have hw : w.Canonical := State.Canonical.foldl (State.Canonical.ready hu.replayJournal) fun _ _ ht => ht.mctpArrive
  have hv : v.Canonical := hu.serveStep
  refine .ite (.ite hw hw.startFlush) ?_
  split
  · exact hv.startAvsFatal
  · exact State.Canonical.startAvsFatal hv.startTests
  · exact State.Canonical.startFlush (State.Canonical.ready (State.Canonical.startKeep hv.startTests))

end Sys2Proof.Machine
end

section
/-!
PROOF. Every step keeps every memory in its canonical form (O5): the commands one by one, each a chain of operations that keep it.
-/
namespace Sys2Proof.Machine

/-- Where a command ends in a next state, that state's memories are in their canonical form. -/
def OutcomeCanonical : Host.Outcome State Fault Refusal → Prop
  | .next t => t.Canonical
  | .fault _ => True
  | .refused _ => True

theorem OutcomeCanonical.next {t : State} (h : t.Canonical) : OutcomeCanonical (.next t) := h

theorem OutcomeCanonical.fault (f : Fault) : OutcomeCanonical (.fault f) := trivial

theorem OutcomeCanonical.ite {c : Prop} [Decidable c] {x y : Host.Outcome State Fault Refusal} (hx : OutcomeCanonical x) (hy : OutcomeCanonical y) :
    OutcomeCanonical (if c then x else y) := by
  split
  · exact hx
  · exact hy

variable {s : State}

-- Starts, stops and resets.

theorem execColdPowerOnStart_canonical (i : StartInputs) (h : s.Canonical) : OutcomeCanonical (execColdPowerOnStart i s) :=
  .ite (.fault _) (.ite (.next h) (.ite (.next h) (.next h.startUp)))

theorem execPerstAssert_canonical (h : s.Canonical) : OutcomeCanonical (execPerstAssert s) := .ite (.next h) (.next h.resetHalt)

theorem execHotReset_canonical (i : StartInputs) (h : s.Canonical) : OutcomeCanonical (execHotReset i s) :=
  .ite (.fault _) (.ite (.next h) (.ite (.next h) (.next (State.Canonical.startUp h.resetHalt))))

theorem execTrstDeassertion_canonical (i : StartInputs) (h : s.Canonical) : OutcomeCanonical (execTrstDeassertion i s) := by
  refine .ite (.fault _) ?_
  extract_lets misused bd u
  have hu : u.Canonical := h
  exact .ite (.next hu) (.next (State.Canonical.startUp hu.resetHalt))

theorem execFunctionLevelReset_canonical (fn : Fin 16) (h : s.Canonical) : OutcomeCanonical (execFunctionLevelReset fn s) := by
  unfold execFunctionLevelReset
  have hall : (s.flr true fun _ => true).Canonical := h.flr
  generalize s.flr true (fun _ => true) = u at hall
  exact .ite (.next h) (.ite (.next hall) (.next h.flr))

theorem execVfEnable_canonical (b : Bool) (v : VfControl) (h : s.Canonical) : OutcomeCanonical (execVfEnable b v s) := by
  refine .ite (.next h) ?_
  extract_lets u
  have hu : u.Canonical := .ite h.flr h
  exact .next hu

/-- A sag empties LPDDR5X, which is in canonical form when it is empty (log 4). -/
theorem execSupplySag_canonical (cause : BitVec 4) (b : Bool) (h : s.Canonical) : OutcomeCanonical (execSupplySag cause b s) := by
  refine .ite (.next h) (.ite (.next (.ite h h)) ?_)
  extract_lets u v
  have hu : u.Canonical := State.Canonical.sagAndHalt h.modDict
  have hv : v.Canonical := by
    obtain ⟨hsram, -, hhost, hspindle, hbobbin, hdistaff⟩ := (Memory.wf_iff _).1 hu
    exact (Memory.wf_iff _).2 ⟨hsram, rfl, hhost, hspindle, hbobbin, hdistaff⟩
  exact .next (.ite hv hv)

theorem execThermtrip_canonical (x : Fin 12) (c : Int) (h : s.Canonical) : OutcomeCanonical (execThermtrip x c s) := by
  refine .ite (.next h) ?_
  extract_lets bd u note
  have hu : u.Canonical := h
  exact .ite (.next hu) (.next (State.Canonical.saveAndHalt (State.Canonical.emit hu.useFree)))

theorem execFatalStop_canonical (c : Fin 5) (x : Option Half) (d : Fin 8) (a : BitVec 64) (b : Bool) (h : s.Canonical) :
    OutcomeCanonical (execFatalStop c x d a b s) := .ite (.next h) (.next (State.Canonical.fatalStop h.useFree))

theorem execAvsWriteTimeout_canonical (x : Half) (h : s.Canonical) : OutcomeCanonical (execAvsWriteTimeout x s) :=
  .ite (.next h) (.ite (.next h) (.next (State.Canonical.avsFatal h.modSteward)))

/-- A loss of VDD_IO keeps the host's memory alone. -/
theorem execVddIoLoss_canonical (h : s.Canonical) : OutcomeCanonical (execVddIoLoss s) := by
  unfold execVddIoLoss
  extract_lets u v
  have hu : u.Canonical := State.Canonical.tearMirror (.ite h.abandonRuns h)
  exact .next hu.kept

theorem execLinkUp_canonical (x : Fin 5) (p : PcieSetup) (h : s.Canonical) : OutcomeCanonical (execLinkUp x p s) := by
  refine .ite (.next h) ?_
  extract_lets bd u
  have hu : u.Canonical := h
  exact .next (.ite hu hu)

theorem execTapInstruction_canonical (x : TapScan) (h : s.Canonical) : OutcomeCanonical (execTapInstruction x s) := by
  unfold execTapInstruction
  extract_lets t drives bd u b c e
  have hu : u.Canonical := h
  exact .next (.ite hu (.ite hu hu))

-- Registers.

theorem execRegisterWrite_canonical (fn : Fin 16) (o : BitVec 20) (b : Bool) (v : BitVec 64) (h : s.Canonical) : OutcomeCanonical (execRegisterWrite fn o b v s) := by
  unfold execRegisterWrite
  exact .ite (.ite (.next h) (.ite (.next h.abort) (.ite (.next h.valueWrite) (.next (State.Canonical.bar0Write h.bar0Write)))))
    (.ite (.next h) (.next h.bar0Write))

theorem execBar2Access_canonical (o : BitVec 41) (len : Nat) (x : Option Bytes) (h : s.Canonical) : OutcomeCanonical (execBar2Access o len x s) := by
  refine .ite (.fault _) (.ite (.next h) ?_)
  extract_lets reply u
  refine .ite (.next ?_) ?_
  · exact .ite h h
  · split
    · exact .next h.put
    · exact .next h.check
    · exact .next h
    · exact .next h

theorem execMsixUnmask_canonical (fn : Fin 16) (e : Fin 2048) (x : MsixEntry) (h : s.Canonical) : OutcomeCanonical (execMsixUnmask fn e x s) := by
  refine .ite (.next h) ?_
  extract_lets f send f' u
  have hu : u.Canonical := h
  exact .next (.ite hu hu)

theorem execValueRead_canonical (k : Fin 16) (x : Flashed Bool) (h : s.Canonical) : OutcomeCanonical (execValueRead k x s) := by
  refine .ite (.next h) ?_
  extract_lets u y size
  have hu : u.Canonical := h.serveAllBar0
  split <;> exact .next hu

theorem execStatusRead_canonical (x : Flashed (Fin 16)) (h : s.Canonical) : OutcomeCanonical (execStatusRead x s) :=
  .ite (.next h) (.next (State.Canonical.reply (h.serveUntil _)))

theorem execDictRequestService_canonical (q : Flashed Requester) (h : s.Canonical) : OutcomeCanonical (execDictRequestService q s) := by
  refine .ite (.next h) ?_
  split
  · exact .next (.ite h.serveBar0 h)
  · exact .next h.serveMctp

theorem execSetEndpointId_canonical (p : Mctp) (e : BitVec 8) (h : s.Canonical) : OutcomeCanonical (execSetEndpointId p e s) :=
  .ite (.next h) (.ite (.next h.modEnd) (.next (State.Canonical.control h.modEnd)))

-- Hanks.

theorem execSubmissionEntryRead_canonical (r : Fin 64) (h : s.Canonical) : OutcomeCanonical (execSubmissionEntryRead r s) := by
  unfold execSubmissionEntryRead
  split
  · extract_lets b e f hd u
    have hu : u.Canonical := h
    split
    · exact .next (State.Canonical.refreshReservation hu.finishUnpicked)
    · exact .next (State.Canonical.refreshReservation hu.entryFault)
    · exact .next (State.Canonical.refreshReservation hu.modHank)
  · exact .next h

theorem execHostReadFault_canonical (x : HostRead) (k : Fin 4) (a : BitVec 64) (n : BitVec 32) (h : s.Canonical) : OutcomeCanonical (execHostReadFault x k a n s) := by
  refine .ite (.next h) ?_
  cases x with
  | entry r => exact .next h.faultEntry
  | header r => exact .next h.faultEntry
  | region => exact .next h.faultRegion
  | buffer d w => exact .next h.faultBuffer
  | transfer k => exact .next h.faultTransfer

theorem execHankPick_canonical (h : s.Canonical) : OutcomeCanonical (execHankPick s) := by
  unfold execHankPick
  refine .ite (.next h) (.ite (.next (State.Canonical.refreshReservation (State.Canonical.modRing h.pickHead))) (.ite ?_ (.next h)))
  extract_lets u
  have hu : u.Canonical := h.refreshReservation
  split
  · exact .next (State.Canonical.modRing hu.pickHead)
  · exact .next hu

theorem execArbiterPointerMove_canonical (h : s.Canonical) : OutcomeCanonical (execArbiterPointerMove s) := by
  unfold execArbiterPointerMove
  refine .ite (.next h) (.next ?_)
  exact State.Canonical.refreshReservation h

theorem execHankStart_canonical (h : s.Canonical) : OutcomeCanonical (execHankStart s) := by
  unfold execHankStart
  split
  · extract_lets x u at_ b
    have hu : u.Canonical := h
    exact .next hu.beginRun
  · exact .next h

theorem execUnitAcquire_canonical (d : Fin 8) (h : s.Canonical) : OutcomeCanonical (execUnitAcquire d s) := by
  unfold execUnitAcquire
  split
  · refine .ite (.next h) ?_
    split
    · exact .next h.rejectShape
    · exact .next (State.Canonical.modRun (State.Canonical.foldl (h.foldl fun _ _ ht => ht.takeSpindle) fun _ _ ht => ht.takeBobbin))
  · exact .next h

theorem execWordComplete_canonical (d : Fin 8) (w : Nat) (h : s.Canonical) : OutcomeCanonical (execWordComplete d w s) := by
  unfold execWordComplete
  split
  · split
    · exact .ite (.next h) (.next (State.Canonical.refreshReservation h))
    · exact .next h
  · exact .next h

theorem execHankFinish_canonical (k : Fin 64) (d : Fin 8) (h : s.Canonical) : OutcomeCanonical (execHankFinish k d s) := by
  refine .ite (.next h) ?_
  extract_lets u
  have hu : u.Canonical := by
    unfold u
    split
    · exact .ite h.finishRun h
    · exact h
  exact .next (hu.drainRing _)

theorem execWaitSeqTimeout_canonical (d : Fin 8) (h : s.Canonical) : OutcomeCanonical (execWaitSeqTimeout d s) := by
  unfold execWaitSeqTimeout
  split
  · split
    · exact .ite (.next h) (.next (State.Canonical.modIssued h.failWord))
    · exact .next h
  · exact .next h

theorem execDrainReadout_canonical (d : Fin 8) (h : s.Canonical) : OutcomeCanonical (execDrainReadout d s) := by
  unfold execDrainReadout
  split
  · extract_lets mine clear u
    have hu : u.Canonical := h.foldl fun v y hv => .ite (State.Canonical.modSpindle (State.Canonical.clearMark hv.leaveTree)) hv
    exact .next hu
  · exact .next h

-- The anneal engine.

theorem execOpenNoiseStartWaitEnd_canonical (h : s.Canonical) : OutcomeCanonical (execOpenNoiseStartWaitEnd s) := by
  unfold execOpenNoiseStartWaitEnd
  split
  · exact .ite (.next h.beginAnneal) (.next h)
  · exact .next h

theorem execOpenEvaluation_canonical (l : Fin 128) (c : Fin 1024) (k : Fin 8) (n : Nat) (h : s.Canonical) : OutcomeCanonical (execOpenEvaluation l c k n s) := by
  unfold execOpenEvaluation
  split
  · exact .next h
  · refine .ite (.next h) (.ite (.next h.setAnneal) ?_)
    extract_lets ph
    split
    · exact .next h
    · exact .next h

theorem execArbiterWindow_canonical (x : Half) (h : s.Canonical) : OutcomeCanonical (execArbiterWindow x s) := by
  unfold execArbiterWindow
  split
  · exact .ite (.next h) (.next (State.Canonical.noteToken (State.Canonical.setAnneal h.setProblem)))
  · exact .next h

theorem execFlipTokenApply_canonical (l : Fin 128) (x : Half) (h : s.Canonical) : OutcomeCanonical (execFlipTokenApply l x s) := by
  unfold execFlipTokenApply
  split
  · split
    · exact .ite (.next h.applyToken) (.next h)
    · exact .next h
  · exact .next h

/-- A column streamed into a free buffer lifts the buffer's marks. -/
theorem execSpillColumnStream_canonical (x : Half) (h : s.Canonical) : OutcomeCanonical (execSpillColumnStream x s) := by
  unfold execSpillColumnStream
  split
  · split
    · rename_i a r q _ _ t _
      extract_lets c k
      have hc : c.1.Canonical := h.checkStore
      clear_value c
      split
      · exact .next hc.spoilAnneal
      · exact .next hc
    · exact .next h
  · exact .next h

theorem execSettlePoint_canonical (h : s.Canonical) : OutcomeCanonical (execSettlePoint s) := by
  unfold execSettlePoint
  split
  · exact .ite (.next h) (.next h.stepEnd)
  · exact .next h

theorem execCfSpeculativeEvaluation_canonical (p : Fin 64) (n : Nat) (h : s.Canonical) : OutcomeCanonical (execCfSpeculativeEvaluation p n s) := by
  unfold execCfSpeculativeEvaluation
  split
  · exact .next h
  · split
    · exact .ite (.next h) (.next h)
    · exact .next h

theorem execCfPositionResolve_canonical (p : Fin 64) (h : s.Canonical) : OutcomeCanonical (execCfPositionResolve p s) := by
  unfold execCfPositionResolve
  split
  · exact .next h
  · split
    · exact .ite (.next h) (.ite (.next h) (.next (State.Canonical.noteToken h)))
    · exact .next h

theorem execCfWindowRetire_canonical (p : Fin 64) (h : s.Canonical) : OutcomeCanonical (execCfWindowRetire p s) := by
  unfold execCfWindowRetire
  split
  · exact .next h
  · split
    · exact .next h
    · exact .ite (.next h) (.ite (.next h) (.next h.afterSweep))

-- Noise.

theorem execRestir_canonical (l m : Fin 128) (b : Bool) (raw : RawBits) (h : s.Canonical) : OutcomeCanonical (execRestir l m b raw s) := by
  unfold execRestir
  extract_lets p k u stir
  have hu : u.Canonical := by
    unfold u
    split <;> exact h
  exact .ite (.next h) (.next (.ite hu hu))

theorem execHealthWindowEnd_canonical (g : Fin 137) (raw : RawBits) (l : List Bool) (h : s.Canonical) : OutcomeCanonical (execHealthWindowEnd g raw l s) := by
  unfold execHealthWindowEnd
  split
  · exact .next h
  · exact .next h.endWindow
  · exact .next h

theorem execNoiseTimeout_canonical (w : NoiseWait) (h : s.Canonical) : OutcomeCanonical (execNoiseTimeout w s) := by
  refine .ite (.next h) ?_
  cases w with
  | openStart => exact .next h.timeoutStart
  | hold x => exact .next h.timeoutHold
  | openExchange d => exact .next h.timeoutExchange
  | deviceKey d => exact .next h.timeoutKey
  | raw d => exact .next h.timeoutRaw
  | rootOfTrust => exact .next h.timeoutRot5

theorem execRotReseed_canonical (raw : RawBits) (h : s.Canonical) : OutcomeCanonical (execRotReseed raw s) := by
  unfold execRotReseed
  extract_lets x bits u u'
  have hu : u.Canonical := h
  have hu' : u'.Canonical := .ite hu hu
  exact .ite (.next h) (.next (.ite hu' hu'.rotUnblocks))

theorem execRotBlocked_canonical (h : s.Canonical) : OutcomeCanonical (execRotBlocked s) := by
  unfold execRotBlocked
  exact .ite (.next h) (.next h)

-- Permits, power and margins.

theorem execPermitGrant_canonical (h : s.Canonical) : OutcomeCanonical (execPermitGrant s) := by
  unfold execPermitGrant
  split
  · exact .ite (.next h) (.next h.markWaits)
  · exact .next h

theorem execPermitTimeout_canonical (h : s.Canonical) : OutcomeCanonical (execPermitTimeout s) := by
  unfold execPermitTimeout
  split
  · extract_lets pay u v
    have hv : v.Canonical := by
      unfold v
      split <;> exact h
    exact .next hv
  · exact .next h

theorem execPowerSample_canonical (p x y : Nat) (o : Option (Int × Int)) (h : s.Canonical) : OutcomeCanonical (execPowerSample p x y o s) := by
  refine .ite (.next h) ?_
  extract_lets u
  refine OutcomeCanonical.next ?_
  split <;> exact h

theorem execRatioEvaluation_canonical (h : s.Canonical) : OutcomeCanonical (execRatioEvaluation s) :=
  .ite (.next h) (.next (State.Canonical.markHeld (State.Canonical.stepRatio (State.Canonical.stepRatio (State.Canonical.noteMoved (State.Canonical.noteMoved
    (State.Canonical.evalBudget (State.Canonical.evalThermal h.evalThermal))))))))

theorem execRatioStepUp_canonical (x : Half) (h : s.Canonical) : OutcomeCanonical (execRatioStepUp x s) := by
  unfold execRatioStepUp
  split
  · exact .ite (.next h) (.next h)
  · exact .next h

theorem execReplanMeasure_canonical (vdom : List (List Nat)) (h : s.Canonical) : OutcomeCanonical (execReplanMeasure vdom s) :=
  .ite (.fault _) (.ite (.next h) (.next (State.Canonical.modSteward (State.Canonical.emit (State.Canonical.applyPlan (State.Canonical.applyPlan h.makePlan))))))

-- Faults and scrubbing.

theorem execUnitFault_canonical (b : Bool) (u : Fin 136) (n : Fin 7) (h : s.Canonical) : OutcomeCanonical (execUnitFault b u n s) := by
  refine .ite (.fault _) ?_
  split
  · extract_lets waiting cls v st xs v'
    have hv' : v'.Canonical := h
    refine OutcomeCanonical.next ?_
    split
    · split
      · exact hv'.stopFaulted
      · exact hv'
    · exact hv'
  · exact .next h

theorem execShapeRemap_canonical (x : Half) (h : s.Canonical) : OutcomeCanonical (execShapeRemap x s) :=
  .ite (.next h) (.ite (.next h.mapFaults) (.ite (.next h.mapFaults) (.next h)))

theorem execSramScrubAccess_canonical (g : Fin 64) (e : WordErrors) (h : s.Canonical) : OutcomeCanonical (execSramScrubAccess g e s) := by
  refine .ite (.fault _) (.ite (.next h) ?_)
  extract_lets u o word v w
  have hu : u.Canonical := h.foldl fun _ _ ht => ht.strike
  have hv : v.Canonical := hu.foldl fun _ _ ht => ht.strike
  have hw : w.Canonical := hv.foldl fun _ _ ht => ht.scrubWord
  exact .next hw.scrubOn

theorem execLpPatrolScrub_canonical (a : BitVec 40) (o : Option Bool) (h : s.Canonical) : OutcomeCanonical (execLpPatrolScrub a o s) := by
  refine .ite (.next h) ?_
  extract_lets w u
  have hu : u.Canonical := by
    unfold u
    split
    · exact h.strike
    · exact h
  exact .next hu.scrubWord

-- Settings, images, signatures and the recorder.

theorem execSettingsFlushTimer_canonical (h : s.Canonical) : OutcomeCanonical (execSettingsFlushTimer s) := .ite (.next h) (.next h.startFlush)

theorem execSettingsRewriteDone_canonical (h : s.Canonical) : OutcomeCanonical (execSettingsRewriteDone s) := .ite (.next h) (.next h.finishFlush)

theorem execStageVerifyDone_canonical (h : s.Canonical) : OutcomeCanonical (execStageVerifyDone s) := by
  refine .ite (.next h) ?_
  extract_lets b n u noise v
  have hv : v.Canonical := h
  split
  · exact .next h.failStage
  · refine .ite (.next h.failStage) (.ite (.next h) ?_)
    split
    · exact .next hv.failStage
    · exact .ite (.next hv.failStage) (.next hv)

theorem execEraseDone_canonical (b : Bool) (h : s.Canonical) : OutcomeCanonical (execEraseDone b s) :=
  .ite (.next h) (.ite (.next h.failStage) (.next h.endErase))

theorem execSignatureComplete_canonical (h : s.Canonical) : OutcomeCanonical (execSignatureComplete s) := by
  unfold execSignatureComplete
  split
  · extract_lets x u
    have hu : u.Canonical := h
    exact .ite (.next hu.failSigning) (.ite (.next h) (.next (.ite hu.publishReport hu.publishSeal)))
  · exact .next h

theorem execFreezeLimitExpiry_canonical (b : Bool) (h : s.Canonical) : OutcomeCanonical (execFreezeLimitExpiry b s) := .next (.ite h h.thaw)

theorem execRegisterMatchCapture_canonical (k : Fin 16) (v : BitVec 64) (h : s.Canonical) : OutcomeCanonical (execRegisterMatchCapture k v s) := by
  refine .ite (.next h) ?_
  split
  · exact .next h
  · exact .next (.ite (State.Canonical.capture h.modRecorder) h)

theorem execCaptureEnd_canonical (k : Fin 16) (h : s.Canonical) : OutcomeCanonical (execCaptureEnd k s) := .ite (.next h) (.next h.endCapture)

/-- Every command keeps every memory in its canonical form. -/
theorem exec_canonical (c : Instr) (hs : s.Canonical) : OutcomeCanonical (exec c s) := by
  cases c with
  | coldPowerOnStart inputs => exact execColdPowerOnStart_canonical inputs hs
  | perstAssert => exact execPerstAssert_canonical hs
  | hotReset inputs => exact execHotReset_canonical inputs hs
  | functionLevelReset fn => exact execFunctionLevelReset_canonical fn hs
  | supplySag cause saved => exact execSupplySag_canonical cause saved hs
  | thermtrip sensor celsius => exact execThermtrip_canonical sensor celsius hs
  | fatalStop cause half distaff address saved => exact execFatalStop_canonical cause half distaff address saved hs
  | avsWriteTimeout h => exact execAvsWriteTimeout_canonical h hs
  | linkUp log2Width setup => exact execLinkUp_canonical log2Width setup hs
  | enableRing _ _ _ | disableRing _ _ _ => exact .next hs.ringCtrl
  | sqDoorbell _ _ _ => exact .next hs.doorbell
  | cqHead _ _ _ => exact .next hs.cqHead
  | abort _ _ _ _ => exact .next (.ite hs.abort hs)
  | registerWrite fn offset wide v => exact execRegisterWrite_canonical fn offset wide v hs
  | bar2Access offset len data => exact execBar2Access_canonical offset len data hs
  | msixUnmask fn e entry => exact execMsixUnmask_canonical fn e entry hs
  | submissionEntryRead r => exact execSubmissionEntryRead_canonical r hs
  | hostReadFault what kind address length => exact execHostReadFault_canonical what kind address length hs
  | hankPick => exact execHankPick_canonical hs
  | hankStart => exact execHankStart_canonical hs
  | unitAcquire d => exact execUnitAcquire_canonical d hs
  | wordComplete d w => exact execWordComplete_canonical d w hs
  | hankFinish r d => exact execHankFinish_canonical r d hs
  | barrier _ => exact hs.word fun _ _ _ _ => effBarrier_canonical
  | waitSeq _ => exact hs.word fun _ _ _ _ => effWaitSeq_canonical
  | waitSeqTimeout d => exact execWaitSeqTimeout_canonical d hs
  | signal _ => exact hs.word fun _ _ _ _ => effSignal_canonical
  | ledgerMark _ => exact hs.word fun _ _ _ _ => effLedgerMark_canonical
  | debugTrigger _ => exact hs.word fun _ _ _ _ => effDebugTrigger_canonical
  | load _ => exact hs.word fun _ _ _ _ => effLoad_canonical
  | store _ => exact hs.word fun _ _ _ _ => effStore_canonical
  | copy _ => exact hs.word fun _ _ _ _ => effCopy_canonical
  | gather _ => exact hs.word fun _ _ _ _ => effGather_canonical
  | stateSave _ => exact hs.word fun _ _ _ _ => effSave_canonical
  | stateRestore _ => exact hs.word fun _ _ _ _ => effRestore_canonical
  | macAcc _ | macEnd _ => exact hs.word fun _ _ _ _ => effMac_canonical
  | splitK _ => exact hs.word fun _ _ _ _ => effSplitK_canonical
  | accOpen _ => exact hs.word fun _ _ _ _ => effAccOpen_canonical
  | accClose _ => exact hs.word fun _ _ _ _ => effAccClose_canonical
  | accPreload _ => exact hs.word fun _ _ _ _ => effAccPreload_canonical
  | accPair _ => exact hs.word fun _ _ _ _ => effAccPair_canonical
  | drainPlain _ | drainMax _ | drainExpsum _ | drainSum _ => exact hs.word fun _ _ _ _ => effDrain_canonical
  | drainReadout d => exact execDrainReadout_canonical d hs
  | debugPeek _ => exact hs.word fun _ _ _ _ => effPeek_canonical
  | vecAdd _ | vecSub _ | vecMul _ | vecFma _ | vecDiv _ | vecSqrt _ | vecMax _ | vecMin _ | vecExp _ | vecCvt _ | vecRsum _ | vecRmax _ =>
    exact hs.word fun _ _ _ _ => effVec_canonical
  | coupleLoad _ => exact hs.word fun _ _ _ _ => effCoupleLoad_canonical
  | stateInit _ => exact hs.word fun _ _ _ _ => effStateInit_canonical
  | schedLoad _ => exact hs.word fun _ _ _ _ => effSchedLoad_canonical
  | anneal _ | sample _ => exact hs.word fun _ _ _ _ => effAnneal_canonical
  | exchange _ => exact hs.word fun _ _ _ _ => effExchange_canonical
  | energy _ => exact hs.word fun _ _ _ _ => effEnergy_canonical
  | noiseSeed _ => exact hs.word fun _ _ _ _ => effNoiseSeed_canonical
  | noiseRaw _ _ => exact hs.word fun _ _ _ _ => effNoiseRaw_canonical
  | openNoiseStartWaitEnd => exact execOpenNoiseStartWaitEnd_canonical hs
  | openEvaluation l cell slot cycle => exact execOpenEvaluation_canonical l cell slot cycle hs
  | arbiterWindow h => exact execArbiterWindow_canonical h hs
  | flipTokenApply l h => exact execFlipTokenApply_canonical l h hs
  | spillColumnStream h => exact execSpillColumnStream_canonical h hs
  | settlePoint => exact execSettlePoint_canonical hs
  | cfPositionResolve ply => exact execCfPositionResolve_canonical ply hs
  | cfWindowRetire ply => exact execCfWindowRetire_canonical ply hs
  | restir l lane exchangeLane raw => exact execRestir_canonical l lane exchangeLane raw hs
  | healthWindowEnd g raw lead => exact execHealthWindowEnd_canonical g raw lead hs
  | noiseTimeout w => exact execNoiseTimeout_canonical w hs
  | rotReseed raw => exact execRotReseed_canonical raw hs
  | rotBlocked => exact execRotBlocked_canonical hs
  | conditioningWrite _ _ _ | marginReplan _ _ | dictWrite _ _ _ _ | settingsFlush _ _ | settingsRestore _ _ | powerBudgetWrite _ _ _
  | debugEnableWrite _ _ | testShapeWrite _ _ | attestRequest _ _ | sealRing _ _ | freeze _ _ | thaw _ _ | mirrorClear _ _ | begin _ | verify _
  | cancel _ | arm _ | confirm _ | disarm _ => exact .next hs.pathWrite
  | permitGrant => exact execPermitGrant_canonical hs
  | permitTimeout => exact execPermitTimeout_canonical hs
  | powerSample p pw pe tj => exact execPowerSample_canonical p pw pe tj hs
  | ratioEvaluation => exact execRatioEvaluation_canonical hs
  | ratioStepUp h => exact execRatioStepUp_canonical h hs
  | replanMeasure vdom => exact execReplanMeasure_canonical vdom hs
  | unitFault bobbin unit stage => exact execUnitFault_canonical bobbin unit stage hs
  | shapeRemap h => exact execShapeRemap_canonical h hs
  | sramScrubAccess sg errors => exact execSramScrubAccess_canonical sg errors hs
  | lpPatrolScrub address struck => exact execLpPatrolScrub_canonical address struck hs
  | selectWrite _ _ => exact .next hs.selectWrite
  | valueRead slot wide => exact execValueRead_canonical slot wide hs
  | valueWrite _ _ _ => exact .next hs.valueWrite
  | statusRead slot => exact execStatusRead_canonical slot hs
  | xferEntryToHost _ _ | xferHostToEntry _ _ => exact .next hs.xferWrite
  | read _ _ | write _ _ | readBytes _ _ | writeBytes _ _ | getInfo _ _ => exact .next hs.mctpArrive
  | setEndpointId p eid => exact execSetEndpointId_canonical p eid hs
  | getEndpointId _ | getMctpVersionSupport _ | getMessageTypeSupport _ | getVendorDefinedMsgSupport _ => exact .next hs.control
  | settingsFlushTimer => exact execSettingsFlushTimer_canonical hs
  | signatureComplete => exact execSignatureComplete_canonical hs
  | ckptKeyWrite _ _ _ | imageBlock _ _ _ _ => exact .next hs.pathBytes
  | freezeLimitExpiry classT => exact execFreezeLimitExpiry_canonical classT hs
  | eventRecordArrive => exact .next (.ite hs hs.arriveNext)
  | registerMatchCapture k register => exact execRegisterMatchCapture_canonical k register hs
  | captureEnd k => exact execCaptureEnd_canonical k hs
  | eraseDone ok => exact execEraseDone_canonical ok hs
  | cfSpeculativeEvaluation ply position => exact execCfSpeculativeEvaluation_canonical ply position hs
  | arbiterPointerMove => exact execArbiterPointerMove_canonical hs
  | dictRequestService q => exact execDictRequestService_canonical q hs
  | settingsRewriteDone => exact execSettingsRewriteDone_canonical hs
  | stageVerifyDone => exact execStageVerifyDone_canonical hs
  | vfEnable enable control => exact execVfEnable_canonical enable control hs
  | setdasa _ | entdaa _ | rstdaa => exact .next hs
  | tapInstruction t => exact execTapInstruction_canonical t hs
  | trstDeassertion inputs => exact execTrstDeassertion_canonical inputs hs
  | vddIoLoss => exact execVddIoLoss_canonical hs

/-- Settles O5: the command at the front of the queue keeps the form, and an empty queue leaves the state. -/
theorem stepKeepsMemoryCanonical : Obligations.StepKeepsMemoryCanonical := by
  unfold Obligations.StepKeepsMemoryCanonical
  intro s t h hstep
  unfold step at hstep
  split at hstep
  · cases hstep
    exact h
  · rename_i c rest _
    have hc : OutcomeCanonical (exec c { s with pending := rest }) := exec_canonical c h
    rw [hstep] at hc
    exact hc

end Sys2Proof.Machine
end

section
/-!
PROOF. BAR2_ACCESS (O16): dropped and counted with debug mode off; a write of exactly its bytes, or a read of the bytes as they stand, with it on (09 R248).
-/
namespace Sys2Proof.Machine

/-- Numbers past the last memory name the last. -/
theorem Memory.space_of_five_lt (m : Memory) {p : Nat} (hp : 5 < p) : m.space p = m.space 5 := by
  obtain ⟨q, rfl⟩ := Nat.exists_eq_add_of_lt hp
  rw [show 5 + q + 1 = q + 6 by omega]
  rfl

/-- A write to SRAM or LPDDR5X replaces its bytes and no other byte of any memory. -/
theorem State.byteAt_put_device (s : State) {sp : Nat} (hsp : sp ≤ 1) (a : Nat) (bs : Bytes) (p c : Nat) :
    (s.put sp a bs).byteAt p c = if p = sp ∧ a ≤ c ∧ c < a + bs.length then bs.getD (c - a) 0 else s.byteAt p c := by
  by_cases hp : p ≤ 5
  · exact s.byteAt_put sp a bs p c (by omega) hp
  · have hlast : ∀ m : Memory, m.space p = m.space 5 := fun m => m.space_of_five_lt (by omega)
    have h5 := s.byteAt_put sp a bs 5 c (by omega) le_rfl
    rw [if_neg fun h => absurd h.1 (by omega)] at h5
    rw [if_neg fun h => absurd h.1 (by omega), State.byteAt, State.byteAt, hlast, hlast]
    exact h5

theorem space_of_bar2Place {o len sp a : Nat} (h : bar2Place o len = some (sp, a)) : sp ≤ 1 := by
  unfold bar2Place at h
  split at h
  · cases h
    exact Nat.zero_le 1
  · split at h <;> cases h
    exact le_rfl

/-- What a BAR2 read returns: free values where the device keeps data of its own, the bytes of the range elsewhere (08 R212). -/
def State.bar2Bytes (s : State) (sp a len : Nat) : Bytes :=
  let own := fun k => sp = 0 && deviceOwn (a + k)
  let free := (s.freeBytes (if (List.range len).any own then len else 0)).1
  (List.range len).map fun k => if own k then free.getD k 0 else s.byteAt sp (a + k)

theorem State.length_bar2Bytes (s : State) (sp a len : Nat) : (s.bar2Bytes sp a len).length = len := by simp [State.bar2Bytes]

theorem State.bar2Bytes_of_not_own (s : State) {sp a len k : Nat} (hk : k < len) (h : sp = 1 ∨ deviceOwn (a + k) = false) :
    (s.bar2Bytes sp a len)[k]? = some (s.byteAt sp (a + k)) := by
  have hown : (decide (sp = 0) && deviceOwn (a + k)) = false := by
    rcases h with rfl | h
    · rfl
    · rw [h, Bool.and_false]
  simp only [State.bar2Bytes, List.getElem?_map, List.getElem?_range hk, Option.map_some, hown, Bool.false_eq_true, if_false]

section
variable {s : State} {offset : BitVec 41} {len sp a : Nat} (hr : s.board.phase = .ready) (hl : s.linkOpen 0 = true)
include hr hl

theorem exec_bar2Access_dropped {data : Option Bytes} (hok : bar2Ok len data = true) (hd : s.debug = false) :
    let u := s.modDict fun x => { x with bar2Dropped := min (x.bar2Dropped + 1) 0xFFFFFFFF }
    exec (.bar2Access offset len data) s = .next (if data.isNone then { u with out := { u.out with bar2 := zeros len, bar2Poisoned := false } } else u) := by
  simp only [exec, execBar2Access, hok, hr, hl, hd, sat32]
  rfl

theorem exec_bar2Access_write {b : Bytes} (hok : bar2Ok len (some b) = true) (hd : s.debug = true) (hp : bar2Place offset.toNat len = some (sp, a)) :
    exec (.bar2Access offset len (some b)) s = .next (s.put sp a b) := by
  simp only [exec, execBar2Access, hok, hr, hl, hd, hp]
  rfl

theorem exec_bar2Access_read (hok : bar2Ok len none = true) (hd : s.debug = true) (hp : bar2Place offset.toNat len = some (sp, a)) :
    ∃ o : Outputs, exec (.bar2Access offset len none) s = .next { s with mem := (s.mem.check sp a len).1, out := o } ∧
      o.bar2 = s.bar2Bytes sp a len ∧ o.bar2Poisoned = (s.mem.check sp a len).2.isSome := by
  simp only [exec, execBar2Access, hok, hr, hl, hd, hp]
  exact ⟨_, rfl, rfl, rfl⟩

end

/-- Settles O16, by debug mode and by whether the access carries data. -/
theorem bar2ReachesMemoryInDebugMode : Obligations.Bar2ReachesMemoryInDebugMode := by
  unfold Obligations.Bar2ReachesMemoryInDebugMode
  intro s offset len data sp a hr hl hok hp
  cases hd : s.debug with
  | false =>
    refine ⟨_, exec_bar2Access_dropped hr hl hok hd, fun _ => ⟨?_, ?_⟩, nofun, nofun⟩
    · cases data <;> rfl
    · rintro rfl
      rfl
  | true =>
    cases data with
    | some b =>
      have hlen : b.length = len := by
        simpa [bar2Ok] using (Bool.and_eq_true_iff.1 hok).2
      refine ⟨_, exec_bar2Access_write hr hl hok hd hp, nofun, ?_, nofun⟩
      rintro - _ ⟨⟩
      refine ⟨rfl, fun p c => ?_⟩
      rw [State.byteAt_put_device s (space_of_bar2Place hp), hlen]
    | none =>
      obtain ⟨o, hexec, hbytes, hpoison⟩ := exec_bar2Access_read hr hl hok hd hp
      refine ⟨_, hexec, nofun, nofun, fun _ _ => ⟨rfl, fun p c => ?_, ?_, fun k hk hown => ?_, hpoison⟩⟩
      · exact congrArg (fun m : Mem => m.byte c) (Memory.check_space s.mem sp a len p)
      · rw [hbytes, State.length_bar2Bytes]
      · rw [hbytes, s.bar2Bytes_of_not_own hk hown]

end Sys2Proof.Machine
end

section
/-!
PROOF. The scrubbers (O53): a word without an error is left, an error that struck a word is met there, and one that struck a word elsewhere waits (08 R214, R215).
-/
namespace Sys2Proof.Machine

-- One word.

/-- What meeting a word's only error leaves: the error counted, and the word poisoned when it cannot be corrected (08 R214, R226). -/
def Memory.metWord (m : Memory) (sp w : Nat) (bad : Bool) : Memory :=
  if bad then
    if sp = 1 then { m with poison := m.poison ++ [(sp, w)], lpUe := sat32 m.lpUe } else { m with poison := m.poison ++ [(sp, w)], sramUe := sat32 m.sramUe }
  else if sp = 1 then { m with lpCe := sat32 m.lpCe } else { m with sramCe := sat32 m.sramCe }

theorem Memory.with_no_upsets {m : Memory} (hu : m.upsets = []) : ({ m with upsets := [] } : Memory) = m := by rw [← hu]

theorem Memory.metWord_upsets (m : Memory) (sp w : Nat) (bad : Bool) : (m.metWord sp w bad).upsets = m.upsets := by
  unfold Memory.metWord
  split <;> split <;> rfl

section
variable {m : Memory} {sp w : Nat} (hu : m.upsets = [])
include hu

theorem Memory.strike_of_no_upsets (bad : Bool) (hp : (sp, w) ∉ m.poison) : m.strike sp w bad = { m with upsets := [(sp, w, bad)] } := by
  simp [Memory.strike, hp, hu]

theorem Memory.meet_struck (bad : Bool) (hp : (sp, w) ∉ m.poison) :
    ({ m with upsets := [(sp, w, bad)] } : Memory).meet sp w = m.metWord sp w bad := by
  rw [← Memory.with_no_upsets hu]
  cases bad with
  | false => simp [Memory.meet, Memory.metWord]
  | true => simp [Memory.meet, Memory.metWord, hp]

end

theorem State.scrubWord_of_sound {s : State} {sp w : Nat} (domain : Nat) (h : ∀ c ∈ s.mem.upsets, c.1 = sp → c.2.1 ≠ w) : s.scrubWord sp domain w = s := by
  have hnone : (s.mem.upsets.find? fun c => c.1 = sp && c.2.1 = w) = none := by
    rw [List.find?_eq_none]
    intro c hc
    simpa using h c hc
  rw [State.scrubWord, hnone]

/-- The record of a word that a scrubber poisons. -/
def poisonNotice (sp domain w : Nat) : Notice := devNotice (if sp = 0 then 0x0501 else 0x0504) error domain (faultPayload (8 * w) sp 0 0xFFFF 8)

/-- A scrubbed word whose error is met (08 R214). -/
def State.scrubbed (s : State) (sp domain w : Nat) (bad : Bool) : State :=
  let t := { s with mem := s.mem.metWord sp w bad }
  if bad then t.emit (poisonNotice sp domain w) else t

theorem State.scrubbed_mem (s : State) (sp domain w : Nat) (bad : Bool) : (s.scrubbed sp domain w bad).mem = s.mem.metWord sp w bad := by
  cases bad <;> rfl

theorem State.scrubWord_of_struck {s : State} {sp w : Nat} (domain : Nat) (bad : Bool) (hu : s.mem.upsets = []) (hp : (sp, w) ∉ s.mem.poison) :
    ({ s with mem := { s.mem with upsets := [(sp, w, bad)] } } : State).scrubWord sp domain w = s.scrubbed sp domain w bad := by
  have hmeet := Memory.meet_struck (sp := sp) (w := w) hu bad hp
  cases bad <;> simp [State.scrubWord, State.scrubbed, State.modMem, poisonNotice, hmeet]

-- The words of an access.

theorem State.scrubWords_of_sound {s : State} {sp : Nat} (domain : Nat) {word : Nat → Nat} (l : List Nat) (h : ∀ c ∈ s.mem.upsets, c.1 ≠ sp) :
    l.foldl (fun s i => s.scrubWord sp domain (word i)) s = s := by
  induction l with
  | nil => rfl
  | cons i l ih => rw [List.foldl_cons, State.scrubWord_of_sound domain fun c hc hsp => absurd hsp (h c hc), ih]

/-- An access that reads the struck word meets its error once; the words beside it are sound. -/
theorem State.scrubWords_of_struck {s : State} {sp w : Nat} (domain : Nat) (bad : Bool) {word : Nat → Nat} (l : List Nat) (hu : s.mem.upsets = [])
    (hp : (sp, w) ∉ s.mem.poison) (hw : ∃ i ∈ l, word i = w) :
    l.foldl (fun s i => s.scrubWord sp domain (word i)) { s with mem := { s.mem with upsets := [(sp, w, bad)] } } = s.scrubbed sp domain w bad := by
  induction l with
  | nil => simp at hw
  | cons i l ih =>
    rw [List.foldl_cons]
    by_cases hi : word i = w
    case pos =>
      rw [hi, State.scrubWord_of_struck domain bad hu hp]
      refine State.scrubWords_of_sound domain l fun c hc => ?_
      rw [State.scrubbed_mem, Memory.metWord_upsets, hu] at hc
      simp at hc
    case neg =>
      rw [State.scrubWord_of_sound domain fun c hc _ => by simp only [List.mem_singleton] at hc; rw [hc]; exact fun h => hi h.symm]
      exact ih (by simpa [hi] using hw)

-- The commands.

/-- Word `i` of the scrub access of a slice group at offset `o` of its slices (08 R213, R215). -/
def scrubbedWord (sg o i : Nat) : Nat := sliceAddress (8 * sg + i / 8) o / 8 + i % 8

/-- The words of an access read, and the group's offset moved on. -/
def State.scrubAccess (s : State) (sg o : Nat) : State :=
  ((List.range 64).foldl (fun s i => s.scrubWord 0 (178 + sg) (scrubbedWord sg o i)) s).modMem fun m => { m with scrub := vset m.scrub sg ((o + 64) % 2 ^ 23) }

theorem State.scrubAccess_of_sound {s : State} (sg o : Nat) (h : ∀ c ∈ s.mem.upsets, c.1 ≠ 0) :
    s.scrubAccess sg o = { s with mem := { s.mem with scrub := vset s.mem.scrub sg ((o + 64) % 2 ^ 23) } } := by
  rw [State.scrubAccess, State.scrubWords_of_sound _ _ h]
  rfl

theorem State.scrubAccess_of_struck {s : State} (sg o : Nat) (i : Fin 64) (bad : Bool) (hu : s.mem.upsets = []) (hp : (0, scrubbedWord sg o i) ∉ s.mem.poison) :
    ({ s with mem := { s.mem with upsets := [(0, scrubbedWord sg o i, bad)] } } : State).scrubAccess sg o =
      (s.scrubbed 0 (178 + sg) (scrubbedWord sg o i) bad).modMem fun m => { m with scrub := vset m.scrub sg ((o + 64) % 2 ^ 23) } := by
  rw [State.scrubAccess, State.scrubWords_of_struck _ bad _ hu hp ⟨i, List.mem_range.2 i.isLt, rfl⟩]

theorem storePlace_ne_zero {st : Store} (h : st ≠ .sram) : (storePlace st).1 ≠ 0 := by
  cases st with
  | sram => exact absurd rfl h
  | lpddr | spindle | bobbin | distaff => exact Nat.succ_ne_zero _

theorem State.strike_of_no_upsets {s : State} {sp w : Nat} (bad : Bool) (hu : s.mem.upsets = []) (hp : (sp, w) ∉ s.mem.poison) :
    (s.modMem fun m => m.strike sp w bad) = { s with mem := { s.mem with upsets := [(sp, w, bad)] } } := by
  rw [State.modMem, Memory.strike_of_no_upsets hu bad hp]

section
variable {s : State} (hr : s.board.phase = .ready) (sg : Fin 64)
include hr

theorem exec_sramScrubAccess {e : WordErrors} (he : freshOk e.fresh = true) :
    let u := e.fresh.foldl (fun (s : State) c => s.modMem fun m => m.strike (storePlace c.1).1 c.2.1 c.2.2) s
    let o := vget u.mem.scrub 0 sg
    exec (.sramScrubAccess sg e) s =
      .next ((e.struck.foldl (fun (s : State) c => s.modMem fun m => m.strike 0 (scrubbedWord sg o c.1.val) c.2) u).scrubAccess sg o) := by
  simp only [exec, execSramScrubAccess, he, hr]
  rfl

theorem exec_sramScrubAccess_fresh {st : Store} {x : Nat} (bad : Bool) (hu : s.mem.upsets = []) (hx : x < (storePlace st).2)
    (hp : ((storePlace st).1, x) ∉ s.mem.poison) : exec (.sramScrubAccess sg ⟨[], [(st, x, bad)]⟩) s =
      .next (({ s with mem := { s.mem with upsets := [((storePlace st).1, x, bad)] } } : State).scrubAccess sg (vget s.mem.scrub 0 sg)) := by
  rw [exec_sramScrubAccess hr sg (by simp [freshOk, hx])]
  simp only [List.foldl_cons, List.foldl_nil, State.strike_of_no_upsets bad hu hp]

theorem exec_sramScrubAccess_struck (i : Fin 64) (bad : Bool) (hu : s.mem.upsets = []) (hp : (0, scrubbedWord sg (vget s.mem.scrub 0 sg) i) ∉ s.mem.poison) :
    exec (.sramScrubAccess sg ⟨[(i, bad)], []⟩) s = .next (({ s with mem := { s.mem with
      upsets := [(0, scrubbedWord sg (vget s.mem.scrub 0 sg) i, bad)] } } : State).scrubAccess sg (vget s.mem.scrub 0 sg)) := by
  rw [exec_sramScrubAccess hr sg rfl]
  simp only [List.foldl_cons, List.foldl_nil, State.strike_of_no_upsets bad hu hp]

end

section
variable {s : State} {a : BitVec 40} (hr : s.board.phase = .ready) (ha : a.toNat < lpBytes) (hu : s.mem.upsets = [])
include hr ha hu

theorem exec_lpPatrolScrub_nothing : exec (.lpPatrolScrub a none) s = .next s := by
  have hsound := State.scrubWord_of_sound (sp := 1) (w := a.toNat / 8) (242 + a.toNat / 2 ^ 11 % 8) (s := s) (by simp [hu])
  simp only [exec, execLpPatrolScrub, hr, hsound, Nat.not_le.2 ha]
  rfl

theorem exec_lpPatrolScrub_struck (bad : Bool) (hp : (1, a.toNat / 8) ∉ s.mem.poison) :
    exec (.lpPatrolScrub a (some bad)) s = .next (s.scrubbed 1 (242 + a.toNat / 2 ^ 11 % 8) (a.toNat / 8) bad) := by
  rw [← State.scrubWord_of_struck _ bad hu hp]
  simp only [exec, execLpPatrolScrub, hr, State.modMem, Memory.strike_of_no_upsets hu bad hp, Nat.not_le.2 ha]
  rfl

end

/-- Settles O53: an access without errors, one that brings an error elsewhere, and a struck word of each of the two memories. -/
theorem scrubbersCorrectOrPoison : Obligations.ScrubbersCorrectOrPoison := by
  unfold Obligations.ScrubbersCorrectOrPoison
  intro s sg i a bad hr hu ha o w next
  refine ⟨?_, fun st x b hst hx hp => ?_, exec_lpPatrolScrub_nothing hr ha hu, fun hp => ?_, fun hp => ?_⟩
  · rw [exec_sramScrubAccess hr sg rfl]
    exact congrArg _ (State.scrubAccess_of_sound _ _ (by simp [hu]))
  · rw [exec_sramScrubAccess_fresh hr sg b hu hx (by simpa using hp), State.scrubAccess_of_sound _ _ (by simpa using storePlace_ne_zero hst)]
  · have hp' : (0, w) ∉ s.mem.poison := by simpa using hp
    refine ⟨_, (exec_sramScrubAccess_struck hr sg i bad hu hp').trans (congrArg _ (State.scrubAccess_of_struck sg o i bad hu hp')), ?_⟩
    cases bad with
    | false => exact ⟨rfl, fun _ => ⟨rfl, rfl⟩, nofun⟩
    | true => exact ⟨rfl, nofun, fun _ => ⟨⟨_, rfl, rfl⟩, rfl⟩⟩
  · refine ⟨_, exec_lpPatrolScrub_struck hr ha hu bad (by simpa using hp), ?_⟩
    cases bad with
    | false => exact ⟨rfl, fun _ => ⟨rfl, rfl⟩, nofun⟩
    | true => exact ⟨rfl, nofun, fun _ => ⟨⟨_, rfl, rfl⟩, rfl⟩⟩

end Sys2Proof.Machine
end

section
/-!
PROOF. Power samples and the ratio evaluation (O50): the thermal ceilings, the budget ceilings and one step of each half, in R303's order.
-/
namespace Sys2Proof.Machine

theorem Halves.set_get {α : Type} (x : Halves α) (h : Half) : x.set h (x.get h) = x := by cases h <;> rfl

-- Step 1: the thermal ceilings.

/-- T_h after an evaluation's first step (11 R303). -/
def State.thermalCeiling (s : State) (h : Half) : Nat :=
  let x := s.steward
  if s.thermalLimit ≤ x.tj.get h then min 3 (x.ratio.get h + 1)
  else if s.allowedRatio h < x.thermal.get h ∧ x.tj.get h ≤ s.thermalLimit - 500 ∧ x.cool.get h = 9 then x.thermal.get h - 1
  else x.thermal.get h

theorem State.evalThermal_eq (s : State) (h : Half) : ∃ n y, s.evalThermal h = { s with
    steward := { s.steward with thermal := s.steward.thermal.set h (s.thermalCeiling h), cool := s.steward.cool.set h n }, recorder := y } := by
  unfold State.evalThermal State.thermalCeiling
  dsimp only
  split
  case isTrue hot =>
    split <;> exact ⟨0, _, rfl⟩
  case isFalse hot =>
    split
    case isTrue cold =>
      split
      case isTrue h9 =>
        rw [if_pos ⟨cold.1, cold.2, h9⟩]
        exact ⟨0, _, rfl⟩
      case isFalse h9 =>
        rw [if_neg fun hc => h9 hc.2.2, Halves.set_get]
        exact ⟨_, _, rfl⟩
    case isFalse cold =>
      rw [if_neg fun hc => cold ⟨hc.1, hc.2.1⟩, Halves.set_get]
      exact ⟨_, _, rfl⟩

theorem State.evalThermals_eq (s : State) : ∃ c y, (s.evalThermal .west).evalThermal .east = { s with
    steward := { s.steward with thermal := ⟨s.thermalCeiling .west, s.thermalCeiling .east⟩, cool := c }, recorder := y } := by
  obtain ⟨n, y, hw⟩ := s.evalThermal_eq .west
  obtain ⟨m, z, he⟩ := (s.evalThermal .west).evalThermal_eq .east
  rw [he, hw]
  exact ⟨_, z, rfl⟩

-- Steps 2 and 3: the budget ceilings.

theorem Steward.phi_eq (x : Steward) (h : Half) (r : Nat) : (4 - r) * x.volts h r ^ 2 = x.phi h r := by
  rw [Steward.phi, pow_two, mul_assoc]

/-- R303's third step lets P rise by the half's step: P + P_h × (ϕ(next) / ϕ(present) − 1) ≤ 0.95 × POWER_BUDGET. -/
def State.fitsUp (s : State) (h : Half) : Prop :=
  let x := s.steward
  let phi := fun r => (4 - r) * x.volts h r ^ 2
  let r := x.ratio.get h
  100 * (x.p * phi r + x.ph.get h * phi (r - 1)) ≤ 95 * s.budget * phi r + 100 * x.ph.get h * phi r

/-- The test of the third step as the model makes it, in integers. -/
theorem State.fitsUp_iff (s : State) (h : Half) :
    100 * ((s.steward.p : Int) * s.steward.phi h (s.steward.ratio.get h) + (s.steward.ph.get h : Int) * s.steward.phi h (s.steward.ratio.get h - 1) -
      (s.steward.ph.get h : Int) * s.steward.phi h (s.steward.ratio.get h)) ≤ 95 * (s.budget : Int) * s.steward.phi h (s.steward.ratio.get h) ↔ s.fitsUp h := by
  simp only [State.fitsUp, Steward.phi_eq]
  zify
  constructor <;> intro hle <;> linarith

/-- A half that its budget ceiling holds below A_h (11 R303). -/
def State.budgetHeld (s : State) (h : Half) : Prop := s.allowedRatio h < s.steward.budget.get h ∧ s.steward.budget.get h = s.steward.ratio.get h

/-- The half whose budget ceiling step 3 moves, as the conditions of R303. -/
theorem State.raiseHalf_eq (s : State) (h : Half) : s.raiseHalf = some h ↔ s.budgetHeld h ∧ match h with
    | .west => s.budgetHeld .east → s.steward.ratio.e ≤ s.steward.ratio.w
    | .east => s.budgetHeld .west → s.steward.ratio.w < s.steward.ratio.e := by
  have held : ∀ k, (decide (s.allowedRatio k < s.steward.budget.get k) && decide (s.steward.budget.get k = s.steward.ratio.get k)) = true ↔ s.budgetHeld k := fun k => by
    simp [State.budgetHeld]
  have hw := held .west
  have he := held .east
  unfold State.raiseHalf
  dsimp only
  revert hw he
  generalize (decide (s.allowedRatio Half.west < _) && _) = bw, (decide (s.allowedRatio Half.east < _) && _) = be
  intro hw he
  cases h <;> simp only [← hw, ← he]
  all_goals cases bw <;> cases be <;> simp

/-- Step 3 raises a half, as O50 says it: the half it takes, where its step fits. -/
theorem State.raises_iff (s : State) (h : Half) : s.raiseHalf = some h ∧ s.fitsUp h ↔ s.budgetHeld h ∧ (match h with
    | .west => s.budgetHeld .east → s.steward.ratio.e ≤ s.steward.ratio.w
    | .east => s.budgetHeld .west → s.steward.ratio.w < s.steward.ratio.e) ∧ s.fitsUp h := by
  rw [s.raiseHalf_eq, and_assoc]

/-- The half that step 2 slows, as the conditions of R303. -/
theorem Steward.slowHalf_eq (x : Steward) (h : Half) : x.slowHalf = some h ↔ match h with
    | .west => x.ratio.w < 3 ∧ (x.ratio.e < 3 → x.ph.e < x.ph.w ∨ (x.ph.e = x.ph.w ∧ x.ratio.w ≤ x.ratio.e))
    | .east => x.ratio.e < 3 ∧ (x.ratio.w < 3 → x.ph.w < x.ph.e ∨ (x.ph.e = x.ph.w ∧ x.ratio.e < x.ratio.w)) := by
  unfold Steward.slowHalf
  by_cases hw : x.ratio.w < 3 <;> by_cases he : x.ratio.e < 3 <;> simp only [hw, he, decide_true, decide_false, true_and, false_and, true_implies, false_implies]
  case pos =>
    cases h <;> split_ifs <;> simp <;> omega
  all_goals cases h <;> simp

/-- `b` are the budget ceilings `s` has with the one of the half `o` put to `n`. -/
def Halves.Moves (a b : Halves Nat) (o : Option Half) (fits : Half → Prop) (n : Half → Nat) : Prop :=
  ∀ h, (o = some h ∧ fits h → b.get h = n h) ∧ (¬(o = some h ∧ fits h) → b.get h = a.get h)

theorem Halves.moves_none (a : Halves Nat) (fits : Half → Prop) (n : Half → Nat) : a.Moves a none fits n :=
  fun _ => ⟨fun hc => (nomatch hc.1), fun _ => rfl⟩

theorem Halves.moves_some (a : Halves Nat) {h : Half} {fits : Half → Prop} (hf : fits h) (n : Half → Nat) : a.Moves (a.set h (n h)) (some h) fits n := by
  intro k
  by_cases hk : k = h
  · subst hk
    exact ⟨fun _ => a.get_set k _, fun hn => absurd ⟨rfl, hf⟩ hn⟩
  · exact ⟨fun hc => absurd (Option.some.inj hc.1).symm hk, fun _ => a.get_set_of_ne _ hk⟩

theorem Halves.moves_unfit (a : Halves Nat) {h : Half} {fits : Half → Prop} (hf : ¬fits h) (n : Half → Nat) : a.Moves a (some h) fits n :=
  fun _ => ⟨fun hc => absurd (Option.some.inj hc.1 ▸ hc.2) hf, fun _ => rfl⟩

theorem Halves.Moves.ite {a b : Halves Nat} {o : Option Half} {fits : Half → Prop} {n : Half → Nat} (hm : a.Moves b o fits n) (h : Half) {p : Prop} [Decidable p]
    (hp : o = some h ∧ fits h ↔ p) : b.get h = if p then n h else a.get h := by
  split
  case isTrue hc => exact (hm h).1 (hp.2 hc)
  case isFalse hc => exact (hm h).2 fun h => hc (hp.1 h)

/-- The state as step 1 leaves it. -/
def State.withThermal (s : State) (th c : Halves Nat) (y : Recorder) : State := { s with steward := { s.steward with thermal := th, cool := c }, recorder := y }

/-- Steps 2 and 3 move at most one budget ceiling: over the budget the half that step 2 takes, else the one of step 3 where its rise fits. -/
theorem State.evalBudget_withThermal (s : State) (th c : Halves Nat) (y : Recorder) : ∃ b,
    (s.withThermal th c y).evalBudget s.steward = { s with steward := { s.steward with thermal := th, cool := c, budget := b }, recorder := y } ∧
    (s.budget < s.steward.p → s.steward.budget.Moves b s.steward.slowHalf (fun _ => True) fun h => s.steward.ratio.get h + 1) ∧
    (s.steward.p ≤ s.budget → s.steward.budget.Moves b s.raiseHalf s.fitsUp fun h => s.steward.budget.get h - 1) := by
  have hbud : (s.withThermal th c y).budget = s.budget := rfl
  have hraise : (s.withThermal th c y).raiseHalf = s.raiseHalf := rfl
  unfold State.evalBudget
  rw [hbud, hraise]
  split
  case isTrue hover =>
    have hn : ¬s.steward.p ≤ s.budget := Nat.not_le.2 hover
    cases hs : s.steward.slowHalf with
    | none => exact ⟨_, rfl, fun _ => s.steward.budget.moves_none _ _, fun h => absurd h hn⟩
    | some h => exact ⟨_, rfl, fun _ => s.steward.budget.moves_some (fits := fun _ => True) trivial fun h => s.steward.ratio.get h + 1, fun h => absurd h hn⟩
  case isFalse within =>
    cases hr : s.raiseHalf with
    | none => exact ⟨_, rfl, fun h => absurd h within, fun _ => s.steward.budget.moves_none _ _⟩
    | some h =>
      dsimp only
      split
      case isTrue hle => exact ⟨_, rfl, fun h => absurd h within, fun _ => s.steward.budget.moves_some ((s.fitsUp_iff h).1 hle) fun h => s.steward.budget.get h - 1⟩
      case isFalse hgt => exact ⟨_, rfl, fun h => absurd h within, fun _ => s.steward.budget.moves_unfit (fun hf => hgt ((s.fitsUp_iff h).2 hf)) _⟩

/-- The state with other marks of the ceilings that moved last. -/
def State.withMoved (s : State) (m c l : Halves Nat) : State := { s with steward := { s.steward with moved := m, lastCap := c, lastMax := l } }

theorem State.noteMoved_eq (s : State) (x : Steward) (h : Half) : ∃ m c l, s.noteMoved x h = s.withMoved m c l := ⟨_, _, _, rfl⟩

-- The step of a half toward the slowest of its ceilings.

/-- The slowest of a half's ceilings (11 R303). -/
def State.slowest (s : State) (h : Half) : Nat := max (s.allowedRatio h) (max (s.steward.thermal.get h) (s.steward.budget.get h))

/-- The half's ratio, rail and rise in `t` are those one step toward the slowest ceiling leaves (08 R239; 11 R303). -/
structure State.HalfStepped (s : State) (h : Half) (t : State) : Prop where
  ratio : t.steward.ratio.get h = if s.steward.ratio.get h < s.slowest h then s.steward.ratio.get h + 1 else s.steward.ratio.get h
  falls : s.steward.ratio.get h < s.slowest h → t.steward.rising.get h = none ∧ t.steward.vdd.get h = railMv (s.steward.volts h (s.steward.ratio.get h + 1)) ∧
    ∃ which, ratioRecord h (s.steward.ratio.get h) (s.steward.ratio.get h + 1) which ∈ t.recorder.inbox
  rises : s.slowest h < s.steward.ratio.get h → s.steward.rising.get h = none → (∃ k, t.steward.rising.get h = some (s.steward.ratio.get h - 1, k)) ∧
    t.steward.vdd.get h = railMv (s.steward.volts h (s.steward.ratio.get h - 1))

/-- The state with other ratios, rails and rises of its halves, and records. -/
def State.withSteps (s : State) (r v a : Halves Nat) (i : Halves (Option (Nat × Nat))) (y : Recorder) : State :=
  { s with steward := { s.steward with ratio := r, vdd := v, avsTries := a, rising := i }, recorder := y }

/-- What the step of one half leaves: all but the halves' ratios, rails and rises, the records made so far, and the other half's values. -/
structure State.StepFrame (s : State) (h : Half) (t : State) : Prop where
  eq : ∃ r v a i y, t = s.withSteps r v a i y
  other : ∀ g, g ≠ h → t.steward.ratio.get g = s.steward.ratio.get g ∧ t.steward.vdd.get g = s.steward.vdd.get g ∧ t.steward.rising.get g = s.steward.rising.get g
  inbox : ∀ n ∈ s.recorder.inbox, n ∈ t.recorder.inbox

theorem State.stepRatio_frame (s : State) (h : Half) : s.StepFrame h (s.stepRatio h) := by
  unfold State.stepRatio
  dsimp only
  split
  · exact ⟨⟨_, _, _, _, _, rfl⟩, fun g hg => ⟨Halves.get_set_of_ne _ _ hg, Halves.get_set_of_ne _ _ hg, Halves.get_set_of_ne _ _ hg⟩, fun n hn => List.mem_append_left _ hn⟩
  · split
    · split
      · exact ⟨⟨_, _, _, _, _, rfl⟩, fun _ _ => ⟨rfl, rfl, rfl⟩, fun _ hn => hn⟩
      · exact ⟨⟨_, _, _, _, _, rfl⟩, fun g hg => ⟨rfl, Halves.get_set_of_ne _ _ hg, Halves.get_set_of_ne _ _ hg⟩, fun _ hn => hn⟩
    · split
      · exact ⟨⟨_, _, _, _, _, rfl⟩, fun g hg => ⟨rfl, Halves.get_set_of_ne _ _ hg, Halves.get_set_of_ne _ _ hg⟩, fun _ hn => hn⟩
      · exact ⟨⟨_, _, _, _, _, rfl⟩, fun _ _ => ⟨rfl, rfl, rfl⟩, fun _ hn => hn⟩

theorem State.stepRatio_stepped (s : State) (h : Half) : s.HalfStepped h (s.stepRatio h) := by
  unfold State.stepRatio
  dsimp only
  split
  case isTrue hlt =>
    exact ⟨(Halves.get_set ..).trans (if_pos hlt).symm, fun _ => ⟨Halves.get_set .., Halves.get_set .., _, List.mem_append_right _ (List.mem_singleton_self _)⟩,
      fun hgt => absurd hgt (Nat.lt_asymm hlt)⟩
  case isFalse hge =>
    split
    case isTrue hgt =>
      split
      case isTrue hr => exact ⟨(if_neg hge).symm, fun hlt => absurd hlt hge, fun _ hn => by simp [hn] at hr⟩
      case isFalse => exact ⟨(if_neg hge).symm, fun hlt => absurd hlt hge, fun _ _ => ⟨⟨_, Halves.get_set ..⟩, Halves.get_set ..⟩⟩
    case isFalse hle =>
      split <;> exact ⟨(if_neg hge).symm, fun hlt => absurd hlt hge, fun hgt => absurd hgt hle⟩

/-- A later step of the other half keeps what the step of a half left. -/
theorem State.HalfStepped.other {s t u : State} {h g : Half} (hs : s.HalfStepped h t) (hg : h ≠ g) (hf : t.StepFrame g u) : s.HalfStepped h u := by
  obtain ⟨hratio, hvdd, hrising⟩ := hf.other h hg
  refine ⟨hratio.trans hs.ratio, fun hlt => ?_, fun hgt hr => ?_⟩
  · obtain ⟨hr, hv, which, hn⟩ := hs.falls hlt
    exact ⟨hrising.trans hr, hvdd.trans hv, which, hf.inbox _ hn⟩
  · obtain ⟨⟨k, hk⟩, hv⟩ := hs.rises hgt hr
    exact ⟨⟨k, hrising.trans hk⟩, hvdd.trans hv⟩

/-- The step of a half is the same from the state that the other half's step left. -/
theorem State.HalfStepped.of_before {s t u : State} {h g : Half} (hs : t.HalfStepped h u) (hg : h ≠ g) (hf : s.StepFrame g t) : s.HalfStepped h u := by
  obtain ⟨hratio, -, hrising⟩ := hf.other h hg
  obtain ⟨r, v, a, i, y, heq⟩ := hf.eq
  have hslow : t.slowest h = s.slowest h := by rw [heq]; rfl
  have hvolts : t.steward.volts h = s.steward.volts h := by rw [heq]; rfl
  obtain ⟨hr, hfalls, hrises⟩ := hs
  rw [hratio, hslow] at hr hfalls hrises
  rw [hvolts] at hfalls hrises
  exact ⟨hr, hfalls, fun hgt hn => hrises hgt (hrising.trans hn)⟩

/-- Both halves step: each as it does alone, and the frame of both. -/
theorem State.stepRatios (s : State) : (∃ r v a i y, (s.stepRatio .west).stepRatio .east = s.withSteps r v a i y) ∧
    ∀ h, s.HalfStepped h ((s.stepRatio .west).stepRatio .east) := by
  have hw := s.stepRatio_frame .west
  have he := (s.stepRatio .west).stepRatio_frame .east
  constructor
  · obtain ⟨r, v, a, i, y, heq⟩ := he.eq
    obtain ⟨_, _, _, _, _, hweq⟩ := hw.eq
    exact ⟨r, v, a, i, y, by rw [heq, hweq]; rfl⟩
  · intro h
    cases h with
    | west => exact (s.stepRatio_stepped .west).other (by decide) he
    | east => exact ((s.stepRatio .west).stepRatio_stepped .east).of_before (by decide) hw

/-- The state as R303's three steps leave it. -/
def State.withCeilings (s : State) (th c b m lc lm : Halves Nat) (y : Recorder) : State :=
  { s with steward := { s.steward with thermal := th, cool := c, budget := b, moved := m, lastCap := lc, lastMax := lm }, recorder := y }

/-- The evaluation up to its last step: the ceilings of R303's three steps. -/
theorem State.evalCeilings (s : State) : ∃ c b m lc lm y,
    ((((s.evalThermal .west).evalThermal .east).evalBudget s.steward).noteMoved s.steward .west).noteMoved s.steward .east =
      s.withCeilings ⟨s.thermalCeiling .west, s.thermalCeiling .east⟩ c b m lc lm y ∧
    (s.budget < s.steward.p → s.steward.budget.Moves b s.steward.slowHalf (fun _ => True) fun h => s.steward.ratio.get h + 1) ∧
    (s.steward.p ≤ s.budget → s.steward.budget.Moves b s.raiseHalf s.fitsUp fun h => s.steward.budget.get h - 1) := by
  obtain ⟨c, y, ht⟩ := s.evalThermals_eq
  obtain ⟨b, hb, hover, hwithin⟩ := s.evalBudget_withThermal ⟨s.thermalCeiling .west, s.thermalCeiling .east⟩ c y
  rw [ht, show ({ s with steward := _, recorder := y } : State) = s.withThermal ⟨s.thermalCeiling .west, s.thermalCeiling .east⟩ c y from rfl, hb]
  obtain ⟨_, _, _, hw⟩ := State.noteMoved_eq { s with
    steward := { s.steward with thermal := ⟨s.thermalCeiling .west, s.thermalCeiling .east⟩, cool := c, budget := b }, recorder := y } s.steward .west
  rw [hw]
  obtain ⟨m, lc, lm, he⟩ := State.noteMoved_eq (State.withMoved _ _ _ _) s.steward .east
  exact ⟨c, b, m, lc, lm, y, he, hover, hwithin⟩

/-- What the last step of an evaluation leaves of a half, as O50 says it. -/
theorem State.HalfStepped.outcome {s t : State} {h : Half} (hs : s.HalfStepped h t) : let now := s.steward.ratio.get h
    t.steward.ratio.get h = (if now < s.slowest h then now + 1 else now) ∧
    (now < s.slowest h → t.steward.rising.get h = none ∧ t.steward.vdd.get h = railMv (s.steward.volts h (now + 1)) ∧
      ∃ n ∈ t.recorder.inbox, n.type = 0x0601 ∧ n.payload.take 3 = le 1 (halfNo h) ++ le 1 now ++ le 1 (now + 1)) ∧
    (s.slowest h < now → s.steward.rising.get h = none →
      (∃ k, t.steward.rising.get h = some (now - 1, k)) ∧ t.steward.vdd.get h = railMv (s.steward.volts h (now - 1))) := by
  refine ⟨hs.ratio, fun hlt => ?_, hs.rises⟩
  obtain ⟨hr, hv, which, hn⟩ := hs.falls hlt
  exact ⟨hr, hv, _, hn, rfl, rfl⟩

/-- RATIO_EVALUATION: the ceilings, the steps of both halves and the marks of the held hanks (11 R299, R303). -/
theorem execRatioEvaluation_eq (s : State) (hready : s.board.phase = .ready) : ∃ c b m lc lm y r v a i z,
    let u := s.withCeilings ⟨s.thermalCeiling .west, s.thermalCeiling .east⟩ c b m lc lm y
    exec .ratioEvaluation s = .next (u.withSteps r v a i z).markHeld ∧ (∀ h, u.HalfStepped h (u.withSteps r v a i z).markHeld) ∧
    (s.budget < s.steward.p → s.steward.budget.Moves b s.steward.slowHalf (fun _ => True) fun h => s.steward.ratio.get h + 1) ∧
    (s.steward.p ≤ s.budget → s.steward.budget.Moves b s.raiseHalf s.fitsUp fun h => s.steward.budget.get h - 1) := by
  obtain ⟨c, b, m, lc, lm, y, hu, hover, hwithin⟩ := s.evalCeilings
  obtain ⟨⟨r, v, a, i, z, ht⟩, hs⟩ := (s.withCeilings ⟨s.thermalCeiling .west, s.thermalCeiling .east⟩ c b m lc lm y).stepRatios
  refine ⟨c, b, m, lc, lm, y, r, v, a, i, z, ?_, ?_, hover, hwithin⟩
  · show execRatioEvaluation s = _
    unfold execRatioEvaluation
    rw [if_neg (not_not.2 hready)]
    dsimp only
    rw [hu, ht]
  · intro h
    rw [ht] at hs
    obtain ⟨hr, hf, hr'⟩ := hs h
    exact ⟨hr, hf, hr'⟩

/-- RATIO_STEP_UP of a rise under way (08 R239). -/
theorem execRatioStepUp_rising {s : State} {h : Half} {r w : Nat} (hready : s.board.phase = .ready) (hrising : s.steward.rising.get h = some (r, w)) :
    exec (.ratioStepUp h) s = .next ((s.modSteward fun x => { x with ratio := x.ratio.set h r, rising := x.rising.set h none }).emit
      (ratioRecord h (s.steward.ratio.get h) r w)) := by
  show execRatioStepUp h s = _
  unfold execRatioStepUp
  rw [hrising]
  exact if_neg (not_not.2 hready)

/-- Settles O50: the evaluation is its ceilings (`State.evalCeilings`), then a step of each half (`State.stepRatios`). -/
theorem samplesSetTheRatios : Obligations.SamplesSetTheRatios := by
  unfold Obligations.SamplesSetTheRatios
  refine ⟨fun s p pw pe a b hph => ?_, fun s hready => ?_, fun s h r w hready hrising => ?_⟩
  · constructor <;> exact if_neg hph
  · obtain ⟨c, b, m, lc, lm, y, r, v, a, i, z, hexec, hs, hover, hwithin⟩ := execRatioEvaluation_eq s hready
    refine ⟨_, hexec, rfl, rfl, rfl, rfl, fun hp => ?_, fun hp => ?_, fun h => ⟨?_, (hs h).outcome⟩⟩
    · have hmoves := hwithin hp
      exact ⟨hmoves.ite .west (s.raises_iff .west), hmoves.ite .east (s.raises_iff .east)⟩
    · have hmoves := hover hp
      exact ⟨hmoves.ite .west (Iff.trans (and_iff_left trivial) (s.steward.slowHalf_eq .west)), hmoves.ite .east (Iff.trans (and_iff_left trivial) (s.steward.slowHalf_eq .east))⟩
    · cases h <;> rfl
  · exact ⟨_, ratioRecord h (s.steward.ratio.get h) r w, execRatioStepUp_rising hready hrising, rfl, rfl, rfl, rfl⟩

end Sys2Proof.Machine
end

section
/-!
PROOF. A margin measurement becomes the plan (O51): the write that asks for it, what sparing and dropped halves leave, and the largest V_dom of each ratio.
-/
namespace Sys2Proof.Machine

-- The write of MARGIN_REPLAN.

theorem rowOf_marginReplan : rowOf 0x6100 1 = some (one 0x6100 0x01 .u8 .wo 0 1 1) := by decide +kernel

/-- A write of 1 to MARGIN_REPLAN with no replan in progress: noted, and the measurement asked for (11 R309). -/
theorem State.Writable.marginReplan {s : State} {p : Path} (h : s.Writable p) (hidle : s.steward.replan = 0) : s.pathWrite p 0x6100 1 1 true =
    (State.startReplan ((s.modDict fun x => x.noteChange 0x6100 1 (pathCode p) s.freeVal 1 false).useFree)).reply 0 := by
  have hrange : s.inRange (one 0x6100 0x01 .u8 .wo 0 1 1) 1 1 = true := rfl
  have hallowed : s.stateAllows 0x6100 1 1 = true := decide_eq_true hidle
  refine h.pathWrite_of_put ?_
  unfold State.putScalar
  simp only [h.halted, h.rowNow, rowOf_marginReplan, hrange, hallowed]
  rfl

theorem State.startReplan_frame (s : State) (f : Dictionary → Dictionary) (status : Nat) : let t := (State.startReplan (s.modDict f).useFree).reply status
    t = { s with steward := { s.steward with replan := 1 }, dict := t.dict, out := t.out } ∧ t.out.reply = BitVec.ofNat 64 status := ⟨rfl, rfl⟩

-- What sparing leaves (11 R307).

/-- What no change of the mapping touches. -/
def State.beside (s : State) : Steward × Vector Distaff 8 × Vector Ring 64 × Mem × Mem × Mem :=
  (s.steward, s.distaffs, s.rings, s.mem.space 0, s.mem.space 1, s.mem.space 2)

theorem State.beside_zeroStore (s : State) {sp : Nat} (base len : Nat) (h2 : 2 < sp) (h5 : sp ≤ 5) : (s.zeroStore sp base len).beside = s.beside := by
  have hspace : ∀ k < 3, (s.zeroStore sp base len).mem.space k = s.mem.space k := fun k hk => s.space_zeroStore sp base len k h5 (by omega) (by omega)
  unfold State.beside
  rw [hspace 0 (by decide), hspace 1 (by decide), hspace 2 (by decide)]
  rfl

theorem State.beside_modSpindle (s : State) (u : Nat) (f : Spindle → Spindle) : (s.modSpindle u f).beside = s.beside := rfl

theorem State.beside_remapped (s : State) (x : Units) (cause : Nat) : (s.remapped x cause).beside = s.beside := rfl

theorem State.beside_clearSpindle (s : State) (u : Nat) : (s.clearSpindle u).beside = s.beside := by
  rw [State.clearSpindle_eq, State.beside_modSpindle, State.beside_zeroStore _ _ _ (by decide) (by decide)]

theorem State.clearBobbin_eq (s : State) (b : Nat) : s.clearBobbin b = s.zeroStore 4 (b * 2 ^ 19) (2 ^ 19) := rfl

theorem State.beside_clearMoved (s : State) (old : Units) : (s.clearMoved old).beside = s.beside := by
  unfold State.clearMoved
  refine (foldl_keeps State.beside _ (fun t b => ?_) _ _).trans (foldl_keeps State.beside _ (fun t l => ?_) _ _)
  · split
    · rfl
    · rw [State.clearBobbin_eq, State.beside_zeroStore _ _ _ (by decide) (by decide)]
  · split
    · rfl
    · exact t.beside_clearSpindle l

theorem State.beside_marginSparing (s : State) (vdom : List (List Nat)) : (s.marginSparing vdom).beside = s.beside := by
  unfold State.marginSparing
  dsimp only
  split
  · rfl
  · rw [State.beside_clearMoved, State.beside_remapped]

-- What the halves that go out of service leave (11 R306).

/-- The state with other halves out of service, other units and records. -/
def State.withDropped (s : State) (o : Halves Bool) (u : Units) (y : Recorder) : State := { s with steward := { s.steward with out := o }, units := u, recorder := y }

theorem State.dropUnplanned_eq (s : State) : ∃ o u y, s.dropUnplanned = s.withDropped o u y ∧
    u.classes = s.units.classes ∧ u.spared = s.units.spared ∧ u.bobbinRetired = s.units.bobbinRetired := by
  unfold State.dropUnplanned
  dsimp only
  split
  · exact ⟨_, _, _, rfl, rfl, rfl, rfl⟩
  · have hdrop : ∀ (bad : Half → Bool) (x : Units), let y := [Half.west, Half.east].foldl (fun x h => if bad h then x.dropHalf h else x) x
        y.classes = x.classes ∧ y.spared = x.spared ∧ y.bobbinRetired = x.bobbinRetired := fun bad x => by
      simp only [List.foldl_cons, List.foldl_nil]
      cases bad .west <;> cases bad .east <;> exact ⟨rfl, rfl, rfl⟩
    obtain ⟨hc, hs, hb⟩ := hdrop (fun h => s.steward.maxRatio h = 4 && s.units.fold.get h ≠ 0) s.units
    exact ⟨_, _, _, rfl, hc, hs, hb⟩

-- The rails of the plan.

theorem State.applyPlan_eq (s : State) (h : Half) : ∃ a i y, s.applyPlan h = s.withSteps (s.steward.ratio.set h (max (s.steward.ratio.get h) (min 3 (s.steward.maxRatio h))))
    (s.steward.vdd.set h (railMv (s.steward.volts h (max (s.steward.ratio.get h) (min 3 (s.steward.maxRatio h)))))) a i y := by
  unfold State.applyPlan
  dsimp only
  split <;> exact ⟨_, _, _, rfl⟩

/-- Both halves take their plan: the ratio that the plan allows, and the rail of that ratio. -/
theorem State.applyPlans (s : State) : ∃ r v a i y, (s.applyPlan .west).applyPlan .east = s.withSteps r v a i y ∧
    ∀ h, r.get h = max (s.steward.ratio.get h) (min 3 (s.steward.maxRatio h)) ∧ v.get h = railMv (s.steward.volts h (r.get h)) := by
  obtain ⟨a, i, y, hw⟩ := s.applyPlan_eq .west
  rw [hw]
  obtain ⟨b, j, z, he⟩ := State.applyPlan_eq (s.withSteps _ _ a i y) .east
  refine ⟨_, _, b, j, z, he, fun h => ?_⟩
  cases h <;> exact ⟨rfl, rfl⟩

-- The largest V_dom.

theorem foldl_max_isMax {l : List Nat} (hl : l ≠ []) : l.foldl max 0 ∈ l ∧ ∀ v ∈ l, v ≤ l.foldl max 0 := by
  cases l with
  | nil => exact absurd rfl hl
  | cons a l =>
    rw [List.foldl_cons, Nat.zero_max]
    exact List.max?_eq_some_iff.1 List.max?_cons'

/-- The domains in service on a half's rail (11 R305, R306), by their rows in a measurement. -/
def planDomains (x : Units) (ds : Vector Distaff 8) (h : Half) : List Nat :=
  (spindleUnits h).filter x.serves ++
    ((bobbinUnits h).filter fun p => !x.bobbinRetired.contains p && !x.spared.contains (true, p)).map (136 + ·) ++
    ((List.range 8).filter fun d => d / 4 = halfNo h && (vget ds { inService := false, run := none } d).inService).map (170 + ·) ++
    (List.range 4).map (242 + 4 * halfNo h + ·) ++ (List.range 16).map (260 + 16 * halfNo h + ·)

/-- V_dom(r) of a domain; an LPDDR5X controller's one value applies at every ratio (11 R306). -/
def vdomAt (vdom : List (List Nat)) (r d : Nat) : Nat := (vdom.getD d []).getD (if 242 ≤ d ∧ d < 250 then 0 else r) 0

theorem vdomAt_of_not_lp {d : Nat} (h : ¬(242 ≤ d ∧ d < 250)) (vdom : List (List Nat)) (r : Nat) : vdomAt vdom r d = (vdom.getD d []).getD r 0 := by
  rw [vdomAt, if_neg h]

theorem vdomAt_of_lp {d : Nat} (h : 242 ≤ d ∧ d < 250) (vdom : List (List Nat)) (r : Nat) : vdomAt vdom r d = (vdom.getD d []).getD 0 0 := by
  rw [vdomAt, if_pos h]

theorem halfNo_le (h : Half) : halfNo h ≤ 1 := by cases h <;> decide

theorem lt_of_mem_spindleUnits {h : Half} {p : Nat} (hp : p ∈ spindleUnits h) : p < 136 := by
  cases h <;> simp [spindleUnits, groupsOf] at hp <;> omega

theorem lt_of_mem_bobbinUnits {h : Half} {p : Nat} (hp : p ∈ bobbinUnits h) : p < 34 := by
  cases h <;> simp [bobbinUnits] at hp <;> omega

/-- The Distaffs of a half in service, counted in their half. -/
theorem filter_distaffs (h : Half) (f : Nat → Bool) :
    (List.range 8).filter (fun d => d / 4 = halfNo h && f d) = ((List.range 4).filter fun d => f (4 * halfNo h + d)).map (4 * halfNo h + ·) := by
  have hrange : List.range 8 = List.range 4 ++ (List.range 4).map (4 + ·) := List.range_add (n := 4) (m := 4)
  have hdiv : ∀ d ∈ List.range 4, d / 4 = 0 ∧ (4 + d) / 4 = 1 := by decide
  have hlow : (List.range 4).filter (fun d => d / 4 = halfNo h && f d) = (List.range 4).filter fun d => 0 = halfNo h && f d :=
    List.filter_congr fun d hd => by rw [(hdiv d hd).1]
  have hhigh : (List.range 4).filter ((fun d => d / 4 = halfNo h && f d) ∘ (4 + ·)) = (List.range 4).filter fun d => 1 = halfNo h && f (4 + d) :=
    List.filter_congr fun d hd => by rw [Function.comp_apply, (hdiv d hd).2]
  rw [hrange, List.filter_append, List.filter_map, hlow, hhigh]
  cases h <;> simp [halfNo]

/-- V_h(r) is the largest V_dom(r) of the half's domains, rounded up to 5 mV, plus 25 mV (11 R306). -/
theorem State.planVolts_eq (s : State) (vdom : List (List Nat)) (h : Half) (r : Nat) :
    s.planVolts vdom h r = (((planDomains s.units s.distaffs h).map (vdomAt vdom r)).foldl max 0 + 4) / 5 * 5 + 25 := by
  have hhalf := halfNo_le h
  have hdomains : (planDomains s.units s.distaffs h).map (vdomAt vdom r) =
      ((spindleUnits h).filter s.units.serves).map (fun p => (vdom.getD p []).getD r 0) ++
      ((bobbinUnits h).filter fun p => !s.units.bobbinRetired.contains p && !s.units.spared.contains (true, p)).map (fun p => (vdom.getD (136 + p) []).getD r 0) ++
      ((List.range 4).filter fun d => (vget s.distaffs { inService := false, run := none } (4 * halfNo h + d)).inService).map
        (fun d => (vdom.getD (170 + 4 * halfNo h + d) []).getD r 0) ++
      (List.range 4).map (fun c => (vdom.getD (242 + 4 * halfNo h + c) []).getD 0 0) ++ (List.range 16).map fun k => (vdom.getD (260 + 16 * halfNo h + k) []).getD r 0 := by
    unfold planDomains
    rw [filter_distaffs h]
    simp only [List.map_append, List.map_map]
    congr 1
    congr 1
    congr 1
    congr 1
    · exact List.map_congr_left fun p hp => vdomAt_of_not_lp (by have := lt_of_mem_spindleUnits (List.mem_of_mem_filter hp); omega) _ _
    · exact List.map_congr_left fun p hp => vdomAt_of_not_lp (by have := lt_of_mem_bobbinUnits (List.mem_of_mem_filter hp); dsimp only; omega) _ _
    · refine List.map_congr_left fun d hd => ?_
      have hd4 := List.mem_range.1 (List.mem_of_mem_filter hd)
      rw [Function.comp_apply, Function.comp_apply, ← add_assoc]
      exact vdomAt_of_not_lp (by omega) _ _
    · refine List.map_congr_left fun c hc => vdomAt_of_lp ?_ _ _
      have hc4 := List.mem_range.1 hc
      dsimp only
      omega
    · exact List.map_congr_left fun k _ => vdomAt_of_not_lp (by dsimp only; omega) _ _
  rw [hdomains]
  rfl

theorem planDomains_ne_nil (x : Units) (ds : Vector Distaff 8) (h : Half) : planDomains x ds h ≠ [] := by
  simp [planDomains]

theorem planDomains_congr {x y : Units} (hc : x.classes = y.classes) (hs : x.spared = y.spared) (hb : x.bobbinRetired = y.bobbinRetired) (ds : Vector Distaff 8) (h : Half) :
    planDomains x ds h = planDomains y ds h := by
  have hserves : x.serves = y.serves := funext fun p => by rw [Units.serves, Units.serves, Units.cls, Units.cls, hc, hs]
  rw [planDomains, planDomains, hserves, hs, hb]

/-- The plan of a measurement (11 R306). -/
def State.planOf (s : State) (vdom : List (List Nat)) : Halves (List Nat) := ⟨(List.range 4).map (s.planVolts vdom .west), (List.range 4).map (s.planVolts vdom .east)⟩

theorem State.planOf_get (s : State) (vdom : List (List Nat)) (h : Half) : (s.planOf vdom).get h = (List.range 4).map (s.planVolts vdom h) := by cases h <;> rfl

theorem State.planOf_getD (s : State) (vdom : List (List Nat)) (h : Half) {r : Nat} (hr : r < 4) : ((s.planOf vdom).get h).getD r 0 = s.planVolts vdom h r := by
  rw [State.planOf_get]
  simp [hr]

/-- A voltage of the plan is made of the largest V_dom of the half's domains, whatever the change of mapping left beside their service. -/
theorem State.planOf_isMax (s : State) (vdom : List (List Nat)) (h : Half) {r : Nat} (hr : r < 4) :
    ∃ m ∈ (planDomains s.units s.distaffs h).map (vdomAt vdom r), (∀ v ∈ (planDomains s.units s.distaffs h).map (vdomAt vdom r), v ≤ m) ∧
      ((s.planOf vdom).get h).getD r 0 = (m + 4) / 5 * 5 + 25 := by
  obtain ⟨hmem, hmax⟩ := foldl_max_isMax (mt List.map_eq_nil_iff.1 (planDomains_ne_nil s.units s.distaffs h) : (planDomains s.units s.distaffs h).map (vdomAt vdom r) ≠ [])
  exact ⟨_, hmem, hmax, (s.planOf_getD vdom h hr).trans (s.planVolts_eq vdom h r)⟩

/-- The plan made of a state that sparing left, and the part's copy of it (11 R305 to R308). -/
def State.withPlan (s : State) (vdom : List (List Nat)) (delta : Int) : State :=
  { s with steward := { s.steward with plan := s.planOf vdom, planCount := (s.steward.planCount + 1) % 2 ^ 32, planDelta := delta, planDetail := vdom },
           keep := { s.keep with plan := some (s.planOf vdom, s.units.spared) } }

theorem State.makePlan_eq (s : State) (vdom : List (List Nat)) : ∃ d, s.makePlan vdom = ((s.marginSparing vdom).withPlan vdom d).dropUnplanned := by
  unfold State.makePlan State.withPlan State.planOf
  dsimp only
  generalize s.marginSparing vdom = m
  exact ⟨_, rfl⟩

/-- `t` is the state that a measurement leaves of the state `m` that sparing left (11 R305 to R309). -/
structure State.Replanned (m : State) (vdom : List (List Nat)) (t : State) : Prop where
  replan : t.steward.replan = 0
  count : t.steward.planCount = (m.steward.planCount + 1) % 2 ^ 32
  detail : t.steward.planDetail = vdom
  plan : t.steward.plan = m.planOf vdom
  keep : t.keep.plan = some (m.planOf vdom, m.units.spared)
  classes : t.units.classes = m.units.classes
  spared : t.units.spared = m.units.spared
  retired : t.units.bobbinRetired = m.units.bobbinRetired
  record : ∃ n ∈ t.recorder.inbox, n.type = 0x0603
  ratio : ∀ h, t.steward.ratio.get h = max (m.steward.ratio.get h) (min 3 (t.steward.maxRatio h))
  rail : ∀ h, t.steward.vdd.get h = railMv (t.steward.volts h (t.steward.ratio.get h))
  distaffs : t.distaffs = m.distaffs
  rings : t.rings = m.rings
  mem : t.mem = m.mem

/-- The end of a replan, after the rails: MARGIN_PLAN is written and picking resumes (11 R309). -/
def State.endReplan (s : State) (p : Bytes) : State := (s.emit (devNotice 0x0603 notice 293 p)).modSteward fun x => { x with replan := 0 }

/-- A plan that has taken effect, whatever halves it put out of service. -/
theorem State.replanned_of_plan {b m : State} {vdom : List (List Nat)} (hcount : b.steward.planCount = (m.steward.planCount + 1) % 2 ^ 32) (hdetail : b.steward.planDetail = vdom)
    (hplan : b.steward.plan = m.planOf vdom) (hratio : b.steward.ratio = m.steward.ratio) (hkeep : b.keep.plan = some (m.planOf vdom, m.units.spared))
    (hclasses : b.units.classes = m.units.classes) (hspared : b.units.spared = m.units.spared) (hretired : b.units.bobbinRetired = m.units.bobbinRetired)
    (hdistaffs : b.distaffs = m.distaffs) (hrings : b.rings = m.rings) (hmem : b.mem = m.mem) (p : Bytes) :
    m.Replanned vdom (((b.applyPlan .west).applyPlan .east).endReplan p) := by
  obtain ⟨r, v, a, i, z, happly, hrails⟩ := b.applyPlans
  rw [happly]
  exact ⟨rfl, hcount, hdetail, hplan, hkeep, hclasses, hspared, hretired, ⟨_, List.mem_append_right _ (List.mem_singleton_self _), rfl⟩,
    fun h => hratio ▸ (hrails h).1, fun h => (hrails h).2, hdistaffs, hrings, hmem⟩

theorem State.replanned (m : State) (vdom : List (List Nat)) (d : Int) (p : Bytes) :
    m.Replanned vdom ((((m.withPlan vdom d).dropUnplanned.applyPlan .west).applyPlan .east).endReplan p) := by
  obtain ⟨o, u, y, hdrop, hclasses, hspared, hretired⟩ := (m.withPlan vdom d).dropUnplanned_eq
  rw [hdrop]
  exact State.replanned_of_plan (b := (m.withPlan vdom d).withDropped o u y) rfl rfl rfl rfl rfl hclasses hspared hretired rfl rfl rfl p

/-- REPLAN_MEASURE of a device with no hank makes the plan of the state that sparing left. -/
theorem execReplanMeasure_spec {s : State} {vdom : List (List Nat)} (hready : s.board.phase = .ready) (hok : planOk vdom = true) (hreplan : s.steward.replan ≠ 0)
    (hhank : s.noHank = true) : ∃ t, exec (.replanMeasure vdom) s = .next t ∧ (s.marginSparing vdom).Replanned vdom t := by
  obtain ⟨d, hplan⟩ := s.makePlan_eq vdom
  have hexec : ∃ p, exec (.replanMeasure vdom) s = .next ((((s.makePlan vdom).applyPlan .west).applyPlan .east).endReplan p) := by
    refine ⟨planPayload s.steward (((s.makePlan vdom).applyPlan .west).applyPlan .east).steward (((s.makePlan vdom).applyPlan .west).applyPlan .east).steward.planDelta, ?_⟩
    show execReplanMeasure vdom s = _
    unfold execReplanMeasure
    rw [if_neg (by rw [hok]; decide), if_neg (by simp [hready, hreplan, hhank])]
    rfl
  obtain ⟨p, hexec⟩ := hexec
  rw [hplan] at hexec
  exact ⟨_, hexec, State.replanned _ vdom d p⟩

/-- Settles O51: the domains in service are those sparing left (`State.planOf_isMax`), and no half dropped for want of a ratio changes them. -/
theorem replanMakesThePlan : Obligations.ReplanMakesThePlan := by
  unfold Obligations.ReplanMakesThePlan
  refine ⟨fun s p hready hstart hidle hreplan => ?_, fun s vdom hready hok hreplan hhank => ?_⟩
  · have hw : s.Writable p := ⟨hready, hstart, hidle⟩
    exact ⟨_, congrArg Host.Outcome.next (hw.marginReplan hreplan), s.startReplan_frame _ 0⟩
  · obtain ⟨t, hexec, ht⟩ := execReplanMeasure_spec hready hok hreplan hhank
    have hbeside := s.beside_marginSparing vdom
    generalize s.marginSparing vdom = m at hbeside ht
    simp only [State.beside, Prod.mk.injEq] at hbeside
    obtain ⟨hsteward, hdistaffs, hrings, hsram, hlp, hhost⟩ := hbeside
    have hdomains : ∀ h, planDomains t.units t.distaffs h = planDomains m.units m.distaffs h := fun h => by
      rw [ht.distaffs]
      exact planDomains_congr ht.classes ht.spared ht.retired _ h
    refine ⟨t, hexec, ht.replan, by rw [ht.count, hsteward], ht.detail, by rw [ht.keep, ht.plan, ht.spared], ht.record, fun h => ⟨?_, ht.rail h, ?_, fun r hr => ?_⟩,
      ht.distaffs.trans hdistaffs, ht.rings.trans hrings, ht.mem ▸ hsram, ht.mem ▸ hlp, ht.mem ▸ hhost⟩
    · rw [ht.plan, State.planOf_get, List.length_map, List.length_range]
    · rw [ht.ratio h, hsteward]
    · have hmax := m.planOf_isMax vdom h hr
      rw [← hdomains h, ← ht.plan] at hmax
      exact hmax

end Sys2Proof.Machine
end
